-- ==== Sys2Proof/Word.lean ====
section
/-! DEFINITION. The words the block is made of: bytes, 32-bit register words, 64-bit words, the 48-bit chip time, and
the identifiers of R10 as bit vectors. -/

namespace Sys2Proof

/-- A byte of memory or of a frame. -/
abbrev Byte := BitVec 8

/-- A 32-bit register or sequencer word. -/
abbrev Word := BitVec 32

/-- A 64-bit word: an event, a flit, an argument of a service. -/
abbrev DWord := BitVec 64

/-- Chip time (R23): 48 bits of TCLK ticks. -/
abbrev Time := BitVec 48

/-- A cluster number (R10): x = [2:0], y = [5:3]. -/
abbrev Cluster := BitVec 6

/-- A logical core (R10): cluster [9:4], core [3:0]. -/
abbrev CoreId := BitVec 10

/-- A physical core (R10): cluster [10:5], slot [4:0]. -/
abbrev PCore := BitVec 11

/-- A cell-link port. -/
abbrev Port := BitVec 7

/-- A timer or capture channel. -/
abbrev Chan := BitVec 8

/-- A capture pair. -/
abbrev Pair := BitVec 6

/-- A Feryo link. -/
abbrev LinkId := BitVec 2

end Sys2Proof
end

