-- ==== Sys2Proof/Machine/Operands.lean ====
section
/-! DEFINITION. Operand types of the commands: what a row of the table needs besides a unit's number, so that the one
inductive of Syntax.lean can name it. -/

namespace Sys2Proof.Machine

/-- Bytes 1 to 31 of a cell frame (R39): byte n in bits [8(n-1)+7 : 8(n-1)]. SOF is a code group and carries no byte. -/
abbrev CellFrame := BitVec 248

/-- The wiring conditions of R71 that are found on the line itself. -/
inductive Wiring where
  /-- No transitions for LOS_WIN (code 1). -/
  | los
  /-- Differential level within ±50 mV for SHORT_WIN (code 2). -/
  | short
  /-- Common mode outside the receiver range (code 3). -/
  | commonMode
  /-- 64 idle pairs received as K28.5, D10.2 (code 4). -/
  | reversed
  deriving DecidableEq, Repr

/-- The line conditions of R88 that a capture pair classifies. -/
inductive LineFault where
  | cmLow
  | cmHigh
  | open_
  | short
  deriving DecidableEq, Repr

/-- What a capture pair shows during the polarity check (R90). -/
inductive PolarityOutcome where
  | steadyIdle
  | steadyOpposite
  | edge
  deriving DecidableEq, Repr

/-- Who waits for a reply of firmware: a mailbox slot (R289), an entry of a submission ring with its TAG (R297), or
nobody, for the services firmware runs of its own accord (autostart, R359). -/
inductive Origin where
  | mailbox (slot : Nat)
  | ring (k : Nat) (tag : Nat)
  | internal
  deriving DecidableEq, Repr

/-- What the two headers of a command say beyond its code (R288, R297): interface major and minor, FLAGS, TIMEOUT in µs. -/
structure CmdHead where
  major : Nat
  minor : Nat
  flags : Nat
  timeout : Nat
  deriving DecidableEq, Repr

/-- An event counter (R424): of a physical slot, of a router, of the chip. -/
inductive PmonId where
  | core (s : PCore) (n : BitVec 2)
  | router (c : Cluster) (n : BitVec 2)
  | chip (n : BitVec 5)
  deriving DecidableEq, Repr

/-- What the peers of a multi-chip Dune run bring to an exchange (R250): the greatest coefficient magnitude among them as
binary32, the spins of every variable of the problem by chain, their parts of the energy by chain, and whether a descriptor
differs or asks for rotation. -/
structure DuneMsg where
  m : BitVec 32
  spins : List (BitVec 32)
  energy : List (BitVec 64)
  unequal : Bool
  /-- With m: how many supplied coefficients of the peers are not zero (R234), and to the first chip of the topology their
  coefficients above the diagonal and their h (R248; log 153). -/
  nonzero : BitVec 32
  peerJ : List (BitVec 32)
  peerH : List (BitVec 32)
  deriving DecidableEq, Repr

/-- What a sampled capture pair shows in a window of Lookout (R393, R394): its filtered level at the end, and its edges in
order, each rising or not, with the FCLK tick it fell on. -/
structure LkoPair where
  pair : BitVec 6
  level : Bool
  edges : List (Bool × Nat)
  deriving DecidableEq, Repr

end Sys2Proof.Machine
end

