-- ==== Sys2Proof/Syntax.lean ====
section
/-! DEFINITION. The commands of the block: one constructor for each row of spec/opcode_table.json, in the table's order but
those without operands last, with the operands its rule gives it. Operand names: core a physical slot or the slot whose instruction it is, w an instruction word,
v a word written, k a unit's number, p a port, l a link, n a number. -/

namespace Sys2Proof

open Sys2Proof.Machine

/-- A command (R474 to R480 and the rows of the table). -/
inductive Instr where
  /-- POWER_GOOD_RISE (R347). PWR_GOOD rises (cause POR) and starts a chip reset. -/
  | powerGoodRise (vbat : BitVec 12)
  /-- RESET_RELEASE (R348). The chip reset ends; the device samples the straps into BOOT_CFG, reads FUSE_VARIANT, disables fused resources and starts the boot ROM. -/
  | resetRelease (straps : BitVec 9)
  /-- BOOT_REC_GO (R356). The host write authenticates the staged recovery bundle and boots it, or stays in RECOVERY and answers ERR_AUTH. -/
  | bootRecGo (go : Bool)
  /-- DRAM_TRAINING (R269). DRAM training completes, falling back to full training when verification fails, and FW_STATE becomes WAIT_HELLO. -/
  | dramTraining (ok : BitVec 2) (fellBack : Bool)
  /-- QUICK_TEST (R357). A cluster's quick test of router logic and slot memories completes. -/
  | quickTest (k : Cluster) (routerOk : Bool) (bad : List (BitVec 5 × BitVec 4))
  /-- FULL_START (R361). The full-start test phases complete, failing slots are listed and clusters join. -/
  | fullStart (routers : List Cluster) (bad : List (PCore × BitVec 4))
  /-- REFCLK_LOSS (R381). The reference leaves range or the PLL loses lock, and every domain returns to FCLK within 1 µs. -/
  | refclkLoss (refLost : Bool)
  /-- PWR_VOTE_SET (R384). A write sets votes of a power domain, powering it or keeping it up. -/
  | pwrVoteSet (d : BitVec 7) (v : Word)
  /-- PWR_VOTE_CLR (R384). A write clears votes of a power domain; withdrawing the last vote moves the domain to HYST. -/
  | pwrVoteClr (d : BitVec 7) (v : Word)
  /-- DOMAIN_RAMP_DONE (R385). A domain's rails settle and its reset is released, and the domain enters ON. -/
  | domainRampDone (d : BitVec 7)
  /-- DOMAIN_HYST_EXPIRY (R385). PWR_HYST expires and the domain drops to RET or OFF. -/
  | domainHystExpiry (d : BitVec 7)
  /-- LOOKOUT_PERIOD (R393). The Lookout sequencer wakes each PERIOD, powers and samples the chosen units for WINDOW, evaluates the rules and powers down. -/
  | lookoutPeriod (frames : List (Port × CellFrame)) (pairs : List LkoPair)
  /-- MAIN_SUPPLY_LOSS (R389). VDD_IO stays below 1.62 V for 5 µs, and the device moves to RETAIN or OFF. -/
  | mainSupplyLoss (vbat : BitVec 12)
  /-- BATTERY_PROBE (R402). While BAT_ABSENT is set, a probe every second clears it or starts a precharge. -/
  | batteryProbe (vbat : BitVec 12)
  /-- THERMAL_SAMPLE (R404). Each 100 µs, a junction sensor is compared against WARN, DERATE and SHUTDOWN. -/
  | thermalSample (d : BitVec 7) (t : BitVec 10)
  /-- CL_PORT_BRINGUP (R66). An enabled port's bring-up turn arrives and the port leaves OFF for SIGNAL. -/
  | clPortBringup (p : Port)
  /-- CLOCK_RECOVERY_LOCK (R44). Clock recovery locks and the port moves from SIGNAL to ALIGN. -/
  | clockRecoveryLock (p : Port)
  /-- SIGNAL_TIMEOUT (R44). A port with no lock within 1 ms in SIGNAL enters FAULT. -/
  | signalTimeout (p : Port)
  /-- ALIGN_DONE (R44). 64 consecutive idle pairs decode cleanly; the port enters IDENT and sends its ID request. -/
  | alignDone (p : Port) (reversed : Bool)
  /-- ALIGN_TIMEOUT (R44). A port not aligned within 1 ms enters FAULT. -/
  | alignTimeout (p : Port)
  /-- ID_REQUEST_RETRY (R46). Each 8 µs without a valid reply, the device repeats the ID request, or handles the exhausted attempts. -/
  | idRequestRetry (p : Port)
  /-- ID_REPLY (R48). A valid ID reply sets CL_PORT_DELAY and enters RUN, or FAULT LONG when the delay exceeds 200 ticks. -/
  | idReply (p : Port) (f : CellFrame) (sof : Time)
  /-- PORT_REARM (R45). REARM_PERIOD expires for a port in FAULT and the port re-enters SIGNAL. -/
  | portRearm (p : Port)
  /-- CL_PORT_CMD_REBRING (R45). A write moves a port from FAULT back to SIGNAL. -/
  | clPortCmdRebring (p : Port)
  /-- TELEMETRY_FRAME (R55). A received TELEMETRY frame is checked, recorded and offered to the ingest FIFO. -/
  | telemetryFrame (p : Port) (f : CellFrame) (sof : Time)
  /-- EDGE_FRAME (R55). A received EDGE frame is checked, recorded and offered to the ingest FIFO. -/
  | edgeFrame (p : Port) (f : CellFrame) (sof : Time)
  /-- ALARM_FRAME (R62). A received ALARM frame is acknowledged within 4 µs, recorded in CL_PORT_ALARM and offered to the FIFO. -/
  | alarmFrame (p : Port) (f : CellFrame) (sof : Time)
  /-- ACK_FRAME (R60). A received ACK ends the port's outstanding CONTROL exchange. -/
  | ackFrame (p : Port) (f : CellFrame) (sof : Time)
  /-- WAKE_FRAME (R42). A received WAKE frame passes through the control buffer. -/
  | wakeFrame (p : Port) (f : CellFrame) (sof : Time)
  /-- ENGINE_SLOT (R54). The cell-link engine serves the ports of one time slot, taking frames and walking their mapping sets. -/
  | engineSlot (slot : BitVec 4)
  /-- CONTROL_RETRY (R60). 8 µs without an ACK resends the CONTROL frame with DUP = 1. -/
  | controlRetry (p : Port)
  /-- CONTROL_EXCHANGE_FAIL (R60). No ACK 8 µs after the third retry fails the exchange, sets CTRL_FAIL and completes the service with ERR_TIMEOUT. -/
  | controlExchangeFail (p : Port)
  /-- CL_PORT_CMD_PAUSE (R68). A write requests a pause on a port in RUN. -/
  | clPortCmdPause (p : Port)
  /-- PORT_PAUSE_EFFECT (R68). At the end of the frame being received, or at once when idle, the port enters PAUSED. -/
  | portPauseEffect (p : Port)
  /-- CL_PAUSE_EXPIRY (R69). CL_PORT_PAUSE.DURATION expires and the port returns to RUN. -/
  | clPauseExpiry (p : Port)
  /-- CL_PORT_CMD_RESUME (R69). A write returns a paused port to RUN at once. -/
  | clPortCmdResume (p : Port)
  /-- WAKE_PATTERN (R70). 8 consecutive K28.5, K28.7 pairs are recognised, which sets WAKE and records the port. -/
  | wakePattern (p : Port)
  /-- CL_WIRING_FAULT (R71). A wiring condition persists for its window and moves the port to FAULT, reported once. -/
  | clWiringFault (p : Port) (kind : Wiring)
  /-- TIMER_STEP (R74). The prescaler passes DIV_M1 and a running channel's counter steps. -/
  | timerStep (k : Chan)
  /-- LINK_ACTION (R76). A link action lands on the linked channel one tick after its trigger. -/
  | linkAction (k : Chan)
  /-- TMR_CH_CMD_START (R76). A START action is written and lands in the next tick. -/
  | tmrChCmdStart (k : Chan)
  /-- TMR_CH_CMD_STOP (R76). A STOP action is written and lands in the next tick. -/
  | tmrChCmdStop (k : Chan)
  /-- TMR_CH_CMD_RESET (R76). A RESET action is written and zeroes the counter and prescaler phase in the next tick. -/
  | tmrChCmdReset (k : Chan)
  /-- TMR_CH_CFG_WRITE (R79). A write to TMR_CH_CFG restarts the edge count, forgets the previous STAMP and empties the capture queue. -/
  | tmrChCfgWrite (k : Chan) (v : Word)
  /-- CAPTURE (R83). A qualifying edge is declared after N filter samples, and COUNT and STAMP are latched into the value register or queue. -/
  | capture (k : Chan) (rising : Bool)
  /-- CAP_CH_VAL_COUNT_READ (R81). A read returns COUNT and copies the paired STAMP into the holding register. -/
  | capChValCountRead (k : Chan)
  /-- CAP_CH_CMD_POP (R82). A write removes the head entry of the capture queue. -/
  | capChCmdPop (k : Chan)
  /-- CAP_CH_CFG_WRITE (R86). A write to CAP_CH_CFG is applied, refusing EMIT on a fifth emitter of the group. -/
  | capChCfgWrite (k : Chan) (v : Word)
  /-- PAIR_FAULT (R88). A line condition persists for its window, the pair enters fault and its level is held at IDLE. -/
  | pairFault (n : Pair) (kind : LineFault)
  /-- PAIR_FAULT_RELEASE (R89). The condition has been absent for 1 ms; the pair leaves the fault and reloads its channels' filters. -/
  | pairFaultRelease (n : Pair) (level : Bool)
  /-- CAP_PAIR_ENABLE (R90). EN changing from 0 to 1 starts the polarity check. -/
  | capPairEnable (n : Pair)
  /-- POLARITY_CHECK_END (R90). IDLE_WIN ends and the check marks the pair correct, inverts it, or faults it REVERSED. -/
  | polarityCheckEnd (n : Pair) (o : PolarityOutcome)
  /-- EVENT_HOP (R105). A router looks up an event's key and forwards it to the matching port set after the turn-rule removals. -/
  | eventHop (k : Cluster) (input : BitVec 5)
  /-- PACKET_HOP (R97). A router consumes hop 0 of a source-routed packet and forwards it. -/
  | packetHop (k : Cluster) (input : BitVec 5) (cls : BitVec 3)
  /-- EVENT_DELIVER (R117). The delivery stage writes an event into the input queue of the slot that the active map names, once the queue has room. -/
  | eventDeliver (k : Cluster) (port : BitVec 4)
  /-- PACKET_DELIVER (R117). A packet is delivered to slot DSLOT, or is absorbed, answered or passed on by class. -/
  | packetDeliver (k : Cluster) (port : BitVec 4) (cls : BitVec 3)
  /-- MEMRSP_ARRIVE (R168). A response completes its RLD or RST, or is discarded as late. -/
  | memrspArrive (core : PCore)
  /-- REQUEST_TIMEOUT (R116). A request without a response for its sampled REQ_TO completes with ERR_TIMEOUT and keeps its tag reserved. -/
  | requestTimeout (core : PCore) (tag : BitVec 4)
  /-- NI_MAP_CTRL_SWAP (R118). A SWAP write makes the shadow map active under the new epoch, or is ignored while draining. -/
  | niMapCtrlSwap (k : Cluster) (epoch : BitVec 4)
  /-- NI_MAP_BCAST_SWAP (R118). A broadcast SWAP write reaches NI_MAP_CTRL in every present cluster. -/
  | niMapBcastSwap (epoch : BitVec 4)
  /-- MAP_DRAIN_DONE (R118). No previous-epoch packet remains, so DRAINED becomes 1 and the active map is copied to the shadow. -/
  | mapDrainDone (k : Cluster)
  /-- GROUP_FORM (R129). With a free accumulator bank, the coalescer joins the oldest work item with one item per lane of the same range and row. -/
  | groupForm (core : PCore)
  /-- NEURON_PASS (R133). The neuron engine touches each neuron-lane of the block for one lane of the group. -/
  | neuronPass (core : PCore)
  /-- EMIT_TIMEOUT (R137). An emission stall lasting EMIT_TO µs discards the held event and counts it. -/
  | emitTimeout (core : PCore)
  /-- OUTPUT_QUEUE_INJECT (R137). An event in the output queue is injected at the core port once the router accepts it. -/
  | outputQueueInject (core : PCore)
  /-- SCRUB_TOUCH (R138). Every 64 CCLK the scrubber visits a slot and decays and retags it when it is old. -/
  | scrubTouch (core : PCore)
  /-- DENSE_WRITEBACK (R139). After the last step of a dense or gang pass, each neuron-lane is written with the bank value and its payload is emitted. -/
  | denseWriteback (core : PCore)
  /-- ADD (R163). gD receives gA + gB modulo 2^32. -/
  | add (j : CoreId) (d : BitVec 5) (a : BitVec 5) (b : BitVec 5)
  /-- SUB (R163). gD receives gA − gB modulo 2^32. -/
  | sub (j : CoreId) (d : BitVec 5) (a : BitVec 5) (b : BitVec 5)
  /-- AND (R163). gD receives gA AND gB. -/
  | and (j : CoreId) (d : BitVec 5) (a : BitVec 5) (b : BitVec 5)
  /-- OR (R163). gD receives gA OR gB. -/
  | or (j : CoreId) (d : BitVec 5) (a : BitVec 5) (b : BitVec 5)
  /-- XOR (R163). gD receives gA XOR gB. -/
  | xor (j : CoreId) (d : BitVec 5) (a : BitVec 5) (b : BitVec 5)
  /-- SLL (R163). gD receives gA shifted left by gB[4:0]. -/
  | sll (j : CoreId) (d : BitVec 5) (a : BitVec 5) (b : BitVec 5)
  /-- SRL (R163). gD receives gA shifted right by gB[4:0] with zero fill. -/
  | srl (j : CoreId) (d : BitVec 5) (a : BitVec 5) (b : BitVec 5)
  /-- SRA (R163). gD receives gA shifted right by gB[4:0] with sign fill. -/
  | sra (j : CoreId) (d : BitVec 5) (a : BitVec 5) (b : BitVec 5)
  /-- SLT (R163). gD receives 1 when gA < gB signed, and 0 otherwise. -/
  | slt (j : CoreId) (d : BitVec 5) (a : BitVec 5) (b : BitVec 5)
  /-- SLTU (R163). gD receives 1 when gA < gB unsigned, and 0 otherwise. -/
  | sltu (j : CoreId) (d : BitVec 5) (a : BitVec 5) (b : BitVec 5)
  /-- MUL (R163). gD receives the low 32 bits of gA × gB. -/
  | mul (j : CoreId) (d : BitVec 5) (a : BitVec 5) (b : BitVec 5)
  /-- MULH (R163). gD receives the high 32 bits of the signed product. -/
  | mulh (j : CoreId) (d : BitVec 5) (a : BitVec 5) (b : BitVec 5)
  /-- MULHU (R163). gD receives the high 32 bits of the unsigned product. -/
  | mulhu (j : CoreId) (d : BitVec 5) (a : BitVec 5) (b : BitVec 5)
  /-- MIN (R163). gD receives the smaller of gA and gB, signed. -/
  | min (j : CoreId) (d : BitVec 5) (a : BitVec 5) (b : BitVec 5)
  /-- MAX (R163). gD receives the larger of gA and gB, signed. -/
  | max (j : CoreId) (d : BitVec 5) (a : BitVec 5) (b : BitVec 5)
  /-- ADDI (R164). gD receives gA + sext(IMM). -/
  | addi (j : CoreId) (d : BitVec 5) (a : BitVec 5) (imm : BitVec 16)
  /-- ANDI (R164). gD receives gA AND zext(IMM). -/
  | andi (j : CoreId) (d : BitVec 5) (a : BitVec 5) (imm : BitVec 16)
  /-- ORI (R164). gD receives gA OR zext(IMM). -/
  | ori (j : CoreId) (d : BitVec 5) (a : BitVec 5) (imm : BitVec 16)
  /-- XORI (R164). gD receives gA XOR zext(IMM). -/
  | xori (j : CoreId) (d : BitVec 5) (a : BitVec 5) (imm : BitVec 16)
  /-- SHIFTI (R164). gD receives gA shifted by IMM[4:0], as IMM[6:5] selects. -/
  | shifti (j : CoreId) (d : BitVec 5) (a : BitVec 5) (imm : BitVec 16)
  /-- SLTI (R164). gD receives 1 when gA < sext(IMM) signed, and 0 otherwise. -/
  | slti (j : CoreId) (d : BitVec 5) (a : BitVec 5) (imm : BitVec 16)
  /-- LUI (R164). gD receives IMM << 16. -/
  | lui (j : CoreId) (d : BitVec 5) (a : BitVec 5) (imm : BitVec 16)
  /-- TIME (R164). Reads chip time [31:0] and latches [47:32], or returns the latched high part. -/
  | time (j : CoreId) (d : BitVec 5) (a : BitVec 5) (imm : BitVec 16)
  /-- LB (R165). Loads a byte, sign-extended. -/
  | lb (j : CoreId) (d : BitVec 5) (a : BitVec 5) (imm : BitVec 16)
  /-- LBU (R165). Loads a byte, zero-extended. -/
  | lbu (j : CoreId) (d : BitVec 5) (a : BitVec 5) (imm : BitVec 16)
  /-- LH (R165). Loads a halfword, sign-extended. -/
  | lh (j : CoreId) (d : BitVec 5) (a : BitVec 5) (imm : BitVec 16)
  /-- LHU (R165). Loads a halfword, zero-extended. -/
  | lhu (j : CoreId) (d : BitVec 5) (a : BitVec 5) (imm : BitVec 16)
  /-- LW (R165). Loads a word. -/
  | lw (j : CoreId) (d : BitVec 5) (a : BitVec 5) (imm : BitVec 16)
  /-- SB (R165). Stores gD[7:0] to a byte. -/
  | sb (j : CoreId) (d : BitVec 5) (a : BitVec 5) (imm : BitVec 16)
  /-- SH (R165). Stores gD[15:0] to a halfword. -/
  | sh (j : CoreId) (d : BitVec 5) (a : BitVec 5) (imm : BitVec 16)
  /-- SW (R165). Stores gD to a word. -/
  | sw (j : CoreId) (d : BitVec 5) (a : BitVec 5) (imm : BitVec 16)
  /-- BEQ (R166). Branches when gD = gA. -/
  | beq (j : CoreId) (d : BitVec 5) (a : BitVec 5) (imm : BitVec 16)
  /-- BNE (R166). Branches when gD ≠ gA. -/
  | bne (j : CoreId) (d : BitVec 5) (a : BitVec 5) (imm : BitVec 16)
  /-- BLT (R166). Branches when gD < gA, signed. -/
  | blt (j : CoreId) (d : BitVec 5) (a : BitVec 5) (imm : BitVec 16)
  /-- BGE (R166). Branches when gD ≥ gA, signed. -/
  | bge (j : CoreId) (d : BitVec 5) (a : BitVec 5) (imm : BitVec 16)
  /-- BLTU (R166). Branches when gD < gA, unsigned. -/
  | bltu (j : CoreId) (d : BitVec 5) (a : BitVec 5) (imm : BitVec 16)
  /-- BGEU (R166). Branches when gD ≥ gA, unsigned. -/
  | bgeu (j : CoreId) (d : BitVec 5) (a : BitVec 5) (imm : BitVec 16)
  /-- JAL (R166). Jumps relative to PC, saving PC + 4 in gD. -/
  | jal (j : CoreId) (d : BitVec 5) (a : BitVec 5) (imm : BitVec 16)
  /-- JALR (R166). Jumps to gA + sext(IMM), saving PC + 4 in gD. -/
  | jalr (j : CoreId) (d : BitVec 5) (a : BitVec 5) (imm : BitVec 16)
  /-- RLD (R167). Issues a remote load MEMREQ and marks gD pending. -/
  | rld (j : CoreId) (d : BitVec 5) (a : BitVec 5) (b : BitVec 5) (f : BitVec 11)
  /-- RST (R167). Issues a remote store MEMREQ. -/
  | rst (j : CoreId) (d : BitVec 5) (a : BitVec 5) (b : BitVec 5) (f : BitVec 11)
  /-- MFENCE (R169). Stalls until every issued RLD and RST has completed or timed out. -/
  | mfence (j : CoreId) (rest : BitVec 26)
  /-- SEND (R170). Sends a 1–4 word tuple through a send port, stalling for credit. -/
  | send (j : CoreId) (d : BitVec 5) (a : BitVec 5) (b : BitVec 5) (f : BitVec 11)
  /-- TRYSEND (R170). Sends a tuple through a send port, or returns ERR_BUSY without credit. -/
  | trysend (j : CoreId) (d : BitVec 5) (a : BitVec 5) (b : BitVec 5) (f : BitVec 11)
  /-- RECV (R171). Takes the head tuple of an own queue, blocking or returning at once. -/
  | recv (j : CoreId) (d : BitVec 5) (a : BitVec 5) (b : BitVec 5) (f : BitVec 11)
  /-- WARM (R172). Moves the named own queues from DRAINED to OPEN. -/
  | warm (j : CoreId) (d : BitVec 5) (a : BitVec 5) (b : BitVec 5) (f : BitVec 11)
  /-- SOP (R173). Applies ADD, SET or ARRIVE to a sync object, locally or by a class-2 packet. -/
  | sop (j : CoreId) (d : BitVec 5) (a : BitVec 5) (b : BitVec 5) (f : BitVec 11)
  /-- SWAIT (R174). Waits on an own sync object, with an optional timeout object, and consumes it. -/
  | swait (j : CoreId) (d : BitVec 5) (a : BitVec 5) (b : BitVec 5) (f : BitVec 11)
  /-- WFE (R175). Blocks until a source named in the mask is ready, and returns the ready mask. -/
  | wfe (j : CoreId) (d : BitVec 5) (a : BitVec 5) (b : BitVec 5) (f : BitVec 11)
  /-- MXPASS (R176). Checks and starts a dense or gang pass. -/
  | mxpass (j : CoreId) (d : BitVec 5) (a : BitVec 5) (b : BitVec 5) (f : BitVec 11)
  /-- MXWAIT (R178). Stalls until this core's pass and its write-back emissions have finished. -/
  | mxwait (j : CoreId) (rest : BitVec 26)
  /-- EVSEND (R179). Emits one class-0 event to the output queue, the loopback queue or both. -/
  | evsend (j : CoreId) (d : BitVec 5) (a : BitVec 5) (b : BitVec 5) (f : BitVec 11)
  /-- NEHOLD (R180). Requests the hold and stalls until event-mode work reaches a pass boundary. -/
  | nehold (j : CoreId) (d : BitVec 5) (a : BitVec 5) (b : BitVec 5) (f : BitVec 11)
  /-- NEHOLD_RELEASE (R180). Releases the hold on event-mode work at once. -/
  | neholdRelease (j : CoreId) (d : BitVec 5) (a : BitVec 5) (b : BitVec 5) (f : BitVec 11)
  /-- HALT (R181). Waits as MFENCE, records HALT_CODE, enters HALTED and drains the core's queues. -/
  | halt (j : CoreId) (d : BitVec 5) (a : BitVec 5) (imm : BitVec 16)
  /-- ERET (R182). Returns to CORE_EPC and clears INEXC. -/
  | eret (j : CoreId) (rest : BitVec 26)
  /-- BRK (R183). Raises BREAK, or halts for debug when the core is held under debug. -/
  | brk (j : CoreId) (d : BitVec 5) (a : BitVec 5) (imm : BitVec 16)
  /-- EXCEPTION_ENTRY (R188). A raised exception records EPC, CAUSE and EINFO and vectors to CORE_EVEC, or halts the core under R189. -/
  | exceptionEntry (j : CoreId)
  /-- CORE_CTRL_RUN (R192). A write starts a halted core at CORE_PC. -/
  | coreCtrlRun (core : PCore)
  /-- CORE_CTRL_HALT (R186). A halt request ends any wait and halts the core with HCAUSE 3. -/
  | coreCtrlHalt (core : PCore)
  /-- DRIFT_ENTRY (R203). The Drift unit executes the next queued entry, updating codes by stochastic rounding. -/
  | driftEntry (core : PCore)
  /-- R_QUEUE_WORD (R206). The Drift unit consumes a word from the r-queue and writes LRN_R. -/
  | rQueueWord (core : PCore)
  /-- WADI_TUPLE_ARRIVE (R213). A WADI tuple is appended to its queue, or is discarded with its credits returned. -/
  | wadiTupleArrive (core : PCore)
  /-- WCREDIT (R214). A credit-return packet adds credits, reloads CRED or latches ORPHAN at a send port. -/
  | wcredit (core : PCore)
  /-- SYNC_PACKET (R226). An arriving class-2 packet applies its operation to a sync object. -/
  | syncPacket (core : PCore)
  /-- SYNC_VALUE_WRITE (R230). A write to SYNC_VALUE performs SET. -/
  | syncValueWrite (core : PCore) (j : BitVec 3) (v : Word)
  /-- SYNC_ADD_WRITE (R230). A write to SYNC_ADD performs ADD. -/
  | syncAddWrite (core : PCore) (j : BitVec 3) (v : Word)
  /-- SYNC_ARRIVE_WRITE (R230). A write to SYNC_ARRIVE performs ARRIVE. -/
  | syncArriveWrite (core : PCore) (j : BitVec 3) (v : Word)
  /-- SYNC_ALARM_WRITE (R227). A write arms, restarts or disarms the one-shot alarm. -/
  | syncAlarmWrite (core : PCore) (j : BitVec 3) (v : Word)
  /-- SYNC_ALARM_EXPIRY (R227). The one-shot expires, applies ARRIVE and clears ARMED. -/
  | syncAlarmExpiry (core : PCore) (j : BitVec 3)
  /-- WADI_SPORT_CFG_WRITE (R210). A firmware write binds a send port and sets CRED to CREDITS. -/
  | wadiSportCfgWrite (core : PCore) (port : BitVec 4) (v : Word)
  /-- DUNE_RUN (R246). The command checks the run descriptor, quantises the coefficients and starts a Dune run. -/
  | duneRun (o : Origin) (h : CmdHead) (args : List Byte)
  /-- DUNE_STOP (R252). The command ends the Dune run with PARTIAL at the next sweep boundary. -/
  | duneStop (o : Origin) (h : CmdHead) (args : List Byte)
  /-- DUNE_SLICE_START (R245). An idle participating core grants a 20 µs Dune slice within the DUNE_SHARE budget. -/
  | duneSliceStart (j : CoreId)
  /-- DUNE_SLICE_END (R245). A Dune slice ends and returns the matrix unit to inference. -/
  | duneSliceEnd (j : CoreId)
  /-- DUNE_EXCHANGE (R250). In multi-chip mode the chips exchange spins and apply the remote updates. -/
  | duneExchange (msg : DuneMsg)
  /-- CROSSBAR_ACCESS (R255). A master's access is routed to its target through the crossbar and served. -/
  | crossbarAccess (port : BitVec 4) (a : BitVec 48) (n : BitVec 14) (w : Option (List Byte))
  /-- XBAR_DMA_COMMIT (R264). A read enqueues the staged DMA descriptor and returns its status. -/
  | xbarDmaCommit (e : BitVec 3)
  /-- DMA_DESCRIPTOR (R265). A DMA engine completes a descriptor and records its status and TAG. -/
  | dmaDescriptor (e : BitVec 3)
  /-- XBAR_DMA_CTRL_ABORT (R265). A write ends the current burst and discards the engine's queue. -/
  | xbarDmaCtrlAbort (e : BitVec 3)
  /-- DDR_TRACK_PASS (R269). Every DDR_TRACK.PERIOD µs a WCK-to-DQ tracking pass runs. -/
  | ddrTrackPass (ch : BitVec 1)
  /-- DDR_REFRESH_CHANGE (R270). MR4 changes the refresh rate, and D and C are recomputed. -/
  | ddrRefreshChange (ch : BitVec 1) (mr4 : BitVec 3) (doubled : Bool)
  /-- DDR_SETPOINT_SWITCH (R270). The controller switches between FSP0 and FSP1, and D and C are recomputed. -/
  | ddrSetpointSwitch (ch : BitVec 1) (hot : Bool)
  /-- BW_RES_WRITE (R272). A write to BW_RES_n is admitted against C, or refused with ADMIT_ERR. -/
  | bwResWrite (n : BitVec 3) (v : Word)
  /-- BUF_POOL_ALLOC (R276). A read allocates a buffer, or returns EMPTY. -/
  | bufPoolAlloc (p : BitVec 2) (port : BitVec 4)
  /-- BUF_POOL_WALLOC (R278). A read allocates a buffer or joins the waiter FIFO. -/
  | bufPoolWalloc (p : BitVec 2) (port : BitVec 4)
  /-- BUF_FREE (R278). A write frees a buffer, granting it to the oldest waiter when one waits. -/
  | bufFree (h : BitVec 18)
  /-- WAITER_TIMEOUT (R278). A waiter still queued after WAIT_TO is removed with TIMEOUT. -/
  | waiterTimeout (p : BitVec 2) (port : BitVec 4)
  /-- BUF_POOL_CFG_WRITE (R275). A write configures a pool; setting EN frees every buffer and clearing EN times out the waiters. -/
  | bufPoolCfgWrite (p : BitVec 2) (v : Word)
  /-- MBX_DB (R289). A doorbell bit moves a FREE slot to POSTED. -/
  | mbxDb (post : BitVec 16)
  /-- MBX_RELEASE (R289). A release bit moves a DONE slot to FREE. -/
  | mbxRelease (free : BitVec 16)
  /-- MAILBOX_TAKE_UP (R290). Firmware takes up a POSTED slot, runs the command and writes the reply. -/
  | mailboxTakeUp (slot : BitVec 4)
  /-- RING_SQ_DB (R296). An SQ tail doorbell is accepted or refused. -/
  | ringSqDb (k : BitVec 6) (tail : BitVec 16)
  /-- RING_CQ_DB (R296). A CQ head doorbell is accepted or refused. -/
  | ringCqDb (k : BitVec 6) (head : BitVec 16)
  /-- SQ_ENTRY_TAKE_UP (R298). Firmware takes an SQ entry when an unreserved CQ entry is free, and reserves it. -/
  | sqEntryTakeUp (ring : BitVec 6)
  /-- CQ_HOLDOFF_EXPIRY (R301). HOLDOFF µs since the oldest unsignalled entry sends the ring's MSI-X message. -/
  | cqHoldoffExpiry (ring : BitVec 6)
  /-- BAR2_ACCESS (R286). An inbound BAR2 access reaches the selected HCU address, subject to the protections. -/
  | bar2Access (off : Word) (n : BitVec 13) (w : Option (List Byte))
  /-- EXPERT_WINDOW_ACCESS (R302). An inbound access to the expert window is served or denied. -/
  | expertWindowAccess (off : BitVec 24) (n : BitVec 13) (w : Option (List Byte))
  /-- HOST_READ_TIMEOUT (R281). A device read of host memory times out and fails its service with ERR_TIMEOUT. -/
  | hostReadTimeout (o : Origin)
  /-- MBX_NQ_DB (R324). The host writes its notification-queue head. -/
  | mbxNqDb (head : BitVec 16)
  /-- HELLO (R305). The command negotiates the version and feature mask and moves FW_STATE to READY. -/
  | hello (o : Origin) (h : CmdHead) (args : List Byte)
  /-- QUERY (R313). The command returns job, operation, power or notification-queue state. -/
  | query (o : Origin) (h : CmdHead) (args : List Byte)
  /-- LOG_READ (R313). The command copies event-log entries to DRAM. -/
  | logRead (o : Origin) (h : CmdHead) (args : List Byte)
  /-- RING_CREATE (R295). The command creates a ring pair. -/
  | ringCreate (o : Origin) (h : CmdHead) (args : List Byte)
  /-- RING_DESTROY (R313). The command removes an idle ring pair. -/
  | ringDestroy (o : Origin) (h : CmdHead) (args : List Byte)
  /-- PART_DEFINE (R314). The command defines or deletes a partition. -/
  | partDefine (o : Origin) (h : CmdHead) (args : List Byte)
  /-- JOB_LOAD (R315). The command checks a job image whole and writes its sections. -/
  | jobLoad (o : Origin) (h : CmdHead) (args : List Byte)
  /-- JOB_START (R316). The command routes the job's events, starts its cores and enables its ports. -/
  | jobStart (o : Origin) (h : CmdHead) (args : List Byte)
  /-- JOB_STOP (R316). The command disables ports, halts cores, waits for empty queues and clears VALID. -/
  | jobStop (o : Origin) (h : CmdHead) (args : List Byte)
  /-- JOB_UNLOAD (R316). The command unloads a job and leaves it EMPTY. -/
  | jobUnload (o : Origin) (h : CmdHead) (args : List Byte)
  /-- WRITE_WEIGHTS (R316). The command writes weight blocks with the populations invalid. -/
  | writeWeights (o : Origin) (h : CmdHead) (args : List Byte)
  /-- READ_WEIGHTS (R208). The command reads weight blocks, optionally frozen. -/
  | readWeights (o : Origin) (h : CmdHead) (args : List Byte)
  /-- PAUSE (R319). The command pauses a port, job, Dune run or long operation. -/
  | pause (o : Origin) (h : CmdHead) (args : List Byte)
  /-- RESUME (R319). The command resumes a paused target. -/
  | resume (o : Origin) (h : CmdHead) (args : List Byte)
  /-- PAUSE_EXPIRY (R319). A PAUSE DURATION expires and its target resumes. -/
  | pauseExpiry (kind : BitVec 8) (id : Word)
  /-- BW_RESERVE (R272). The command sets a class reservation. -/
  | bwReserve (o : Origin) (h : CmdHead) (args : List Byte)
  /-- POWER_CAP (R320). The command sets or clears the power cap. -/
  | powerCap (o : Origin) (h : CmdHead) (args : List Byte)
  /-- CL_CONTROL (R60). The command sends a CONTROL frame on a port and completes under its exchange. -/
  | clControl (o : Origin) (h : CmdHead) (args : List Byte)
  /-- MEM_TEST (R362). The command runs the full-start test phases over the chip or a cluster. -/
  | memTest (o : Origin) (h : CmdHead) (args : List Byte)
  /-- DEFECT_REMAP (R375). The command adds a physical core to the lists, or retires a field entry. -/
  | defectRemap (o : Origin) (h : CmdHead) (args : List Byte)
  /-- TRIP_FIRE (R419). The command raises the HOST trip trigger. -/
  | tripFire (o : Origin) (h : CmdHead) (args : List Byte)
  /-- TRIP_READ (R422). The command copies the held trip records to DST and releases the hold. -/
  | tripRead (o : Origin) (h : CmdHead) (args : List Byte)
  /-- EXPERT_WINDOW (R302). The command opens or closes the expert window. -/
  | expertWindow (o : Origin) (h : CmdHead) (args : List Byte)
  /-- UNKNOWN_COMMAND (R313). An undefined command code completes with ERR_PARAM. -/
  | unknownCommand (o : Origin) (h : CmdHead) (code : BitVec 16) (args : List Byte)
  /-- LONG_OP_STEP (R317). Firmware runs one step of at most 100 µs of a long operation, in turn. -/
  | longOpStep (bad : List (PCore × BitVec 4))
  /-- COMMAND_TIMEOUT (R312). A command's TIMEOUT expires and it ends with ERR_TIMEOUT. -/
  | commandTimeout (o : Origin)
  /-- POWER_CAP_SAMPLE (R320). Every 100 µs firmware samples the rails and applies or releases throttle stages. -/
  | powerCapSample (p : BitVec 16)
  /-- TRAIN_DONE (R332). A Feryo link locks and deskews its lanes and enters INIT or ACTIVE. -/
  | trainDone (l : LinkId) (lanes : Byte)
  /-- TRAIN_TIMEOUT (R332). A link not trained within 1 ms enters FAILED with NO_LOCK. -/
  | trainTimeout (l : LinkId)
  /-- INIT_BLOCK (R333). A received INIT block is checked and the link enters ACTIVE or FAILED. -/
  | initBlock (l : LinkId) (b : DWord)
  /-- FERYO_FRAME (R330). A received frame is accepted in order and its flits delivered, or discarded with NAK. -/
  | feryoFrame (l : LinkId) (seq : BitVec 12) (flits : List DWord) (crc : Word)
  /-- FERYO_ACK (R330). An ACK frees acknowledged frames from the replay buffer. -/
  | feryoAck (l : LinkId) (seq : BitVec 12)
  /-- FERYO_NAK (R330). A NAK replays every unacknowledged frame from the oldest. -/
  | feryoNak (l : LinkId) (seq : BitVec 12)
  /-- REPLAY_TIMEOUT (R331). REPLAY_TO without ACK progress replays, or enters RETRAIN after REPLAY_MAX replays. -/
  | replayTimeout (l : LinkId)
  /-- RETRAIN_TIMEOUT (R331). Retraining not done within RETRAIN_TO makes the link FAILED and loses its frames. -/
  | retrainTimeout (l : LinkId)
  /-- CREDIT_BLOCK (R334). A CREDIT block returns per-class credits to the sender. -/
  | creditBlock (l : LinkId) (payload : DWord)
  /-- FERYO_SYNC_RECEIVE (R338). A SYNC block from the upstream link steps or slews chip time. -/
  | feryoSyncReceive (l : LinkId) (t : Time)
  /-- HB_RECEIVE (R344). A received HB records peer liveness, or a SLEEP request moves the link to SLEEP. -/
  | hbReceive (l : LinkId) (up : Bool) (sleep : Bool)
  /-- HB_MISS (R344). A peer is declared failed after HB_MISS periods without HB, or with every link FAILED. -/
  | hbMiss (peer : BitVec 4) (ports : List (Port × BitVec 12 × BitVec 7)) (chans : List Chan)
  /-- TRAINING_PATTERN (R332). A training pattern seen on a link in SLEEP moves it to TRAIN and wakes the chip from Lookout. -/
  | trainingPattern (l : LinkId)
  /-- FER_LINK_CMD_REBRING (R332). A write moves a FAILED link back to TRAIN. -/
  | ferLinkCmdRebring (l : LinkId)
  /-- FER_XFER_COMMIT (R339). A read enqueues the staged transfer descriptor and returns its status. -/
  | ferXferCommit (l : LinkId)
  /-- FER_XFER_DONE (R339). A transfer descriptor completes with OK or PARTIAL. -/
  | ferXferDone (l : LinkId)
  /-- ROTATION_STEP (R368). PERIOD expires for a cluster and a rotation step starts with PRECOPY. -/
  | rotationStep (k : Cluster)
  /-- PRECOPY_ROUND (R369). A PRECOPY round ends and starts another or moves to QUIESCE. -/
  | precopyRound (dirty : BitVec 16)
  /-- ROTATION_SLOT_TEST (R372). The freed slot's test ends and it becomes the spare or is listed as defective. -/
  | rotationSlotTest (pass : Bool) (kind : BitVec 4)
  /-- RST_REQ (R407). A write requests a core, cluster, partition or chip reset, or is rejected. -/
  | rstReq (v : Word)
  /-- SRAM_UNCORRECTABLE (R412). An uncorrectable memory or parity error fences the slot within 1 µs. -/
  | sramUncorrectable (p : PCore) (bonded : Bool)
  /-- RST_FENCE_CMD (R412). A write fences a slot or clears a fence. -/
  | rstFenceCmd (v : Word)
  /-- PMON_OVERFLOW (R425). A 48-bit counter wraps and sets OVF, raising an interrupt for chip counters. -/
  | pmonOverflow (id : PmonId)
  /-- PMON_CLR (R425). A write zeroes the counter in the next cycle of its clock. -/
  | pmonClr (id : PmonId)
  /-- PMON_CNT_LO_READ (R426). A read returns count [31:0] and copies [47:32] into the holding register. -/
  | pmonCntLoRead (id : PmonId)
  /-- PMON_SNAP_LO_READ (R426). A read returns snapshot [31:0] and copies [47:32] into the holding register. -/
  | pmonSnapLoRead (id : PmonId)
  /-- EXTEST (R434). The boundary-scan cells take the pins. -/
  | extest (captured : List Bool) (loaded : List Bool)
  /-- SAMPLE_PRELOAD (R432). The instruction samples or preloads the boundary-scan register. -/
  | samplePreload (captured : List Bool) (loaded : List Bool)
  /-- UNLOCK_RESP (R435). A write of a signed response is verified and opens the requested scope or counts a failure. -/
  | unlockResp (scope : Byte) (sig : List Byte)
  /-- CORE_SEL (R438). The instruction names the logical core for core debug. -/
  | coreSel (j : CoreId)
  /-- CORE_REG (R442). The instruction reads or writes PC or a general register of a debug-halted core. -/
  | coreReg (reg : BitVec 5) (write : Bool) (data : Word)
  /-- BRKPT (R441). The instruction sets one of the core's four breakpoints. -/
  | brkpt (v : BitVec 36)
  /-- MEM (R443). GO starts one crossbar access through port 12 and records its STATUS. -/
  | mem (addr : BitVec 48) (size : BitVec 2) (write : Bool) (go : Bool) (data : DWord)
  /-- ATTACH (R437). The instruction sets or clears debugger vote bit 31 of power domains. -/
  | attach (v : BitVec 70)
  /-- REGISTER_WRITE (R6). A write to a register that has no row of its own is applied by its field types. -/
  | registerWrite (who : BitVec 4) (a : Word) (v : Word)
  /-- LOOKOUT_SIGNAL_RETURN (R396). In Lookout, signal returns to a port in WPORTS that had none at entry, which is a CELL_LINK wake source. -/
  | lookoutSignalReturn (p : Port)
  /-- UNKNOWN_CONTROL_BLOCK (R328). A Feryo control block of an undefined type is received, discarded and counted in FER_LINK_CNT.OTHER. -/
  | unknownControlBlock (l : LinkId) (kind : Byte)
  /-- SYS_RST_N (R347). SYS_RST_N is held low for at least 1 µs and starts a chip reset with cause PIN. -/
  | sysRstN
  /-- VDD_CORE_BROWNOUT (R347). VDD_CORE stays below 0.65 V for 2 µs and starts a chip reset with cause BROWNOUT. -/
  | vddCoreBrownout
  /-- SECURE_BOOT (R354). The boot ROM finishes authenticating slot A and, if A fails, slot B, then boots the passing bundle and sets the profile. -/
  | secureBoot
  /-- PLL_LOCK (R380). The PLL locks after PLL_EN and firmware switches every present domain to its PLL clocks. -/
  | pllLock
  /-- AUTOSTART (R359). Once the image's clusters have joined, firmware creates ring 0 and loads and starts the autostart image as job 0. -/
  | autostart
  /-- LOOKOUT_ENTRY (R390). A D3hot transition checks the Lookout descriptor and, when it passes, runs the entry steps into LOOKOUT. -/
  | lookoutEntry
  /-- WAKE_N (R396). WAKE_N held low for 10 µs wakes the device from Lookout. -/
  | wakeN
  /-- LOOKOUT_TIMER (R396). TIMER seconds on the Oasis clock expire in Lookout and cause a wake. -/
  | lookoutTimer
  /-- PCIE_WAKE (R396). A D0 transition, an L1 exit or a TLP to the function wakes the device from Lookout. -/
  | pcieWake
  /-- LOOKOUT_RAIL_BROWNOUT (R395). A brown-out of the Lookout rail ends the period and makes a full wake with cause BROWNOUT. -/
  | lookoutRailBrownout
  /-- VBAT_LOW (R389). In RETAIN, VBAT below 2.8 V or a removed cell moves the device to OFF. -/
  | vbatLow
  /-- OASIS_BROWNOUT (R400). The Oasis output browns out, with an effect that depends on the power state. -/
  | oasisBrownout
  /-- PRECHARGE_TIMEOUT (R401). A precharge that has not reached 3.0 V after 30 minutes stops the charger and sets BAT_FAULT. -/
  | prechargeTimeout
  /-- CHARGE_TERMINATE (R401). At the CV limit the charge current falls below ITERM and charging terminates. -/
  | chargeTerminate
  /-- CHARGE_RESUME (R401). A terminated cell falls below 4.05 V and charging resumes. -/
  | chargeResume
  /-- CELL_REMOVED (R402). VBAT at the CV limit with current below 0.2 mA is detected as a removed cell. -/
  | cellRemoved
  /-- CELL_REVERSED (R403). VBAT below −0.3 V sets BAT_REVERSED and posts a POWER_EVENT. -/
  | cellReversed
  /-- CELL_REVERSED_CLEAR (R403). VBAT rising above 0 V clears BAT_REVERSED. -/
  | cellReversedClear
  /-- SYNC_FRAME_SEND (R51). Every 100 µs, a SYNC frame is sent on every port in RUN or PAUSED. -/
  | syncFrameSend
  /-- DRAIN_LATE (R119). A swap not completed within 2 µs sets DRAIN_LATE and is reported once. -/
  | drainLate
  /-- DUNE_SWEEP_BOUNDARY (R243). A sweep completes, and the best state is judged and copied. -/
  | duneSweepBoundary
  /-- DUNE_DEADLINE (R252). DEADLINE expires and the run ends with ERR_TIMEOUT at the next sweep boundary. -/
  | duneDeadline
  /-- DUNE_CMD_PAUSE (R251). A write pauses the run at the next sweep boundary. -/
  | duneCmdPause
  /-- DUNE_CMD_RESUME (R251). A write resumes a paused run. -/
  | duneCmdResume
  /-- DUNE_CMD_ABORT (R252). A write ends the run with PARTIAL at the next sweep boundary. -/
  | duneCmdAbort
  /-- DUNE_PAUSE_EXPIRY (R251). DUNE_PAUSE.DURATION expires and the run resumes. -/
  | dunePauseExpiry
  /-- BRIDGE_OUTPUT_EVENT (R300). The fabric bridge writes an output event as a record to its completion ring, or drops it. -/
  | bridgeOutputEvent
  /-- FUNCTION_LEVEL_RESET (R318). An FLR or link down resets the host registers, frees slots and removes every ring. -/
  | functionLevelReset
  /-- FERYO_SYNC_SEND (R338). Every 10 µs a SYNC block with the departure time is sent on every ACTIVE link. -/
  | feryoSyncSend
  /-- HB_SEND (R344). Every HB_PERIOD an HB block is sent on every ACTIVE link. -/
  | hbSend
  /-- FERYO_POSTED_WRITE (R340). The peer's fabric bridge commits a posted write from a Feryo link in arrival order. -/
  | feryoPostedWrite
  /-- ROTATION_QUIESCE (R369). Drift, passes and the sequencer are quiesced and FREEZE begins. -/
  | rotationQuiesce
  /-- ROTATION_FREEZE (R369). The frozen core state is copied to the spare and the map swap is made. -/
  | rotationFreeze
  /-- ROTATION_ABANDON (R373). A step that exceeds a bound or meets a reset, fence or gang request is abandoned. -/
  | rotationAbandon
  /-- RESET_DRAIN_DONE (R409). DRAIN ends when the region is idle and ABSORB starts. -/
  | resetDrainDone
  /-- DRAIN_TIMEOUT (R410). DRAIN_TO expires and the reset falls back to ABSORB. -/
  | drainTimeout
  /-- ABSORB_END (R409). ABSORB ends, the region is released, BUSY clears and DONE is set. -/
  | absorbEnd
  /-- FENCE_SUBSTITUTION (R413). Firmware orphans senders, restores the core onto the spare and swaps the map, or applies R35. -/
  | fenceSubstitution
  /-- RST_HCU_KICK (R416). A write restarts the watchdog period. -/
  | rstHcuKick
  /-- WATCHDOG_EXPIRY (R416). A period without a kick restarts the HCU, or stops it after MAX restarts. -/
  | watchdogExpiry
  /-- SANDGLASS_RECORD (R417). A record from the input FIFO is written to the DRAM window. -/
  | sandglassRecord
  /-- TRIP_IN (R419). TRIP_IN held at its active level for 8 ticks triggers a trip, or wakes the chip from Lookout. -/
  | tripIn
  /-- TRIP_CTRL_FIRE (R419). A write raises the HOST trip trigger. -/
  | tripCtrlFire
  /-- TRIP_COPY_CHUNK (R420). After each 2,048 records copied, FIRST and CRC are updated together. -/
  | tripCopyChunk
  /-- TRIP_COPY_DONE (R420). The copy ends, the TRIP notification is posted and recording resumes or freezes. -/
  | tripCopyDone
  /-- TRIP_CTRL_RELEASE (R421). A write releases the held trip copy. -/
  | tripCtrlRelease
  /-- PMON_CTRL_ARM (R429). A write arms a snapshot at PMON_SNAP_TIME. -/
  | pmonCtrlArm
  /-- SNAPSHOT (R429). At chip time T, every counter in an ON domain copies its value. -/
  | snapshot
  /-- TAP_RESET (R431). Test-Logic-Reset selects IDCODE. -/
  | tapReset
  /-- IDCODE (R433). The instruction shifts out the 32-bit identification code. -/
  | idcode
  /-- CLAMP (R434). The instruction holds the pins from boundary scan with bypass selected. -/
  | clamp
  /-- HIGHZ (R434). The instruction places the pins in high impedance. -/
  | highz
  /-- BYPASS (R432). The instruction selects the bypass register. -/
  | bypass
  /-- UNLOCK_CHAL (R435). A read returns a fresh unlock challenge. -/
  | unlockChal
  /-- UNLOCK_STAT (R436). A read returns the unlock status, the scope and the failure count. -/
  | unlockStat
  /-- CORE_CMD_ENABLE (R438). The command holds the core under debug and attaches its cluster. -/
  | coreCmdEnable
  /-- CORE_CMD_DISABLE (R438). The command clears DBG_EN and the breakpoints and resumes a debug-halted core. -/
  | coreCmdDisable
  /-- CORE_CMD_HALT (R438). The command debug-halts the core at the next instruction boundary. -/
  | coreCmdHalt
  /-- CORE_CMD_RUN (R438). The command resumes a debug-halted core at its PC. -/
  | coreCmdRun
  /-- CORE_CMD_STEP (R440). The command executes one instruction and then debug-halts the core again. -/
  | coreCmdStep
  /-- TAP_CORE_STAT (R439). The instruction captures the selected core's state in one read. -/
  | tapCoreStat
  /-- SYSRESET (R434). At Update-IR the instruction makes a chip reset with cause DEBUG. -/
  | sysreset
  /-- PWR_GOOD_FALL (R450). PWR_GOOD driven low holds every domain except the Oasis domain in reset, and ends a debug unlock. -/
  | pwrGoodFall
  /-- REFCLK_RETURN (R381). The reference monitor finds REFCLK back within 25 MHz ±10 % and sets CLK_STAT.REF_OK, after which firmware re-enables the PLL. -/
  | refclkReturn
  /-- HCU_RESTART_DONE (R416). After a watchdog restart, firmware reaches WAIT_HELLO: HIF_FWEPOCH advances and interrupted commands complete with PARTIAL. -/
  | hcuRestartDone
  /-- PRECHARGE_COMPLETE (R401). During precharge the cell reaches 3.0 V and the charger moves to constant current at ICHG. -/
  | prechargeComplete
  /-- CV_LIMIT_REACHED (R401). In constant current the cell reaches the 4.20 V CV limit and the charger moves to constant voltage. -/
  | cvLimitReached
  deriving DecidableEq, Repr

end Sys2Proof
end

