-- ==== Sys2Proof/Decode.lean ====
section
/-! DEFINITION. Commands spelled by the table's bits: spec/opcode_table.json gives no row any bits. -/

namespace Sys2Proof

/-- The command a word of `nbits` bits spells: none, since no row of the table has bits (log 17). -/
def decodeTableWord (_nbits _w : Nat) : Option Instr := none

end Sys2Proof
end

