-- ==== Sys2Proof/Machine/Flags.lean ====
section
/-! DEFINITION. Results and conditions of the scalar instructions (R163 to R166), as functions of the operand words. The
sequencer has no condition flags: a comparison answers 0 or 1. -/

namespace Sys2Proof.Machine

def aluAdd (a b : Word) : Word := a + b
def aluSub (a b : Word) : Word := a - b
def aluAnd (a b : Word) : Word := a &&& b
def aluOr (a b : Word) : Word := a ||| b
def aluXor (a b : Word) : Word := a ^^^ b
def aluSll (a b : Word) : Word := a <<< (b.toNat % 32)
def aluSrl (a b : Word) : Word := a >>> (b.toNat % 32)
def aluSra (a b : Word) : Word := a.sshiftRight (b.toNat % 32)
def aluSlt (a b : Word) : Word := if a.slt b then 1 else 0
def aluSltu (a b : Word) : Word := if a.ult b then 1 else 0
def aluMul (a b : Word) : Word := a * b
/-- High half of the signed product (R163). -/
def aluMulh (a b : Word) : Word := BitVec.ofInt 32 ((a.toInt * b.toInt) / 2 ^ 32)
/-- High half of the unsigned product. -/
def aluMulhu (a b : Word) : Word := BitVec.ofNat 32 (a.toNat * b.toNat / 2 ^ 32)
def aluMin (a b : Word) : Word := if a.slt b then a else b
def aluMax (a b : Word) : Word := if a.slt b then b else a

/-- Branch conditions (R166). -/
def brEq (d a : Word) : Bool := d == a
def brNe (d a : Word) : Bool := d != a
def brLt (d a : Word) : Bool := d.slt a
def brGe (d a : Word) : Bool := !d.slt a
def brLtu (d a : Word) : Bool := d.ult a
def brGeu (d a : Word) : Bool := !d.ult a

end Sys2Proof.Machine
end

