-- ==== Sys2Proof/Machine/Regs.lean ====
section
/-! DEFINITION. The register map: the address of every register of the spec's register tables and the place of each
of its fields, under the spec's own names, and per block the masks of the field types of R6 with the reset words of R7.
Chip registers are named by their offset in register space (R256), BAR0 registers by 0x200_0000 + their BAR0 offset
(R284), core registers by coreBase of the physical slot + their offset in the core registers (R254). The bridge's send
ports of R222 stand at slot 2047, which no core has (R10: slots 17 to 31 are invalid). -/

namespace Sys2Proof.Machine.Reg

/-- A field of a register: its register's address and its bits [hi:lo] (R5). -/
structure Fld where
  addr : Nat
  hi : Nat
  lo : Nat
  deriving DecidableEq, Repr

/-- Where the core registers of physical slot `s` (R10: cluster × 32 + slot) stand in the model's register store. -/
def coreBase (s : Nat) : Nat := 0x10000000 + s * 0x10000

/-- Base of event counter `n` of a core, a router and the chip (R424). -/
def pmonCore (s n : Nat) : Nat := coreBase s + 0x7800 + n * 0x20
def pmonRouter (c n : Nat) : Nat := 0x1000100 + c * 0x10000 + n * 0x20
def pmonChip (n : Nat) : Nat := 0x100100 + n * 0x20

def CL_CTRL : Nat := 0x130000
def CL_CTRL_ENABLE : Fld := ⟨CL_CTRL, 0, 0⟩
def CL_CTRL_INGEST_EN : Fld := ⟨CL_CTRL, 1, 1⟩
def CL_CTRL_LOCK : Fld := ⟨CL_CTRL, 31, 31⟩
def CL_CFG : Nat := 0x130004
def CL_CFG_SHORT_WIN : Fld := ⟨CL_CFG, 7, 0⟩
def CL_CFG_LOS_WIN : Fld := ⟨CL_CFG, 15, 8⟩
def CL_CFG_REARM_PERIOD : Fld := ⟨CL_CFG, 31, 16⟩
def CL_IRQ_STATUS : Nat := 0x130010
def CL_IRQ_STATUS_ALARM : Fld := ⟨CL_IRQ_STATUS, 0, 0⟩
def CL_IRQ_STATUS_CTRL_FAIL : Fld := ⟨CL_IRQ_STATUS, 1, 1⟩
def CL_IRQ_STATUS_FAULT : Fld := ⟨CL_IRQ_STATUS, 2, 2⟩
def CL_IRQ_STATUS_DROP : Fld := ⟨CL_IRQ_STATUS, 3, 3⟩
def CL_IRQ_STATUS_WAKE : Fld := ⟨CL_IRQ_STATUS, 4, 4⟩
def CL_IRQ_STATUS_CROSSED : Fld := ⟨CL_IRQ_STATUS, 5, 5⟩
def CL_IRQ_EN : Nat := 0x130014
def CL_IRQ_EN_ALARM : Fld := ⟨CL_IRQ_EN, 0, 0⟩
def CL_IRQ_EN_CTRL_FAIL : Fld := ⟨CL_IRQ_EN, 1, 1⟩
def CL_IRQ_EN_FAULT : Fld := ⟨CL_IRQ_EN, 2, 2⟩
def CL_IRQ_EN_DROP : Fld := ⟨CL_IRQ_EN, 3, 3⟩
def CL_IRQ_EN_WAKE : Fld := ⟨CL_IRQ_EN, 4, 4⟩
def CL_IRQ_EN_CROSSED : Fld := ⟨CL_IRQ_EN, 5, 5⟩
def CL_WAKE_PORT : Nat := 0x130018
def CL_WAKE_PORT_PORT : Fld := ⟨CL_WAKE_PORT, 6, 0⟩
def CL_WAKE_PORT_VALID : Fld := ⟨CL_WAKE_PORT, 31, 31⟩
def CL_PORT_CFG (p : Nat) : Nat := 0x131000 + p * 0x40
def CL_PORT_CFG_EN (p : Nat) : Fld := ⟨CL_PORT_CFG p, 0, 0⟩
def CL_PORT_CFG_POL_AUTO (p : Nat) : Fld := ⟨CL_PORT_CFG p, 1, 1⟩
def CL_PORT_CFG_RX_INV (p : Nat) : Fld := ⟨CL_PORT_CFG p, 2, 2⟩
def CL_PORT_CFG_TX_INV (p : Nat) : Fld := ⟨CL_PORT_CFG p, 3, 3⟩
def CL_PORT_CFG_TXPOL_AUTO (p : Nat) : Fld := ⟨CL_PORT_CFG p, 4, 4⟩
def CL_PORT_CFG_LANE (p : Nat) : Fld := ⟨CL_PORT_CFG p, 9, 5⟩
def CL_PORT_CFG_MAP_BASE (p : Nat) : Fld := ⟨CL_PORT_CFG p, 21, 10⟩
def CL_PORT_CFG_MAP_COUNT (p : Nat) : Fld := ⟨CL_PORT_CFG p, 28, 22⟩
def CL_PORT_STAT (p : Nat) : Nat := 0x131004 + p * 0x40
def CL_PORT_STAT_STATE (p : Nat) : Fld := ⟨CL_PORT_STAT p, 3, 0⟩
def CL_PORT_STAT_FAULT (p : Nat) : Fld := ⟨CL_PORT_STAT p, 7, 4⟩
def CL_PORT_STAT_RX_INVERTED (p : Nat) : Fld := ⟨CL_PORT_STAT p, 8, 8⟩
def CL_PORT_STAT_TX_INVERTED (p : Nat) : Fld := ⟨CL_PORT_STAT p, 9, 9⟩
def CL_PORT_STAT_PEER_PORT (p : Nat) : Fld := ⟨CL_PORT_STAT p, 16, 10⟩
def CL_PORT_STAT_FIFO_LEVEL (p : Nat) : Fld := ⟨CL_PORT_STAT p, 28, 24⟩
def CL_PORT_DROP (p : Nat) : Nat := 0x131008 + p * 0x40
def CL_PORT_DROP_COUNT (p : Nat) : Fld := ⟨CL_PORT_DROP p, 31, 0⟩
def CL_PORT_PDROP (p : Nat) : Nat := 0x13100C + p * 0x40
def CL_PORT_PDROP_COUNT (p : Nat) : Fld := ⟨CL_PORT_PDROP p, 31, 0⟩
def CL_PORT_RXERR (p : Nat) : Nat := 0x131010 + p * 0x40
def CL_PORT_RXERR_CRC (p : Nat) : Fld := ⟨CL_PORT_RXERR p, 15, 0⟩
def CL_PORT_RXERR_OTHER (p : Nat) : Fld := ⟨CL_PORT_RXERR p, 31, 16⟩
def CL_PORT_SEQGAP (p : Nat) : Nat := 0x131014 + p * 0x40
def CL_PORT_SEQGAP_COUNT (p : Nat) : Fld := ⟨CL_PORT_SEQGAP p, 31, 0⟩
def CL_PORT_DELAY (p : Nat) : Nat := 0x131018 + p * 0x40
def CL_PORT_DELAY_DELAY (p : Nat) : Fld := ⟨CL_PORT_DELAY p, 15, 0⟩
def CL_PORT_PEERID (p : Nat) : Nat := 0x13101C + p * 0x40
def CL_PORT_PEERID_SERIAL (p : Nat) : Fld := ⟨CL_PORT_PEERID p, 31, 0⟩
def CL_PORT_PAUSE (p : Nat) : Nat := 0x131020 + p * 0x40
def CL_PORT_PAUSE_DURATION (p : Nat) : Fld := ⟨CL_PORT_PAUSE p, 23, 0⟩
def CL_PORT_CMD (p : Nat) : Nat := 0x131024 + p * 0x40
def CL_PORT_CMD_PAUSE (p : Nat) : Fld := ⟨CL_PORT_CMD p, 0, 0⟩
def CL_PORT_CMD_RESUME (p : Nat) : Fld := ⟨CL_PORT_CMD p, 1, 1⟩
def CL_PORT_CMD_REBRING (p : Nat) : Fld := ⟨CL_PORT_CMD p, 2, 2⟩
def CL_PORT_ALARM (p : Nat) : Nat := 0x131028 + p * 0x40
def CL_PORT_ALARM_CODE (p : Nat) : Fld := ⟨CL_PORT_ALARM p, 7, 0⟩
def CL_PORT_ALARM_SEQ (p : Nat) : Fld := ⟨CL_PORT_ALARM p, 15, 8⟩
def CL_PORT_ALARM_COUNT (p : Nat) : Fld := ⟨CL_PORT_ALARM p, 23, 16⟩
def CL_PORT_ALARM_LOST (p : Nat) : Fld := ⟨CL_PORT_ALARM p, 24, 24⟩
def TMR_IRQ_SUM (i : Nat) : Nat := 0x150010 + i * 4
def TMR_IRQ_SUM_PEND (i : Nat) : Fld := ⟨TMR_IRQ_SUM i, 31, 0⟩
def TMR_CH_CFG (k : Nat) : Nat := 0x151000 + k * 0x20
def TMR_CH_CFG_MODE (k : Nat) : Fld := ⟨TMR_CH_CFG k, 1, 0⟩
def TMR_CH_CFG_M_SELF (k : Nat) : Fld := ⟨TMR_CH_CFG k, 3, 2⟩
def TMR_CH_CFG_M_LINK (k : Nat) : Fld := ⟨TMR_CH_CFG k, 5, 4⟩
def TMR_CH_CFG_O_SELF (k : Nat) : Fld := ⟨TMR_CH_CFG k, 7, 6⟩
def TMR_CH_CFG_O_LINK (k : Nat) : Fld := ⟨TMR_CH_CFG k, 9, 8⟩
def TMR_CH_CFG_LINK (k : Nat) : Fld := ⟨TMR_CH_CFG k, 17, 10⟩
def TMR_CH_CFG_IE_MATCH (k : Nat) : Fld := ⟨TMR_CH_CFG k, 18, 18⟩
def TMR_CH_CFG_IE_OVF (k : Nat) : Fld := ⟨TMR_CH_CFG k, 19, 19⟩
def TMR_CH_DIV (k : Nat) : Nat := 0x151004 + k * 0x20
def TMR_CH_DIV_DIV_M1 (k : Nat) : Fld := ⟨TMR_CH_DIV k, 15, 0⟩
def TMR_CH_MATCH (k : Nat) : Nat := 0x151008 + k * 0x20
def TMR_CH_MATCH_MATCH (k : Nat) : Fld := ⟨TMR_CH_MATCH k, 31, 0⟩
def TMR_CH_COUNT (k : Nat) : Nat := 0x15100C + k * 0x20
def TMR_CH_COUNT_COUNT (k : Nat) : Fld := ⟨TMR_CH_COUNT k, 31, 0⟩
def TMR_CH_CMD (k : Nat) : Nat := 0x151010 + k * 0x20
def TMR_CH_CMD_START (k : Nat) : Fld := ⟨TMR_CH_CMD k, 0, 0⟩
def TMR_CH_CMD_STOP (k : Nat) : Fld := ⟨TMR_CH_CMD k, 1, 1⟩
def TMR_CH_CMD_RESET (k : Nat) : Fld := ⟨TMR_CH_CMD k, 2, 2⟩
def TMR_CH_STAT (k : Nat) : Nat := 0x151014 + k * 0x20
def TMR_CH_STAT_RUN (k : Nat) : Fld := ⟨TMR_CH_STAT k, 0, 0⟩
def TMR_CH_STAT_MATCHF (k : Nat) : Fld := ⟨TMR_CH_STAT k, 1, 1⟩
def TMR_CH_STAT_OVFF (k : Nat) : Fld := ⟨TMR_CH_STAT k, 2, 2⟩
def CAP_CTRL : Nat := 0x160000
def CAP_CTRL_EMIT_EN : Fld := ⟨CAP_CTRL, 0, 0⟩
def CAP_CTRL_LOCK : Fld := ⟨CAP_CTRL, 31, 31⟩
def CAP_CFG : Nat := 0x160004
def CAP_CFG_SHORT_WIN : Fld := ⟨CAP_CFG, 7, 0⟩
def CAP_CFG_OPEN_WIN : Fld := ⟨CAP_CFG, 15, 8⟩
def CAP_CFG_IDLE_WIN : Fld := ⟨CAP_CFG, 31, 16⟩
def CAP_IRQ_STATUS : Nat := 0x160010
def CAP_IRQ_STATUS_FAULT : Fld := ⟨CAP_IRQ_STATUS, 0, 0⟩
def CAP_IRQ_STATUS_OVW : Fld := ⟨CAP_IRQ_STATUS, 1, 1⟩
def CAP_IRQ_STATUS_QOVF : Fld := ⟨CAP_IRQ_STATUS, 2, 2⟩
def CAP_IRQ_STATUS_EMIT_LIMIT : Fld := ⟨CAP_IRQ_STATUS, 3, 3⟩
def CAP_IRQ_EN : Nat := 0x160014
def CAP_IRQ_EN_FAULT : Fld := ⟨CAP_IRQ_EN, 0, 0⟩
def CAP_IRQ_EN_OVW : Fld := ⟨CAP_IRQ_EN, 1, 1⟩
def CAP_IRQ_EN_QOVF : Fld := ⟨CAP_IRQ_EN, 2, 2⟩
def CAP_IRQ_EN_EMIT_LIMIT : Fld := ⟨CAP_IRQ_EN, 3, 3⟩
def CAP_PAIR_CFG (c : Nat) : Nat := 0x160100 + c * 0x10
def CAP_PAIR_CFG_EN (c : Nat) : Fld := ⟨CAP_PAIR_CFG c, 0, 0⟩
def CAP_PAIR_CFG_IDLE (c : Nat) : Fld := ⟨CAP_PAIR_CFG c, 1, 1⟩
def CAP_PAIR_CFG_POL_AUTO (c : Nat) : Fld := ⟨CAP_PAIR_CFG c, 2, 2⟩
def CAP_PAIR_CFG_INV (c : Nat) : Fld := ⟨CAP_PAIR_CFG c, 3, 3⟩
def CAP_PAIR_STAT (c : Nat) : Nat := 0x160104 + c * 0x10
def CAP_PAIR_STAT_LEVEL (c : Nat) : Fld := ⟨CAP_PAIR_STAT c, 0, 0⟩
def CAP_PAIR_STAT_FAULT (c : Nat) : Fld := ⟨CAP_PAIR_STAT c, 3, 1⟩
def CAP_PAIR_STAT_INVERTED (c : Nat) : Fld := ⟨CAP_PAIR_STAT c, 4, 4⟩
def CAP_PAIR_STAT_CHECKED (c : Nat) : Fld := ⟨CAP_PAIR_STAT c, 5, 5⟩
def CAP_PAIR_FCNT (c : Nat) : Nat := 0x160108 + c * 0x10
def CAP_PAIR_FCNT_COUNT (c : Nat) : Fld := ⟨CAP_PAIR_FCNT c, 15, 0⟩
def CAP_CH_CFG (k : Nat) : Nat := 0x161000 + k * 0x40
def CAP_CH_CFG_SRC (k : Nat) : Fld := ⟨CAP_CH_CFG k, 2, 0⟩
def CAP_CH_CFG_SRC_EN (k : Nat) : Fld := ⟨CAP_CH_CFG k, 3, 3⟩
def CAP_CH_CFG_EDGE (k : Nat) : Fld := ⟨CAP_CH_CFG k, 5, 4⟩
def CAP_CH_CFG_FLEN (k : Nat) : Fld := ⟨CAP_CH_CFG k, 9, 6⟩
def CAP_CH_CFG_EPRE (k : Nat) : Fld := ⟨CAP_CH_CFG k, 17, 10⟩
def CAP_CH_CFG_EMIT (k : Nat) : Fld := ⟨CAP_CH_CFG k, 18, 18⟩
def CAP_CH_CFG_EMODE (k : Nat) : Fld := ⟨CAP_CH_CFG k, 20, 19⟩
def CAP_CH_CFG_REF (k : Nat) : Fld := ⟨CAP_CH_CFG k, 28, 21⟩
def CAP_CH_KEY (k : Nat) : Nat := 0x161004 + k * 0x40
def CAP_CH_KEY_KEY (k : Nat) : Fld := ⟨CAP_CH_KEY k, 31, 0⟩
def CAP_CH_RESC (k : Nat) : Nat := 0x161008 + k * 0x40
def CAP_CH_RESC_SUB (k : Nat) : Fld := ⟨CAP_CH_RESC k, 15, 0⟩
def CAP_CH_RESC_M (k : Nat) : Fld := ⟨CAP_CH_RESC k, 31, 16⟩
def CAP_CH_RESC2 (k : Nat) : Nat := 0x16100C + k * 0x40
def CAP_CH_RESC2_S (k : Nat) : Fld := ⟨CAP_CH_RESC2 k, 4, 0⟩
def CAP_CH_RESC2_LANE (k : Nat) : Fld := ⟨CAP_CH_RESC2 k, 9, 5⟩
def CAP_CH_VAL_COUNT (k : Nat) : Nat := 0x161010 + k * 0x40
def CAP_CH_VAL_COUNT_COUNT (k : Nat) : Fld := ⟨CAP_CH_VAL_COUNT k, 31, 0⟩
def CAP_CH_VAL_STAMP (k : Nat) : Nat := 0x161014 + k * 0x40
def CAP_CH_VAL_STAMP_STAMP (k : Nat) : Fld := ⟨CAP_CH_VAL_STAMP k, 31, 0⟩
def CAP_CH_Q_COUNT (k : Nat) : Nat := 0x161018 + k * 0x40
def CAP_CH_Q_COUNT_COUNT (k : Nat) : Fld := ⟨CAP_CH_Q_COUNT k, 31, 0⟩
def CAP_CH_Q_STAMP (k : Nat) : Nat := 0x16101C + k * 0x40
def CAP_CH_Q_STAMP_STAMP (k : Nat) : Fld := ⟨CAP_CH_Q_STAMP k, 31, 0⟩
def CAP_CH_STAT (k : Nat) : Nat := 0x161020 + k * 0x40
def CAP_CH_STAT_NEW (k : Nat) : Fld := ⟨CAP_CH_STAT k, 0, 0⟩
def CAP_CH_STAT_OVW (k : Nat) : Fld := ⟨CAP_CH_STAT k, 1, 1⟩
def CAP_CH_STAT_QOVF (k : Nat) : Fld := ⟨CAP_CH_STAT k, 2, 2⟩
def CAP_CH_STAT_QLEVEL (k : Nat) : Fld := ⟨CAP_CH_STAT k, 6, 3⟩
def CAP_CH_STAT_QHEAD_EDGE (k : Nat) : Fld := ⟨CAP_CH_STAT k, 7, 7⟩
def CAP_CH_STAT_CFG_ERR (k : Nat) : Fld := ⟨CAP_CH_STAT k, 8, 8⟩
def CAP_CH_STAT_EMIT_REJ (k : Nat) : Fld := ⟨CAP_CH_STAT k, 9, 9⟩
def CAP_CH_QDROP (k : Nat) : Nat := 0x161024 + k * 0x40
def CAP_CH_QDROP_COUNT (k : Nat) : Fld := ⟨CAP_CH_QDROP k, 15, 0⟩
def CAP_CH_QDROP_NOEVT (k : Nat) : Fld := ⟨CAP_CH_QDROP k, 31, 16⟩
def CAP_CH_CMD (k : Nat) : Nat := 0x161028 + k * 0x40
def CAP_CH_CMD_POP (k : Nat) : Fld := ⟨CAP_CH_CMD k, 0, 0⟩
def RT_CFG (c : Nat) : Nat := 0x1000000 + c * 0x10000
def RT_CFG_EN (c : Nat) : Fld := ⟨RT_CFG c, 0, 0⟩
def RT_CFG_MISS_TO_HCU (c : Nat) : Fld := ⟨RT_CFG c, 1, 1⟩
def RT_CFG_LOCK (c : Nat) : Fld := ⟨RT_CFG c, 31, 31⟩
def RT_MISS_CNT (c : Nat) : Nat := 0x1000010 + c * 0x10000
def RT_MISS_CNT_COUNT (c : Nat) : Fld := ⟨RT_MISS_CNT c, 31, 0⟩
def RT_TURN_CNT (c : Nat) : Nat := 0x1000014 + c * 0x10000
def RT_TURN_CNT_COUNT (c : Nat) : Fld := ⟨RT_TURN_CNT c, 31, 0⟩
def RT_MISS_LAST (c : Nat) : Nat := 0x1000018 + c * 0x10000
def RT_MISS_LAST_KEY (c : Nat) : Fld := ⟨RT_MISS_LAST c, 31, 0⟩
def RT_BADHOP_CNT (c : Nat) : Nat := 0x100001C + c * 0x10000
def RT_BADHOP_CNT_COUNT (c : Nat) : Fld := ⟨RT_BADHOP_CNT c, 31, 0⟩
def RT_IRQ_STATUS (c : Nat) : Nat := 0x1000020 + c * 0x10000
def RT_IRQ_STATUS_MISS (c : Nat) : Fld := ⟨RT_IRQ_STATUS c, 0, 0⟩
def RT_IRQ_STATUS_TURN (c : Nat) : Fld := ⟨RT_IRQ_STATUS c, 1, 1⟩
def RT_IRQ_STATUS_MISS_RATE (c : Nat) : Fld := ⟨RT_IRQ_STATUS c, 2, 2⟩
def RT_IRQ_STATUS_BADHOP (c : Nat) : Fld := ⟨RT_IRQ_STATUS c, 3, 3⟩
def RT_IRQ_EN (c : Nat) : Nat := 0x1000024 + c * 0x10000
def RT_IRQ_EN_EN (c : Nat) : Fld := ⟨RT_IRQ_EN c, 3, 0⟩
def NI_MAP_CTRL (c : Nat) : Nat := 0x1004000 + c * 0x10000
def NI_MAP_CTRL_NEW_EPOCH (c : Nat) : Fld := ⟨NI_MAP_CTRL c, 3, 0⟩
def NI_MAP_CTRL_SWAP (c : Nat) : Fld := ⟨NI_MAP_CTRL c, 4, 4⟩
def NI_MAP_STAT (c : Nat) : Nat := 0x1004004 + c * 0x10000
def NI_MAP_STAT_EPOCH (c : Nat) : Fld := ⟨NI_MAP_STAT c, 3, 0⟩
def NI_MAP_STAT_PREV_EPOCH (c : Nat) : Fld := ⟨NI_MAP_STAT c, 7, 4⟩
def NI_MAP_STAT_DRAINED (c : Nat) : Fld := ⟨NI_MAP_STAT c, 8, 8⟩
def NI_MAP_STAT_DRAIN_LATE (c : Nat) : Fld := ⟨NI_MAP_STAT c, 9, 9⟩
def NI_MAP_STAT_SWAP_REJ (c : Nat) : Fld := ⟨NI_MAP_STAT c, 10, 10⟩
def NI_EPOCH_ERR (c : Nat) : Nat := 0x1004008 + c * 0x10000
def NI_EPOCH_ERR_COUNT (c : Nat) : Fld := ⟨NI_EPOCH_ERR c, 31, 0⟩
def NI_ABSORB_CNT (c : Nat) : Nat := 0x100400C + c * 0x10000
def NI_ABSORB_CNT_COUNT (c : Nat) : Fld := ⟨NI_ABSORB_CNT c, 31, 0⟩
def NI_MAP_SHADOW (c i : Nat) : Nat := 0x1005000 + c * 0x10000 + i * 4
def NI_MAP_SHADOW_SLOT (c i : Nat) : Fld := ⟨NI_MAP_SHADOW c i, 4, 0⟩
def NI_MAP_ACTIVE (c i : Nat) : Nat := 0x1006000 + c * 0x10000 + i * 4
def NI_MAP_ACTIVE_SLOT (c i : Nat) : Fld := ⟨NI_MAP_ACTIVE c i, 4, 0⟩
def NI_CFG (s : Nat) : Nat := coreBase s + 0x800
def NI_CFG_PATH_EXC (s : Nat) : Fld := ⟨NI_CFG s, 0, 0⟩
def NI_CFG_REQ_TO (s : Nat) : Fld := ⟨NI_CFG s, 31, 16⟩
def NI_STAT (s : Nat) : Nat := coreBase s + 0x804
def NI_STAT_OUTSTANDING (s : Nat) : Fld := ⟨NI_STAT s, 4, 0⟩
def NI_STAT_EPOCH (s : Nat) : Fld := ⟨NI_STAT s, 8, 5⟩
def NI_STAT_LATE_HELD (s : Nat) : Fld := ⟨NI_STAT s, 13, 9⟩
def NI_PATH_ERR (s : Nat) : Nat := coreBase s + 0x808
def NI_PATH_ERR_ILLEGAL (s : Nat) : Fld := ⟨NI_PATH_ERR s, 15, 0⟩
def NI_PATH_ERR_OTHER (s : Nat) : Fld := ⟨NI_PATH_ERR s, 31, 16⟩
def NI_TIMEOUT_CNT (s : Nat) : Nat := coreBase s + 0x80C
def NI_TIMEOUT_CNT_COUNT (s : Nat) : Fld := ⟨NI_TIMEOUT_CNT s, 15, 0⟩
def NI_TIMEOUT_CNT_NI_LATE_RSP (s : Nat) : Fld := ⟨NI_TIMEOUT_CNT s, 31, 16⟩
def NI_BAD_PKT (s : Nat) : Nat := coreBase s + 0x810
def NI_BAD_PKT_COUNT (s : Nat) : Fld := ⟨NI_BAD_PKT s, 31, 0⟩
def NE_CFG (s : Nat) : Nat := coreBase s + 0x1000
def NE_CFG_LANES (s : Nat) : Fld := ⟨NE_CFG s, 2, 0⟩
def NE_CFG_SCRUB_EN (s : Nat) : Fld := ⟨NE_CFG s, 3, 3⟩
def NE_CFG_EMIT_TO (s : Nat) : Fld := ⟨NE_CFG s, 30, 16⟩
def NE_CFG_LOCK (s : Nat) : Fld := ⟨NE_CFG s, 31, 31⟩
def NE_STAT (s : Nat) : Nat := coreBase s + 0x1004
def NE_STAT_BUSY (s : Nat) : Fld := ⟨NE_STAT s, 0, 0⟩
def NE_STAT_CFG_ERR (s : Nat) : Fld := ⟨NE_STAT s, 1, 1⟩
def NE_STAT_INQ (s : Nat) : Fld := ⟨NE_STAT s, 8, 2⟩
def NE_STAT_LOOPQ (s : Nat) : Fld := ⟨NE_STAT s, 14, 9⟩
def NE_STAT_UOP_ERR (s : Nat) : Fld := ⟨NE_STAT s, 15, 15⟩
def NE_DROP_CNT (s : Nat) : Nat := coreBase s + 0x1008
def NE_DROP_CNT_COUNT (s : Nat) : Fld := ⟨NE_DROP_CNT s, 31, 0⟩
def NE_LATE_CNT (s : Nat) : Nat := coreBase s + 0x100C
def NE_LATE_CNT_COUNT (s : Nat) : Fld := ⟨NE_LATE_CNT s, 31, 0⟩
def NE_EMIT_DROP (s : Nat) : Nat := coreBase s + 0x1010
def NE_EMIT_DROP_COUNT (s : Nat) : Fld := ⟨NE_EMIT_DROP s, 31, 0⟩
def NE_FLAG_IDX (s : Nat) : Nat := coreBase s + 0x1014
def NE_FLAG_IDX_SLOT (s : Nat) : Fld := ⟨NE_FLAG_IDX s, 15, 0⟩
def NE_FLAG_DATA (s : Nat) : Nat := coreBase s + 0x1018
def NE_FLAG_DATA_FLAGS (s : Nat) : Fld := ⟨NE_FLAG_DATA s, 3, 0⟩
def NE_POP_RANGE (s i : Nat) : Nat := coreBase s + 0x1100 + i * 0x20
def NE_POP_RANGE_FIRST (s i : Nat) : Fld := ⟨NE_POP_RANGE s i, 13, 0⟩
def NE_POP_RANGE_COUNT (s i : Nat) : Fld := ⟨NE_POP_RANGE s i, 28, 14⟩
def NE_POP_CFG (s i : Nat) : Nat := coreBase s + 0x1104 + i * 0x20
def NE_POP_CFG_VALID (s i : Nat) : Fld := ⟨NE_POP_CFG s i, 0, 0⟩
def NE_POP_CFG_RESET_MODE (s i : Nat) : Fld := ⟨NE_POP_CFG s i, 1, 1⟩
def NE_POP_CFG_DENSE (s i : Nat) : Fld := ⟨NE_POP_CFG s i, 2, 2⟩
def NE_POP_CFG_ZSKIP (s i : Nat) : Fld := ⟨NE_POP_CFG s i, 3, 3⟩
def NE_POP_CFG_EMIT (s i : Nat) : Fld := ⟨NE_POP_CFG s i, 5, 4⟩
def NE_POP_CFG_LEARN (s i : Nat) : Fld := ⟨NE_POP_CFG s i, 6, 6⟩
def NE_POP_CFG_ULEN (s i : Nat) : Fld := ⟨NE_POP_CFG s i, 13, 7⟩
def NE_POP_CFG_UBASE (s i : Nat) : Fld := ⟨NE_POP_CFG s i, 23, 14⟩
def NE_POP_THETA (s i : Nat) : Nat := coreBase s + 0x1108 + i * 0x20
def NE_POP_THETA_THETA (s i : Nat) : Fld := ⟨NE_POP_THETA s i, 31, 0⟩
def NE_POP_RESC (s i : Nat) : Nat := coreBase s + 0x110C + i * 0x20
def NE_POP_RESC_M (s i : Nat) : Fld := ⟨NE_POP_RESC s i, 15, 0⟩
def NE_POP_RESC_S (s i : Nat) : Fld := ⟨NE_POP_RESC s i, 20, 16⟩
def NE_POP_RESC_USER (s i : Nat) : Fld := ⟨NE_POP_RESC s i, 31, 24⟩
def NE_POP_REFR (s i : Nat) : Nat := coreBase s + 0x1110 + i * 0x20
def NE_POP_REFR_REFR_T (s i : Nat) : Fld := ⟨NE_POP_REFR s i, 12, 0⟩
def NE_POP_REFR_REFR_EN (s i : Nat) : Fld := ⟨NE_POP_REFR s i, 13, 13⟩
def NE_POP_TRACE (s i : Nat) : Nat := coreBase s + 0x1114 + i * 0x20
def NE_POP_TRACE_Y1_INC (s i : Nat) : Fld := ⟨NE_POP_TRACE s i, 7, 0⟩
def NE_POP_TRACE_Y2_INC (s i : Nat) : Fld := ⟨NE_POP_TRACE s i, 15, 8⟩
def MX_CFG (s : Nat) : Nat := coreBase s + 0x2000
def MX_CFG_GANG (s : Nat) : Fld := ⟨MX_CFG s, 0, 0⟩
def MX_CFG_LOCK (s : Nat) : Fld := ⟨MX_CFG s, 31, 31⟩
def MX_STAT (s : Nat) : Nat := coreBase s + 0x2004
def MX_STAT_BUSY (s : Nat) : Fld := ⟨MX_STAT s, 0, 0⟩
def MX_STAT_OWNER (s : Nat) : Fld := ⟨MX_STAT s, 1, 1⟩
def MX_STAT_BANKS (s : Nat) : Fld := ⟨MX_STAT s, 3, 2⟩
def MX_STAT_FMT_ERR (s : Nat) : Fld := ⟨MX_STAT s, 4, 4⟩
def MX_IN_RANGE_KEY (s i : Nat) : Nat := coreBase s + 0x2100 + i * 0x10
def MX_IN_RANGE_KEY_KEY (s i : Nat) : Fld := ⟨MX_IN_RANGE_KEY s i, 31, 0⟩
def MX_IN_RANGE_MASK (s i : Nat) : Nat := coreBase s + 0x2104 + i * 0x10
def MX_IN_RANGE_MASK_MASK (s i : Nat) : Fld := ⟨MX_IN_RANGE_MASK s i, 31, 0⟩
def MX_IN_RANGE_CFG (s i : Nat) : Nat := coreBase s + 0x2108 + i * 0x10
def MX_IN_RANGE_CFG_IDX_LO (s i : Nat) : Fld := ⟨MX_IN_RANGE_CFG s i, 4, 0⟩
def MX_IN_RANGE_CFG_IDX_W (s i : Nat) : Fld := ⟨MX_IN_RANGE_CFG s i, 8, 5⟩
def MX_IN_RANGE_CFG_POP (s i : Nat) : Fld := ⟨MX_IN_RANGE_CFG s i, 12, 9⟩
def MX_IN_RANGE_CFG_W8 (s i : Nat) : Fld := ⟨MX_IN_RANGE_CFG s i, 13, 13⟩
def MX_IN_RANGE_CFG_VALID (s i : Nat) : Fld := ⟨MX_IN_RANGE_CFG s i, 31, 31⟩
def MX_IN_RANGE_BASE (s i : Nat) : Nat := coreBase s + 0x210C + i * 0x10
def MX_IN_RANGE_BASE_WBASE (s i : Nat) : Fld := ⟨MX_IN_RANGE_BASE s i, 19, 0⟩
def MX_FMT_ERR (s : Nat) : Nat := coreBase s + 0x2008
def MX_FMT_ERR_COUNT (s : Nat) : Fld := ⟨MX_FMT_ERR s, 31, 0⟩
def CORE_CTRL (s : Nat) : Nat := coreBase s + 0x0
def CORE_CTRL_RUN (s : Nat) : Fld := ⟨CORE_CTRL s, 0, 0⟩
def CORE_CTRL_HALT (s : Nat) : Fld := ⟨CORE_CTRL s, 1, 1⟩
def CORE_STAT (s : Nat) : Nat := coreBase s + 0x4
def CORE_STAT_STATE (s : Nat) : Fld := ⟨CORE_STAT s, 1, 0⟩
def CORE_STAT_INEXC (s : Nat) : Fld := ⟨CORE_STAT s, 2, 2⟩
def CORE_STAT_HOLD (s : Nat) : Fld := ⟨CORE_STAT s, 3, 3⟩
def CORE_STAT_HCAUSE (s : Nat) : Fld := ⟨CORE_STAT s, 6, 4⟩
def CORE_STAT_HALT_CODE (s : Nat) : Fld := ⟨CORE_STAT s, 23, 8⟩
def CORE_PC (s : Nat) : Nat := coreBase s + 0x8
def CORE_PC_PC (s : Nat) : Fld := ⟨CORE_PC s, 15, 0⟩
def CORE_CFG (s : Nat) : Nat := coreBase s + 0xC
def CORE_CFG_EXC_EN (s : Nat) : Fld := ⟨CORE_CFG s, 0, 0⟩
def CORE_CFG_MEMERR_EXC (s : Nat) : Fld := ⟨CORE_CFG s, 1, 1⟩
def CORE_CFG_ORPHAN_EXC (s : Nat) : Fld := ⟨CORE_CFG s, 2, 2⟩
def CORE_EVEC (s : Nat) : Nat := coreBase s + 0x10
def CORE_EVEC_VEC (s : Nat) : Fld := ⟨CORE_EVEC s, 15, 0⟩
def CORE_EPC (s : Nat) : Nat := coreBase s + 0x14
def CORE_EPC_EPC (s : Nat) : Fld := ⟨CORE_EPC s, 15, 0⟩
def CORE_CAUSE (s : Nat) : Nat := coreBase s + 0x18
def CORE_CAUSE_CAUSE (s : Nat) : Fld := ⟨CORE_CAUSE s, 3, 0⟩
def CORE_CAUSE_STATUS (s : Nat) : Fld := ⟨CORE_CAUSE s, 15, 8⟩
def CORE_EINFO (s : Nat) : Nat := coreBase s + 0x1C
def CORE_EINFO_INFO (s : Nat) : Fld := ⟨CORE_EINFO s, 31, 0⟩
def CORE_CYCLE (s : Nat) : Nat := coreBase s + 0x20
def CORE_CYCLE_COUNT (s : Nat) : Fld := ⟨CORE_CYCLE s, 31, 0⟩
def CORE_MEMERR (s : Nat) : Nat := coreBase s + 0x24
def CORE_MEMERR_STATUS (s : Nat) : Fld := ⟨CORE_MEMERR s, 7, 0⟩
def CORE_MEMERR_ADDR_HI (s : Nat) : Fld := ⟨CORE_MEMERR s, 23, 8⟩
def CORE_MEMERR_COUNT (s : Nat) : Fld := ⟨CORE_MEMERR s, 31, 24⟩
def NE_UOP (s i : Nat) : Nat := coreBase s + 0x6000 + i * 4
def NE_UOP_OPWORD (s i : Nat) : Fld := ⟨NE_UOP s i, 31, 0⟩
def LRN_CFG (s : Nat) : Nat := coreBase s + 0x3000
def LRN_CFG_FREEZE (s : Nat) : Fld := ⟨LRN_CFG s, 0, 0⟩
def LRN_CFG_RQ_EN (s : Nat) : Fld := ⟨LRN_CFG s, 1, 1⟩
def LRN_CFG_RQ (s : Nat) : Fld := ⟨LRN_CFG s, 3, 2⟩
def LRN_STAT (s : Nat) : Nat := coreBase s + 0x3004
def LRN_STAT_QLEVEL (s : Nat) : Fld := ⟨LRN_STAT s, 4, 0⟩
def LRN_STAT_BUSY (s : Nat) : Fld := ⟨LRN_STAT s, 5, 5⟩
def LRN_SEED (s : Nat) : Nat := coreBase s + 0x3008
def LRN_SEED_STATE (s : Nat) : Fld := ⟨LRN_SEED s, 31, 0⟩
def LRN_SAT_CNT (s : Nat) : Nat := coreBase s + 0x300C
def LRN_SAT_CNT_COUNT (s : Nat) : Fld := ⟨LRN_SAT_CNT s, 31, 0⟩
def LRN_LATE_CNT (s : Nat) : Nat := coreBase s + 0x3010
def LRN_LATE_CNT_COUNT (s : Nat) : Fld := ⟨LRN_LATE_CNT s, 31, 0⟩
def LRN_ERR_CNT (s : Nat) : Nat := coreBase s + 0x3014
def LRN_ERR_CNT_ROW (s : Nat) : Fld := ⟨LRN_ERR_CNT s, 15, 0⟩
def LRN_ERR_CNT_RQ (s : Nat) : Fld := ⟨LRN_ERR_CNT s, 31, 16⟩
def LRN_POP_TERM01 (s i : Nat) : Nat := coreBase s + 0x3100 + i * 0x10
def LRN_POP_TERM01_TERM0 (s i : Nat) : Fld := ⟨LRN_POP_TERM01 s i, 15, 0⟩
def LRN_POP_TERM01_TERM1 (s i : Nat) : Fld := ⟨LRN_POP_TERM01 s i, 31, 16⟩
def LRN_POP_TERM23 (s i : Nat) : Nat := coreBase s + 0x3104 + i * 0x10
def LRN_POP_TERM23_TERM2 (s i : Nat) : Fld := ⟨LRN_POP_TERM23 s i, 15, 0⟩
def LRN_POP_TERM23_TERM3 (s i : Nat) : Fld := ⟨LRN_POP_TERM23 s i, 31, 16⟩
def LRN_POP_CFG (s i : Nat) : Nat := coreBase s + 0x3108 + i * 0x10
def LRN_POP_CFG_CEXP (s i : Nat) : Fld := ⟨LRN_POP_CFG s i, 3, 0⟩
def LRN_POP_CFG_X1_INC (s i : Nat) : Fld := ⟨LRN_POP_CFG s i, 15, 8⟩
def LRN_POP_CFG_X2_INC (s i : Nat) : Fld := ⟨LRN_POP_CFG s i, 23, 16⟩
def LRN_RANGE_CFG (s i : Nat) : Nat := coreBase s + 0x3200 + i * 8
def LRN_RANGE_CFG_NROWS (s i : Nat) : Fld := ⟨LRN_RANGE_CFG s i, 12, 0⟩
def LRN_RANGE_XBASE (s i : Nat) : Nat := coreBase s + 0x3204 + i * 8
def LRN_RANGE_XBASE_XBASE (s i : Nat) : Fld := ⟨LRN_RANGE_XBASE s i, 18, 2⟩
def LRN_R (s i : Nat) : Nat := coreBase s + 0x3300 + i * 4
def LRN_R_R (s i : Nat) : Fld := ⟨LRN_R s i, 7, 0⟩
def WADI_CTRL (s : Nat) : Nat := coreBase s + 0x5000
def WADI_CTRL_LOCK (s : Nat) : Fld := ⟨WADI_CTRL s, 31, 31⟩
def WADI_Q_STAT (s i : Nat) : Nat := coreBase s + 0x5010 + i * 0x10
def WADI_Q_STAT_STATE (s i : Nat) : Fld := ⟨WADI_Q_STAT s i, 0, 0⟩
def WADI_Q_STAT_LEVEL (s i : Nat) : Fld := ⟨WADI_Q_STAT s i, 6, 1⟩
def WADI_Q_STAT_TUPLES (s i : Nat) : Fld := ⟨WADI_Q_STAT s i, 12, 7⟩
def WADI_Q_STAT_OVF (s i : Nat) : Fld := ⟨WADI_Q_STAT s i, 13, 13⟩
def WADI_Q_DISCARD (s i : Nat) : Nat := coreBase s + 0x5014 + i * 0x10
def WADI_Q_DISCARD_DRAINED (s i : Nat) : Fld := ⟨WADI_Q_DISCARD s i, 15, 0⟩
def WADI_Q_DISCARD_OVF (s i : Nat) : Fld := ⟨WADI_Q_DISCARD s i, 31, 16⟩
def WADI_SPORT_CFG (s i : Nat) : Nat := coreBase s + 0x5100 + i * 0x10
def WADI_SPORT_CFG_WADI (s i : Nat) : Fld := ⟨WADI_SPORT_CFG s i, 11, 0⟩
def WADI_SPORT_CFG_CREDITS (s i : Nat) : Fld := ⟨WADI_SPORT_CFG s i, 17, 12⟩
def WADI_SPORT_CFG_BOUND (s i : Nat) : Fld := ⟨WADI_SPORT_CFG s i, 18, 18⟩
def WADI_SPORT_ROUTE_LO (s i : Nat) : Nat := coreBase s + 0x5104 + i * 0x10
def WADI_SPORT_ROUTE_LO_ROUTE_LO (s i : Nat) : Fld := ⟨WADI_SPORT_ROUTE_LO s i, 31, 0⟩
def WADI_SPORT_ROUTE_HI (s i : Nat) : Nat := coreBase s + 0x5108 + i * 0x10
def WADI_SPORT_ROUTE_HI_ROUTE_HI (s i : Nat) : Fld := ⟨WADI_SPORT_ROUTE_HI s i, 15, 0⟩
def WADI_SPORT_STAT (s i : Nat) : Nat := coreBase s + 0x510C + i * 0x10
def WADI_SPORT_STAT_CRED (s i : Nat) : Fld := ⟨WADI_SPORT_STAT s i, 5, 0⟩
def WADI_SPORT_STAT_ORPHAN (s i : Nat) : Fld := ⟨WADI_SPORT_STAT s i, 6, 6⟩
def SYNC_CFG (s i : Nat) : Nat := coreBase s + 0x5800 + i * 0x20
def SYNC_CFG_TYPE (s i : Nat) : Fld := ⟨SYNC_CFG s i, 1, 0⟩
def SYNC_CFG_CONSUME (s i : Nat) : Fld := ⟨SYNC_CFG s i, 2, 2⟩
def SYNC_VALUE (s i : Nat) : Nat := coreBase s + 0x5804 + i * 0x20
def SYNC_VALUE_VALUE (s i : Nat) : Fld := ⟨SYNC_VALUE s i, 31, 0⟩
def SYNC_TARGET (s i : Nat) : Nat := coreBase s + 0x5808 + i * 0x20
def SYNC_TARGET_TARGET (s i : Nat) : Fld := ⟨SYNC_TARGET s i, 31, 0⟩
def SYNC_STAT (s i : Nat) : Nat := coreBase s + 0x580C + i * 0x20
def SYNC_STAT_SAT (s i : Nat) : Fld := ⟨SYNC_STAT s i, 0, 0⟩
def SYNC_STAT_BAR_OVR (s i : Nat) : Fld := ⟨SYNC_STAT s i, 1, 1⟩
def SYNC_STAT_GEN (s i : Nat) : Fld := ⟨SYNC_STAT s i, 31, 16⟩
def SYNC_ADD (s i : Nat) : Nat := coreBase s + 0x5810 + i * 0x20
def SYNC_ADD_X (s i : Nat) : Fld := ⟨SYNC_ADD s i, 31, 0⟩
def SYNC_ARRIVE (s i : Nat) : Nat := coreBase s + 0x5814 + i * 0x20
def SYNC_ARRIVE_GO (s i : Nat) : Fld := ⟨SYNC_ARRIVE s i, 0, 0⟩
def SYNC_ALARM (s i : Nat) : Nat := coreBase s + 0x5818 + i * 0x20
def SYNC_ALARM_ALARM (s i : Nat) : Fld := ⟨SYNC_ALARM s i, 23, 0⟩
def SYNC_ALARM_ARMED (s i : Nat) : Fld := ⟨SYNC_ALARM s i, 31, 31⟩
def DUNE_SHARE : Nat := 0x120000
def DUNE_SHARE_SHARE : Fld := ⟨DUNE_SHARE, 6, 0⟩
def DUNE_STAT : Nat := 0x120004
def DUNE_STAT_STATE : Fld := ⟨DUNE_STAT, 2, 0⟩
def DUNE_STAT_LAST : Fld := ⟨DUNE_STAT, 15, 8⟩
def DUNE_STAT_ROT : Fld := ⟨DUNE_STAT, 16, 16⟩
def DUNE_STAT_MULTI : Fld := ⟨DUNE_STAT, 17, 17⟩
def DUNE_SWEEP_LO : Nat := 0x120008
def DUNE_SWEEP_LO_DONE : Fld := ⟨DUNE_SWEEP_LO, 31, 0⟩
def DUNE_SWEEP_HI : Nat := 0x12000C
def DUNE_SWEEP_HI_DONE : Fld := ⟨DUNE_SWEEP_HI, 0, 0⟩
def DUNE_BEST_LO : Nat := 0x120010
def DUNE_BEST_LO_E : Fld := ⟨DUNE_BEST_LO, 31, 0⟩
def DUNE_BEST_HI : Nat := 0x120014
def DUNE_BEST_HI_E : Fld := ⟨DUNE_BEST_HI, 31, 0⟩
def DUNE_CMD : Nat := 0x120018
def DUNE_CMD_PAUSE : Fld := ⟨DUNE_CMD, 0, 0⟩
def DUNE_CMD_RESUME : Fld := ⟨DUNE_CMD, 1, 1⟩
def DUNE_CMD_ABORT : Fld := ⟨DUNE_CMD, 2, 2⟩
def DUNE_PAUSE : Nat := 0x12001C
def DUNE_PAUSE_DURATION : Fld := ⟨DUNE_PAUSE, 31, 0⟩
def DUNE_IRQ_STATUS : Nat := 0x120020
def DUNE_IRQ_STATUS_DONE : Fld := ⟨DUNE_IRQ_STATUS, 0, 0⟩
def DUNE_IRQ_STATUS_PAUSED : Fld := ⟨DUNE_IRQ_STATUS, 1, 1⟩
def DUNE_IRQ_STATUS_BEST : Fld := ⟨DUNE_IRQ_STATUS, 2, 2⟩
def DUNE_IRQ_EN : Nat := 0x120024
def DUNE_IRQ_EN_EN : Fld := ⟨DUNE_IRQ_EN, 2, 0⟩
def DUNE_SLICE_CNT : Nat := 0x120028
def DUNE_SLICE_CNT_COUNT : Fld := ⟨DUNE_SLICE_CNT, 31, 0⟩
def XBAR_CTRL : Nat := 0x70000
def XBAR_CTRL_LOCK : Fld := ⟨XBAR_CTRL, 31, 31⟩
def XBAR_STAT : Nat := 0x70004
def XBAR_STAT_SLICE : Fld := ⟨XBAR_STAT, 5, 0⟩
def XBAR_ERR_INFO : Nat := 0x70010
def XBAR_ERR_INFO_ADDR_LO : Fld := ⟨XBAR_ERR_INFO, 31, 0⟩
def XBAR_ERR_INFO_HI : Nat := 0x70014
def XBAR_ERR_INFO_HI_ADDR_HI : Fld := ⟨XBAR_ERR_INFO_HI, 15, 0⟩
def XBAR_ERR_INFO_HI_MASTER : Fld := ⟨XBAR_ERR_INFO_HI, 19, 16⟩
def XBAR_ERR_INFO_HI_TARGET : Fld := ⟨XBAR_ERR_INFO_HI, 22, 20⟩
def XBAR_ERR_CNT : Nat := 0x70018
def XBAR_ERR_CNT_COUNT : Fld := ⟨XBAR_ERR_CNT, 31, 0⟩
def XBAR_IRQ_STATUS : Nat := 0x70020
def XBAR_IRQ_STATUS_ERR : Fld := ⟨XBAR_IRQ_STATUS, 0, 0⟩
def XBAR_IRQ_EN : Nat := 0x70024
def XBAR_IRQ_EN_ERR : Fld := ⟨XBAR_IRQ_EN, 0, 0⟩
def XBAR_PORT_CFG (m : Nat) : Nat := 0x70100 + m * 4
def XBAR_PORT_CFG_MODE (m : Nat) : Fld := ⟨XBAR_PORT_CFG m, 0, 0⟩
def XBAR_PORT_STAT (m : Nat) : Nat := 0x70180 + m * 4
def XBAR_PORT_STAT_OUTSTANDING (m : Nat) : Fld := ⟨XBAR_PORT_STAT m, 5, 0⟩
def XBAR_DMA_D (e i : Nat) : Nat := 0x71000 + e * 0x100 + i * 4
def XBAR_DMA_D_WORD (e i : Nat) : Fld := ⟨XBAR_DMA_D e i, 31, 0⟩
def XBAR_DMA_COMMIT (e : Nat) : Nat := 0x71020 + e * 0x100
def XBAR_DMA_COMMIT_STATUS (e : Nat) : Fld := ⟨XBAR_DMA_COMMIT e, 7, 0⟩
def XBAR_DMA_STAT (e : Nat) : Nat := 0x71024 + e * 0x100
def XBAR_DMA_STAT_LEVEL (e : Nat) : Fld := ⟨XBAR_DMA_STAT e, 8, 0⟩
def XBAR_DMA_STAT_BUSY (e : Nat) : Fld := ⟨XBAR_DMA_STAT e, 9, 9⟩
def XBAR_DMA_STAT_ERR (e : Nat) : Fld := ⟨XBAR_DMA_STAT e, 10, 10⟩
def XBAR_DMA_STAT_ERR_STATUS (e : Nat) : Fld := ⟨XBAR_DMA_STAT e, 23, 16⟩
def XBAR_DMA_DONE (e : Nat) : Nat := 0x71028 + e * 0x100
def XBAR_DMA_DONE_COUNT (e : Nat) : Fld := ⟨XBAR_DMA_DONE e, 31, 0⟩
def XBAR_DMA_LASTTAG (e : Nat) : Nat := 0x7102C + e * 0x100
def XBAR_DMA_LASTTAG_TAG (e : Nat) : Fld := ⟨XBAR_DMA_LASTTAG e, 31, 0⟩
def XBAR_DMA_CTRL (e : Nat) : Nat := 0x71030 + e * 0x100
def XBAR_DMA_CTRL_ABORT (e : Nat) : Fld := ⟨XBAR_DMA_CTRL e, 0, 0⟩
def DDR_CFG (ch : Nat) : Nat := 0x80000 + ch * 0x10000
def DDR_CFG_RATE (ch : Nat) : Fld := ⟨DDR_CFG ch, 1, 0⟩
def DDR_CFG_DERATE_RATE (ch : Nat) : Fld := ⟨DDR_CFG ch, 3, 2⟩
def DDR_CFG_RANKS (ch : Nat) : Fld := ⟨DDR_CFG ch, 4, 4⟩
def DDR_CFG_CAP_GIB (ch : Nat) : Fld := ⟨DDR_CFG ch, 10, 5⟩
def DDR_CFG_IECC (ch : Nat) : Fld := ⟨DDR_CFG ch, 11, 11⟩
def DDR_CFG_LOCK (ch : Nat) : Fld := ⟨DDR_CFG ch, 31, 31⟩
def DDR_STAT (ch : Nat) : Nat := 0x80004 + ch * 0x10000
def DDR_STAT_TRAINED (ch : Nat) : Fld := ⟨DDR_STAT ch, 0, 0⟩
def DDR_STAT_FSP (ch : Nat) : Fld := ⟨DDR_STAT ch, 1, 1⟩
def DDR_STAT_REFX2 (ch : Nat) : Fld := ⟨DDR_STAT ch, 2, 2⟩
def DDR_STAT_MR4 (ch : Nat) : Fld := ⟨DDR_STAT ch, 10, 8⟩
def DDR_TRACK (ch : Nat) : Nat := 0x80008 + ch * 0x10000
def DDR_TRACK_PERIOD (ch : Nat) : Fld := ⟨DDR_TRACK ch, 15, 0⟩
def DDR_ECC_CNT (ch : Nat) : Nat := 0x80010 + ch * 0x10000
def DDR_ECC_CNT_CORR (ch : Nat) : Fld := ⟨DDR_ECC_CNT ch, 15, 0⟩
def DDR_ECC_CNT_UNCORR (ch : Nat) : Fld := ⟨DDR_ECC_CNT ch, 31, 16⟩
def DDR_ECC_ADDR_LO (ch : Nat) : Nat := 0x80014 + ch * 0x10000
def DDR_ECC_ADDR_LO_ADDR (ch : Nat) : Fld := ⟨DDR_ECC_ADDR_LO ch, 31, 0⟩
def DDR_ECC_ADDR_HI (ch : Nat) : Nat := 0x80018 + ch * 0x10000
def DDR_ECC_ADDR_HI_ADDR (ch : Nat) : Fld := ⟨DDR_ECC_ADDR_HI ch, 15, 0⟩
def DDR_IRQ_STATUS (ch : Nat) : Nat := 0x80020 + ch * 0x10000
def DDR_IRQ_STATUS_ECC_CE (ch : Nat) : Fld := ⟨DDR_IRQ_STATUS ch, 0, 0⟩
def DDR_IRQ_STATUS_ECC_UE (ch : Nat) : Fld := ⟨DDR_IRQ_STATUS ch, 1, 1⟩
def DDR_IRQ_STATUS_REFX2 (ch : Nat) : Fld := ⟨DDR_IRQ_STATUS ch, 2, 2⟩
def DDR_IRQ_STATUS_DERATE (ch : Nat) : Fld := ⟨DDR_IRQ_STATUS ch, 3, 3⟩
def DDR_IRQ_STATUS_TRAIN_FAIL (ch : Nat) : Fld := ⟨DDR_IRQ_STATUS ch, 4, 4⟩
def DDR_IRQ_EN (ch : Nat) : Nat := 0x80024 + ch * 0x10000
def DDR_IRQ_EN_EN (ch : Nat) : Fld := ⟨DDR_IRQ_EN ch, 4, 0⟩
def BW_DELIV : Nat := 0xA0000
def BW_DELIV_D : Fld := ⟨BW_DELIV, 7, 0⟩
def BW_DELIV_C : Fld := ⟨BW_DELIV, 15, 8⟩
def BW_STAT : Nat := 0xA0004
def BW_STAT_SUM : Fld := ⟨BW_STAT, 7, 0⟩
def BW_STAT_ADMIT_ERR : Fld := ⟨BW_STAT, 8, 8⟩
def BW_STAT_SHED_MASK : Fld := ⟨BW_STAT, 20, 16⟩
def BW_RES (n : Nat) : Nat := 0xA0010 + n * 4
def BW_RES_GBPS (n : Nat) : Fld := ⟨BW_RES n, 7, 0⟩
def BW_RES_SHED (n : Nat) : Fld := ⟨BW_RES n, 8, 8⟩
def BW_IRQ_STATUS : Nat := 0xA0030
def BW_IRQ_STATUS_SHED : Fld := ⟨BW_IRQ_STATUS, 4, 0⟩
def BW_IRQ_EN : Nat := 0xA0034
def BW_IRQ_EN_EN : Fld := ⟨BW_IRQ_EN, 4, 0⟩
def BUF_FREE : Nat := 0xB0010
def BUF_FREE_HANDLE : Fld := ⟨BUF_FREE, 17, 0⟩
def BUF_ERR : Nat := 0xB0014
def BUF_ERR_DFREE : Fld := ⟨BUF_ERR, 15, 0⟩
def BUF_ERR_WOVF : Fld := ⟨BUF_ERR, 31, 16⟩
def BUF_IRQ_STATUS : Nat := 0xB0020
def BUF_IRQ_STATUS_GRANT : Fld := ⟨BUF_IRQ_STATUS, 13, 0⟩
def BUF_IRQ_EN : Nat := 0xB0024
def BUF_IRQ_EN_EN : Fld := ⟨BUF_IRQ_EN, 13, 0⟩
def BUF_POOL_BASE_LO (p : Nat) : Nat := 0xB0100 + p * 0x20
def BUF_POOL_BASE_LO_BASE (p : Nat) : Fld := ⟨BUF_POOL_BASE_LO p, 31, 0⟩
def BUF_POOL_BASE_HI (p : Nat) : Nat := 0xB0104 + p * 0x20
def BUF_POOL_BASE_HI_BASE (p : Nat) : Fld := ⟨BUF_POOL_BASE_HI p, 15, 0⟩
def BUF_POOL_CFG (p : Nat) : Nat := 0xB0108 + p * 0x20
def BUF_POOL_CFG_SIZE_LOG2 (p : Nat) : Fld := ⟨BUF_POOL_CFG p, 4, 0⟩
def BUF_POOL_CFG_COUNT (p : Nat) : Fld := ⟨BUF_POOL_CFG p, 21, 5⟩
def BUF_POOL_CFG_EN (p : Nat) : Fld := ⟨BUF_POOL_CFG p, 22, 22⟩
def BUF_POOL_WAIT_TO (p : Nat) : Nat := 0xB010C + p * 0x20
def BUF_POOL_WAIT_TO_TO (p : Nat) : Fld := ⟨BUF_POOL_WAIT_TO p, 23, 0⟩
def BUF_POOL_STAT (p : Nat) : Nat := 0xB0110 + p * 0x20
def BUF_POOL_STAT_FREE (p : Nat) : Fld := ⟨BUF_POOL_STAT p, 16, 0⟩
def BUF_POOL_STAT_WAITERS (p : Nat) : Fld := ⟨BUF_POOL_STAT p, 20, 17⟩
def BUF_POOL_STAT_PTR (p : Nat) : Fld := ⟨BUF_POOL_STAT p, 27, 24⟩
def BUF_POOL_ALLOC (p : Nat) : Nat := 0xB0114 + p * 0x20
def BUF_POOL_ALLOC_RESULT (p : Nat) : Fld := ⟨BUF_POOL_ALLOC p, 31, 0⟩
def BUF_POOL_WALLOC (p : Nat) : Nat := 0xB0118 + p * 0x20
def BUF_POOL_WALLOC_RESULT (p : Nat) : Fld := ⟨BUF_POOL_WALLOC p, 31, 0⟩
def BUF_GRANT (m : Nat) : Nat := 0xB0400 + m * 4
def BUF_GRANT_HANDLE (m : Nat) : Fld := ⟨BUF_GRANT m, 17, 0⟩
def BUF_GRANT_TIMEOUT (m : Nat) : Fld := ⟨BUF_GRANT m, 30, 30⟩
def BUF_GRANT_VALID (m : Nat) : Fld := ⟨BUF_GRANT m, 31, 31⟩
def MBX_DB : Nat := 0x2001000
def MBX_DB_POST : Fld := ⟨MBX_DB, 15, 0⟩
def MBX_RELEASE : Nat := 0x2001004
def MBX_RELEASE_FREE : Fld := ⟨MBX_RELEASE, 15, 0⟩
def RING_SQ_DB (k : Nat) : Nat := 0x2001100 + k * 8
def RING_SQ_DB_TAIL (k : Nat) : Fld := ⟨RING_SQ_DB k, 15, 0⟩
def RING_CQ_DB (k : Nat) : Nat := 0x2001104 + k * 8
def RING_CQ_DB_HEAD (k : Nat) : Fld := ⟨RING_CQ_DB k, 15, 0⟩
def HIF_BAR2_SEL : Nat := 0x2003000
def HIF_BAR2_SEL_SEL : Fld := ⟨HIF_BAR2_SEL, 15, 0⟩
def HIF_EXP_SEL : Nat := 0x2003004
def HIF_EXP_SEL_PAGE : Fld := ⟨HIF_EXP_SEL, 0, 0⟩
def HIF_IRQ_EN : Nat := 0x2003008
def HIF_IRQ_EN_MBX : Fld := ⟨HIF_IRQ_EN, 0, 0⟩
def HIF_IRQ_EN_NOTIFY : Fld := ⟨HIF_IRQ_EN, 1, 1⟩
def HIF_ERR_CNT : Nat := 0x2003010
def HIF_ERR_CNT_COUNT : Fld := ⟨HIF_ERR_CNT, 31, 0⟩
def HIF_ERR_ADDR : Nat := 0x2003014
def HIF_ERR_ADDR_ADDR : Fld := ⟨HIF_ERR_ADDR, 31, 0⟩
def MBX_VIOL : Nat := 0x2003018
def MBX_VIOL_COUNT : Fld := ⟨MBX_VIOL, 15, 0⟩
def HIF_EXP_DENY : Nat := 0x200301C
def HIF_EXP_DENY_COUNT : Fld := ⟨HIF_EXP_DENY, 15, 0⟩
def HIF_EXP_STAT : Nat := 0x2003020
def HIF_EXP_STAT_OPEN : Fld := ⟨HIF_EXP_STAT, 0, 0⟩
def HIF_EXP_CTRL : Nat := 0xC0000
def HIF_EXP_CTRL_OPEN : Fld := ⟨HIF_EXP_CTRL, 0, 0⟩
def HIF_CHIP : Nat := 0xC0004
def HIF_CHIP_ID : Fld := ⟨HIF_CHIP, 3, 0⟩
def HIF_EV_NOROUTE : Nat := 0xC0008
def HIF_EV_NOROUTE_COUNT : Fld := ⟨HIF_EV_NOROUTE, 31, 0⟩
def HIF_EVRT (i : Nat) : Nat := 0xC1000 + i * 4
def HIF_EVRT_RING (i : Nat) : Fld := ⟨HIF_EVRT i, 5, 0⟩
def HIF_EVRT_REPLICA (i : Nat) : Fld := ⟨HIF_EVRT i, 13, 6⟩
def HIF_EVRT_VALID (i : Nat) : Fld := ⟨HIF_EVRT i, 31, 31⟩
def RING_SQ_BASE (k : Nat) : Nat := 0xE0000 + k * 0x40
def RING_SQ_BASE_BASE (k : Nat) : Fld := ⟨RING_SQ_BASE k, 31, 0⟩
def RING_CQ_BASE (k : Nat) : Nat := 0xE0004 + k * 0x40
def RING_CQ_BASE_BASE (k : Nat) : Fld := ⟨RING_CQ_BASE k, 31, 0⟩
def RING_CFG (k : Nat) : Nat := 0xE0008 + k * 0x40
def RING_CFG_SQ_LOG2 (k : Nat) : Fld := ⟨RING_CFG k, 3, 0⟩
def RING_CFG_CQ_LOG2 (k : Nat) : Fld := ⟨RING_CFG k, 7, 4⟩
def RING_CFG_VEC (k : Nat) : Fld := ⟨RING_CFG k, 13, 8⟩
def RING_CFG_EN (k : Nat) : Fld := ⟨RING_CFG k, 31, 31⟩
def RING_CQ_IRQ (k : Nat) : Nat := 0xE000C + k * 0x40
def RING_CQ_IRQ_COUNT (k : Nat) : Fld := ⟨RING_CQ_IRQ k, 7, 0⟩
def RING_CQ_IRQ_HOLDOFF (k : Nat) : Fld := ⟨RING_CQ_IRQ k, 31, 8⟩
def RING_CQ_DROP (k : Nat) : Nat := 0xE0010 + k * 0x40
def RING_CQ_DROP_COUNT (k : Nat) : Fld := ⟨RING_CQ_DROP k, 31, 0⟩
def RING_DB_ERR (k : Nat) : Nat := 0xE0014 + k * 0x40
def RING_DB_ERR_SQ (k : Nat) : Fld := ⟨RING_DB_ERR k, 15, 0⟩
def RING_DB_ERR_CQ (k : Nat) : Fld := ⟨RING_DB_ERR k, 31, 16⟩
def MBX_NQ_DB : Nat := 0x2001008
def MBX_NQ_DB_HEAD : Fld := ⟨MBX_NQ_DB, 15, 0⟩
def HIF_NQ_TAIL : Nat := 0x2002010
def HIF_NQ_TAIL_TAIL : Fld := ⟨HIF_NQ_TAIL, 15, 0⟩
def FER_CTRL : Nat := 0x170000
def FER_CTRL_LINK_EN : Fld := ⟨FER_CTRL, 3, 0⟩
def FER_CTRL_CREDIT_EN : Fld := ⟨FER_CTRL, 7, 4⟩
def FER_CTRL_LOCK : Fld := ⟨FER_CTRL, 31, 31⟩
def FER_CFG : Nat := 0x170004
def FER_CFG_CHIP_ID : Fld := ⟨FER_CFG, 3, 0⟩
def FER_CFG_TOPO : Fld := ⟨FER_CFG, 5, 4⟩
def FER_CFG_CHIPS_M1 : Fld := ⟨FER_CFG, 9, 6⟩
def FER_TIMING : Nat := 0x170008
def FER_TIMING_REPLAY_TO : Fld := ⟨FER_TIMING, 7, 0⟩
def FER_TIMING_REPLAY_MAX : Fld := ⟨FER_TIMING, 11, 8⟩
def FER_TIMING_RETRAIN_TO : Fld := ⟨FER_TIMING, 23, 12⟩
def FER_HB : Nat := 0x17000C
def FER_HB_HB_PERIOD : Fld := ⟨FER_HB, 15, 0⟩
def FER_HB_HB_MISS : Fld := ⟨FER_HB, 19, 16⟩
def FER_IRQ_STATUS : Nat := 0x170010
def FER_IRQ_STATUS_FAIL : Fld := ⟨FER_IRQ_STATUS, 3, 0⟩
def FER_IRQ_STATUS_XFER : Fld := ⟨FER_IRQ_STATUS, 7, 4⟩
def FER_IRQ_EN : Nat := 0x170014
def FER_IRQ_EN_EN : Fld := ⟨FER_IRQ_EN, 7, 0⟩
def FER_RX_ERR : Nat := 0x170018
def FER_RX_ERR_COUNT : Fld := ⟨FER_RX_ERR, 31, 0⟩
def FER_LINK_STAT (l : Nat) : Nat := 0x171000 + l * 0x100
def FER_LINK_STAT_STATE (l : Nat) : Fld := ⟨FER_LINK_STAT l, 2, 0⟩
def FER_LINK_STAT_FAULT (l : Nat) : Fld := ⟨FER_LINK_STAT l, 6, 3⟩
def FER_LINK_STAT_WIDTH (l : Nat) : Fld := ⟨FER_LINK_STAT l, 7, 7⟩
def FER_LINK_STAT_PEER_CHIP (l : Nat) : Fld := ⟨FER_LINK_STAT l, 11, 8⟩
def FER_LINK_STAT_PEER_LINK (l : Nat) : Fld := ⟨FER_LINK_STAT l, 13, 12⟩
def FER_LINK_STAT_LANES_OK (l : Nat) : Fld := ⟨FER_LINK_STAT l, 23, 16⟩
def FER_LINK_CMD (l : Nat) : Nat := 0x171004 + l * 0x100
def FER_LINK_CMD_REBRING (l : Nat) : Fld := ⟨FER_LINK_CMD l, 0, 0⟩
def FER_LINK_CNT (l : Nat) : Nat := 0x171008 + l * 0x100
def FER_LINK_CNT_CRC (l : Nat) : Fld := ⟨FER_LINK_CNT l, 15, 0⟩
def FER_LINK_CNT_LOST (l : Nat) : Fld := ⟨FER_LINK_CNT l, 23, 16⟩
def FER_LINK_CNT_OTHER (l : Nat) : Fld := ⟨FER_LINK_CNT l, 31, 24⟩
def FER_LINK_DROP (l : Nat) : Nat := 0x17100C + l * 0x100
def FER_LINK_DROP_CLASS (l : Nat) : Fld := ⟨FER_LINK_DROP l, 15, 0⟩
def FER_LINK_DROP_PATH (l : Nat) : Fld := ⟨FER_LINK_DROP l, 31, 16⟩
def FER_LINK_DELAY (l : Nat) : Nat := 0x171010 + l * 0x100
def FER_LINK_DELAY_DELAY (l : Nat) : Fld := ⟨FER_LINK_DELAY l, 15, 0⟩
def FER_XFER_D (l i : Nat) : Nat := 0x171040 + l * 0x100 + i * 4
def FER_XFER_D_WORD (l i : Nat) : Fld := ⟨FER_XFER_D l i, 31, 0⟩
def FER_XFER_COMMIT (l : Nat) : Nat := 0x171060 + l * 0x100
def FER_XFER_COMMIT_STATUS (l : Nat) : Fld := ⟨FER_XFER_COMMIT l, 7, 0⟩
def FER_XFER_STAT (l : Nat) : Nat := 0x171064 + l * 0x100
def FER_XFER_STAT_LEVEL (l : Nat) : Fld := ⟨FER_XFER_STAT l, 4, 0⟩
def FER_XFER_STAT_LAST (l : Nat) : Fld := ⟨FER_XFER_STAT l, 15, 8⟩
def FER_XFER_BYTES (l : Nat) : Nat := 0x171068 + l * 0x100
def FER_XFER_BYTES_BYTES (l : Nat) : Fld := ⟨FER_XFER_BYTES l, 31, 0⟩
def FER_XFER_LASTTAG (l : Nat) : Nat := 0x17106C + l * 0x100
def FER_XFER_LASTTAG_TAG (l : Nat) : Fld := ⟨FER_XFER_LASTTAG l, 31, 0⟩
def BOOT_CFG : Nat := 0x0
def BOOT_CFG_MODE : Fld := ⟨BOOT_CFG, 1, 0⟩
def BOOT_CFG_SLICE : Fld := ⟨BOOT_CFG, 3, 2⟩
def BOOT_CFG_CHIP_ID : Fld := ⟨BOOT_CFG, 7, 4⟩
def BOOT_CFG_AUTO : Fld := ⟨BOOT_CFG, 8, 8⟩
def BOOT_STAT : Nat := 0x4
def BOOT_STAT_PHASE : Fld := ⟨BOOT_STAT, 3, 0⟩
def BOOT_STAT_SLOT : Fld := ⟨BOOT_STAT, 4, 4⟩
def BOOT_STAT_FAIL_A : Fld := ⟨BOOT_STAT, 5, 5⟩
def BOOT_STAT_FAIL_B : Fld := ⟨BOOT_STAT, 6, 6⟩
def BOOT_STAT_TRAIN_FULL : Fld := ⟨BOOT_STAT, 7, 7⟩
def BOOT_STAT_ERR : Fld := ⟨BOOT_STAT, 11, 8⟩
def BOOT_STAT_DONE_MS : Fld := ⟨BOOT_STAT, 31, 16⟩
def BOOT_RST_CAUSE : Nat := 0x8
def BOOT_RST_CAUSE_CAUSE : Fld := ⟨BOOT_RST_CAUSE, 5, 0⟩
def BOOT_JOIN_LO : Nat := 0x10
def BOOT_JOIN_LO_JOINED : Fld := ⟨BOOT_JOIN_LO, 31, 0⟩
def BOOT_JOIN_HI : Nat := 0x14
def BOOT_JOIN_HI_JOINED : Fld := ⟨BOOT_JOIN_HI, 31, 0⟩
def BOOT_XSPI_STAT : Nat := 0x100
def BOOT_XSPI_STAT_OCTAL : Fld := ⟨BOOT_XSPI_STAT, 0, 0⟩
def BOOT_XSPI_STAT_BUSY : Fld := ⟨BOOT_XSPI_STAT, 1, 1⟩
def BOOT_XSPI_STAT_MHZ : Fld := ⟨BOOT_XSPI_STAT, 15, 8⟩
def BOOT_XSPI_STAT_ERR : Fld := ⟨BOOT_XSPI_STAT, 31, 16⟩
def BOOT_REC_GO : Nat := 0x2003040
def BOOT_REC_GO_GO : Fld := ⟨BOOT_REC_GO, 0, 0⟩
def FUSE_VARIANT : Nat := 0x10000
def FUSE_VARIANT_CODE : Fld := ⟨FUSE_VARIANT, 3, 0⟩
def FUSE_STEPPING : Nat := 0x10004
def FUSE_STEPPING_STEP : Fld := ⟨FUSE_STEPPING, 7, 0⟩
def FUSE_SVN_LO : Nat := 0x10008
def FUSE_SVN_LO_BITS : Fld := ⟨FUSE_SVN_LO, 31, 0⟩
def FUSE_SVN_HI : Nat := 0x1000C
def FUSE_SVN_HI_BITS : Fld := ⟨FUSE_SVN_HI, 31, 0⟩
def FUSE_KEYREVOKE : Nat := 0x10010
def FUSE_KEYREVOKE_REVOKED : Fld := ⟨FUSE_KEYREVOKE, 3, 0⟩
def FUSE_PKHASH (i w : Nat) : Nat := 0x10100 + i * 0x40 + w * 4
def FUSE_PKHASH_HASH (i w : Nat) : Fld := ⟨FUSE_PKHASH i w, 31, 0⟩
def FUSE_FDEF (i : Nat) : Nat := 0x10400 + i * 4
def FUSE_FDEF_ENTRY (i : Nat) : Fld := ⟨FUSE_FDEF i, 15, 0⟩
def FUSE_PROG : Nat := 0x10800
def FUSE_PROG_SVN : Fld := ⟨FUSE_PROG, 6, 0⟩
def FUSE_PROG_BUSY : Fld := ⟨FUSE_PROG, 31, 31⟩
def DMAP_STAT : Nat := 0x20000
def DMAP_STAT_WCOUNT : Fld := ⟨DMAP_STAT, 8, 0⟩
def DMAP_STAT_FIELD_FULL : Fld := ⟨DMAP_STAT, 9, 9⟩
def DMAP_STAT_FIELD_BAD : Fld := ⟨DMAP_STAT, 10, 10⟩
def DMAP_STAT_WORK_FULL : Fld := ⟨DMAP_STAT, 11, 11⟩
def DMAP_ROT_CFG : Nat := 0x20004
def DMAP_ROT_CFG_EN : Fld := ⟨DMAP_ROT_CFG, 0, 0⟩
def DMAP_ROT_CFG_PERIOD : Fld := ⟨DMAP_ROT_CFG, 15, 4⟩
def DMAP_ROT_STAT : Nat := 0x20008
def DMAP_ROT_STAT_CLUSTER : Fld := ⟨DMAP_ROT_STAT, 5, 0⟩
def DMAP_ROT_STAT_SLOT : Fld := ⟨DMAP_ROT_STAT, 10, 6⟩
def DMAP_ROT_STAT_PHASE : Fld := ⟨DMAP_ROT_STAT, 13, 11⟩
def DMAP_ROT_CNT : Nat := 0x2000C
def DMAP_ROT_CNT_DONE : Fld := ⟨DMAP_ROT_CNT, 15, 0⟩
def DMAP_ROT_CNT_ABANDONED : Fld := ⟨DMAP_ROT_CNT, 31, 16⟩
def DMAP_CLUSTER_STAT (c : Nat) : Nat := 0x20100 + c * 4
def DMAP_CLUSTER_STAT_SPARE (c : Nat) : Fld := ⟨DMAP_CLUSTER_STAT c, 4, 0⟩
def DMAP_CLUSTER_STAT_SPARE_FREE (c : Nat) : Fld := ⟨DMAP_CLUSTER_STAT c, 5, 5⟩
def DMAP_CLUSTER_STAT_HEALTHY (c : Nat) : Fld := ⟨DMAP_CLUSTER_STAT c, 10, 6⟩
def DMAP_CLUSTER_STAT_DEGRADED (c : Nat) : Fld := ⟨DMAP_CLUSTER_STAT c, 11, 11⟩
def DMAP_CLUSTER_STAT_ROUTER_FAIL (c : Nat) : Fld := ⟨DMAP_CLUSTER_STAT c, 12, 12⟩
def DMAP_WORK (i : Nat) : Nat := 0x21000 + i * 8
def DMAP_WORK_ENTRY (i : Nat) : Fld := ⟨DMAP_WORK i, 15, 0⟩
def DMAP_WORK_SOURCE (i : Nat) : Fld := ⟨DMAP_WORK i, 17, 16⟩
def DMAP_WORK_BUILD (i : Nat) : Nat := 0x21004 + i * 8
def DMAP_WORK_BUILD_BUILD (i : Nat) : Fld := ⟨DMAP_WORK_BUILD i, 31, 0⟩
def CLK_CTRL : Nat := 0x30000
def CLK_CTRL_PLL_EN : Fld := ⟨CLK_CTRL, 0, 0⟩
def CLK_CTRL_AUTO_SEL : Fld := ⟨CLK_CTRL, 1, 1⟩
def CLK_CTRL_LOCK : Fld := ⟨CLK_CTRL, 31, 31⟩
def CLK_STAT : Nat := 0x30004
def CLK_STAT_LOCK : Fld := ⟨CLK_STAT, 0, 0⟩
def CLK_STAT_REF_OK : Fld := ⟨CLK_STAT, 1, 1⟩
def CLK_SEL_LO : Nat := 0x30008
def CLK_SEL_LO_SEL : Fld := ⟨CLK_SEL_LO, 31, 0⟩
def CLK_SEL_HI : Nat := 0x3000C
def CLK_SEL_HI_SEL : Fld := ⟨CLK_SEL_HI, 5, 0⟩
def CLK_IRQ_STATUS : Nat := 0x30010
def CLK_IRQ_STATUS_UNLOCK : Fld := ⟨CLK_IRQ_STATUS, 0, 0⟩
def CLK_IRQ_STATUS_REF_LOSS : Fld := ⟨CLK_IRQ_STATUS, 1, 1⟩
def CLK_IRQ_EN : Nat := 0x30014
def CLK_IRQ_EN_EN : Fld := ⟨CLK_IRQ_EN, 1, 0⟩
def CLK_SEL_MID : Nat := 0x30018
def CLK_SEL_MID_SEL : Fld := ⟨CLK_SEL_MID, 31, 0⟩
def PWR_STATE : Nat := 0x40000
def PWR_STATE_STATE : Fld := ⟨PWR_STATE, 2, 0⟩
def PWR_HYST : Nat := 0x40004
def PWR_HYST_US : Fld := ⟨PWR_HYST, 15, 0⟩
def PWR_THERM_CFG : Nat := 0x40008
def PWR_THERM_CFG_WARN : Fld := ⟨PWR_THERM_CFG, 9, 0⟩
def PWR_THERM_CFG_DERATE : Fld := ⟨PWR_THERM_CFG, 19, 10⟩
def PWR_THERM_CFG_LOCK : Fld := ⟨PWR_THERM_CFG, 31, 31⟩
def PWR_THERM_STAT : Nat := 0x4000C
def PWR_THERM_STAT_MAX : Fld := ⟨PWR_THERM_STAT, 9, 0⟩
def PWR_THERM_STAT_SENSOR : Fld := ⟨PWR_THERM_STAT, 16, 10⟩
def PWR_IRQ_STATUS : Nat := 0x40010
def PWR_IRQ_STATUS_WARN : Fld := ⟨PWR_IRQ_STATUS, 0, 0⟩
def PWR_IRQ_STATUS_DERATE : Fld := ⟨PWR_IRQ_STATUS, 1, 1⟩
def PWR_IRQ_EN : Nat := 0x40014
def PWR_IRQ_EN_EN : Fld := ⟨PWR_IRQ_EN, 1, 0⟩
def PWR_TEMP (d : Nat) : Nat := 0x40100 + d * 4
def PWR_TEMP_T (d : Nat) : Fld := ⟨PWR_TEMP d, 9, 0⟩
def PWR_VOTE (d : Nat) : Nat := 0x41000 + d * 0x10
def PWR_VOTE_VOTES (d : Nat) : Fld := ⟨PWR_VOTE d, 31, 0⟩
def PWR_VOTE_SET (d : Nat) : Nat := 0x41004 + d * 0x10
def PWR_VOTE_SET_VOTES (d : Nat) : Fld := ⟨PWR_VOTE_SET d, 31, 0⟩
def PWR_VOTE_CLR (d : Nat) : Nat := 0x41008 + d * 0x10
def PWR_VOTE_CLR_VOTES (d : Nat) : Fld := ⟨PWR_VOTE_CLR d, 30, 0⟩
def PWR_DOM_STAT (d : Nat) : Nat := 0x4100C + d * 0x10
def PWR_DOM_STAT_STATE (d : Nat) : Fld := ⟨PWR_DOM_STAT d, 2, 0⟩
def PWR_DOM_STAT_RET_EN (d : Nat) : Fld := ⟨PWR_DOM_STAT d, 8, 8⟩
def OAS_STAT : Nat := 0x50000
def OAS_STAT_ON_VBAT : Fld := ⟨OAS_STAT, 0, 0⟩
def OAS_STAT_BROWNOUT : Fld := ⟨OAS_STAT, 1, 1⟩
def OAS_STAT_RET_INVALID : Fld := ⟨OAS_STAT, 2, 2⟩
def OAS_RTC_LO : Nat := 0x50008
def OAS_RTC_LO_TICKS : Fld := ⟨OAS_RTC_LO, 31, 0⟩
def OAS_RTC_HI : Nat := 0x5000C
def OAS_RTC_HI_TICKS : Fld := ⟨OAS_RTC_HI, 15, 0⟩
def OAS_BAT_CFG : Nat := 0x50010
def OAS_BAT_CFG_ICHG : Fld := ⟨OAS_BAT_CFG, 5, 0⟩
def OAS_BAT_CFG_ITERM : Fld := ⟨OAS_BAT_CFG, 9, 6⟩
def OAS_BAT_CFG_CHG_EN : Fld := ⟨OAS_BAT_CFG, 10, 10⟩
def OAS_BAT_STAT : Nat := 0x50014
def OAS_BAT_STAT_VBAT : Fld := ⟨OAS_BAT_STAT, 11, 0⟩
def OAS_BAT_STAT_PHASE : Fld := ⟨OAS_BAT_STAT, 13, 12⟩
def OAS_BAT_STAT_BAT_ABSENT : Fld := ⟨OAS_BAT_STAT, 14, 14⟩
def OAS_BAT_STAT_BAT_REVERSED : Fld := ⟨OAS_BAT_STAT, 15, 15⟩
def OAS_BAT_STAT_BAT_FAULT : Fld := ⟨OAS_BAT_STAT, 16, 16⟩
def OAS_WAKE_CAUSE : Nat := 0x50020
def OAS_WAKE_CAUSE_SOURCE : Fld := ⟨OAS_WAKE_CAUSE, 3, 0⟩
def OAS_WAKE_CAUSE_DETAIL : Fld := ⟨OAS_WAKE_CAUSE, 15, 8⟩
def OAS_WAKE_ALL : Nat := 0x50024
def OAS_WAKE_ALL_SOURCES : Fld := ⟨OAS_WAKE_ALL, 9, 1⟩
def OAS_LKO_NODATA : Nat := 0x50028
def OAS_LKO_NODATA_COUNT : Fld := ⟨OAS_LKO_NODATA, 31, 0⟩
def OAS_LKO_RULE (i w : Nat) : Nat := 0x51000 + i * 0x10 + w * 4
def OAS_LKO_RULE_WORD (i w : Nat) : Fld := ⟨OAS_LKO_RULE i w, 31, 0⟩
def HIF_LKO_ADDR_LO : Nat := 0x2003030
def HIF_LKO_ADDR_LO_ADDR : Fld := ⟨HIF_LKO_ADDR_LO, 31, 0⟩
def HIF_LKO_ADDR_HI : Nat := 0x2003034
def HIF_LKO_ADDR_HI_ADDR : Fld := ⟨HIF_LKO_ADDR_HI, 15, 0⟩
def RST_CTRL : Nat := 0x60000
def RST_CTRL_LOCK : Fld := ⟨RST_CTRL, 31, 31⟩
def RST_CFG : Nat := 0x60004
def RST_CFG_DRAIN_TO : Fld := ⟨RST_CFG, 23, 0⟩
def RST_CFG_AUTOFENCE : Fld := ⟨RST_CFG, 24, 24⟩
def RST_REQ : Nat := 0x60008
def RST_REQ_SCOPE : Fld := ⟨RST_REQ, 1, 0⟩
def RST_REQ_MODE : Fld := ⟨RST_REQ, 2, 2⟩
def RST_REQ_TARGET : Fld := ⟨RST_REQ, 13, 4⟩
def RST_STAT : Nat := 0x6000C
def RST_STAT_BUSY : Fld := ⟨RST_STAT, 0, 0⟩
def RST_STAT_PHASE : Fld := ⟨RST_STAT, 2, 1⟩
def RST_STAT_FALLBACK : Fld := ⟨RST_STAT, 3, 3⟩
def RST_STAT_REJ : Fld := ⟨RST_STAT, 4, 4⟩
def RST_FENCE_CMD : Nat := 0x60010
def RST_FENCE_CMD_PCORE : Fld := ⟨RST_FENCE_CMD, 10, 0⟩
def RST_FENCE_CMD_SET : Fld := ⟨RST_FENCE_CMD, 12, 12⟩
def RST_HCU_WDT : Nat := 0x60014
def RST_HCU_WDT_PERIOD : Fld := ⟨RST_HCU_WDT, 15, 0⟩
def RST_HCU_WDT_MAX : Fld := ⟨RST_HCU_WDT, 19, 16⟩
def RST_HCU_KICK : Nat := 0x60018
def RST_HCU_KICK_KICK : Fld := ⟨RST_HCU_KICK, 0, 0⟩
def RST_OAS_ECC : Nat := 0x6001C
def RST_OAS_ECC_CORR : Fld := ⟨RST_OAS_ECC, 15, 0⟩
def RST_OAS_ECC_UNCORR : Fld := ⟨RST_OAS_ECC, 31, 16⟩
def RST_IRQ_STATUS : Nat := 0x60020
def RST_IRQ_STATUS_DONE : Fld := ⟨RST_IRQ_STATUS, 0, 0⟩
def RST_IRQ_STATUS_FALLBACK : Fld := ⟨RST_IRQ_STATUS, 1, 1⟩
def RST_IRQ_STATUS_AUTOFENCE : Fld := ⟨RST_IRQ_STATUS, 2, 2⟩
def RST_IRQ_EN : Nat := 0x60024
def RST_IRQ_EN_EN : Fld := ⟨RST_IRQ_EN, 2, 0⟩
def RST_PART_MASK_LO (p : Nat) : Nat := 0x60800 + p * 8
def RST_PART_MASK_LO_CLUSTERS (p : Nat) : Fld := ⟨RST_PART_MASK_LO p, 31, 0⟩
def RST_PART_MASK_HI (p : Nat) : Nat := 0x60804 + p * 8
def RST_PART_MASK_HI_CLUSTERS (p : Nat) : Fld := ⟨RST_PART_MASK_HI p, 31, 0⟩
def RST_SRAM_ECC (c : Nat) : Nat := 0x61000 + c * 8
def RST_SRAM_ECC_CORR (c : Nat) : Fld := ⟨RST_SRAM_ECC c, 15, 0⟩
def RST_SRAM_ECC_UNCORR (c : Nat) : Fld := ⟨RST_SRAM_ECC c, 31, 16⟩
def RST_FENCED (c : Nat) : Nat := 0x61004 + c * 8
def RST_FENCED_SLOTS (c : Nat) : Fld := ⟨RST_FENCED c, 16, 0⟩
def TRIP_CTRL : Nat := 0xF0000
def TRIP_CTRL_EN : Fld := ⟨TRIP_CTRL, 0, 0⟩
def TRIP_CTRL_FIRE : Fld := ⟨TRIP_CTRL, 1, 1⟩
def TRIP_CTRL_RELEASE : Fld := ⟨TRIP_CTRL, 2, 2⟩
def TRIP_CFG : Nat := 0xF0004
def TRIP_CFG_PIN_EN : Fld := ⟨TRIP_CFG, 0, 0⟩
def TRIP_CFG_PIN_POL : Fld := ⟨TRIP_CFG, 1, 1⟩
def TRIP_CFG_AUTO_REARM : Fld := ⟨TRIP_CFG, 2, 2⟩
def TRIP_WIN_BASE_LO : Nat := 0xF0008
def TRIP_WIN_BASE_LO_BASE : Fld := ⟨TRIP_WIN_BASE_LO, 31, 0⟩
def TRIP_WIN_BASE_HI : Nat := 0xF000C
def TRIP_WIN_BASE_HI_BASE : Fld := ⟨TRIP_WIN_BASE_HI, 15, 0⟩
def TRIP_COUNT : Nat := 0xF0010
def TRIP_COUNT_COUNT : Fld := ⟨TRIP_COUNT, 31, 0⟩
def TRIP_STAT : Nat := 0xF0014
def TRIP_STAT_STATE : Fld := ⟨TRIP_STAT, 1, 0⟩
def TRIP_STAT_HELD : Fld := ⟨TRIP_STAT, 2, 2⟩
def TRIP_STAT_COMPLETE : Fld := ⟨TRIP_STAT, 3, 3⟩
def TRIP_DROP : Nat := 0xF0018
def TRIP_DROP_COUNT : Fld := ⟨TRIP_DROP, 31, 0⟩
def TRIP_SKIPPED : Nat := 0xF001C
def TRIP_SKIPPED_COUNT : Fld := ⟨TRIP_SKIPPED, 15, 0⟩
def TRIP_IRQ_STATUS : Nat := 0xF0020
def TRIP_IRQ_STATUS_TRIP : Fld := ⟨TRIP_IRQ_STATUS, 0, 0⟩
def TRIP_IRQ_STATUS_COPY_DONE : Fld := ⟨TRIP_IRQ_STATUS, 1, 1⟩
def TRIP_IRQ_STATUS_DROP : Fld := ⟨TRIP_IRQ_STATUS, 2, 2⟩
def TRIP_IRQ_EN : Nat := 0xF0024
def TRIP_IRQ_EN_EN : Fld := ⟨TRIP_IRQ_EN, 2, 0⟩
def TRIP_COPY_FIRST : Nat := 0xF0100
def TRIP_COPY_FIRST_INDEX : Fld := ⟨TRIP_COPY_FIRST, 16, 0⟩
def TRIP_COPY_TRIG : Nat := 0xF0104
def TRIP_COPY_TRIG_MASK : Fld := ⟨TRIP_COPY_TRIG, 2, 0⟩
def TRIP_COPY_TIME_LO : Nat := 0xF0108
def TRIP_COPY_TIME_LO_TIME : Fld := ⟨TRIP_COPY_TIME_LO, 31, 0⟩
def TRIP_COPY_TIME_HI : Nat := 0xF010C
def TRIP_COPY_TIME_HI_TIME : Fld := ⟨TRIP_COPY_TIME_HI, 15, 0⟩
def TRIP_COPY_CRC : Nat := 0xF0110
def TRIP_COPY_CRC_CRC : Fld := ⟨TRIP_COPY_CRC, 31, 0⟩
def TRIP_RULE_KEY (r : Nat) : Nat := 0xF0200 + r * 0x10
def TRIP_RULE_KEY_KEY (r : Nat) : Fld := ⟨TRIP_RULE_KEY r, 31, 0⟩
def TRIP_RULE_MASK (r : Nat) : Nat := 0xF0204 + r * 0x10
def TRIP_RULE_MASK_MASK (r : Nat) : Fld := ⟨TRIP_RULE_MASK r, 31, 0⟩
def TRIP_RULE_CFG (r : Nat) : Nat := 0xF0208 + r * 0x10
def TRIP_RULE_CFG_VALID (r : Nat) : Fld := ⟨TRIP_RULE_CFG r, 0, 0⟩
def TRIP_RULE_CFG_SRC (r : Nat) : Fld := ⟨TRIP_RULE_CFG r, 1, 1⟩
def TRIP_RULE_CFG_CMP (r : Nat) : Fld := ⟨TRIP_RULE_CFG r, 2, 2⟩
def TRIP_RULE_CFG_THRESH (r : Nat) : Fld := ⟨TRIP_RULE_CFG r, 15, 8⟩
def PMON_CFG (b : Nat) : Nat := b + 0x0
def PMON_CFG_SRC (b : Nat) : Fld := ⟨PMON_CFG b, 7, 0⟩
def PMON_CFG_EN (b : Nat) : Fld := ⟨PMON_CFG b, 8, 8⟩
def PMON_CFG_IRQ (b : Nat) : Fld := ⟨PMON_CFG b, 9, 9⟩
def PMON_CFG_CLR (b : Nat) : Fld := ⟨PMON_CFG b, 10, 10⟩
def PMON_CFG_OVF (b : Nat) : Fld := ⟨PMON_CFG b, 11, 11⟩
def PMON_CFG_CFG_ERR (b : Nat) : Fld := ⟨PMON_CFG b, 12, 12⟩
def PMON_CFG_SNAP_VALID (b : Nat) : Fld := ⟨PMON_CFG b, 13, 13⟩
def PMON_CNT_LO (b : Nat) : Nat := b + 0x4
def PMON_CNT_LO_COUNT (b : Nat) : Fld := ⟨PMON_CNT_LO b, 31, 0⟩
def PMON_CNT_HI (b : Nat) : Nat := b + 0x8
def PMON_CNT_HI_COUNT (b : Nat) : Fld := ⟨PMON_CNT_HI b, 15, 0⟩
def PMON_SNAP_LO (b : Nat) : Nat := b + 0xC
def PMON_SNAP_LO_COUNT (b : Nat) : Fld := ⟨PMON_SNAP_LO b, 31, 0⟩
def PMON_SNAP_HI (b : Nat) : Nat := b + 0x10
def PMON_SNAP_HI_COUNT (b : Nat) : Fld := ⟨PMON_SNAP_HI b, 15, 0⟩
def PMON_CTRL : Nat := 0x100000
def PMON_CTRL_ARM : Fld := ⟨PMON_CTRL, 0, 0⟩
def PMON_CTRL_SNAP_ON_TRIP : Fld := ⟨PMON_CTRL, 1, 1⟩
def PMON_STAT : Nat := 0x100004
def PMON_STAT_PENDING : Fld := ⟨PMON_STAT, 0, 0⟩
def PMON_STAT_SNAP_LATE : Fld := ⟨PMON_STAT, 1, 1⟩
def PMON_SNAP_TIME_LO : Nat := 0x100008
def PMON_SNAP_TIME_LO_T : Fld := ⟨PMON_SNAP_TIME_LO, 31, 0⟩
def PMON_SNAP_TIME_HI : Nat := 0x10000C
def PMON_SNAP_TIME_HI_T : Fld := ⟨PMON_SNAP_TIME_HI, 15, 0⟩
def PMON_IRQ_STATUS : Nat := 0x100010
def PMON_IRQ_STATUS_OVF : Fld := ⟨PMON_IRQ_STATUS, 31, 0⟩
def PMON_IRQ_EN : Nat := 0x100014
def PMON_IRQ_EN_EN : Fld := ⟨PMON_IRQ_EN, 31, 0⟩
def BDP_STAT : Nat := 0x110000
def BDP_STAT_LOCKED : Fld := ⟨BDP_STAT, 0, 0⟩
def BDP_STAT_SCOPE : Fld := ⟨BDP_STAT, 2, 1⟩
def BDP_STAT_FAILS : Fld := ⟨BDP_STAT, 4, 3⟩
def BDP_STAT_EXTEST : Fld := ⟨BDP_STAT, 5, 5⟩
def BDP_ATTACH_LO : Nat := 0x110008
def BDP_ATTACH_LO_DOM : Fld := ⟨BDP_ATTACH_LO, 31, 0⟩
def BDP_ATTACH_MID : Nat := 0x11000C
def BDP_ATTACH_MID_DOM : Fld := ⟨BDP_ATTACH_MID, 31, 0⟩
def BDP_ATTACH_HI : Nat := 0x110010
def BDP_ATTACH_HI_DOM : Fld := ⟨BDP_ATTACH_HI, 5, 0⟩
def BDP_CORE_STAT (s : Nat) : Nat := coreBase s + 0x7000
def BDP_CORE_STAT_DBG_EN (s : Nat) : Fld := ⟨BDP_CORE_STAT s, 0, 0⟩
def BDP_CORE_STAT_DHALT (s : Nat) : Fld := ⟨BDP_CORE_STAT s, 1, 1⟩
def BDP_CORE_STAT_BPHIT (s : Nat) : Fld := ⟨BDP_CORE_STAT s, 5, 2⟩
def BDP_BRK_CFG (s i : Nat) : Nat := coreBase s + 0x7010 + i * 8
def BDP_BRK_CFG_TYPE (s i : Nat) : Fld := ⟨BDP_BRK_CFG s i, 2, 0⟩
def BDP_BRK_CFG_IGN (s i : Nat) : Fld := ⟨BDP_BRK_CFG s i, 6, 3⟩
def BDP_BRK_ADDR (s i : Nat) : Nat := coreBase s + 0x7014 + i * 8
def BDP_BRK_ADDR_ADDR (s i : Nat) : Fld := ⟨BDP_BRK_ADDR s i, 21, 0⟩
def FUSE_DBG : Nat := 0x10020
def FUSE_DBG_LOCK : Fld := ⟨FUSE_DBG, 0, 0⟩
def FUSE_DBG_HCU_OPEN : Fld := ⟨FUSE_DBG, 1, 1⟩
def FUSE_DBGKEY (w : Nat) : Nat := 0x10200 + w * 4
def FUSE_DBGKEY_HASH (w : Nat) : Fld := ⟨FUSE_DBGKEY w, 31, 0⟩
def NE_DECAY (s i j : Nat) : Nat := coreBase s + 0x4000 + i * 0x100 + j * 4
def NE_DECAY_LEAK (s i j : Nat) : Fld := ⟨NE_DECAY s i j, 15, 0⟩
def NE_DECAY_TD1 (s i j : Nat) : Fld := ⟨NE_DECAY s i j, 23, 16⟩
def NE_DECAY_TD2 (s i j : Nat) : Fld := ⟨NE_DECAY s i j, 31, 24⟩
def MCAST (c n w : Nat) : Nat := 0x1008000 + c * 0x10000 + n * 0x10 + w * 4
def MCAST_WORD (c n w : Nat) : Fld := ⟨MCAST c n w, 31, 0⟩
def CL_MAP (n w : Nat) : Nat := 0x140000 + n * 0x10 + w * 4
def CL_MAP_WORD (n w : Nat) : Fld := ⟨CL_MAP n w, 31, 0⟩
def FER_XLAT (l n w : Nat) : Nat := 0x178000 + l * 0x400 + n * 0x10 + w * 4
def FER_XLAT_WORD (l n w : Nat) : Fld := ⟨FER_XLAT l n w, 31, 0⟩
def RING_SQ_BASE_HI (k : Nat) : Nat := 0xE0018 + k * 0x40
def RING_SQ_BASE_HI_BASE (k : Nat) : Fld := ⟨RING_SQ_BASE_HI k, 15, 0⟩
def RING_CQ_BASE_HI (k : Nat) : Nat := 0xE001C + k * 0x40
def RING_CQ_BASE_HI_BASE (k : Nat) : Fld := ⟨RING_CQ_BASE_HI k, 15, 0⟩
def NI_MAP_BCAST : Nat := 0x1400000
def NI_MAP_BCAST_NEW_EPOCH : Fld := ⟨NI_MAP_BCAST, 3, 0⟩
def NI_MAP_BCAST_SWAP : Fld := ⟨NI_MAP_BCAST, 4, 4⟩
def HIF_MAGIC : Nat := 0x2002000
def HIF_MAGIC_MAGIC : Fld := ⟨HIF_MAGIC, 31, 0⟩
def HIF_FWSTATE : Nat := 0x2002004
def HIF_FWSTATE_FW_STATE : Fld := ⟨HIF_FWSTATE, 3, 0⟩
def HIF_FWSTATE_RESTRICTED : Fld := ⟨HIF_FWSTATE, 4, 4⟩
def HIF_FWSTATE_FORCED : Fld := ⟨HIF_FWSTATE, 5, 5⟩
def HIF_FWSTATE_VARIANT : Fld := ⟨HIF_FWSTATE, 11, 8⟩
def HIF_FWSTATE_STEPPING : Fld := ⟨HIF_FWSTATE, 19, 12⟩
def HIF_FWEPOCH : Nat := 0x2002008
def HIF_FWEPOCH_EPOCH : Fld := ⟨HIF_FWEPOCH, 31, 0⟩
def MBX_STATE : Nat := 0x200200C
def MBX_STATE_STATES : Fld := ⟨MBX_STATE, 31, 0⟩
def RING_MIRROR (k : Nat) : Nat := 0x2002100 + k * 8
def RING_MIRROR_CQ_TAIL (k : Nat) : Fld := ⟨RING_MIRROR k, 15, 0⟩
def RING_MIRROR_SQ_HEAD (k : Nat) : Fld := ⟨RING_MIRROR k, 31, 16⟩
def RING_MIRROR_DROP (k : Nat) : Nat := 0x2002104 + k * 8
def RING_MIRROR_DROP_DROP (k : Nat) : Fld := ⟨RING_MIRROR_DROP k, 31, 0⟩

end Sys2Proof.Machine.Reg
end

