-- ==== Sys2Proof/Machine/RegTable.lean ====
section
/-! DEFINITION. The field types of every register (R6), block by block, for writes and reads that reach a register by its
address. A row covers a register and its instances: first address, two strides with their counts, then the masks
RW, RWL, W1C, W1S and the reset word (R7). -/

namespace Sys2Proof.Machine.Reg

/-- One register (with its instances) of a block: where it is and how its bits answer to a write. -/
structure Row where
  base : Nat
  s1 : Nat
  n1 : Nat
  s2 : Nat
  n2 : Nat
  rw : Nat
  rwl : Nat
  w1c : Nat
  w1s : Nat
  reset : Nat
  deriving DecidableEq, Repr

def rows_013 : List Row := [
  ⟨0x130000, 0x4, 1, 0x4, 1, 0x3, 0x0, 0x0, 0x80000000, 0x0⟩,
  ⟨0x130004, 0x4, 1, 0x4, 1, 0x0, 0xFFFFFFFF, 0x0, 0x0, 0x640201⟩,
  ⟨0x130010, 0x4, 1, 0x4, 1, 0x0, 0x0, 0x3F, 0x0, 0x0⟩,
  ⟨0x130014, 0x4, 1, 0x4, 1, 0x3F, 0x0, 0x0, 0x0, 0x0⟩,
  ⟨0x130018, 0x4, 1, 0x4, 1, 0x0, 0x0, 0x80000000, 0x0, 0x0⟩,
  ⟨0x131000, 0x40, 128, 0x4, 1, 0x1FFFFFE1, 0x1E, 0x0, 0x0, 0x12⟩,
  ⟨0x131004, 0x40, 128, 0x4, 1, 0x0, 0x0, 0x0, 0x0, 0x0⟩,
  ⟨0x131008, 0x40, 128, 0x4, 1, 0xFFFFFFFF, 0x0, 0x0, 0x0, 0x0⟩,
  ⟨0x13100C, 0x40, 128, 0x4, 1, 0xFFFFFFFF, 0x0, 0x0, 0x0, 0x0⟩,
  ⟨0x131010, 0x40, 128, 0x4, 1, 0xFFFFFFFF, 0x0, 0x0, 0x0, 0x0⟩,
  ⟨0x131014, 0x40, 128, 0x4, 1, 0xFFFFFFFF, 0x0, 0x0, 0x0, 0x0⟩,
  ⟨0x131018, 0x40, 128, 0x4, 1, 0x0, 0x0, 0x0, 0x0, 0x0⟩,
  ⟨0x13101C, 0x40, 128, 0x4, 1, 0x0, 0x0, 0x0, 0x0, 0x0⟩,
  ⟨0x131020, 0x40, 128, 0x4, 1, 0xFFFFFF, 0x0, 0x0, 0x0, 0x0⟩,
  ⟨0x131024, 0x40, 128, 0x4, 1, 0x0, 0x0, 0x0, 0x0, 0x0⟩,
  ⟨0x131028, 0x40, 128, 0x4, 1, 0xFF0000, 0x0, 0x1000000, 0x0, 0x0⟩]

def rows_015 : List Row := [
  ⟨0x150010, 0x4, 8, 0x4, 1, 0x0, 0x0, 0x0, 0x0, 0x0⟩,
  ⟨0x151000, 0x20, 256, 0x4, 1, 0xFFFFF, 0x0, 0x0, 0x0, 0x0⟩,
  ⟨0x151004, 0x20, 256, 0x4, 1, 0xFFFF, 0x0, 0x0, 0x0, 0x0⟩,
  ⟨0x151008, 0x20, 256, 0x4, 1, 0xFFFFFFFF, 0x0, 0x0, 0x0, 0x0⟩,
  ⟨0x15100C, 0x20, 256, 0x4, 1, 0xFFFFFFFF, 0x0, 0x0, 0x0, 0x0⟩,
  ⟨0x151010, 0x20, 256, 0x4, 1, 0x0, 0x0, 0x0, 0x0, 0x0⟩,
  ⟨0x151014, 0x20, 256, 0x4, 1, 0x0, 0x0, 0x6, 0x0, 0x0⟩]

def rows_016 : List Row := [
  ⟨0x160000, 0x4, 1, 0x4, 1, 0x1, 0x0, 0x0, 0x80000000, 0x0⟩,
  ⟨0x160004, 0x4, 1, 0x4, 1, 0x0, 0xFFFFFFFF, 0x0, 0x0, 0x640201⟩,
  ⟨0x160010, 0x4, 1, 0x4, 1, 0x0, 0x0, 0xF, 0x0, 0x0⟩,
  ⟨0x160014, 0x4, 1, 0x4, 1, 0xF, 0x0, 0x0, 0x0, 0x0⟩,
  ⟨0x160100, 0x10, 64, 0x4, 1, 0x3, 0xC, 0x0, 0x0, 0x4⟩,
  ⟨0x160104, 0x10, 64, 0x4, 1, 0x0, 0x0, 0x0, 0x0, 0x0⟩,
  ⟨0x160108, 0x10, 64, 0x4, 1, 0xFFFF, 0x0, 0x0, 0x0, 0x0⟩,
  ⟨0x161000, 0x40, 256, 0x4, 1, 0x1FFFFFFF, 0x0, 0x0, 0x0, 0x0⟩,
  ⟨0x161004, 0x40, 256, 0x4, 1, 0xFFFFFFFF, 0x0, 0x0, 0x0, 0x0⟩,
  ⟨0x161008, 0x40, 256, 0x4, 1, 0xFFFFFFFF, 0x0, 0x0, 0x0, 0x0⟩,
  ⟨0x16100C, 0x40, 256, 0x4, 1, 0x3FF, 0x0, 0x0, 0x0, 0x0⟩,
  ⟨0x161010, 0x40, 256, 0x4, 1, 0x0, 0x0, 0x0, 0x0, 0x0⟩,
  ⟨0x161014, 0x40, 256, 0x4, 1, 0x0, 0x0, 0x0, 0x0, 0x0⟩,
  ⟨0x161018, 0x40, 256, 0x4, 1, 0x0, 0x0, 0x0, 0x0, 0x0⟩,
  ⟨0x16101C, 0x40, 256, 0x4, 1, 0x0, 0x0, 0x0, 0x0, 0x0⟩,
  ⟨0x161020, 0x40, 256, 0x4, 1, 0x0, 0x0, 0x7, 0x0, 0x0⟩,
  ⟨0x161024, 0x40, 256, 0x4, 1, 0xFFFFFFFF, 0x0, 0x0, 0x0, 0x0⟩,
  ⟨0x161028, 0x40, 256, 0x4, 1, 0x0, 0x0, 0x0, 0x0, 0x0⟩]

def rows_router : List Row := [
  ⟨0x0, 0x4, 1, 0x4, 1, 0x2, 0x1, 0x0, 0x80000000, 0x0⟩,
  ⟨0x10, 0x4, 1, 0x4, 1, 0xFFFFFFFF, 0x0, 0x0, 0x0, 0x0⟩,
  ⟨0x14, 0x4, 1, 0x4, 1, 0xFFFFFFFF, 0x0, 0x0, 0x0, 0x0⟩,
  ⟨0x18, 0x4, 1, 0x4, 1, 0x0, 0x0, 0x0, 0x0, 0x0⟩,
  ⟨0x1C, 0x4, 1, 0x4, 1, 0xFFFFFFFF, 0x0, 0x0, 0x0, 0x0⟩,
  ⟨0x20, 0x4, 1, 0x4, 1, 0x0, 0x0, 0xF, 0x0, 0x0⟩,
  ⟨0x24, 0x4, 1, 0x4, 1, 0xF, 0x0, 0x0, 0x0, 0x0⟩,
  ⟨0x4000, 0x4, 1, 0x4, 1, 0x0, 0x0, 0x0, 0x0, 0x0⟩,
  ⟨0x4004, 0x4, 1, 0x4, 1, 0x0, 0x0, 0x600, 0x0, 0x100⟩,
  ⟨0x4008, 0x4, 1, 0x4, 1, 0xFFFFFFFF, 0x0, 0x0, 0x0, 0x0⟩,
  ⟨0x400C, 0x4, 1, 0x4, 1, 0xFFFFFFFF, 0x0, 0x0, 0x0, 0x0⟩,
  ⟨0x5000, 0x4, 1024, 0x4, 1, 0x1F, 0x0, 0x0, 0x0, 0x0⟩,
  ⟨0x6000, 0x4, 1024, 0x4, 1, 0x0, 0x0, 0x0, 0x0, 0x0⟩,
  ⟨0x8000, 0x10, 2048, 0x4, 2, 0xFFFFFFFF, 0x0, 0x0, 0x0, 0x0⟩,
  ⟨0x8008, 0x10, 2048, 0x4, 1, 0x801FFFFF, 0x0, 0x0, 0x0, 0x0⟩]

def rows_core_0 : List Row := [
  ⟨0x800, 0x4, 1, 0x4, 1, 0xFFFF0001, 0x0, 0x0, 0x0, 0x3E80000⟩,
  ⟨0x804, 0x4, 1, 0x4, 1, 0x0, 0x0, 0x0, 0x0, 0x0⟩,
  ⟨0x808, 0x4, 1, 0x4, 1, 0xFFFFFFFF, 0x0, 0x0, 0x0, 0x0⟩,
  ⟨0x80C, 0x4, 1, 0x4, 1, 0xFFFFFFFF, 0x0, 0x0, 0x0, 0x0⟩,
  ⟨0x810, 0x4, 1, 0x4, 1, 0xFFFFFFFF, 0x0, 0x0, 0x0, 0x0⟩,
  ⟨0x1000, 0x4, 1, 0x4, 1, 0x7FFF0008, 0x7, 0x0, 0x80000000, 0x64000D⟩,
  ⟨0x1004, 0x4, 1, 0x4, 1, 0x0, 0x0, 0x8002, 0x0, 0x0⟩,
  ⟨0x1008, 0x4, 1, 0x4, 1, 0xFFFFFFFF, 0x0, 0x0, 0x0, 0x0⟩,
  ⟨0x100C, 0x4, 1, 0x4, 1, 0xFFFFFFFF, 0x0, 0x0, 0x0, 0x0⟩,
  ⟨0x1010, 0x4, 1, 0x4, 1, 0xFFFFFFFF, 0x0, 0x0, 0x0, 0x0⟩,
  ⟨0x1014, 0x4, 1, 0x4, 1, 0xFFFF, 0x0, 0x0, 0x0, 0x0⟩,
  ⟨0x1018, 0x4, 1, 0x4, 1, 0xF, 0x0, 0x0, 0x0, 0x0⟩,
  ⟨0x1100, 0x20, 16, 0x4, 1, 0x1FFFFFFF, 0x0, 0x0, 0x0, 0x0⟩,
  ⟨0x1104, 0x20, 16, 0x4, 1, 0xFFFFFF, 0x0, 0x0, 0x0, 0x0⟩,
  ⟨0x1108, 0x20, 16, 0x4, 1, 0xFFFFFFFF, 0x0, 0x0, 0x0, 0x0⟩,
  ⟨0x110C, 0x20, 16, 0x4, 1, 0xFF1FFFFF, 0x0, 0x0, 0x0, 0x0⟩,
  ⟨0x1110, 0x20, 16, 0x4, 1, 0x3FFF, 0x0, 0x0, 0x0, 0x0⟩,
  ⟨0x1114, 0x20, 16, 0x4, 1, 0xFFFF, 0x0, 0x0, 0x0, 0x0⟩,
  ⟨0x2000, 0x4, 1, 0x4, 1, 0x0, 0x1, 0x0, 0x80000000, 0x0⟩,
  ⟨0x2004, 0x4, 1, 0x4, 1, 0x0, 0x0, 0x10, 0x0, 0x0⟩,
  ⟨0x2100, 0x10, 32, 0x4, 1, 0xFFFFFFFF, 0x0, 0x0, 0x0, 0x0⟩,
  ⟨0x2104, 0x10, 32, 0x4, 1, 0xFFFFFFFF, 0x0, 0x0, 0x0, 0x0⟩,
  ⟨0x2108, 0x10, 32, 0x4, 1, 0x80003FFF, 0x0, 0x0, 0x0, 0x0⟩,
  ⟨0x210C, 0x10, 32, 0x4, 1, 0xFFFFF, 0x0, 0x0, 0x0, 0x0⟩,
  ⟨0x2008, 0x4, 1, 0x4, 1, 0xFFFFFFFF, 0x0, 0x0, 0x0, 0x0⟩,
  ⟨0x0, 0x4, 1, 0x4, 1, 0x0, 0x0, 0x0, 0x0, 0x0⟩,
  ⟨0x4, 0x4, 1, 0x4, 1, 0x0, 0x0, 0x0, 0x0, 0x0⟩,
  ⟨0x8, 0x4, 1, 0x4, 1, 0xFFFF, 0x0, 0x0, 0x0, 0x0⟩,
  ⟨0xC, 0x4, 1, 0x4, 1, 0x7, 0x0, 0x0, 0x0, 0x0⟩,
  ⟨0x10, 0x4, 1, 0x4, 1, 0xFFFF, 0x0, 0x0, 0x0, 0x0⟩,
  ⟨0x14, 0x4, 1, 0x4, 1, 0xFFFF, 0x0, 0x0, 0x0, 0x0⟩,
  ⟨0x18, 0x4, 1, 0x4, 1, 0x0, 0x0, 0x0, 0x0, 0x0⟩,
  ⟨0x1C, 0x4, 1, 0x4, 1, 0x0, 0x0, 0x0, 0x0, 0x0⟩,
  ⟨0x20, 0x4, 1, 0x4, 1, 0xFFFFFFFF, 0x0, 0x0, 0x0, 0x0⟩,
  ⟨0x24, 0x4, 1, 0x4, 1, 0xFF000000, 0x0, 0x0, 0x0, 0x0⟩,
  ⟨0x6000, 0x4, 1024, 0x4, 1, 0xFFFFFFFF, 0x0, 0x0, 0x0, 0x0⟩,
  ⟨0x3000, 0x4, 1, 0x4, 1, 0xF, 0x0, 0x0, 0x0, 0x0⟩,
  ⟨0x3004, 0x4, 1, 0x4, 1, 0x0, 0x0, 0x0, 0x0, 0x0⟩,
  ⟨0x3008, 0x4, 1, 0x4, 1, 0xFFFFFFFF, 0x0, 0x0, 0x0, 0x1⟩,
  ⟨0x300C, 0x4, 1, 0x4, 1, 0xFFFFFFFF, 0x0, 0x0, 0x0, 0x0⟩]

def rows_core_1 : List Row := [
  ⟨0x3010, 0x4, 1, 0x4, 1, 0xFFFFFFFF, 0x0, 0x0, 0x0, 0x0⟩,
  ⟨0x3014, 0x4, 1, 0x4, 1, 0xFFFFFFFF, 0x0, 0x0, 0x0, 0x0⟩,
  ⟨0x3100, 0x10, 16, 0x4, 1, 0xFFFFFFFF, 0x0, 0x0, 0x0, 0x0⟩,
  ⟨0x3104, 0x10, 16, 0x4, 1, 0xFFFFFFFF, 0x0, 0x0, 0x0, 0x0⟩,
  ⟨0x3108, 0x10, 16, 0x4, 1, 0xFFFF0F, 0x0, 0x0, 0x0, 0x0⟩,
  ⟨0x3200, 0x8, 32, 0x4, 1, 0x1FFF, 0x0, 0x0, 0x0, 0x0⟩,
  ⟨0x3204, 0x8, 32, 0x4, 1, 0x7FFFC, 0x0, 0x0, 0x0, 0x0⟩,
  ⟨0x3300, 0x4, 32, 0x4, 1, 0xFF, 0x0, 0x0, 0x0, 0x0⟩,
  ⟨0x5000, 0x4, 1, 0x4, 1, 0x0, 0x0, 0x0, 0x80000000, 0x0⟩,
  ⟨0x5010, 0x10, 4, 0x4, 1, 0x0, 0x0, 0x2000, 0x0, 0x0⟩,
  ⟨0x5014, 0x10, 4, 0x4, 1, 0xFFFFFFFF, 0x0, 0x0, 0x0, 0x0⟩,
  ⟨0x5100, 0x10, 16, 0x4, 1, 0x0, 0x7FFFF, 0x0, 0x0, 0x0⟩,
  ⟨0x5104, 0x10, 16, 0x4, 1, 0x0, 0xFFFFFFFF, 0x0, 0x0, 0x0⟩,
  ⟨0x5108, 0x10, 16, 0x4, 1, 0x0, 0xFFFF, 0x0, 0x0, 0x0⟩,
  ⟨0x510C, 0x10, 16, 0x4, 1, 0x0, 0x0, 0x40, 0x0, 0x0⟩,
  ⟨0x5800, 0x20, 8, 0x4, 1, 0x7, 0x0, 0x0, 0x0, 0x0⟩,
  ⟨0x5804, 0x20, 8, 0x4, 1, 0xFFFFFFFF, 0x0, 0x0, 0x0, 0x0⟩,
  ⟨0x5808, 0x20, 8, 0x4, 1, 0xFFFFFFFF, 0x0, 0x0, 0x0, 0x1⟩,
  ⟨0x580C, 0x20, 8, 0x4, 1, 0x0, 0x0, 0x2, 0x0, 0x0⟩,
  ⟨0x5810, 0x20, 8, 0x4, 1, 0x0, 0x0, 0x0, 0x0, 0x0⟩,
  ⟨0x5814, 0x20, 8, 0x4, 1, 0x0, 0x0, 0x0, 0x0, 0x0⟩,
  ⟨0x5818, 0x20, 8, 0x4, 1, 0xFFFFFF, 0x0, 0x0, 0x0, 0x0⟩,
  ⟨0x7000, 0x4, 1, 0x4, 1, 0x0, 0x0, 0x3C, 0x0, 0x0⟩,
  ⟨0x7010, 0x8, 4, 0x4, 1, 0x0, 0x0, 0x0, 0x0, 0x0⟩,
  ⟨0x7014, 0x8, 4, 0x4, 1, 0x0, 0x0, 0x0, 0x0, 0x0⟩,
  ⟨0x4000, 0x100, 16, 0x4, 64, 0xFFFFFFFF, 0x0, 0x0, 0x0, 0x0⟩]

def rows_core : List Row := rows_core_0 ++ rows_core_1

def rows_012 : List Row := [
  ⟨0x120000, 0x4, 1, 0x4, 1, 0x7F, 0x0, 0x0, 0x0, 0x19⟩,
  ⟨0x120004, 0x4, 1, 0x4, 1, 0x0, 0x0, 0x0, 0x0, 0x0⟩,
  ⟨0x120008, 0x4, 1, 0x4, 1, 0x0, 0x0, 0x0, 0x0, 0x0⟩,
  ⟨0x12000C, 0x4, 1, 0x4, 1, 0x0, 0x0, 0x0, 0x0, 0x0⟩,
  ⟨0x120010, 0x4, 1, 0x4, 1, 0x0, 0x0, 0x0, 0x0, 0x0⟩,
  ⟨0x120014, 0x4, 1, 0x4, 1, 0x0, 0x0, 0x0, 0x0, 0x0⟩,
  ⟨0x120018, 0x4, 1, 0x4, 1, 0x0, 0x0, 0x0, 0x0, 0x0⟩,
  ⟨0x12001C, 0x4, 1, 0x4, 1, 0xFFFFFFFF, 0x0, 0x0, 0x0, 0x0⟩,
  ⟨0x120020, 0x4, 1, 0x4, 1, 0x0, 0x0, 0x7, 0x0, 0x0⟩,
  ⟨0x120024, 0x4, 1, 0x4, 1, 0x7, 0x0, 0x0, 0x0, 0x0⟩,
  ⟨0x120028, 0x4, 1, 0x4, 1, 0xFFFFFFFF, 0x0, 0x0, 0x0, 0x0⟩]

def rows_007 : List Row := [
  ⟨0x70000, 0x4, 1, 0x4, 1, 0x0, 0x0, 0x0, 0x80000000, 0x0⟩,
  ⟨0x70004, 0x4, 1, 0x4, 1, 0x0, 0x0, 0x0, 0x0, 0x0⟩,
  ⟨0x70010, 0x4, 1, 0x4, 1, 0x0, 0x0, 0x0, 0x0, 0x0⟩,
  ⟨0x70014, 0x4, 1, 0x4, 1, 0x0, 0x0, 0x0, 0x0, 0x0⟩,
  ⟨0x70018, 0x4, 1, 0x4, 1, 0xFFFFFFFF, 0x0, 0x0, 0x0, 0x0⟩,
  ⟨0x70020, 0x4, 1, 0x4, 1, 0x0, 0x0, 0x1, 0x0, 0x0⟩,
  ⟨0x70024, 0x4, 1, 0x4, 1, 0x1, 0x0, 0x0, 0x0, 0x0⟩,
  ⟨0x70100, 0x4, 14, 0x4, 1, 0x0, 0x1, 0x0, 0x0, 0x0⟩,
  ⟨0x70180, 0x4, 14, 0x4, 1, 0x0, 0x0, 0x0, 0x0, 0x0⟩,
  ⟨0x71000, 0x100, 8, 0x4, 8, 0xFFFFFFFF, 0x0, 0x0, 0x0, 0x0⟩,
  ⟨0x71020, 0x100, 8, 0x4, 1, 0x0, 0x0, 0x0, 0x0, 0x0⟩,
  ⟨0x71024, 0x100, 8, 0x4, 1, 0x0, 0x0, 0x400, 0x0, 0x0⟩,
  ⟨0x71028, 0x100, 8, 0x4, 1, 0xFFFFFFFF, 0x0, 0x0, 0x0, 0x0⟩,
  ⟨0x7102C, 0x100, 8, 0x4, 1, 0x0, 0x0, 0x0, 0x0, 0x0⟩,
  ⟨0x71030, 0x100, 8, 0x4, 1, 0x0, 0x0, 0x0, 0x0, 0x0⟩]

def rows_008 : List Row := [
  ⟨0x80000, 0x10000, 2, 0x4, 1, 0x0, 0xFFF, 0x0, 0x80000000, 0x2⟩,
  ⟨0x80004, 0x10000, 2, 0x4, 1, 0x0, 0x0, 0x0, 0x0, 0x0⟩,
  ⟨0x80008, 0x10000, 2, 0x4, 1, 0xFFFF, 0x0, 0x0, 0x0, 0x3E8⟩,
  ⟨0x80010, 0x10000, 2, 0x4, 1, 0xFFFFFFFF, 0x0, 0x0, 0x0, 0x0⟩,
  ⟨0x80014, 0x10000, 2, 0x4, 1, 0x0, 0x0, 0x0, 0x0, 0x0⟩,
  ⟨0x80018, 0x10000, 2, 0x4, 1, 0x0, 0x0, 0x0, 0x0, 0x0⟩,
  ⟨0x80020, 0x10000, 2, 0x4, 1, 0x0, 0x0, 0x1F, 0x0, 0x0⟩,
  ⟨0x80024, 0x10000, 2, 0x4, 1, 0x1F, 0x0, 0x0, 0x0, 0x0⟩]

def rows_00A : List Row := [
  ⟨0xA0000, 0x4, 1, 0x4, 1, 0x0, 0x0, 0x0, 0x0, 0x0⟩,
  ⟨0xA0004, 0x4, 1, 0x4, 1, 0x0, 0x0, 0x100, 0x0, 0x0⟩,
  ⟨0xA0010, 0x4, 5, 0x4, 1, 0xFF, 0x0, 0x0, 0x0, 0x0⟩,
  ⟨0xA0030, 0x4, 1, 0x4, 1, 0x0, 0x0, 0x1F, 0x0, 0x0⟩,
  ⟨0xA0034, 0x4, 1, 0x4, 1, 0x1F, 0x0, 0x0, 0x0, 0x0⟩]

def rows_00B : List Row := [
  ⟨0xB0010, 0x4, 1, 0x4, 1, 0x0, 0x0, 0x0, 0x0, 0x0⟩,
  ⟨0xB0014, 0x4, 1, 0x4, 1, 0xFFFFFFFF, 0x0, 0x0, 0x0, 0x0⟩,
  ⟨0xB0020, 0x4, 1, 0x4, 1, 0x0, 0x0, 0x3FFF, 0x0, 0x0⟩,
  ⟨0xB0024, 0x4, 1, 0x4, 1, 0x3FFF, 0x0, 0x0, 0x0, 0x0⟩,
  ⟨0xB0100, 0x20, 4, 0x4, 1, 0xFFFFFFFF, 0x0, 0x0, 0x0, 0x0⟩,
  ⟨0xB0104, 0x20, 4, 0x4, 1, 0xFFFF, 0x0, 0x0, 0x0, 0x0⟩,
  ⟨0xB0108, 0x20, 4, 0x4, 1, 0x7FFFFF, 0x0, 0x0, 0x0, 0x6⟩,
  ⟨0xB010C, 0x20, 4, 0x4, 1, 0xFFFFFF, 0x0, 0x0, 0x0, 0x0⟩,
  ⟨0xB0110, 0x20, 4, 0x4, 1, 0x0, 0x0, 0x0, 0x0, 0x0⟩,
  ⟨0xB0114, 0x20, 4, 0x4, 1, 0x0, 0x0, 0x0, 0x0, 0x0⟩,
  ⟨0xB0118, 0x20, 4, 0x4, 1, 0x0, 0x0, 0x0, 0x0, 0x0⟩,
  ⟨0xB0400, 0x4, 14, 0x4, 1, 0x0, 0x0, 0x80000000, 0x0, 0x0⟩]

def rows_200 : List Row := [
  ⟨0x2001000, 0x4, 1, 0x4, 1, 0x0, 0x0, 0x0, 0xFFFF, 0x0⟩,
  ⟨0x2001004, 0x4, 1, 0x4, 1, 0x0, 0x0, 0x0, 0xFFFF, 0x0⟩,
  ⟨0x2001100, 0x8, 64, 0x4, 1, 0x0, 0x0, 0x0, 0x0, 0x0⟩,
  ⟨0x2001104, 0x8, 64, 0x4, 1, 0x0, 0x0, 0x0, 0x0, 0x0⟩,
  ⟨0x2003000, 0x4, 1, 0x4, 1, 0xFFFF, 0x0, 0x0, 0x0, 0x0⟩,
  ⟨0x2003004, 0x4, 1, 0x4, 1, 0x1, 0x0, 0x0, 0x0, 0x0⟩,
  ⟨0x2003008, 0x4, 1, 0x4, 1, 0x3, 0x0, 0x0, 0x0, 0x0⟩,
  ⟨0x2003010, 0x4, 1, 0x4, 1, 0xFFFFFFFF, 0x0, 0x0, 0x0, 0x0⟩,
  ⟨0x2003014, 0x4, 1, 0x4, 1, 0x0, 0x0, 0x0, 0x0, 0x0⟩,
  ⟨0x2003018, 0x4, 1, 0x4, 1, 0xFFFF, 0x0, 0x0, 0x0, 0x0⟩,
  ⟨0x200301C, 0x4, 1, 0x4, 1, 0xFFFF, 0x0, 0x0, 0x0, 0x0⟩,
  ⟨0x2003020, 0x4, 1, 0x4, 1, 0x0, 0x0, 0x0, 0x0, 0x0⟩,
  ⟨0x2001008, 0x4, 1, 0x4, 1, 0x0, 0x0, 0x0, 0x0, 0x0⟩,
  ⟨0x2002010, 0x4, 1, 0x4, 1, 0x0, 0x0, 0x0, 0x0, 0x0⟩,
  ⟨0x2003040, 0x4, 1, 0x4, 1, 0x0, 0x0, 0x0, 0x0, 0x0⟩,
  ⟨0x2003030, 0x4, 1, 0x4, 1, 0xFFFFFFFF, 0x0, 0x0, 0x0, 0x0⟩,
  ⟨0x2003034, 0x4, 1, 0x4, 1, 0xFFFF, 0x0, 0x0, 0x0, 0x0⟩,
  ⟨0x2002000, 0x4, 1, 0x4, 1, 0x0, 0x0, 0x0, 0x0, 0x0⟩,
  ⟨0x2002004, 0x4, 1, 0x4, 1, 0x0, 0x0, 0x0, 0x0, 0x0⟩,
  ⟨0x2002008, 0x4, 1, 0x4, 1, 0x0, 0x0, 0x0, 0x0, 0x0⟩,
  ⟨0x200200C, 0x4, 1, 0x4, 1, 0x0, 0x0, 0x0, 0x0, 0x0⟩,
  ⟨0x2002100, 0x8, 64, 0x4, 1, 0x0, 0x0, 0x0, 0x0, 0x0⟩,
  ⟨0x2002104, 0x8, 64, 0x4, 1, 0x0, 0x0, 0x0, 0x0, 0x0⟩]

def rows_00C : List Row := [
  ⟨0xC0000, 0x4, 1, 0x4, 1, 0x1, 0x0, 0x0, 0x0, 0x0⟩,
  ⟨0xC0004, 0x4, 1, 0x4, 1, 0xF, 0x0, 0x0, 0x0, 0x0⟩,
  ⟨0xC0008, 0x4, 1, 0x4, 1, 0xFFFFFFFF, 0x0, 0x0, 0x0, 0x0⟩,
  ⟨0xC1000, 0x4, 1024, 0x4, 1, 0x80003FFF, 0x0, 0x0, 0x0, 0x0⟩]

def rows_00E : List Row := [
  ⟨0xE0000, 0x40, 64, 0x4, 1, 0x0, 0x0, 0x0, 0x0, 0x0⟩,
  ⟨0xE0004, 0x40, 64, 0x4, 1, 0x0, 0x0, 0x0, 0x0, 0x0⟩,
  ⟨0xE0008, 0x40, 64, 0x4, 1, 0x0, 0x0, 0x0, 0x0, 0x0⟩,
  ⟨0xE000C, 0x40, 64, 0x4, 1, 0x0, 0x0, 0x0, 0x0, 0x1⟩,
  ⟨0xE0010, 0x40, 64, 0x4, 1, 0xFFFFFFFF, 0x0, 0x0, 0x0, 0x0⟩,
  ⟨0xE0014, 0x40, 64, 0x4, 1, 0xFFFFFFFF, 0x0, 0x0, 0x0, 0x0⟩,
  ⟨0xE0018, 0x40, 64, 0x4, 1, 0x0, 0x0, 0x0, 0x0, 0x0⟩,
  ⟨0xE001C, 0x40, 64, 0x4, 1, 0x0, 0x0, 0x0, 0x0, 0x0⟩]

def rows_017 : List Row := [
  ⟨0x170000, 0x4, 1, 0x4, 1, 0xFF, 0x0, 0x0, 0x80000000, 0x0⟩,
  ⟨0x170004, 0x4, 1, 0x4, 1, 0x0, 0x3FF, 0x0, 0x0, 0x0⟩,
  ⟨0x170008, 0x4, 1, 0x4, 1, 0x0, 0xFFFFFF, 0x0, 0x0, 0x14402⟩,
  ⟨0x17000C, 0x4, 1, 0x4, 1, 0x0, 0xFFFFF, 0x0, 0x0, 0x30064⟩,
  ⟨0x170010, 0x4, 1, 0x4, 1, 0x0, 0x0, 0xFF, 0x0, 0x0⟩,
  ⟨0x170014, 0x4, 1, 0x4, 1, 0xFF, 0x0, 0x0, 0x0, 0x0⟩,
  ⟨0x170018, 0x4, 1, 0x4, 1, 0xFFFFFFFF, 0x0, 0x0, 0x0, 0x0⟩,
  ⟨0x171000, 0x100, 4, 0x4, 1, 0x0, 0x0, 0x0, 0x0, 0x0⟩,
  ⟨0x171004, 0x100, 4, 0x4, 1, 0x0, 0x0, 0x0, 0x0, 0x0⟩,
  ⟨0x171008, 0x100, 4, 0x4, 1, 0xFFFFFFFF, 0x0, 0x0, 0x0, 0x0⟩,
  ⟨0x17100C, 0x100, 4, 0x4, 1, 0xFFFFFFFF, 0x0, 0x0, 0x0, 0x0⟩,
  ⟨0x171010, 0x100, 4, 0x4, 1, 0x0, 0x0, 0x0, 0x0, 0x0⟩,
  ⟨0x171040, 0x100, 4, 0x4, 8, 0xFFFFFFFF, 0x0, 0x0, 0x0, 0x0⟩,
  ⟨0x171060, 0x100, 4, 0x4, 1, 0x0, 0x0, 0x0, 0x0, 0x0⟩,
  ⟨0x171064, 0x100, 4, 0x4, 1, 0x0, 0x0, 0x0, 0x0, 0x0⟩,
  ⟨0x171068, 0x100, 4, 0x4, 1, 0x0, 0x0, 0x0, 0x0, 0x0⟩,
  ⟨0x17106C, 0x100, 4, 0x4, 1, 0x0, 0x0, 0x0, 0x0, 0x0⟩,
  ⟨0x178000, 0x400, 4, 0x4, 256, 0xFFFFFFFF, 0x0, 0x0, 0x0, 0x0⟩]

def rows_000 : List Row := [
  ⟨0x0, 0x4, 1, 0x4, 1, 0x0, 0x0, 0x0, 0x0, 0x0⟩,
  ⟨0x4, 0x4, 1, 0x4, 1, 0x0, 0x0, 0x0, 0x0, 0x0⟩,
  ⟨0x8, 0x4, 1, 0x4, 1, 0x0, 0x0, 0x3F, 0x0, 0x0⟩,
  ⟨0x10, 0x4, 1, 0x4, 1, 0x0, 0x0, 0x0, 0x0, 0x0⟩,
  ⟨0x14, 0x4, 1, 0x4, 1, 0x0, 0x0, 0x0, 0x0, 0x0⟩,
  ⟨0x100, 0x4, 1, 0x4, 1, 0xFFFF0000, 0x0, 0x0, 0x0, 0x1900⟩]

def rows_001 : List Row := [
  ⟨0x10000, 0x4, 1, 0x4, 1, 0x0, 0x0, 0x0, 0x0, 0x0⟩,
  ⟨0x10004, 0x4, 1, 0x4, 1, 0x0, 0x0, 0x0, 0x0, 0x0⟩,
  ⟨0x10008, 0x4, 1, 0x4, 1, 0x0, 0x0, 0x0, 0x0, 0x0⟩,
  ⟨0x1000C, 0x4, 1, 0x4, 1, 0x0, 0x0, 0x0, 0x0, 0x0⟩,
  ⟨0x10010, 0x4, 1, 0x4, 1, 0x0, 0x0, 0x0, 0x0, 0x0⟩,
  ⟨0x10100, 0x40, 4, 0x4, 12, 0x0, 0x0, 0x0, 0x0, 0x0⟩,
  ⟨0x10400, 0x4, 64, 0x4, 1, 0x0, 0x0, 0x0, 0x0, 0x0⟩,
  ⟨0x10800, 0x4, 1, 0x4, 1, 0x0, 0x0, 0x0, 0x0, 0x0⟩,
  ⟨0x10020, 0x4, 1, 0x4, 1, 0x0, 0x0, 0x0, 0x0, 0x0⟩,
  ⟨0x10200, 0x4, 12, 0x4, 1, 0x0, 0x0, 0x0, 0x0, 0x0⟩]

def rows_002 : List Row := [
  ⟨0x20000, 0x4, 1, 0x4, 1, 0x0, 0x0, 0xA00, 0x0, 0x0⟩,
  ⟨0x20004, 0x4, 1, 0x4, 1, 0xFFF1, 0x0, 0x0, 0x0, 0xD31⟩,
  ⟨0x20008, 0x4, 1, 0x4, 1, 0x0, 0x0, 0x0, 0x0, 0x0⟩,
  ⟨0x2000C, 0x4, 1, 0x4, 1, 0xFFFFFFFF, 0x0, 0x0, 0x0, 0x0⟩,
  ⟨0x20100, 0x4, 64, 0x4, 1, 0x0, 0x0, 0x0, 0x0, 0x0⟩,
  ⟨0x21000, 0x8, 384, 0x4, 1, 0x0, 0x0, 0x0, 0x0, 0x0⟩,
  ⟨0x21004, 0x8, 384, 0x4, 1, 0x0, 0x0, 0x0, 0x0, 0x0⟩]

def rows_003 : List Row := [
  ⟨0x30000, 0x4, 1, 0x4, 1, 0x3, 0x0, 0x0, 0x80000000, 0x0⟩,
  ⟨0x30004, 0x4, 1, 0x4, 1, 0x0, 0x0, 0x0, 0x0, 0x0⟩,
  ⟨0x30008, 0x4, 1, 0x4, 1, 0xFFFFFFFF, 0x0, 0x0, 0x0, 0x0⟩,
  ⟨0x3000C, 0x4, 1, 0x4, 1, 0x3F, 0x0, 0x0, 0x0, 0x0⟩,
  ⟨0x30010, 0x4, 1, 0x4, 1, 0x0, 0x0, 0x3, 0x0, 0x0⟩,
  ⟨0x30014, 0x4, 1, 0x4, 1, 0x3, 0x0, 0x0, 0x0, 0x0⟩,
  ⟨0x30018, 0x4, 1, 0x4, 1, 0xFFFFFFFF, 0x0, 0x0, 0x0, 0x0⟩]

def rows_004 : List Row := [
  ⟨0x40000, 0x4, 1, 0x4, 1, 0x0, 0x0, 0x0, 0x0, 0x0⟩,
  ⟨0x40004, 0x4, 1, 0x4, 1, 0xFFFF, 0x0, 0x0, 0x0, 0x10⟩,
  ⟨0x40008, 0x4, 1, 0x4, 1, 0x0, 0xFFFFF, 0x0, 0x80000000, 0x8C21C⟩,
  ⟨0x4000C, 0x4, 1, 0x4, 1, 0x0, 0x0, 0x0, 0x0, 0x0⟩,
  ⟨0x40010, 0x4, 1, 0x4, 1, 0x0, 0x0, 0x3, 0x0, 0x0⟩,
  ⟨0x40014, 0x4, 1, 0x4, 1, 0x3, 0x0, 0x0, 0x0, 0x0⟩,
  ⟨0x40100, 0x4, 70, 0x4, 1, 0x0, 0x0, 0x0, 0x0, 0x0⟩,
  ⟨0x41000, 0x10, 70, 0x4, 1, 0x0, 0x0, 0x0, 0x0, 0x0⟩,
  ⟨0x41004, 0x10, 70, 0x4, 1, 0x0, 0x0, 0x0, 0xFFFFFFFF, 0x0⟩,
  ⟨0x41008, 0x10, 70, 0x4, 1, 0x0, 0x0, 0x7FFFFFFF, 0x0, 0x0⟩,
  ⟨0x4100C, 0x10, 70, 0x4, 1, 0x100, 0x0, 0x0, 0x0, 0x0⟩]

def rows_005 : List Row := [
  ⟨0x50000, 0x4, 1, 0x4, 1, 0x0, 0x0, 0x6, 0x0, 0x0⟩,
  ⟨0x50008, 0x4, 1, 0x4, 1, 0x0, 0x0, 0x0, 0x0, 0x0⟩,
  ⟨0x5000C, 0x4, 1, 0x4, 1, 0x0, 0x0, 0x0, 0x0, 0x0⟩,
  ⟨0x50010, 0x4, 1, 0x4, 1, 0x7FF, 0x0, 0x0, 0x0, 0x554⟩,
  ⟨0x50014, 0x4, 1, 0x4, 1, 0x0, 0x0, 0x10000, 0x0, 0x0⟩,
  ⟨0x50020, 0x4, 1, 0x4, 1, 0x0, 0x0, 0x0, 0x0, 0x0⟩,
  ⟨0x50024, 0x4, 1, 0x4, 1, 0x0, 0x0, 0x3FE, 0x0, 0x0⟩,
  ⟨0x50028, 0x4, 1, 0x4, 1, 0xFFFFFFFF, 0x0, 0x0, 0x0, 0x0⟩,
  ⟨0x51000, 0x10, 64, 0x4, 4, 0xFFFFFFFF, 0x0, 0x0, 0x0, 0x0⟩]

def rows_006 : List Row := [
  ⟨0x60000, 0x4, 1, 0x4, 1, 0x0, 0x0, 0x0, 0x80000000, 0x0⟩,
  ⟨0x60004, 0x4, 1, 0x4, 1, 0x1FFFFFF, 0x0, 0x0, 0x0, 0x10001F4⟩,
  ⟨0x60008, 0x4, 1, 0x4, 1, 0x0, 0x0, 0x0, 0x0, 0x0⟩,
  ⟨0x6000C, 0x4, 1, 0x4, 1, 0x0, 0x0, 0x18, 0x0, 0x0⟩,
  ⟨0x60010, 0x4, 1, 0x4, 1, 0x0, 0x0, 0x0, 0x0, 0x0⟩,
  ⟨0x60014, 0x4, 1, 0x4, 1, 0xFFFFF, 0x0, 0x0, 0x0, 0x303E8⟩,
  ⟨0x60018, 0x4, 1, 0x4, 1, 0x0, 0x0, 0x0, 0x0, 0x0⟩,
  ⟨0x6001C, 0x4, 1, 0x4, 1, 0xFFFFFFFF, 0x0, 0x0, 0x0, 0x0⟩,
  ⟨0x60020, 0x4, 1, 0x4, 1, 0x0, 0x0, 0x7, 0x0, 0x0⟩,
  ⟨0x60024, 0x4, 1, 0x4, 1, 0x7, 0x0, 0x0, 0x0, 0x0⟩,
  ⟨0x60800, 0x8, 16, 0x4, 1, 0xFFFFFFFF, 0x0, 0x0, 0x0, 0x0⟩,
  ⟨0x60804, 0x8, 16, 0x4, 1, 0xFFFFFFFF, 0x0, 0x0, 0x0, 0x0⟩,
  ⟨0x61000, 0x8, 64, 0x4, 1, 0xFFFFFFFF, 0x0, 0x0, 0x0, 0x0⟩,
  ⟨0x61004, 0x8, 64, 0x4, 1, 0x0, 0x0, 0x0, 0x0, 0x0⟩]

def rows_00F : List Row := [
  ⟨0xF0000, 0x4, 1, 0x4, 1, 0x1, 0x0, 0x0, 0x0, 0x0⟩,
  ⟨0xF0004, 0x4, 1, 0x4, 1, 0x7, 0x0, 0x0, 0x0, 0x4⟩,
  ⟨0xF0008, 0x4, 1, 0x4, 1, 0xFFFFFFFF, 0x0, 0x0, 0x0, 0x0⟩,
  ⟨0xF000C, 0x4, 1, 0x4, 1, 0xFFFF, 0x0, 0x0, 0x0, 0x0⟩,
  ⟨0xF0010, 0x4, 1, 0x4, 1, 0x0, 0x0, 0x0, 0x0, 0x0⟩,
  ⟨0xF0014, 0x4, 1, 0x4, 1, 0x0, 0x0, 0x0, 0x0, 0x3⟩,
  ⟨0xF0018, 0x4, 1, 0x4, 1, 0xFFFFFFFF, 0x0, 0x0, 0x0, 0x0⟩,
  ⟨0xF001C, 0x4, 1, 0x4, 1, 0xFFFF, 0x0, 0x0, 0x0, 0x0⟩,
  ⟨0xF0020, 0x4, 1, 0x4, 1, 0x0, 0x0, 0x7, 0x0, 0x0⟩,
  ⟨0xF0024, 0x4, 1, 0x4, 1, 0x7, 0x0, 0x0, 0x0, 0x0⟩,
  ⟨0xF0100, 0x4, 1, 0x4, 1, 0x0, 0x0, 0x0, 0x0, 0x1FFFF⟩,
  ⟨0xF0104, 0x4, 1, 0x4, 1, 0x0, 0x0, 0x0, 0x0, 0x0⟩,
  ⟨0xF0108, 0x4, 1, 0x4, 1, 0x0, 0x0, 0x0, 0x0, 0x0⟩,
  ⟨0xF010C, 0x4, 1, 0x4, 1, 0x0, 0x0, 0x0, 0x0, 0x0⟩,
  ⟨0xF0110, 0x4, 1, 0x4, 1, 0x0, 0x0, 0x0, 0x0, 0x0⟩,
  ⟨0xF0200, 0x10, 8, 0x4, 1, 0xFFFFFFFF, 0x0, 0x0, 0x0, 0x0⟩,
  ⟨0xF0204, 0x10, 8, 0x4, 1, 0xFFFFFFFF, 0x0, 0x0, 0x0, 0x0⟩,
  ⟨0xF0208, 0x10, 8, 0x4, 1, 0xFF07, 0x0, 0x0, 0x0, 0x0⟩]

def rows_010 : List Row := [
  ⟨0x100000, 0x4, 1, 0x4, 1, 0x2, 0x0, 0x0, 0x0, 0x0⟩,
  ⟨0x100004, 0x4, 1, 0x4, 1, 0x0, 0x0, 0x2, 0x0, 0x0⟩,
  ⟨0x100008, 0x4, 1, 0x4, 1, 0xFFFFFFFF, 0x0, 0x0, 0x0, 0x0⟩,
  ⟨0x10000C, 0x4, 1, 0x4, 1, 0xFFFF, 0x0, 0x0, 0x0, 0x0⟩,
  ⟨0x100010, 0x4, 1, 0x4, 1, 0x0, 0x0, 0xFFFFFFFF, 0x0, 0x0⟩,
  ⟨0x100014, 0x4, 1, 0x4, 1, 0xFFFFFFFF, 0x0, 0x0, 0x0, 0x0⟩]

def rows_011 : List Row := [
  ⟨0x110000, 0x4, 1, 0x4, 1, 0x0, 0x0, 0x0, 0x0, 0x0⟩,
  ⟨0x110008, 0x4, 1, 0x4, 1, 0x0, 0x0, 0x0, 0x0, 0x0⟩,
  ⟨0x11000C, 0x4, 1, 0x4, 1, 0x0, 0x0, 0x0, 0x0, 0x0⟩,
  ⟨0x110010, 0x4, 1, 0x4, 1, 0x0, 0x0, 0x0, 0x0, 0x0⟩]

def rows_014 : List Row := [
  ⟨0x140000, 0x10, 4096, 0x4, 2, 0xFFFFFFFF, 0x0, 0x0, 0x0, 0x0⟩,
  ⟨0x140008, 0x10, 4096, 0x4, 1, 0xFFFFF, 0x0, 0x0, 0x0, 0x0⟩,
  ⟨0x14000C, 0x10, 4096, 0x4, 1, 0x1F, 0x0, 0x0, 0x0, 0x0⟩]

def rows_140 : List Row := [
  ⟨0x1400000, 0x4, 1, 0x4, 1, 0x0, 0x0, 0x0, 0x0, 0x0⟩]

/-- The rows of the 64 KiB step of register space that `blk` numbers (R256); BAR0's pages are steps 0x200. -/
def blockRows (blk : Nat) : List Row :=
  if blk = 0x13 then rows_013 else
  if blk = 0x15 then rows_015 else
  if blk = 0x16 then rows_016 else
  if blk = 0x12 then rows_012 else
  if blk = 0x7 then rows_007 else
  if blk = 0x8 ∨ blk = 0x9 then rows_008 else
  if blk = 0xA then rows_00A else
  if blk = 0xB then rows_00B else
  if blk = 0x200 then rows_200 else
  if blk = 0xC then rows_00C else
  if blk = 0xE then rows_00E else
  if blk = 0x17 then rows_017 else
  if blk = 0x0 then rows_000 else
  if blk = 0x1 then rows_001 else
  if blk = 0x2 then rows_002 else
  if blk = 0x3 then rows_003 else
  if blk = 0x4 then rows_004 else
  if blk = 0x5 then rows_005 else
  if blk = 0x6 then rows_006 else
  if blk = 0xF then rows_00F else
  if blk = 0x10 then rows_010 else
  if blk = 0x11 then rows_011 else
  if blk = 0x14 then rows_014 else
  if blk = 0x140 then rows_140 else
  []

/-- Whether row `r` holds the register at offset `off`. -/
def Row.hits (r : Row) (off : Nat) : Bool :=
  let d := off - r.base
  let e := d % r.s1
  r.base ≤ off && d / r.s1 < r.n1 && e / r.s2 < r.n2 && e % r.s2 == 0

/-- The rows and the offset to look up for a register address of the model's store. -/
def lookupKey (a : Nat) : List Row × Nat :=
  if 0x10000000 ≤ a then (rows_core, (a - 0x10000000) % 0x10000)
  else if 0x1000000 ≤ a ∧ a < 0x1400000 then (rows_router, a % 0x10000)
  else if 0x90000 ≤ a ∧ a < 0xA0000 then (blockRows 0x8, a - 0x10000)
  else (blockRows (a / 0x10000), a)

/-- The row of the register at an address; none for a reserved offset (R9). -/
def row? (a : Nat) : Option Row :=
  let k := lookupKey a
  k.1.find? (·.hits k.2)

end Sys2Proof.Machine.Reg
end

