-- ==== Sys2Proof/Config.lean ====
section
/-! DEFINITION. What the spec leaves open, as constants without a body: nothing can be proved of their values, so a
statement about them holds whatever they are. Each is named in the assumption log. -/

namespace Sys2Proof.Config

/-- The nonce of an ID request (R46 gives none): a free value for each count of `fresh`. Log 7. -/
opaque nonce : Nat → BitVec 16

/-- The bytes of an unlock challenge (R435 gives none). Log 7. -/
opaque challenge : Nat → BitVec 256

/-- Wiandun's vendor identifier in PCI Express configuration space (R280 gives no number). Log 156. -/
opaque vendorId : BitVec 16

/-- The bytes LOG_READ writes for an event-log entry (the spec gives no layout): from code, subject, detail and byte index. Log 31. -/
opaque logByte : Nat → Nat → Nat → Nat → BitVec 8

/-- SHA-384 of a byte string (R354 names the standard). Log 32. -/
opaque sha384 : List Byte → List Byte

/-- Whether an ECDSA P-384 signature verifies (R354, R435 name the standard): key, digest, signature. Log 32. -/
opaque ecdsaOk : List Byte → List Byte → List Byte → Bool

/-- The link-layer version of this chip's INIT blocks (R333 gives none). Log 33. -/
opaque linkVersion : BitVec 8

/-- Whether the peer of a link is aligned at a chip time (R338; no block of R328 tells it). Log 159. -/
opaque peerAligned : Nat → BitVec 48 → Bool

/-- The chip serial in an unlock challenge (R435; no register holds it). Log 7. -/
opaque chipSerial : BitVec 64

/-- The public key an unlock of a scope is verified with (R435): for scope 1 the key whose hash FUSE_DBGKEY holds, for scope 2
Wiandun's own. Log 32. -/
opaque debugKey : Nat → List Byte → List Byte

/-- A register's contents where no rule gives any (a value no statement rests on). Log 7. -/
opaque freeWord : Nat → Word

/-- Where the power of the geometric schedule (R242) falls beside the nearest binary64: base and exponent; modulo 3, one unit in
the last place below, the nearest itself, one above. Log 10. -/
opaque powUlp : Int × Int → Int × Int → Nat

/-- A byte of a record whose field has no value (R247 before any best state): a count of such records, the offset. Log 152. -/
opaque openByte : Nat → Nat → Byte

/-- The greatest ΔE at which a value of draw [31:8] flips a spin, before the bounds of R241 are held to it (exp is
implementation-defined): heat-bath, T_code, the value. Log 10. -/
opaque acceptUpTo : Bool → Int × Int → Nat → Int

/-- Firmware's compiled-in table of qualified combinations (R308): HCU_COMPAT, CL_COMPAT, DUNE_COMPAT, stepping. Log 11. -/
opaque qualified : List (Nat × Nat × Nat × Nat)

/-- Bytes of the fitted flash device, as its SFDP table gives them (R279). Log 15. -/
opaque flashDensity : Nat

end Sys2Proof.Config
end

