-- ==== Sys2Proof/Machine/Store.lean ====
section
/-! DEFINITION. The three stores State is built from: a sparse array of records keyed by a number, the register words
keyed by their address, and memory as a canonical list of bytes (Host.Cell). -/

namespace Sys2Proof.Machine

/-- A sparse array: records keyed by a number, an unlisted key standing for the array's default. -/
abbrev SMap (α : Type) := List (Nat × α)

/-- The record at key `k`, or the default `d`. -/
def smGet {α : Type} (d : α) : SMap α → Nat → α
  | [], _ => d
  | (k', v) :: t, k => if k' = k then v else smGet d t k

/-- The array with `v` at key `k`. -/
def smSet {α : Type} : SMap α → Nat → α → SMap α
  | [], k, v => [(k, v)]
  | (k', v') :: t, k, v =>
    if k < k' then (k, v) :: (k', v') :: t
    else if k' = k then (k, v) :: t
    else (k', v') :: smSet t k v

/-- Memory: the bytes that do not read as zero, by rising address. -/
abbrev Memory := List Host.Cell

/-- What an address nothing has written reads as (log 5: the spec gives no contents after power-on). -/
def Memory.unlisted : Byte := 0#8

/-- The byte at address `a`. -/
def Memory.read (m : Memory) (a : Nat) : Byte := smGet Memory.unlisted m a

/-- `m` with nothing listed at `a`. -/
def Memory.erase (m : Memory) (a : Nat) : Memory := m.filter (fun c => c.1 ≠ a)

/-- `m` with the byte `b` at `a`; the canonical form is kept. -/
def Memory.write (m : Memory) (a : Nat) (b : Byte) : Memory :=
  if b = Memory.unlisted then m.erase a else smSet m a b

/-- The canonical form: addresses strictly rising, no entry equal to what an unlisted address reads as. -/
abbrev Memory.wf (m : Memory) : Prop :=
  m.Pairwise (fun x y => x.1 < y.1) ∧ ∀ c ∈ m, c.2 ≠ Memory.unlisted

/-- The bytes `bs` written from address `a` on (R4: the lowest address first). -/
def Memory.writeBytes (m : Memory) (a : Nat) : List Byte → Memory
  | [] => m
  | b :: bs => Memory.writeBytes (m.write a b) (a + 1) bs

/-- The `n` bytes from address `a` on. -/
def Memory.readBytes (m : Memory) (a : Nat) : Nat → List Byte
  | 0 => []
  | n + 1 => m.read a :: Memory.readBytes m (a + 1) n

/-- The number little-endian bytes stand for (R4). -/
def bytesToNat : List Byte → Nat
  | [] => 0
  | b :: bs => b.toNat + 256 * bytesToNat bs

/-- The `n` little-endian bytes of a number (R4). -/
def natToBytes : Nat → Nat → List Byte
  | 0, _ => []
  | n + 1, v => BitVec.ofNat 8 v :: natToBytes n (v / 256)

/-- The little-endian number in the `n` bytes from `a` on. -/
def Memory.readNat (m : Memory) (a n : Nat) : Nat := bytesToNat (m.readBytes a n)

/-- `m` with the `n` little-endian bytes of `v` from `a` on. -/
def Memory.writeNat (m : Memory) (a n v : Nat) : Memory := m.writeBytes a (natToBytes n v)

/-- `m` with the `n` bytes from `dst` on reading as the bytes of `cells` do, each moved by `dst - src`. -/
def Memory.placeCells (m : Memory) (dst src : Nat) : List Host.Cell → Memory
  | [] => m
  | c :: cs => Memory.placeCells (m.write (dst + (c.1 - src)) c.2) dst src cs

/-- Fill `n` bytes from `a` on with zeros. -/
def Memory.clear (m : Memory) (a n : Nat) : Memory := m.filter (fun c => c.1 < a || a + n ≤ c.1)

/-- `m` with the `n` bytes from `src` on of `from_` copied to `dst`. -/
def Memory.copyFrom (m from_ : Memory) (dst src n : Nat) : Memory :=
  (m.clear dst n).placeCells dst src (from_.filter (fun c => src ≤ c.1 && c.1 < src + n))

end Sys2Proof.Machine
end

