-- ==== Sys2Proof/Machine/State.lean ====
section
/-! DEFINITION. The state of the block: every register, memory, queue and hidden mark the spec gives it, and the queue
of commands that wait. Register fields live in `regs`, one word per register of the spec's tables. -/

namespace Sys2Proof.Machine

/-! ## Fabric (R94 to R121) -/

/-- A source-routed packet (R96 to R99): header flit and body flits. -/
structure Packet where
  hdr : DWord
  body : List DWord
  deriving DecidableEq, Repr

/-- What one buffer holds (R102). An event at the head of a buffer keeps the set of outputs it still has to leave by
(R103): bits 0–15 core ports, 16 E, 17 N, 18 W, 19 S, 20 FERYO; none before its lookup. -/
inductive Flit where
  | event (e : DWord) (left : Option (BitVec 21))
  | packet (p : Packet)
  deriving DecidableEq, Repr

/-- What a delivery stage holds for one core port and class, with the slot an event was translated to (R117). -/
structure Staged where
  flit : Flit
  slot : Option Nat
  deriving DecidableEq, Repr

/-- A cluster router with its delivery stages. `bufs` is keyed by input × 8 + class, inputs being 0–15 core ports,
16 E, 17 N, 18 W, 19 S or the edge port, 20 Feryo, 21 what the router itself originates (R121, R214). -/
structure Router where
  bufs : SMap (List Flit)
  /-- What stands before an input and waits for a buffer of its class (R102, R115), keyed as `bufs`. -/
  waits : SMap (List Flit)
  stage : SMap (Option Staged)
  /-- When the last MISS report was injected (R107). -/
  lastMiss : Option Time
  /-- The previous copy of the core map (R118), as the words of the former active copy that differ from the seating. -/
  prev : SMap Word
  deriving DecidableEq, Repr

/-- A router with nothing in it. -/
def Router.init : Router := { bufs := [], waits := [], stage := [], lastMiss := none, prev := [] }

/-- The fabric bridge: events a capture group has handed to its edge port and that wait for a buffer (R27, R86), and
what has left the mesh through the edge ports, oldest first, with its edge port. -/
structure Bridge where
  injCap : SMap (List DWord)
  inbox : List (Nat × Flit)
  deriving DecidableEq, Repr

/-! ## Cell links (R44 to R72) -/

/-- A walk of a port's mapping set (R54, R59): the frame, when its SOF arrived, the sampled set, where the walk stands. -/
structure Walk where
  frame : CellFrame
  sof : Time
  base : Nat
  count : Nat
  entry : Nat
  recd : Nat
  deriving DecidableEq, Repr

/-- The outstanding CONTROL exchange of a port (R60). -/
structure Exchange where
  seq : Byte
  payload : BitVec 160
  retries : Nat
  origin : Origin
  deriving DecidableEq, Repr

/-- What a cell-link port holds beside its registers. -/
structure PortSt where
  fifo : List (CellFrame × Time)
  walk : Option Walk
  nonce : Option (BitVec 16)
  reqTime : Time
  attempts : Nat
  idSeq : Byte
  txSeq : Byte
  /-- SEQ of the node's last TELEMETRY or EDGE frame, and of the other frames heard since (R65, log 22). -/
  rxSeq : Option Byte
  heard : List Byte
  /-- SEQs of ALARM frames accepted (R62, log 131). -/
  alarms : List Byte
  ctrl : Option Exchange
  pauseReq : Bool
  /-- A fault was reported and RUN has not been reached since (R72). -/
  reported : Bool
  deriving DecidableEq, Repr

/-- A port as the chip reset leaves it (log 6: the spec gives the sequence numbers no reset value). -/
def PortSt.init : PortSt :=
  { fifo := [], walk := none, nonce := none, reqTime := 0, attempts := 0, idSeq := 0, txSeq := 0, rxSeq := none, heard := [], alarms := [],
    ctrl := none, pauseReq := false, reported := false }

/-! ## Timers and captures (R73 to R92) -/

/-- An entry of a capture queue (R82). -/
structure CapEntry where
  count : Word
  stamp : Word
  rising : Bool
  deriving DecidableEq, Repr

/-- An action of R76. -/
inductive Action where
  | reset
  | start
  | stop
  deriving DecidableEq, Repr

/-- What a timer channel holds beside its registers. -/
structure ChanSt where
  phase : BitVec 16
  /-- Actions written to TMR_CH_CMD, which land in the next tick, and link actions with the tick of their trigger (R76). -/
  cmds : List Action
  due : List (Action × Time)
  /-- A match asked for RESET at the next step (R76). -/
  selfReset : Bool
  /-- The tick in which a RESET last landed, a STOP last landed, and the host last wrote the counter since that match (R77). -/
  resetTick : Option Time
  stopTick : Option Time
  countTick : Option Time
  /-- Changes of the counter in the last ticks, latest first: the tick, and the count before (R80). -/
  hist : List (Time × Word)
  edges : Nat
  /-- STAMPs with the tick that latched them since TMR_CH_CFG was written, latest first, at most two (R84, R85). -/
  stamps : List (Word × Time)
  queue : List CapEntry
  deriving DecidableEq, Repr

/-- A channel as its domain's reset leaves it. -/
def ChanSt.init : ChanSt :=
  { phase := 0, cmds := [], due := [], selfReset := false, resetTick := none, stopTick := none, countTick := none, hist := [],
    edges := 0, stamps := [], queue := [] }

/-! ## Cores (R124 to R231) -/

/-- An event in an input or loopback queue: the flit, its age, and the ranges whose work item has left (R128, R130). -/
structure QEvent where
  ev : DWord
  age : Nat
  served : List Nat
  deriving DecidableEq, Repr

/-- One lane of a coalesced group: lane, payload, tag, and the captured pre-traces (R129, R197). -/
structure GItem where
  lane : Nat
  pay : Byte
  tag : BitVec 16
  x1 : Byte
  x2 : Byte
  deriving DecidableEq, Repr

/-- The group in progress (R129, R130): the sampled range, the next output block, the lanes, the events that joined. -/
structure Group where
  range : Nat
  pop : Nat
  row : Nat
  block : Nat
  blocks : Nat
  base : Nat
  w8 : Bool
  items : List GItem
  ages : List Nat
  deriving DecidableEq, Repr

/-- An accumulator bank holding one update (R131): 32 expanded weights in units of 2^−56 and the lanes still to pass. -/
structure Bank where
  pop : Nat
  range : Nat
  row : Nat
  block : Nat
  weights : List Int
  items : List GItem
  deriving DecidableEq, Repr

/-- One neuron-lane (R126): POT as an integer, TAG, traces, flags. -/
structure Lane where
  pot : Int
  tag : Nat
  y1 : Nat
  y2 : Nat
  refr : Bool
  sat : Bool
  user : Bool
  deriving DecidableEq, Repr

/-- A Drift entry (R202). -/
inductive Drift where
  | pre (pop range row block lane : Nat) (x1 x2 pay : Byte) (outs : List (Nat × Byte × Byte))
  | post (pop block out lane : Nat) (tag : BitVec 16) (y1 y2 pay : Byte)
  deriving DecidableEq, Repr

/-- A pass of the neuron engine (R133), with the population's descriptor as sampled at its start, the next output, the
outputs to be learned on, and what a stall holds. -/
structure Pass where
  pop : Nat
  range : Nat
  row : Nat
  block : Nat
  item : GItem
  weights : List Int
  desc : List Word
  next : Nat
  outs : List (Nat × Byte × Byte)
  heldEv : Option DWord
  heldDrift : List Drift
  /-- The slot and neuron-lane of a touch whose write-back (step 7 of R133) waits for what it emits (R161). -/
  heldLane : Option (Nat × Lane)
  deriving DecidableEq, Repr

/-- A dense or gang pass that MXPASS started (R139, R140): its accumulated values in units of 2^−56, by lane and output,
and where its write-back stands, with an emission it holds (R137). -/
structure MxPass where
  gang : Bool
  pop : Nat
  block : Nat
  acc : List (List Int)
  lane : Nat
  next : Nat
  heldEv : Option DWord
  /-- The core whose program started the pass: its own, or core 0 of a gang. -/
  owner : Nat
  /-- The population's descriptor as sampled at the start of the pass. -/
  desc : List Word
  /-- A bank of event mode stood before this pass: its touches come first. -/
  ahead : Bool
  deriving DecidableEq, Repr

/-- A tuple in a wadi queue (R209). -/
structure Tuple where
  words : List Word
  src : BitVec 10
  port : Nat
  /-- The sender is the fabric bridge (header SB). -/
  sb : Bool
  deriving DecidableEq, Repr

/-- A request of RLD or RST and its tag (R115, R168). -/
structure Request where
  tag : Nat
  load : Bool
  reg : Nat
  size : Nat
  signed : Bool
  addr : BitVec 48
  /-- REQ_TO as sampled at issue (R116). -/
  limit : Nat
  /-- Completed by timeout; the tag is kept for the late response (R116). -/
  late : Bool
  deriving DecidableEq, Repr

/-- What a physical slot holds beside its registers and memories. -/
structure Core where
  /-- g1 to g31; g0 is not stored (R158). -/
  g : Vector Word 31
  timeHi : BitVec 16
  reqs : List Request
  /-- Remote accesses that failed and whose MEMERR is due (R168): status and address. -/
  due : List (Nat × BitVec 48)
  /-- The sequential overrun of R166 is due. -/
  overrun : Bool
  /-- A halt that waits as MFENCE does (R181, R189): HCAUSE. -/
  haltDue : Option Nat
  /-- NEHOLD has asked for the hold (R180). -/
  holdReq : Bool
  /-- The breakpoint that halted the core is passed over once on resuming (R441). -/
  dbgSkip : Bool
  /-- A debug STEP is under way (R440). -/
  stepping : Bool
  queues : Vector (List Tuple) 4
  arrived : List Packet
  inq : List QEvent
  loopq : List QEvent
  outq : List DWord
  age : Nat
  group : Option Group
  banks : List Bank
  pass : Option Pass
  mx : Option MxPass
  drift : List Drift
  /-- Where the scrubber stands in its walk (R138). -/
  scrub : Nat
  /-- A Dune slice holds the matrix unit (R245). -/
  slice : Bool
  /-- The PC at which MXPASS has last stalled behind a Dune slice (R32, R176). -/
  mxWait : Option Nat
  deriving DecidableEq, Repr

/-- A core as its reset leaves it (R158, R223). -/
def Core.init : Core :=
  { g := Vector.replicate 31 0, timeHi := 0, reqs := [], due := [], overrun := false, haltDue := none, holdReq := false,
    dbgSkip := false, stepping := false, queues := Vector.replicate 4 [], arrived := [], inq := [], loopq := [], outq := [], age := 0,
    group := none, banks := [], pass := none, mx := none, drift := [], scrub := 0, slice := false, mxWait := none }

/-! ## Feryo links (R326 to R346) -/

/-- A transfer descriptor (R339) with the bytes its engine has sent and the peer has acknowledged. -/
structure Xfer where
  src : Nat
  dst : Nat
  len : Nat
  irq : Bool
  tag : Nat
  sent : Nat
  acked : Nat
  /-- The link failed before the last write was acknowledged: it sends no more and ends PARTIAL (R339). -/
  failed : Bool
  deriving DecidableEq, Repr

/-- An unacknowledged frame of the replay buffer (R330): its SEQ, its flits, whether it carries a write of the link's own
transfer engine. -/
structure Sent where
  seq : Nat
  flits : List DWord
  own : Bool
  deriving DecidableEq, Repr

/-- What a Feryo link holds beside its registers. Pools of credits are numbered as R334 lists them: 0 EVENT, 1 SYNC,
2 MEMREQ write, 3 posted CTRL, 4 non-posted CTRL. -/
structure LinkSt where
  tx : Nat
  rx : Nat
  replay : List Sent
  replays : Nat
  credits : SMap Nat
  /-- The receiver has granted its credits since the link was last trained. -/
  granted : Bool
  /-- Flits of a packet whose last flits are still to come. -/
  part : List DWord
  /-- Traffic accepted and not yet in the router input, by class. -/
  rxq : SMap (List Flit)
  nonce : BitVec 16
  reqTime : Time
  lastHb : Option Time
  /-- The peer's firmware is up (R328, R344). -/
  peerUp : Bool
  xfers : List Xfer
  /-- Writes of failed descriptors still on their way to this link, whose acknowledgements belong to none (R339). -/
  stale : Nat
  deriving DecidableEq, Repr

/-- A link as the chip reset leaves it (log 6). -/
def LinkSt.init : LinkSt :=
  { tx := 0, rx := 0, replay := [], replays := 0, credits := [], granted := false, part := [], rxq := [], nonce := 0,
    reqTime := 0, lastHb := none, peerUp := false, xfers := [], stale := 0 }

/-- Alignment of chip time to the time master (R338): done once, ticks still to slew by, ticks since the last slew. -/
structure TimeSync where
  aligned : Bool
  slew : Int
  gap : Nat
  deriving DecidableEq, Repr

/-! ## Resets (R406 to R411) -/

/-- The partial reset in progress: its region, the scope and target it was asked for. -/
structure RstRun where
  slots : List Nat
  clusters : List Nat
  scope : Nat
  target : Nat
  /-- DRAIN ended by its limit (R410). -/
  fallback : Bool
  deriving DecidableEq, Repr

/-- No reset in progress. -/
def RstRun.idle : RstRun := { slots := [], clusters := [], scope := 0, target := 0, fallback := false }

/-- A rotation step, or a move of a core to the spare (R368 to R375): the cluster, the logical core, the slot it leaves and
the slot it goes to. Its phase stands in DMAP_ROT_STAT. -/
structure Rotation where
  core : Nat
  old : Nat
  new : Nat
  rounds : Nat
  /-- The sequencer has been taken at an instruction boundary (R369). -/
  taken : Bool
  /-- The slot the step frees is withdrawn as a defect of this KIND; 0 for a step of the rotation test. -/
  withdraw : Nat
  deriving DecidableEq, Repr

/-- No step in progress. -/
def Rotation.idle : Rotation := { core := 0, old := 0, new := 0, rounds := 0, taken := false, withdraw := 0 }

/-! ## Host interface and firmware (R284 to R325) -/

/-- One entry of the Oasis event log (R323): a code, its subject and detail, whether it is sticky (R309), when. -/
structure LogEntry where
  code : Nat
  subject : Nat
  detail : Nat
  sticky : Bool
  time : Time
  deriving DecidableEq, Repr

/-- A notification (R324, R325) as it waits for a HELLO. -/
structure Notice where
  code : Nat
  status : Nat
  subject : Nat
  arg0 : Nat
  arg1 : Nat
  deriving DecidableEq, Repr

/-- What the block shows to the outside: frames, blocks, messages and read data, in the order it sends them (log 9). -/
inductive Out where
  | cellFrame (port : Nat) (f : CellFrame)
  | wakeCause (port : Nat) (cause : Byte)
  /-- The response of an access: what a read returns, nothing for a write (R261); whether it is an error response. -/
  | readData (data : List Byte) (error : Bool)
  /-- A system DMA engine has completed a descriptor that asks for an interrupt (R263). -/
  | dmaIrq (engine : Nat)
  | msix (vector : Nat)
  | feryoFrame (link : Nat) (seq : Nat) (flits : List DWord) (crc : Word)
  | feryoBlock (link : Nat) (kind : Nat) (data : Nat)
  | tdo (bits : Nat) (width : Nat)
  /-- PCIe power management event (R397). -/
  | pme
  deriving DecidableEq, Repr

/-- Hidden indices of a ring pair (R296 to R301); SQ head and CQ tail stand in RING_MIRROR. -/
structure Ring where
  sqTail : Nat
  cqHead : Nat
  /-- CQ entries reserved for commands taken (R298). -/
  reserved : Nat
  /-- Entries written since the ring last signalled (R301). -/
  unsignalled : Nat
  /-- Events dropped since the last record (R300). -/
  drops : Nat
  /-- Entries taken and not completed (R297 FENCE, R313): SQ index, TAG, TIMEOUT. -/
  busy : List (Nat × Nat × Nat)
  deriving DecidableEq, Repr

/-- A ring as RING_CREATE makes it. -/
def Ring.init : Ring := { sqTail := 0, cqHead := 0, reserved := 0, unsignalled := 0, drops := 0, busy := [] }

/-- A cell triple of a job's cell table (R30, R343): chip, replica, lane, the host's cell number, standby. -/
structure Cell where
  chip : Nat
  replica : Nat
  lane : Nat
  cell : Nat
  standby : Bool
  enabled : Bool
  deriving DecidableEq, Repr

/-- A section of a job image (R376): TYPE, TARGET, OFFSET and its data. -/
structure Section where
  kind : Nat
  target : Nat
  offset : Nat
  data : List Byte
  deriving DecidableEq, Repr

/-- A job context (R314, R316). -/
structure Job where
  /-- 0 EMPTY, 1 LOADING, 2 LOADED, 3 RUNNING, 4 PAUSED, 5 ENDED. -/
  state : Nat
  part : Nat
  /-- Logical cores named by the image, and those of them with a program section. -/
  cores : List Nat
  programs : List Nat
  ports : List Nat
  chans : List Nat
  cells : List Cell
  /-- Source cores with their replica, for HIF_EVRT (R316). -/
  evrt : List (Nat × Nat)
  /-- Populations a WRITE_WEIGHTS in progress has made invalid (R316): core × 16 + population. -/
  valid : List Nat
  /-- Bytes of synapse (false) and state (true) memory the image wrote: core, which, offset, size (R237). -/
  extents : List (Nat × Bool × Nat × Nat)
  /-- Where the image stands, and its bytes (R362). -/
  image : Nat × Nat
  /-- What restores a core (R413): the image's sections of types 1 to 4, then the WRITE_WEIGHTS that completed, as type 2. -/
  saved : List Section
  /-- Whether the image is a multi-chip job (R35). -/
  multi : Bool
  deriving DecidableEq, Repr

/-- A job context in EMPTY. -/
def Job.empty : Job :=
  { state := 0, part := 0, cores := [], programs := [], ports := [], chans := [], cells := [], evrt := [], valid := [],
    extents := [], image := (0, 0), saved := [], multi := false }

/-- A long operation in progress, or another command that waits for its end (R317, R312). -/
structure Op where
  origin : Origin
  code : Nat
  /-- The 48 argument bytes (R310). -/
  args : List Byte
  /-- Whether it runs in its expert form (R311). -/
  expert : Bool
  /-- Steps done, and steps in all. -/
  done : Nat
  total : Nat
  paused : Bool
  /-- Its results as they accumulate. -/
  res0 : Nat
  res1 : Nat
  /-- FREEZE as its end restores it (R208). -/
  freeze : Nat
  /-- It has taken its step of the present round (R317). -/
  stepped : Bool
  /-- Bytes that READ_WEIGHTS has moved (R208). -/
  moved : Nat
  /-- What an expert MEM_TEST has found and its end acts on (R311): slots with their KINDs. -/
  found : List (Nat × Nat)
  deriving DecidableEq, Repr

/-- A PAUSE that waits for its effect, or lasts (R319): kind, target, the command to complete, its DURATION. -/
structure PauseRec where
  kind : Nat
  id : Nat
  origin : Option Origin
  duration : Nat
  inEffect : Bool
  deriving DecidableEq, Repr

/-! ## Buffers and the Dune engine (R232 to R253, R275 to R278) -/

/-- A buffer pool beside its registers: the buffers handed out, the master ports that wait, oldest first. -/
structure Pool where
  taken : List Nat
  waiters : List Nat
  deriving DecidableEq, Repr

def Pool.init : Pool := { taken := [], waiters := [] }

/-- The best state of a Dune run (R243): energy in code units, sweep, chain, the spins as bits. -/
structure Best where
  energy : Int
  sweep : Nat
  chain : Nat
  spins : List Bool
  deriving DecidableEq, Repr

/-- A Dune run (R232 to R253). Binary64 values are pairs of a whole number and a power of two. -/
structure Dune where
  active : Bool
  origin : Origin
  /-- The 80 bytes of the run descriptor (R246). -/
  desc : List Byte
  cores : List Nat
  /-- Where in synapse memory the region of each participating core begins. -/
  bases : List Nat
  /-- s_c of R233, and the number of coefficients that are not zero (R234). -/
  sc : Int × Int
  nonzero : Nat
  /-- Codes of h (R233). -/
  hcodes : List Int
  /-- Codes of J by row of the variables this chip holds and column (R233), as firmware keeps them (R249, R250). -/
  codes : List Int
  /-- The coefficients of the other chips above the diagonal, by row and column, and their h (R248, R250): binary32 words. -/
  peerJ : List (BitVec 32)
  peerH : List (BitVec 32)
  rng : List DWord
  /-- Spins by variable, bit c for chain c. -/
  spins : List (BitVec 32)
  /-- Fields by variable and chain (R239). -/
  fields : List (List Int)
  /-- Spins of the variables other chips own, by variable of the whole problem (R250); own ones are not read. -/
  remote : List (BitVec 32)
  best : Option Best
  /-- Which of the two firmware buffers holds the last completed copy of the best state. -/
  bestBuf : Bool
  done : Nat
  /-- Rotation mode: the current block (R249). -/
  block : Nat
  pauseReq : Bool
  /-- The status a run ends with at the next boundary, once one is asked for (R252). -/
  stop : Option Nat
  /-- Multi-chip mode: the chip waits for its peers (R250). -/
  waiting : Bool
  /-- Slices granted in the current millisecond, by logical core: millisecond and count (R245). -/
  grants : SMap (Nat × Nat)
  deriving DecidableEq, Repr

/-- No run. -/
def Dune.idle : Dune :=
  { active := false, origin := .internal, desc := [], cores := [], bases := [], sc := (0, 0), nonzero := 0, hcodes := [], codes := [], peerJ := [], peerH := [], rng := [], spins := [],
    fields := [], remote := [], best := none, bestBuf := false, done := 0, block := 0, pauseReq := false, stop := none, waiting := false,
    grants := [] }

/-- Firmware as the services see it (R304 to R325). FW_STATE, the epoch and the profile bits stand in the status page. -/
structure Fw where
  /-- 0 FULL, 1 RESTRICTED, 2 FORCED (R305). -/
  profile : Nat
  offered : Nat
  agreed : Nat
  nqBase : Nat
  nqLog2 : Nat
  nqHead : Nat
  nqLost : Nat
  nqSeq : Nat
  /-- Notifications that wait for a HELLO (R324). -/
  notices : List Notice
  log : List LogEntry
  jobs : SMap Job
  /-- Partitions as bit sets of clusters (R314); none defined reads 0. -/
  parts : SMap (BitVec 64)
  ops : List Op
  pauses : List PauseRec
  /-- BUILD and compatibility IDs of the running bundle: HCU image, cell-link microcode, Dune microcode (R305, R308, R353). -/
  build : Nat
  compat : List Nat
  /-- The SVN the running bundle asks to advance to (R355). -/
  svnGoal : Option Nat
  /-- A staged recovery bundle has failed authentication (R356). -/
  recFailed : Bool
  /-- Watchdog restarts in a row (R416), and whether the HCU is stopped for good. -/
  restarts : Nat
  stopped : Bool
  /-- Commands a restart interrupted, which complete with PARTIAL (R294, R318): origin and code. -/
  broken : List (Origin × Nat)
  /-- Fences whose substitution by firmware is due (R413): physical slot, KIND, and whether RST_FENCE_CMD made the fence.
  KIND 0 is no fence: a reset covered the slot while its substitution waited for the start, which ends under R35 (log 165). -/
  fences : List (Nat × Nat × Bool)
  /-- Logical cores substituted, whose RELOAD and start wait for the end of the swap (R220, R413). -/
  reloads : List Nat
  /-- The autostart image has been started or refused (R359). -/
  autoDone : Bool
  deriving DecidableEq, Repr

/-- The host side of the block beside its registers (R284 to R301). -/
structure HostSt where
  rings : SMap Ring
  /-- MSI-X messages that are masked and wait (R287). -/
  msixPend : BitVec 64
  /-- What of PCI Express configuration space software writes (R280, R281, R287, log 156): the function mask of MSI-X, Device
  Control 2, the power state (0 D0, 3 D3hot), PME_En (R397), and whether AER has logged a Completer Abort (R282). -/
  fnMask : Bool
  devctl2 : BitVec 16
  pm : Nat
  pmeEn : Bool
  aer : Bool
  deriving DecidableEq, Repr

/-- What the sandglass holds beside its registers (R417 to R421). -/
structure Trip where
  /-- The input FIFO, oldest first: records without their GAP mark, and whether records were lost before it. -/
  fifo : List (List Byte)
  gap : Bool
  /-- Records written since EN was set. -/
  since : Nat
  /-- A copy in progress: records to copy, records copied, number of the marker. -/
  copy : Option (Nat × Nat × Nat)
  /-- Triggers that wait for the full wake (R421). -/
  waiting : BitVec 3
  deriving DecidableEq, Repr

/-- The power cap (R320): enabled, watts, the stage reached, what stage 1 takes from DUNE_SHARE, what stage 4 leaves of CCLK in
sixteenths, the last samples in W × 16 (latest first, at most 100), and samples in a row below 0.95 W. -/
structure Cap where
  on : Bool
  watts : Nat
  stage : Nat
  cut : Nat
  sixteenths : Nat
  samples : List Nat
  calm : Nat
  deriving DecidableEq, Repr

def Cap.off : Cap := { on := false, watts := 0, stage := 0, cut := 0, sixteenths := 16, samples := [], calm := 0 }

/-- Lookout (R390 to R398): the descriptor's first 64 bytes, what entry recorded, and what is counted. -/
structure Lookout where
  desc : List Byte
  /-- Entry still waits for a Dune sweep boundary or a rotation step in DRAIN (R391). -/
  entering : Bool
  /-- Wake sources that fired while entry was in progress: code and detail. -/
  held : List (Nat × Nat)
  /-- PWR_STATE before entry. -/
  before : Nat
  /-- 32.768 kHz ticks since entry. -/
  ticks : Nat
  /-- The tag c_e of step 4 of R391. -/
  tag : BitVec 16
  /-- Ports in RUN at entry, and ports that had no signal. -/
  runPorts : List Nat
  quiet : List Nat
  /-- Consecutive matching windows, by rule (R394). -/
  runs : SMap Nat
  /-- Jobs that entry paused, and whether it paused the Dune run. -/
  jobs : List Nat
  dune : Bool
  deriving DecidableEq, Repr

def Lookout.none : Lookout :=
  { desc := [], entering := false, held := [], before := 0, ticks := 0, tag := 0, runPorts := [], quiet := [], runs := [], jobs := [],
    dune := false }

/-- What the power domains, the supplies and the sensors hold beside their registers (R382 to R405). -/
structure Power where
  /-- 0 main supply, 1 RETAIN, 2 OFF (R388). -/
  supply : Nat
  /-- A chip reset lasts: PWR_GOOD or SYS_RST_N is low, or the release is still to come (R347, R348). -/
  inReset : Bool
  /-- PWR_GOOD is high. -/
  good : Bool
  /-- DRAM is in self-refresh (R390). -/
  selfRefresh : Bool
  /-- Remainder of the time-base advance, in 64ths (R382), and the phase of OAS_RTC against TCLK, in 32nds of a tick (log 4). -/
  rem : Nat
  rtcPhase : Nat
  /-- Charging has terminated (R401). -/
  charged : Bool
  /-- A brown-out in RETAIN has inverted the stored retention CRCs (R400). -/
  crcBad : Bool
  /-- Cluster domains derated by their sensor, and whether the memory PHY's sensor requests FSP1 (R404). -/
  derated : List Nat
  ddrRequest : Bool
  /-- Cluster domains whose ramp waits for its turn (R387). -/
  waiting : List Nat
  cap : Cap
  lko : Lookout
  deriving DecidableEq, Repr

/-- The debug port (R431 to R443). -/
structure Tap where
  /-- The instruction register. -/
  ir : Byte
  /-- The boundary-scan register. -/
  bsr : List Bool
  /-- The challenge that can still be answered, the scope of the last response, the last status. -/
  challenge : Option (BitVec 256)
  scopeAsked : Byte
  status : Nat
  /-- CORE_SEL. -/
  core : CoreId
  /-- DATA and STATUS of the last MEM access. -/
  data : DWord
  memStatus : Byte
  deriving DecidableEq, Repr

def Tap.init : Tap :=
  { ir := 0x02#8, bsr := [], challenge := .none, scopeAsked := 1#8, status := 0, core := 0, data := 0, memStatus := 0 }

/-- The block: everything but the queue of waiting commands. -/
structure Chip where
  /-- The chip time base (R23). -/
  time : Time
  regs : SMap Word
  mem : Memory
  cores : SMap Core
  routers : SMap Router
  bridge : Bridge
  ports : SMap PortSt
  /-- SYNC frames sent on the chip so far, as bytes 2–5 of the next carry it (R42). -/
  syncCount : Word
  chans : SMap ChanSt
  links : SMap LinkSt
  sync : TimeSync
  /-- Chips declared failed (R344). -/
  dead : BitVec 16
  rst : RstRun
  rot : Rotation
  dune : Dune
  pools : SMap Pool
  /-- Descriptors each DMA engine holds, oldest first, as eight words (R263, R264). -/
  dma : SMap (List (List Word))
  fw : Fw
  host : HostSt
  trip : Trip
  power : Power
  tap : Tap
  /-- How many free values have been used (log 7). -/
  fresh : Nat
  out : List Out
  deriving DecidableEq, Repr

/-- The state of the block and the commands that wait, first in, first out. -/
structure State where
  pending : List Instr
  chip : Chip
  deriving DecidableEq, Repr

/-- Everything of firmware but the Oasis event log, at its reset. -/
def Fw.init (log : List LogEntry) : Fw :=
  { profile := 0, offered := 0, agreed := 0, nqBase := 0, nqLog2 := 0, nqHead := 0, nqLost := 0, nqSeq := 0, notices := [],
    log := log, jobs := [], parts := [], ops := [], pauses := [], build := 0, compat := [], svnGoal := none, recFailed := false,
    restarts := 0, stopped := false, broken := [], fences := [], reloads := [], autoDone := false }

/-- Not aligned (R338). -/
def TimeSync.init : TimeSync := { aligned := false, slew := 0, gap := 0 }
/-- No ring, no message waiting. -/
def HostSt.init : HostSt := { rings := [], msixPend := 0, fnMask := false, devctl2 := 0, pm := 0, pmeEn := false, aer := false }
/-- An empty sandglass. -/
def Trip.init : Trip := { fifo := [], gap := false, since := 0, copy := none, waiting := 0 }
/-- A bridge with nothing in it. -/
def Bridge.init : Bridge := { injCap := [], inbox := [] }

/-- The block before its first POWER_GOOD_RISE (log 2): no supply, a chip reset lasts. Every register holds the reset word of R7
(`regReset`), memory lists nothing (log 5). -/
def Chip.init : Chip :=
  { time := 0, regs := [], mem := [], cores := [], routers := [], bridge := Bridge.init, ports := [], syncCount := 0, chans := [],
    links := [], sync := TimeSync.init, dead := 0, rst := RstRun.idle, rot := Rotation.idle, dune := Dune.idle, pools := [], dma := [],
    fw := Fw.init [], host := HostSt.init, trip := Trip.init,
    power := { supply := 2, inReset := true, good := false, selfRefresh := false, rem := 0, rtcPhase := 0, charged := false,
               crcBad := false, derated := [], ddrRequest := false, waiting := [], cap := Cap.off, lko := Lookout.none },
    tap := Tap.init, fresh := 0, out := [] }

/-- The machine at reset: no command waits. -/
def State.reset : State := { pending := [], chip := Chip.init }

/-- Why a step stops with a fault. -/
inductive Fault where
  /-- A command names a unit that no variant has (a slot of 17 or more, a domain of 70 or more, …): raised by the meaning
  of that command. Safe: the hardware has no such command. -/
  | noSuchUnit (mnemonic : String)
  deriving DecidableEq, Repr

/-- Why a step has no meaning. -/
inductive Refusal where
  /-- The row has no meaning yet: raised by its arm in Dispatch.lean. Safe. -/
  | notModelled (mnemonic : String)
  deriving DecidableEq, Repr

end Sys2Proof.Machine
end

