-- ==== Sys2Proof/Machine/Ops.lean ====
section
/-! DEFINITION. The named operations over registers, memory and the arrays of records, which every meaning is written
with: a register's word and its fields, counters that saturate, the map of memory keys, reports. -/

namespace Sys2Proof.Machine

/-! ## Words and fields (R5) -/

/-- The bits [hi:lo] of a word, as a number. -/
def wbits (w : Word) (hi lo : Nat) : Nat := ((w >>> lo).toNat) % 2 ^ (hi + 1 - lo)

/-- The ones in [hi:lo]. -/
def wmask (hi lo : Nat) : Word := BitVec.ofNat 32 ((2 ^ (hi + 1 - lo) - 1) * 2 ^ lo)

/-- `w` with the number `v` in the bits [hi:lo]. -/
def wset (w : Word) (hi lo v : Nat) : Word :=
  (w &&& ~~~ wmask hi lo) ||| BitVec.ofNat 32 ((v % 2 ^ (hi + 1 - lo)) * 2 ^ lo)

/-- The bits [hi:lo] of a 64-bit word, as a number. -/
def dbits (w : DWord) (hi lo : Nat) : Nat := (w.toNat / 2 ^ lo) % 2 ^ (hi + 1 - lo)

/-- A number of `n` bits read as two's complement. -/
def signed (n v : Nat) : Int := if v % 2 ^ n < 2 ^ (n - 1) then (v % 2 ^ n : Nat) else ((v % 2 ^ n : Nat) : Int) - (2 ^ n : Nat)

/-- Whether bit `i` of a number is set. -/
def bit (v i : Nat) : Bool := (v / 2 ^ i) % 2 == 1

/-! ## Registers -/

/-- The reset words that the field tables of R7 give per instance or from fuses and straps (log 3): a master with no
source held, the factory seating of the core map, the fuses of this part and what follows from them, the magic of R293. -/
def instReset (a : Nat) : Option Nat :=
  if a = Reg.XBAR_PORT_CFG 11 then some 1
  else if a = Reg.FUSE_VARIANT then some 1
  else if a = Reg.HIF_MAGIC then some 0x52415455
  else if a = Reg.BDP_STAT then some 2
  else if 0x1000000 ≤ a ∧ a < 0x1400000 ∧ 0x5000 ≤ a % 0x10000 ∧ a % 0x10000 < 0x7000 then
    some (a % 0x1000 / 4 % 16)
  else none

/-- The word a register holds at reset (R7). -/
def regReset (a : Nat) : Word :=
  BitVec.ofNat 32 (match instReset a with
    | some v => v
    | none => match Reg.row? a with
      | some r => r.reset
      | none => 0)

/-- The word of the register at `a`. -/
def Chip.rd (c : Chip) (a : Nat) : Word :=
  match c.regs.find? (·.1 == a) with
  | some p => p.2
  | none => regReset a

/-- `c` with the word `w` in the register at `a`; a register that holds its reset word is not listed. -/
def Chip.wr (c : Chip) (a : Nat) (w : Word) : Chip :=
  { c with regs := if w = regReset a then c.regs.filter (fun r => r.1 != a) else smSet c.regs a w }

/-- A field of a register. -/
def Chip.get (c : Chip) (f : Reg.Fld) : Nat := wbits (c.rd f.addr) f.hi f.lo

/-- `c` with the number `v` in a field. -/
def Chip.put (c : Chip) (f : Reg.Fld) (v : Nat) : Chip := c.wr f.addr (wset (c.rd f.addr) f.hi f.lo v)

/-- Whether a one-bit field is 1. -/
def Chip.on (c : Chip) (f : Reg.Fld) : Bool := c.get f == 1

/-- Set a one-bit field. -/
def Chip.set (c : Chip) (f : Reg.Fld) : Chip := c.put f 1

/-- Clear a field. -/
def Chip.clr (c : Chip) (f : Reg.Fld) : Chip := c.put f 0

/-- Advance a counter field by `n`, saturating at its maximum. -/
def Chip.bump (c : Chip) (f : Reg.Fld) (n : Nat := 1) : Chip := c.put f (min (c.get f + n) (2 ^ (f.hi + 1 - f.lo) - 1))

/-- Put back to their reset words the registers whose address `p` selects. -/
def Chip.dropRegs (c : Chip) (p : Nat → Bool) : Chip := { c with regs := c.regs.filter (fun r => !p r.1) }

/-! ## Records by number -/

def Chip.core (c : Chip) (s : Nat) : Core := smGet Core.init c.cores s
def Chip.setCore (c : Chip) (s : Nat) (k : Core) : Chip := { c with cores := smSet c.cores s k }
def Chip.modCore (c : Chip) (s : Nat) (f : Core → Core) : Chip := c.setCore s (f (c.core s))
def Chip.router (c : Chip) (r : Nat) : Router := smGet Router.init c.routers r
def Chip.setRouter (c : Chip) (r : Nat) (k : Router) : Chip := { c with routers := smSet c.routers r k }
def Chip.modRouter (c : Chip) (r : Nat) (f : Router → Router) : Chip := c.setRouter r (f (c.router r))
def Chip.port (c : Chip) (p : Nat) : PortSt := smGet PortSt.init c.ports p
def Chip.setPort (c : Chip) (p : Nat) (k : PortSt) : Chip := { c with ports := smSet c.ports p k }
def Chip.modPort (c : Chip) (p : Nat) (f : PortSt → PortSt) : Chip := c.setPort p (f (c.port p))
def Chip.chan (c : Chip) (k : Nat) : ChanSt := smGet ChanSt.init c.chans k
def Chip.setChan (c : Chip) (k : Nat) (x : ChanSt) : Chip := { c with chans := smSet c.chans k x }
def Chip.modChan (c : Chip) (k : Nat) (f : ChanSt → ChanSt) : Chip := c.setChan k (f (c.chan k))
def Chip.link (c : Chip) (l : Nat) : LinkSt := smGet LinkSt.init c.links l
def Chip.setLink (c : Chip) (l : Nat) (x : LinkSt) : Chip := { c with links := smSet c.links l x }
def Chip.modLink (c : Chip) (l : Nat) (f : LinkSt → LinkSt) : Chip := c.setLink l (f (c.link l))
def Chip.ring (c : Chip) (k : Nat) : Ring := smGet Ring.init c.host.rings k
def Chip.setRing (c : Chip) (k : Nat) (r : Ring) : Chip := { c with host := { c.host with rings := smSet c.host.rings k r } }
def Chip.job (c : Chip) (j : Nat) : Job := smGet Job.empty c.fw.jobs j
def Chip.setJob (c : Chip) (j : Nat) (x : Job) : Chip := { c with fw := { c.fw with jobs := smSet c.fw.jobs j x } }

/-- Send something to the outside (log 9). -/
def Chip.emit (c : Chip) (o : Out) : Chip := { c with out := c.out ++ [o] }

/-! ## Memory keys

HCU addresses stand below 2^48 (R254). The memories that no HCU address reaches directly have key ranges above. -/

/-- Byte `off` of the memories of physical slot `s`: synapse, state and program memory at the offsets of R160. -/
def slotMem (s off : Nat) : Nat := 0x1000000000000 + s * 0x1000000 + off

/-- Byte `off` of HCU local memory (R353, R356). -/
def hcuMem (off : Nat) : Nat := 0x2000000000000 + off

/-- Byte `off` of mailbox slot `n` (R284, R288). -/
def mbxMem (n off : Nat) : Nat := 0x4000000000000 + n * 0x100 + off

/-- Byte `off` of the MSI-X table (R284, R287). -/
def msixMem (off : Nat) : Nat := 0x8000000000000 + off

/-- The flag nibble of neuron-lane slot `i` of physical slot `s` (R126), held in a byte of its own. -/
def flagMem (s i : Nat) : Nat := 0x10000000000000 + s * 0x10000 + i

def Chip.rdMem (c : Chip) (a n : Nat) : Nat := c.mem.readNat a n
def Chip.wrMem (c : Chip) (a n v : Nat) : Chip := { c with mem := c.mem.writeNat a n v }
def Chip.rdBytes (c : Chip) (a n : Nat) : List Byte := c.mem.readBytes a n
def Chip.wrBytes (c : Chip) (a : Nat) (bs : List Byte) : Chip := { c with mem := c.mem.writeBytes a bs }

/-! ## The variant (R1, R2, R3) -/

/-- The variant code of FUSE_VARIANT. -/
def Chip.variant (c : Chip) : Nat := c.get Reg.FUSE_VARIANT_CODE

/-- Clusters of the variant, the lowest-numbered ones (R1, R2). -/
def Chip.clusters (c : Chip) : Nat := if c.variant = 3 then 32 else if c.variant = 2 then 48 else 64

def Chip.links_ (c : Chip) : Nat := if c.variant = 3 then 2 else 4
def Chip.drams (c : Chip) : Nat := if c.variant = 3 then 1 else 2
def Chip.clPorts (c : Chip) : Nat := if c.variant = 3 then 64 else 128
def Chip.pairs (c : Chip) : Nat := if c.variant = 3 then 32 else 64

/-- Bytes of synapse memory of a core (R2). -/
def Chip.synSize (c : Chip) : Nat := if c.variant = 3 then 0x80000 else 0x100000

/-- The TDP ceiling in watts (R1). -/
def Chip.tdp (c : Chip) : Nat := if c.variant = 3 then 150 else if c.variant = 2 then 220 else 280

/-- The 16-bit time tag of a chip time (R23). -/
def tagOf (t : Time) : BitVec 16 := t.extractLsb' 6 16

/-! ## Reports (R323 to R325) -/

/-- Status codes of R14. -/
def OK := 0x00
def ERR_VERSION := 0x01
def ERR_NOT_READY := 0x02
def ERR_BUSY := 0x03
def ERR_PARAM := 0x04
def ERR_RESOURCE := 0x05
def ERR_TIMEOUT := 0x06
def ERR_FENCED := 0x07
def PARTIAL := 0x08
def PATH_ILLEGAL := 0x09
def RESTRICTED := 0x0A
def ERR_AUTH := 0x0B
def SHED := 0x0C

/-- Vector `v` is masked (R287), by its own mask or by the function's. The mask is bit 0 of the vector control word, as PCI
Express lays it out, and resets to 1; the model's memory holds that word with bit 0 turned over, so that an unwritten one
reads as masked (log 3). -/
def Chip.msixMasked (c : Chip) (v : Nat) : Bool := c.host.fnMask || !bit (c.rdMem (msixMem (v * 16 + 12)) 4) 0

/-- A message on an MSI-X vector: sent, or kept in its pending bit while the vector or the function is masked (R287). -/
def Chip.msix (c : Chip) (v : Nat) : Chip :=
  if c.msixMasked v then
    { c with host := { c.host with msixPend := c.host.msixPend ||| (1#64 <<< v) } }
  else c.emit (.msix v)

/-- One entry in the Oasis event log (R323). -/
def Chip.logged (c : Chip) (code subject detail : Nat) (sticky : Bool := false) : Chip :=
  { c with fw := { c.fw with log := c.fw.log ++ [{ code := code, subject := subject, detail := detail, sticky := sticky, time := c.time }] } }

/-- The bytes of a notification record (R324). -/
def noticeBytes (c : Chip) (n : Notice) (tail : Nat) : List Byte :=
  let size := 2 ^ c.fw.nqLog2
  let phase := 1 - (tail / size) % 2
  let ovf := if c.fw.nqLost = 0 then 0 else 2
  natToBytes 2 n.code ++ natToBytes 1 n.status ++ natToBytes 1 (phase + ovf) ++ natToBytes 4 c.fw.nqSeq ++
  natToBytes 8 c.time.toNat ++ natToBytes 4 n.subject ++ natToBytes 4 n.arg0 ++ natToBytes 4 n.arg1 ++
  natToBytes 4 c.fw.nqLost

/-- Write a notification into the host's queue, or count it lost (R324). -/
def Chip.writeNotice (c : Chip) (n : Notice) : Chip :=
  let tail := c.get Reg.HIF_NQ_TAIL_TAIL
  let size := 2 ^ c.fw.nqLog2
  if c.fw.nqBase = 0 then { c with fw := { c.fw with nqLost := c.fw.nqLost + 1, nqSeq := c.fw.nqSeq + 1 } }
  else if (tail + 0x10000 - c.fw.nqHead) % 0x10000 ≥ size then
    { c with fw := { c.fw with nqLost := c.fw.nqLost + 1, nqSeq := c.fw.nqSeq + 1 } }
  else
    let c := c.wrBytes (c.fw.nqBase + (tail % size) * 32) (noticeBytes c n tail)
    let c := { c with fw := { c.fw with nqLost := 0, nqSeq := c.fw.nqSeq + 1 } }
    let c := c.put Reg.HIF_NQ_TAIL_TAIL (tail + 1)
    if c.on Reg.HIF_IRQ_EN_NOTIFY then c.msix 0 else c

/-- The notifications that waited are written (R324). -/
def Chip.flushNotices (c : Chip) : Chip := c.fw.notices.foldl Chip.writeNotice { c with fw := { c.fw with notices := [] } }

/-- FW_STATE of the status page (R293). -/
def Chip.fwState (c : Chip) : Nat := c.get Reg.HIF_FWSTATE_FW_STATE

/-- One report by notification (R323): the notification, at once when firmware is READY and after the next HELLO
otherwise, and its entry in the event log. -/
def Chip.notify (c : Chip) (code status subject arg0 arg1 : Nat) : Chip :=
  let n : Notice := { code := code, status := status, subject := subject, arg0 := arg0, arg1 := arg1 }
  let c := c.logged code subject (arg0 + arg1 * 2 ^ 32)
  if c.fwState = 3 then c.writeNotice n
  else { c with fw := { c.fw with notices := c.fw.notices ++ [n] } }

/-! ## The core map (R117) -/

/-- The slot in which cluster `k`'s active map seats logical core `i`; 17 to 31 when it seats it nowhere (R367). -/
def Chip.activeSlot (c : Chip) (k i : Nat) : Nat := c.get (Reg.NI_MAP_ACTIVE_SLOT k i)

/-- The physical slot of logical core `i` under its own cluster's active map (R10, R117). -/
def Chip.pcore (c : Chip) (i : Nat) : Nat := (i / 16) * 32 + c.activeSlot (i / 16) i

/-- Whether the variant has logical core `i` and the map seats it (R17, R367). -/
def Chip.seated (c : Chip) (i : Nat) : Bool := i / 16 < c.clusters && c.activeSlot (i / 16) i < 17

/-- The logical core that physical slot `s` seats, under its own cluster's active map. -/
def Chip.logical? (c : Chip) (s : Nat) : Option Nat :=
  ((List.range 16).map (· + (s / 32) * 16)).find? (fun i => c.activeSlot (s / 32) i == s % 32)

/-- A value the spec does not state: a fresh free value (log 7). -/
def Chip.free (c : Chip) : Chip × Word := ({ c with fresh := c.fresh + 1 }, Config.freeWord c.fresh)

/-! ## Outcomes -/

/-- A meaning that never stops: the block's next state, the queue as it stands. -/
def act (f : Chip → Chip) (s : State) : Host.Outcome State Fault Refusal := .next { s with chip := f s.chip }

/-- A meaning that stops when its operands name a unit no variant has. -/
def actIf (ok : Bool) (mnemonic : String) (f : Chip → Chip) (s : State) : Host.Outcome State Fault Refusal :=
  if ok then act f s else .fault (.noSuchUnit mnemonic)

end Sys2Proof.Machine
end

