-- ==== Sys2Proof/Machine/Numerics.lean ====
section
/-! DEFINITION. The numbers of the inference path (R143 to R154): code expansion, exact products, binary32 accumulation,
write-back to Q16.16, the payload rescale, decay; and the CRC-16 of cell frames (R40). Weights, products and bank cells
are integers in units of 2^−56, which R150 makes exact. -/

namespace Sys2Proof.Machine

/-- `n / 2^s` rounded to the nearest integer, ties to even. -/
def rneShift (n s : Nat) : Nat :=
  let q := n / 2 ^ s
  let r := n % 2 ^ s
  if 2 * r > 2 ^ s ∨ (2 * r = 2 ^ s ∧ q % 2 = 1) then q + 1 else q

/-- A magnitude rounded to `b` significant bits, ties to even. -/
def roundSig (b n : Nat) : Nat :=
  if n < 2 ^ b then n else
    let s := Nat.log2 n + 1 - b
    rneShift n s * 2 ^ s

/-- Apply a function of the magnitude, keeping the sign. -/
def onMag (f : Nat → Nat) (x : Int) : Int := if x < 0 then -(f x.natAbs : Int) else (f x.natAbs : Int)

/-- The value of an XF19 weight from a code (R148), in units of 2^−56: n' × 2^EXP. -/
def expandCode (code : Int) (scale exp : Nat) : Int := onMag (roundSig 11) (code * (256 + scale)) * 2 ^ exp

/-- Binary32 addition of values in units of 2^−56 (R150). -/
def addF32 (acc p : Int) : Int := onMag (roundSig 24) (acc + p)

/-- Saturate to signed 32 bits; whether it saturated. -/
def sat32 (x : Int) : Int × Bool :=
  if x > 0x7FFFFFFF then (0x7FFFFFFF, true) else if x < -0x80000000 then (-0x80000000, true) else (x, false)

/-- Write-back of a bank value to Q16.16 (R151): a × 65,536 rounded to an integer, ties to even, saturated. -/
def toQ16 (a : Int) : Int × Bool := sat32 (onMag (fun n => rneShift n 40) a)

/-- The payload rescale (R152): (v × M) >> S, half away from zero, saturated to int8. -/
def rescale (v : Int) (m s : Nat) : Byte :=
  let p := v * m
  let r := if s = 0 then p else onMag (fun n => (n + 2 ^ (s - 1)) / 2 ^ s) p
  BitVec.ofInt 8 (if r > 127 then 127 else if r < -128 then -128 else r)

/-- The decay-table index for an elapsed time (R134). -/
def decayIdx (d : Nat) : Nat :=
  if d < 16 then d else
    let e := Nat.log2 d
    16 + 4 * (e - 4) + (d / 2 ^ (e - 2)) % 4

/-- POT decayed by a LEAK factor (R154). -/
def decayPot (pot : Int) (leak : Nat) : Int := onMag (fun n => n * leak / 65536) pot

/-- A trace decayed by a TD factor (R154). -/
def decayTrace (y td : Nat) : Nat := y * td / 256

/-- The code `j` of a slice whose 16-bit header and codes are at `bs` (R143), as a signed integer. -/
def sliceCode (bs : List Byte) (w8 : Bool) (j : Nat) : Int :=
  if w8 then ((bs.getD (2 + j) 0).toInt)
  else
    let b := (bs.getD (2 + j / 2) 0).toNat
    signed 4 (if j % 2 = 0 then b % 16 else b / 16)

/-- The 32 weights of a slice (R144, R148), in units of 2^−56. -/
def sliceWeights (bs : List Byte) (w8 : Bool) : List Int :=
  let h := bytesToNat (bs.take 2)
  (List.range 32).map (fun j => if bit h 14 then 0 else expandCode (sliceCode bs w8 j) ((h / 64) % 256) (h % 64))

/-- Bytes of a slice (R130). -/
def sliceSize (w8 : Bool) : Nat := if w8 then 34 else 18

/-! ## CRC-16 (R40) -/

/-- One bit of the CRC-16 of R40, most significant first. -/
def crc16Bit (crc : BitVec 16) (b : Bool) : BitVec 16 :=
  let fb := crc.msb != b
  if fb then (crc <<< 1) ^^^ 0x1021#16 else crc <<< 1

def crc16Byte (crc : BitVec 16) (x : Byte) : BitVec 16 :=
  crc16Bit (crc16Bit (crc16Bit (crc16Bit (crc16Bit (crc16Bit (crc16Bit (crc16Bit crc (x.getLsbD 7)) (x.getLsbD 6))
    (x.getLsbD 5)) (x.getLsbD 4)) (x.getLsbD 3)) (x.getLsbD 2)) (x.getLsbD 1)) (x.getLsbD 0)

def crc16 (bs : List Byte) : BitVec 16 := bs.foldl crc16Byte 0xFFFF#16

/-- One bit of a reflected CRC-32 with the IEEE 802.3 polynomial. -/
def crc32Step (crc : Word) : Word := if crc.getLsbD 0 then (crc >>> 1) ^^^ 0xEDB88320#32 else crc >>> 1

def crc32Byte (crc : Word) (x : Byte) : Word :=
  let c := crc ^^^ x.setWidth 32
  crc32Step (crc32Step (crc32Step (crc32Step (crc32Step (crc32Step (crc32Step (crc32Step c)))))))

/-- CRC-32 of a byte string, IEEE 802.3. -/
def crc32 (bs : List Byte) : Word := ~~~ (bs.foldl crc32Byte 0xFFFFFFFF#32)

/-! ## Cell frames (R39) -/

/-- Byte `n` (1 to 31) of a frame. -/
def frameByte (f : CellFrame) (n : Nat) : Byte := f.extractLsb' (8 * (n - 1)) 8

def frameType (f : CellFrame) : Nat := (frameByte f 1).toNat % 16
def frameUnsync (f : CellFrame) : Bool := f.getLsbD 4
def frameDup (f : CellFrame) : Bool := f.getLsbD 5
def frameSeq (f : CellFrame) : Byte := frameByte f 2
def framePver (f : CellFrame) : Byte := frameByte f 3
def frameTime (f : CellFrame) : Time := f.extractLsb' 24 48
/-- PAYLOAD, its byte 0 in bits [7:0]. -/
def framePayload (f : CellFrame) : BitVec 160 := f.extractLsb' 72 160
def frameCrc (f : CellFrame) : BitVec 16 := f.extractLsb' 232 16

/-- The CRC a frame should carry (R40): over bytes 1 to 29. -/
def frameCrcOf (f : CellFrame) : BitVec 16 := crc16 ((List.range 29).map (fun i => frameByte f (i + 1)))

/-- A frame of the device (R39, R46): TYPE, DUP, SEQ, PVER 1, TIME, PAYLOAD and CRC. -/
def mkFrame (type : Nat) (dup : Bool) (seq : Byte) (t : Time) (payload : BitVec 160) : CellFrame :=
  let body : BitVec 232 := payload ++ t ++ (0x01#8) ++ seq ++ BitVec.ofNat 8 (type + (if dup then 0x20 else 0))
  let f : CellFrame := body.setWidth 248
  f ||| ((frameCrcOf f).setWidth 248 <<< 232)

end Sys2Proof.Machine
end

