-- ==== Sys2Proof/Machine/Pmon.lean ====
section
/-! DEFINITION. Event counters (R424 to R430): what a source adds to the counters that select it. Bits [47:32] of a
counter and of its snapshot stand in a word of their own beside the low register's; the high register's word is the
holding register of R474. -/

namespace Sys2Proof.Machine

/-- Where bits [47:32] of a counter stand. -/
def cntHigh (b : Nat) : Nat := Reg.PMON_CNT_LO b + 1

/-- Where bits [47:32] of a snapshot stand. -/
def snapHigh (b : Nat) : Nat := Reg.PMON_SNAP_LO b + 1

/-- The 48 bits of the counter at `b`. -/
def Chip.pmonCount (c : Chip) (b : Nat) : Nat := (c.rd (Reg.PMON_CNT_LO b)).toNat + (c.rd (cntHigh b)).toNat * 2 ^ 32

def Chip.setPmonCount (c : Chip) (b v : Nat) : Chip :=
  (c.wr (Reg.PMON_CNT_LO b) (BitVec.ofNat 32 v)).wr (cntHigh b) (BitVec.ofNat 32 (v / 2 ^ 32 % 2 ^ 16))

/-- The overflow of the counter at `b` (R425); `chipNo` is its number when it is a chip counter. -/
def Chip.pmonWrap (c : Chip) (b : Nat) (chipNo : Option Nat) : Chip :=
  let c := c.set (Reg.PMON_CFG_OVF b)
  match chipNo with
  | some n => if c.on (Reg.PMON_CFG_IRQ b) then c.wr Reg.PMON_IRQ_STATUS (c.rd Reg.PMON_IRQ_STATUS ||| (1#32 <<< n)) else c
  | none => c

/-- Add `n` to the counter at `b` (R425). -/
def Chip.pmonAdd (c : Chip) (b n : Nat) (chipNo : Option Nat) : Chip :=
  let v := c.pmonCount b + n
  let c := c.setPmonCount b (v % 2 ^ 48)
  if v < 2 ^ 48 then c else c.pmonWrap b chipNo

/-- Whether the counter at `b` counts source `src`. -/
def Chip.pmonOn (c : Chip) (b src : Nat) : Bool := c.on (Reg.PMON_CFG_EN b) && c.get (Reg.PMON_CFG_SRC b) == src

def Chip.tallyAt (c : Chip) (src n : Nat) : List (Nat × Option Nat) → Chip
  | [] => c
  | (b, k) :: bs => Chip.tallyAt (if c.pmonOn b src then c.pmonAdd b n k else c) src n bs

/-- A source of core `s` reports `n`. -/
def Chip.tallyCore (c : Chip) (s src : Nat) (n : Nat := 1) : Chip :=
  c.tallyAt src n ((List.range 4).map (fun i => (Reg.pmonCore s i, none)))

/-- A source of router `r` reports `n`. -/
def Chip.tallyRouter (c : Chip) (r src : Nat) (n : Nat := 1) : Chip :=
  c.tallyAt src n ((List.range 4).map (fun i => (Reg.pmonRouter r i, none)))

/-- A source of the chip reports `n`. -/
def Chip.tallyChip (c : Chip) (src : Nat) (n : Nat := 1) : Chip :=
  c.tallyAt src n ((List.range 32).map (fun i => (Reg.pmonChip i, some i)))

/-- Whether `src` is a source of R427 that a counter of this scope may select: 0 core, 1 router, 2 chip (R428). -/
def pmonSrcOk (scope src : Nat) : Bool :=
  src ≤ 2 || (scope == 0 && 0x10 ≤ src && src ≤ 0x26) || (scope == 1 && 0x40 ≤ src && src ≤ 0x46) ||
  (scope == 2 && 0x80 ≤ src && src ≤ 0x8D)

/-- The base of the counter a command names, its scope, and its number among the chip counters. -/
def pmonBase : PmonId → Nat × Nat × Option Nat
  | .core s n => (Reg.pmonCore s.toNat n.toNat, 0, none)
  | .router r n => (Reg.pmonRouter r.toNat n.toNat, 1, none)
  | .chip n => (Reg.pmonChip n.toNat, 2, some n.toNat)

/-- Copy one counter into its snapshot (R429), or clear SNAP_VALID when its domain is not ON. -/
def Chip.snapOne (c : Chip) (on : Bool) (b : Nat) : Chip :=
  if on then
    let c := (c.wr (Reg.PMON_SNAP_LO b) (c.rd (Reg.PMON_CNT_LO b))).wr (snapHigh b) (c.rd (cntHigh b))
    c.set (Reg.PMON_CFG_SNAP_VALID b)
  else c.clr (Reg.PMON_CFG_SNAP_VALID b)

/-- The power domain of cluster `k` is ON, the hysteresis included (R383, R385). -/
def Chip.clusterOn (c : Chip) (k : Nat) : Bool := c.get (Reg.PWR_DOM_STAT_STATE k) == 2 || c.get (Reg.PWR_DOM_STAT_STATE k) == 3

/-- The chip is in Lookout (R388). -/
def Chip.inLookout (c : Chip) : Bool := c.get Reg.PWR_STATE_STATE == 2

/-- The block of domain `d` holds its state and does not step: the chip is in Lookout (chapter 3, R391), or the domain is in RET
(R386). -/
def Chip.unitHeld (c : Chip) (d : Nat) : Bool := c.inLookout || c.get (Reg.PWR_DOM_STAT_STATE d) == 4

/-- What clocks and lines of domain `d` do, while it does not hold. -/
def whileRuns (d : Nat) (f : Chip → Chip) (c : Chip) : Chip := if c.unitHeld d then c else f c

/-- Boundary scan owns the pins (R434): the blocks behind them see their idle level. -/
def Chip.pinsIdle (c : Chip) : Bool := c.on Reg.BDP_STAT_EXTEST

/-- What a pin brings, while boundary scan does not own it. -/
def whilePins (f : Chip → Chip) (c : Chip) : Chip := if c.pinsIdle then c else f c

/-- A snapshot (R429): every counter of the chip, by the domains its cluster belongs to. -/
def Chip.snapshot (c : Chip) : Chip :=
  let c := (List.range 32).foldl (fun c n => c.snapOne true (Reg.pmonChip n)) c
  (List.range c.clusters).foldl (fun c k =>
    let on := c.clusterOn k
    let c := (List.range 4).foldl (fun c n => c.snapOne on (Reg.pmonRouter k n)) c
    (List.range 17).foldl (fun c s => (List.range 4).foldl (fun c n => c.snapOne on (Reg.pmonCore (k * 32 + s) n)) c) c) c

/-- CLR of a counter (R425). -/
def Chip.pmonClear (c : Chip) (b : Nat) : Chip := c.setPmonCount b 0

/-- A write to PMON_CFG (R425, R428): SRC, EN and IRQ are stored, CLR zeroes the counter, a 1 clears OVF, CFG_ERR follows
the source. -/
def Chip.pmonCfgWrite (c : Chip) (b scope : Nat) (v : Word) : Chip :=
  let old := c.rd (Reg.PMON_CFG b)
  let keep := old &&& 0x3800#32
  let keep := keep &&& ~~~ (v &&& 0x800#32)
  let c := c.wr (Reg.PMON_CFG b) (keep ||| (v &&& 0x3FF#32))
  let c := c.put (Reg.PMON_CFG_CFG_ERR b) (if pmonSrcOk scope (c.get (Reg.PMON_CFG_SRC b)) then 0 else 1)
  if v.getLsbD 10 then c.pmonClear b else c

/-- A read of PMON_CNT_LO (R426): bits [47:32] go to the holding register. -/
def Chip.pmonCntRead (c : Chip) (b : Nat) : Chip := c.wr (Reg.PMON_CNT_HI b) (c.rd (cntHigh b))

/-- A read of PMON_SNAP_LO (R426). -/
def Chip.pmonSnapRead (c : Chip) (b : Nat) : Chip := c.wr (Reg.PMON_SNAP_HI b) (c.rd (snapHigh b))

/-- A read of the counter register at offset `o` of the counter at `b`: the state it leaves and the word. -/
def Chip.pmonRead (c : Chip) (b o : Nat) : Chip × Word :=
  if o = 0 then (c, c.rd (Reg.PMON_CFG b))
  else if o = 4 then (c.pmonCntRead b, c.rd (Reg.PMON_CNT_LO b))
  else if o = 8 then (c, c.rd (Reg.PMON_CNT_HI b))
  else if o = 0xC then (c.pmonSnapRead b, c.rd (Reg.PMON_SNAP_LO b))
  else if o = 0x10 then (c, c.rd (Reg.PMON_SNAP_HI b))
  else (c, 0)

end Sys2Proof.Machine
end

