-- ==== Sys2Proof/Machine/Sandglass.lean ====
section
/-! DEFINITION. The sandglass (R417 to R422): records into the input FIFO, out of it into the DRAM window, trips and their
copy to Oasis SRAM; and the commands of this family. -/

namespace Sys2Proof.Machine

def oasisBase : Nat := 0x3000000000

/-- TRIP_WIN_BASE; its low 25 bits read 0. -/
def Chip.tripBase (c : Chip) : Nat :=
  (c.rd Reg.TRIP_WIN_BASE_LO).toNat / 2 ^ 25 * 2 ^ 25 + c.get Reg.TRIP_WIN_BASE_HI_BASE * 2 ^ 32

/-- Records are accepted: EN is 1 and the state is RECORDING (R417, R420), with DRAM out of self-refresh. -/
def Chip.tripRecording (c : Chip) : Bool :=
  c.on Reg.TRIP_CTRL_EN && c.get Reg.TRIP_STAT_STATE == 0 && !c.power.selfRefresh

/-- Write a record to the window (R417, R418), with the GAP mark of records lost before it. -/
def Chip.tripWrite (c : Chip) (r : List Byte) : Chip :=
  let n := c.rd Reg.TRIP_COUNT
  let r := if c.trip.gap then (match r with | b :: t => (b ||| 8#8) :: t | [] => []) else r
  let c := c.wrBytes (c.tripBase + (n.toNat % 2 ^ 20) * 32) r
  let c := c.wr Reg.TRIP_COUNT (n + 1)
  let c := { c with trip := { c.trip with gap := false, since := c.trip.since + 1 } }
  c.tallyChip 0x8C

/-- The bytes of a MARKER record (R418). -/
def markerBytes (c : Chip) (mask : Nat) : List Byte :=
  natToBytes 1 4 ++ natToBytes 1 mask ++ natToBytes 6 0 ++ natToBytes 8 (c.rd Reg.TRIP_COUNT).toNat ++
  natToBytes 6 c.time.toNat ++ natToBytes 10 0

/-- The lowest trigger code of a mask (R419). -/
def lowestTrigger (mask : Nat) : Nat := if bit mask 0 then 1 else if bit mask 1 then 2 else 3

/-- A trip was taken in this very tick, whose marker a further trigger joins (R419; log 166). -/
def Chip.tripJoins (c : Chip) : Option Nat :=
  match c.trip.copy with
  | some (_, 0, n) =>
    if c.get Reg.TRIP_COPY_TIME_LO_TIME + c.get Reg.TRIP_COPY_TIME_HI_TIME * 2 ^ 32 = c.time.toNat then some n else none
  | _ => none

/-- The trigger mask of a trip, in its marker and its register. -/
def Chip.tripMask (c : Chip) (n mask : Nat) : Chip :=
  (c.put Reg.TRIP_COPY_TRIG_MASK mask).wrBytes (c.tripBase + n % 2 ^ 20 * 32 + 1) (natToBytes 1 mask)

/-- A trip by the triggers of `mask` (R419 to R421). -/
def Chip.trip_ (c : Chip) (mask : Nat) : Chip :=
  if c.power.selfRefresh then
    { c with trip := { c.trip with waiting := c.trip.waiting ||| BitVec.ofNat 3 mask } }
  else if let some n := c.tripJoins then c.tripMask n (c.get Reg.TRIP_COPY_TRIG_MASK ||| mask)
  else
    let c := if c.on Reg.PMON_CTRL_SNAP_ON_TRIP then c.snapshot else c
    if c.on Reg.TRIP_STAT_HELD || c.trip.copy.isSome || c.get Reg.TRIP_STAT_STATE == 2 then
      let c := if c.tripRecording then c.tripWrite (markerBytes c mask) else c
      (c.bump Reg.TRIP_SKIPPED_COUNT).notify 0x000C OK (lowestTrigger mask) 0 0
    else if c.tripRecording then
      let c := c.trip.fifo.foldl Chip.tripWrite c
      let c := { c with trip := { c.trip with fifo := [] } }
      let n := (c.rd Reg.TRIP_COUNT).toNat
      let t := c.time
      let c := c.tripWrite (markerBytes c mask)
      let c := c.put Reg.TRIP_STAT_STATE 1
      let c := (c.set Reg.TRIP_STAT_HELD).clr Reg.TRIP_STAT_COMPLETE
      let c := c.put Reg.TRIP_COPY_TRIG_MASK mask
      let c := (c.put Reg.TRIP_COPY_TIME_LO_TIME t.toNat).put Reg.TRIP_COPY_TIME_HI_TIME (t.toNat / 2 ^ 32)
      let c := c.set Reg.TRIP_IRQ_STATUS_TRIP
      { c with trip := { c.trip with copy := some (min c.trip.since 131072, 0, n) } }
    else c

/-- Whether a valid rule matches an INGEST (source 0) or OUTPUT (source 1) record (R419). -/
def Chip.tripRuleHit (c : Chip) (src : Nat) (ev : DWord) : Bool :=
  (List.range 8).any (fun r =>
    c.on (Reg.TRIP_RULE_CFG_VALID r) && c.get (Reg.TRIP_RULE_CFG_SRC r) == src &&
    ((ev.extractLsb' 32 32 ^^^ c.rd (Reg.TRIP_RULE_KEY r)) &&& c.rd (Reg.TRIP_RULE_MASK r)) == 0 &&
    (let p := (ev.extractLsb' 24 8).toInt
     let th := signed 8 (c.get (Reg.TRIP_RULE_CFG_THRESH r))
     if c.get (Reg.TRIP_RULE_CFG_CMP r) == 0 then p ≥ th else p ≤ th))

/-- A record arrives at the input FIFO (R417). -/
def Chip.tripPush (c : Chip) (r : List Byte) : Chip :=
  if !c.tripRecording then c
  else if c.trip.fifo.length ≥ 256 then
    { (c.bump Reg.TRIP_DROP_COUNT).set Reg.TRIP_IRQ_STATUS_DROP with trip := { c.trip with gap := true } }
  else { c with trip := { c.trip with fifo := c.trip.fifo ++ [r] } }

/-- A FRAME record (R33, R418). -/
def Chip.recFrame (c : Chip) (p : Nat) (f : CellFrame) : Chip :=
  c.tripPush (natToBytes 1 1 ++ natToBytes 1 p ++ (List.range 29).map (fun i => frameByte f (i + 1)) ++ natToBytes 1 0)

def eventRecord (kind edge who : Nat) (ev : DWord) (t : Time) : List Byte :=
  natToBytes 1 kind ++ natToBytes 1 edge ++ natToBytes 2 who ++ natToBytes 4 0 ++ natToBytes 8 ev.toNat ++
  natToBytes 6 t.toNat ++ natToBytes 10 0

/-- An INGEST or OUTPUT record, with the rules it may match (R418, R419); the record that matches is itself written. -/
def Chip.recEvent (c : Chip) (src edge who : Nat) (ev : DWord) : Chip :=
  let rec_ := c.tripRecording
  let c := c.tripPush (eventRecord (src + 2) edge who ev c.time)
  if rec_ && c.tripRuleHit src ev then c.trip_ 2 else c

/-- SANDGLASS_RECORD (R417): the oldest record of the FIFO goes to the window. -/
def execSandglassRecord (s : State) : Host.Outcome State Fault Refusal :=
  act (fun c => match c.trip.fifo with
    | r :: t => if c.power.selfRefresh then c else { c with trip := { c.trip with fifo := t } }.tripWrite r
    | [] => c) s

/-- TRIP_IN at its active level for 8 ticks (R419) outside Lookout; `wake` is the full wake it makes in Lookout. -/
def Chip.tripPin (c : Chip) (wake : Chip → Chip) : Chip :=
  if !c.on Reg.TRIP_CFG_PIN_EN then c
  else if c.power.supply == 1 then c
  else if c.power.selfRefresh then wake (c.trip_ 1) else c.trip_ 1

/-- TRIP_CTRL_FIRE (R419): a write of FIRE. -/
def execTripCtrlFire (s : State) : Host.Outcome State Fault Refusal := act (·.trip_ 4) s

/-- Copy record `i` counted from the marker back: window index to Oasis index (R420). -/
def Chip.copyRecord (c : Chip) (marker i : Nat) : Chip :=
  let src := c.tripBase + ((marker + 2 ^ 32 - i) % 2 ^ 20) * 32
  { c with mem := c.mem.copyFrom c.mem (oasisBase + (131071 - i) * 32) src 32 }

/-- CRC-32 over the copy from index `first` to 131,071 (R420). -/
def Chip.copyCrc (c : Chip) (first : Nat) : Word :=
  crc32 (c.rdBytes (oasisBase + first * 32) ((131072 - first) * 32))

/-- TRIP_COPY_CHUNK (R420): the next 2,048 records, newest first, then FIRST and CRC together. -/
def execTripCopyChunk (s : State) : Host.Outcome State Fault Refusal :=
  act (fun c => match c.trip.copy with
    | some (total, done, marker) =>
      let k := min 2048 (total - done)
      if k = 0 ∨ c.power.selfRefresh then c else
        let c := (List.range k).foldl (fun c i => c.copyRecord marker (done + i)) c
        let first := 131072 - (done + k)
        let c := c.put Reg.TRIP_COPY_FIRST_INDEX first
        let c := c.wr Reg.TRIP_COPY_CRC (c.copyCrc first)
        { c with trip := { c.trip with copy := some (total, done + k, marker) } }
    | none => c) s

/-- TRIP_COPY_DONE (R420): the notification, and recording resumes, stays frozen, or is off. -/
def execTripCopyDone (s : State) : Host.Outcome State Fault Refusal :=
  act (fun c => match c.trip.copy with
    | some (total, done, _) =>
      if done < total then c else
        let c := { c with trip := { c.trip with copy := none } }
        let c := (c.set Reg.TRIP_STAT_COMPLETE).set Reg.TRIP_IRQ_STATUS_COPY_DONE
        let c := c.put Reg.TRIP_STAT_STATE (if c.on Reg.TRIP_CTRL_EN = false then 3 else if c.on Reg.TRIP_CFG_AUTO_REARM then 0 else 2)
        c.notify 0x000C OK (lowestTrigger (c.get Reg.TRIP_COPY_TRIG_MASK)) total 0
    | none => c) s

/-- TRIP_CTRL_RELEASE (R421): the held copy is released. -/
def execTripCtrlRelease (s : State) : Host.Outcome State Fault Refusal := act (·.clr Reg.TRIP_STAT_HELD) s

/-- A write of TRIP_CTRL.EN: 1 starts recording from OFF, 0 stops it (R417, R420); while a copy runs the state stays COPYING. -/
def Chip.tripEnWrite (c : Chip) (en : Bool) : Chip :=
  let was := c.on Reg.TRIP_CTRL_EN
  let c := c.put Reg.TRIP_CTRL_EN en.toNat
  let goTo := fun (st : Nat) => if c.trip.copy.isSome then c else c.put Reg.TRIP_STAT_STATE st
  if en && !was then { goTo 0 with trip := { c.trip with since := 0, gap := false } }
  else if !en then goTo 3
  else c

end Sys2Proof.Machine
end

