-- ==== Sys2Proof/Machine/Mesh.lean ====
section
/-! DEFINITION. The places traffic can stand in (R101 to R103, R114, R117): router input buffers, delivery stages, the
edge ports with the bridge behind them; flits and packets; source paths and the turn rule (R96, R109 to R111). -/

namespace Sys2Proof.Machine

/-! ## Flits (R94, R96, R98) -/

/-- An event flit from key, payload, lane and tag (R94). -/
def mkEvent (key : Word) (pay : Byte) (lane : Nat) (tag : BitVec 16) : DWord :=
  key ++ pay ++ BitVec.ofNat 8 (lane % 32 * 8) ++ tag

def evKey (e : DWord) : Word := e.extractLsb' 32 32
def evPay (e : DWord) : Byte := e.extractLsb' 24 8
def evLane (e : DWord) : Nat := dbits e 23 19
def evTag (e : DWord) : BitVec 16 := e.extractLsb' 0 16

/-- Packet header fields (R96). -/
def Packet.cls (p : Packet) : Nat := dbits p.hdr 18 16
def Packet.sb (p : Packet) : Bool := p.hdr.getLsbD 15
def Packet.db (p : Packet) : Bool := p.hdr.getLsbD 14
def Packet.dslot (p : Packet) : Nat := dbits p.hdr 10 6
def Packet.epoch (p : Packet) : Nat := dbits p.hdr 5 2
def Packet.len (p : Packet) : Nat := dbits p.hdr 1 0
def Packet.route (p : Packet) : BitVec 48 := p.hdr.extractLsb' 19 45 ++ p.hdr.extractLsb' 11 3

/-- Body flit `n`, counted from 1; 0 past the end. -/
def Packet.flit (p : Packet) (n : Nat) : DWord := p.body.getD (n - 1) 0
def Packet.src (p : Packet) : Nat := dbits (p.flit 1) 9 0
def Packet.dst (p : Packet) : Nat := dbits (p.flit 1) 19 10
def Packet.tag (p : Packet) : Nat := dbits (p.flit 1) 23 20
def Packet.op (p : Packet) : Nat := dbits (p.flit 1) 31 24
def Packet.data (p : Packet) : Word := (p.flit 1).extractLsb' 32 32

/-- Body flit 1 (R98). -/
def mkFlit1 (src dst tag op : Nat) (data : Word) : DWord :=
  BitVec.ofNat 64 (src % 1024 + dst % 1024 * 2 ^ 10 + tag % 16 * 2 ^ 20 + op % 256 * 2 ^ 24 + data.toNat * 2 ^ 32)

/-- A header flit (R96). -/
def mkHdr (route : BitVec 48) (cls : Nat) (sb db : Bool) (dslot epoch len : Nat) : DWord :=
  BitVec.ofNat 64 (route.toNat / 8 * 2 ^ 19 + cls % 8 * 2 ^ 16 + sb.toNat * 2 ^ 15 + db.toNat * 2 ^ 14 +
    route.toNat % 8 * 2 ^ 11 + dslot % 32 * 2 ^ 6 + epoch % 16 * 4 + len % 4)

/-- Hop `n` of a route (R96). -/
def hop (r : BitVec 48) (n : Nat) : Nat := (r.toNat / 2 ^ (45 - 3 * n)) % 8

/-- A route from its hops, END after them. -/
def routeOf (hops : List Nat) : BitVec 48 :=
  BitVec.ofNat 48 ((List.range 16).foldl (fun acc n => acc * 8 + hops.getD n 7) 0)

/-- Hop 0 consumed (R97): ROUTE shifted left by 3 bits, END below. -/
def Packet.shift (p : Packet) : Packet :=
  let r : BitVec 48 := (p.route <<< 3) ||| 7#48
  { p with hdr := mkHdr r p.cls p.sb p.db p.dslot p.epoch p.len }

/-! ## The mesh (R10, R101) -/

def cx (k : Nat) : Nat := k % 8
def cy (k : Nat) : Nat := k / 8

/-- The Feryo link of a cluster (R101). -/
def feryoAt (c : Chip) (k : Nat) : Option Nat :=
  let l := if k = 24 then some 0 else if k = 31 then some 1 else if k = 32 then some 2 else if k = 39 then some 3 else none
  l.filter (· < c.links_)

/-- The cluster of a Feryo link. -/
def feryoCluster (l : Nat) : Nat := if l = 0 then 24 else if l = 1 then 31 else if l = 2 then 32 else 39

/-- The neighbour in direction 0 E, 1 N, 2 W, 3 S; none at the edge of the die or toward a fused cluster (R106, R477). -/
def neighbour (c : Chip) (k dir : Nat) : Option Nat :=
  let n := match dir with
    | 0 => if cx k < 7 then some (k + 1) else none
    | 1 => if cy k < 7 then some (k + 8) else none
    | 2 => if cx k > 0 then some (k - 1) else none
    | _ => if cy k > 0 then some (k - 8) else none
  n.filter (· < c.clusters)

/-- The input of the neighbour by which traffic sent in a direction arrives: E arrives on W, N on S. -/
def arriveOn (dir : Nat) : Nat := match dir with | 0 => 18 | 1 => 19 | 2 => 16 | _ => 17

/-! ## Buffers (R102) -/

def Chip.buf (c : Chip) (k input cls : Nat) : List Flit := smGet [] (c.router k).bufs (input * 8 + cls)
def Chip.setBuf (c : Chip) (k input cls : Nat) (l : List Flit) : Chip :=
  c.modRouter k (fun r => { r with bufs := smSet r.bufs (input * 8 + cls) l })

/-- The input has one of its four buffers of the class free (R102, R115). -/
def Chip.room (c : Chip) (k input cls : Nat) : Bool := (c.buf k input cls).length < 4

/-- Put a flit or packet into a buffer. -/
def Chip.enter (c : Chip) (k input cls : Nat) (f : Flit) : Chip := c.setBuf k input cls (c.buf k input cls ++ [f])

def Chip.waiting (c : Chip) (k input cls : Nat) : List Flit := smGet [] (c.router k).waits (input * 8 + cls)
def Chip.setWaiting (c : Chip) (k input cls : Nat) (l : List Flit) : Chip :=
  c.modRouter k (fun r => { r with waits := smSet r.waits (input * 8 + cls) l })

/-- Feed an input: into a free buffer, or behind what already waits for one (R102, R115). -/
def Chip.feed (c : Chip) (k input cls : Nat) (f : Flit) : Chip :=
  if (c.waiting k input cls).isEmpty && c.room k input cls then c.enter k input cls f
  else c.setWaiting k input cls (c.waiting k input cls ++ [f])

/-- The oldest that waits before an input takes the buffer that has become free. -/
def Chip.drainWaiting (c : Chip) (k input cls : Nat) : Chip :=
  match c.waiting k input cls with
  | f :: t => if c.room k input cls then (c.setWaiting k input cls t).enter k input cls f else c
  | [] => c

def Chip.staged (c : Chip) (k port cls : Nat) : Option Staged := smGet none (c.router k).stage (port * 8 + cls)
def Chip.setStage (c : Chip) (k port cls : Nat) (f : Option Staged) : Chip :=
  c.modRouter k (fun r => { r with stage := smSet r.stage (port * 8 + cls) f })

/-! ## Edge ports (R22, R27) -/

/-- Capture events of an edge port enter its router while buffers are free, in order and ahead of cell-link events. -/
def Chip.drainCap (c : Chip) (e : Nat) : Nat → Chip
  | 0 => c
  | n + 1 =>
    match smGet [] c.bridge.injCap e with
    | ev :: t =>
      if c.room e 19 0 then
        Chip.drainCap (({ c with bridge := { c.bridge with injCap := smSet c.bridge.injCap e t } } : Chip).enter e 19 0 (.event ev none)) e n
      else c
    | [] => c

/-- The edge port takes a cell-link event: no capture event waits and a buffer is free (R27, R54). -/
def Chip.edgeFree (c : Chip) (e : Nat) : Bool := (smGet [] c.bridge.injCap e).isEmpty && c.room e 19 0

/-- An ingest event is injected at edge port `e` by source `who` (R24, R33). -/
def Chip.ingest (c : Chip) (e who : Nat) (ev : DWord) : Chip :=
  let c := (c.enter e 19 0 (.event ev none)).recEvent 0 e who ev
  c.tallyChip 0x83

/-- A capture event is handed to edge port `e` (R83, R86). -/
def Chip.ingestCap (c : Chip) (e chan : Nat) (ev : DWord) : Chip :=
  let c := { c with bridge := { c.bridge with injCap := smSet c.bridge.injCap e (smGet [] c.bridge.injCap e ++ [ev]) } }
  let c := c.recEvent 0 e (chan + 256) ev
  ((c.tallyChip 0x82).tallyChip 0x83).drainCap e 4

/-! ## Source paths (R109 to R111) -/

/-- Whether hop `h` after the path so far breaks the turn rule: a W after an E, N or S, or a reversal. -/
def turnBreak (wentOther : Bool) (prev : Option Nat) (h : Nat) : Bool :=
  (h == 2 && wentOther) ||
  (match prev with
    | some 0 => h == 2 | some 2 => h == 0 | some 1 => h == 3 | some 3 => h == 1 | _ => false)

/-- Whether an S hop from cluster `k` leaves through its edge port. -/
def edgeExit (k h : Nat) : Bool := h == 3 && cy k == 0

/-- The turn-rule trace (R109, R110): from hop 0 to the first END, 6, LOCAL, FERYO or edge-port exit. It runs on the
grid whether or not the clusters are present. -/
def turnTrace (k : Int × Int) : List Nat → Bool → Option Nat → Bool
  | [], _, _ => false
  | h :: t, other, prev =>
    if h ≥ 4 then false
    else if turnBreak other prev h then true
    else if h == 3 && k.2 == 0 then false
    else turnTrace (if h = 0 then (k.1 + 1, k.2) else if h = 1 then (k.1, k.2 + 1) else if h = 2 then (k.1 - 1, k.2) else (k.1, k.2 - 1))
      t (other || h != 2) (some h)

/-- The shape of a path (R110): true when it breaks the second check. -/
def shapeBad (y : Int) : List Nat → Bool
  | [] => true
  | h :: t =>
    if h = 4 then t.any (· != 7)
    else if h = 5 then false
    else if h = 6 ∨ h = 7 then true
    else if h = 3 ∧ y = 0 then t.any (· != 7)
    else shapeBad (if h = 1 then y + 1 else if h = 3 then y - 1 else y) t

/-- The path leaves the mesh, enters a fused cluster or uses an absent Feryo port (R110, third check). -/
def pathAbsent (c : Chip) (k : Nat) : List Nat → Bool
  | [] => false
  | h :: t =>
    if h = 4 then false
    else if h = 5 then (feryoAt c k).isNone
    else if h ≥ 6 then false
    else if edgeExit k h then false
    else match neighbour c k h with
      | some k' => pathAbsent c k' t
      | none => true

/-- The check of R110 from cluster `k`: OK or the first status that applies. -/
def pathCheck (c : Chip) (k : Nat) (route : BitVec 48) : Nat :=
  let hops := (List.range 16).map (hop route)
  if turnTrace (cx k, cy k) hops false none then PATH_ILLEGAL
  else if shapeBad (cy k) hops then ERR_PARAM
  else if pathAbsent c k hops then ERR_RESOURCE
  else OK

/-- The XY path to a cluster (R111): W or E hops, then N or S hops, then the last hop. -/
def xyPath (from_ dest last : Nat) : List Nat :=
  List.replicate (cx dest - cx from_) 0 ++ List.replicate (cx from_ - cx dest) 2 ++
  List.replicate (cy dest - cy from_) 1 ++ List.replicate (cy from_ - cy dest) 3 ++ [last]

/-- The path of S hops out of the edge port of a cluster's column (R111, R167). -/
def exitPath (k : Nat) : List Nat := List.replicate (cy k + 1) 3

/-- A packet the router of cluster `k` originates toward a logical core, or toward the bridge when `toBridge` (R121,
R214): the XY path of R111 with DSLOT and EPOCH of the cluster's active map (R117). -/
def Chip.originate (c : Chip) (k cls dst : Nat) (toBridge : Bool) (body : List DWord) : Chip :=
  let ep := c.get (Reg.NI_MAP_STAT_EPOCH k)
  let p : Packet :=
    if toBridge then { hdr := mkHdr (routeOf (exitPath k)) cls false true 0 ep (body.length - 1), body := body }
    else { hdr := mkHdr (routeOf (xyPath k (dst / 16) 4)) cls false false (c.activeSlot k dst) ep (body.length - 1), body := body }
  c.feed k 21 cls (.packet p)

/-- The body of a WCREDIT (R214). -/
def wcreditBody (reader sender port count : Nat) (orphan reload : Bool) (wadi : Nat) : List DWord :=
  [mkFlit1 reader sender 0 0x21 (BitVec.ofNat 32 (port % 16 + count % 64 * 16 + orphan.toNat * 2 ^ 10 + reload.toNat * 2 ^ 11 + wadi % 4096 * 2 ^ 12))]

/-- The router of cluster `k` returns a tuple's credits to its sender (R214, R215, R217, R218). -/
def Chip.creditBack (c : Chip) (k reader sender : Nat) (sb : Bool) (port count : Nat) (orphan : Bool) (wadi : Nat) : Chip :=
  c.originate k 5 sender sb (wcreditBody reader (if sb then 0x3FF else sender) port count orphan false wadi)

end Sys2Proof.Machine
end

