-- ==== Sys2Proof/Machine/Feryo.lean ====
section
/-! DEFINITION. The Feryo link layer (R326 to R338): frames with CRC-32 and replay, credits by class, key translation
and the path check on arrival, training and INIT, SYNC and HB. What goes out stands in `out`. -/

namespace Sys2Proof.Machine

/-! ## Links and pools -/

def Chip.linkState (c : Chip) (l : Nat) : Nat := c.get (Reg.FER_LINK_STAT_STATE l)
def Chip.setLinkState (c : Chip) (l st : Nat) : Chip := c.put (Reg.FER_LINK_STAT_STATE l) st

/-- The variant has link `l` and it stands in one of the states named. -/
def whenLink (l : Nat) (sts : List Nat) (f : Chip → Chip) (c : Chip) : Chip :=
  if l < c.links_ ∧ sts.contains (c.linkState l) then f c else c

/-- The credit pool of a flit (R334). -/
def poolOf : Flit → Nat
  | .event _ _ => 0
  | .packet p => if p.cls = 2 then 1 else if p.cls = 3 then 2 else if p.op < 0x80 then 3 else 4

/-- The class whose router buffers a pool uses. -/
def poolClass (pool : Nat) : Nat := if pool = 0 then 0 else if pool = 1 then 2 else if pool = 2 then 3 else 5

/-- Credits per direction of a pool (R334). -/
def poolMax (pool : Nat) : Nat := if pool = 0 then 64 else if pool = 2 then 32 else if pool = 4 then 8 else 16

/-- Lowest bit of a pool's field in a CREDIT block (R334). -/
def poolBit (pool : Nat) : Nat := if pool = 0 then 8 else if pool = 1 then 15 else if pool = 2 then 20 else if pool = 3 then 26 else 31

/-- The width of a pool's field. -/
def poolWidth (pool : Nat) : Nat := if pool = 0 then 7 else if pool = 1 then 5 else if pool = 2 then 6 else if pool = 3 then 5 else 4

def Chip.credit (c : Chip) (l pool : Nat) : Nat := smGet 0 (c.link l).credits pool

/-- Send a control block: its type in [7:0], the rest above (R328). -/
def Chip.block (c : Chip) (l kind data : Nat) : Chip := c.emit (.feryoBlock l kind data)

/-- Return `n` credits of a pool to the peer, once CREDIT_EN grants any (R334). -/
def Chip.giveCredit (c : Chip) (l pool n : Nat) : Chip :=
  if bit (c.get Reg.FER_CTRL_CREDIT_EN) l then c.block l 0x66 (n * 2 ^ (poolBit pool - 8)) else c

/-- The first grant, of every credit, once the link is ACTIVE and CREDIT_EN is set (R334, R346). -/
def Chip.grant (c : Chip) (l : Nat) : Chip :=
  if c.linkState l = 3 ∧ bit (c.get Reg.FER_CTRL_CREDIT_EN) l ∧ (c.link l).granted = false then
    (c.modLink l (fun x => { x with granted := true })).block l 0x66
      (64 + 16 * 2 ^ 7 + 32 * 2 ^ 12 + 16 * 2 ^ 18 + 8 * 2 ^ 23)
  else c

/-! ## Sending (R329, R330, R334) -/

/-- A flit or packet can leave by link `l`: ACTIVE, a credit of its pool, room in the replay buffer. -/
def Chip.feryoReady (c : Chip) (l : Nat) (f : Flit) : Bool :=
  c.linkState l == 3 && 0 < c.credit l (poolOf f) && (c.link l).replay.length < 64

/-- The flits of an event or packet. -/
def flitsOf : Flit → List DWord
  | .event e _ => [e]
  | .packet p => p.hdr :: p.body

/-- The SOF payload of a frame (R328). -/
def sofPayload (seq n : Nat) : Nat := 0x2D + (n - 1) * 2 ^ 8 + seq % 4096 * 2 ^ 16

/-- The CRC-32 of a frame (R329), which its EOF carries. -/
def frameCrc32 (seq : Nat) (flits : List DWord) : Word :=
  crc32 (natToBytes 8 (sofPayload seq flits.length) ++ flits.flatMap (fun d => natToBytes 8 d.toNat))

/-- A frame goes out: SOF, its flits, EOF (R329). -/
def Chip.frameOut (c : Chip) (l : Nat) (s : Sent) : Chip := (c.emit (.feryoFrame l s.seq s.flits (frameCrc32 s.seq s.flits))).tallyChip 0x8A

/-- Send one frame with one event or packet (R329: a frame closes as soon as no further flit is ready). -/
def Chip.feryoSend (c : Chip) (l : Nat) (f : Flit) : Chip :=
  let x := c.link l
  let own := match f with
    | .packet p => p.cls == 3 && p.sb
    | .event _ _ => false
  let s : Sent := { seq := x.tx, flits := flitsOf f, own := own }
  let x := { x with tx := (x.tx + 1) % 4096, replay := x.replay ++ [s], credits := smSet x.credits (poolOf f) (smGet 0 x.credits (poolOf f) - 1) }
  (c.setLink l x).frameOut l s

/-- Replay every unacknowledged frame, in order, from the oldest (R330). -/
def Chip.replayAll (c : Chip) (l : Nat) : Chip :=
  ((c.link l).replay.foldl (fun c s => c.frameOut l s) c).tallyChip 0x8B

/-- One more replay without ACK progress, or RETRAIN after REPLAY_MAX of them (R330, R331). -/
def Chip.replayOrRetrain (c : Chip) (l : Nat) : Chip :=
  if (c.link l).replay.isEmpty then c
  else if (c.link l).replays < c.get Reg.FER_TIMING_REPLAY_MAX then
    (c.modLink l (fun x => { x with replays := x.replays + 1 })).replayAll l
  else c.setLinkState l 4

/-! ## Receiving (R330, R336, R337) -/

/-- Translation entry word (R337). -/
def Chip.xlat (c : Chip) (l n w : Nat) : Word := c.rd (Reg.FER_XLAT l n w)

/-- KEY translated by the lowest matching entry of the port (R337). -/
def Chip.translate (c : Chip) (l : Nat) (key : Word) : Word :=
  match (List.range 64).find? (fun n => c.xlat l n 1 != 0 && key &&& c.xlat l n 1 == c.xlat l n 0) with
  | some n => (key &&& ~~~ c.xlat l n 3) ||| (c.xlat l n 2 &&& c.xlat l n 3)
  | none => key

/-- An event with its key replaced. -/
def withKey (e : DWord) (key : Word) : DWord := key ++ e.extractLsb' 0 32

/-- Accepted traffic of a class moves into the router input as buffers free, in the order of arrival (R342). -/
def Chip.drainFeryo (c : Chip) (l cls : Nat) : Nat → Chip
  | 0 => c
  | n + 1 =>
    match smGet [] (c.link l).rxq cls with
    | f :: t =>
      if c.room (feryoCluster l) 20 cls then
        Chip.drainFeryo ((c.modLink l (fun x => { x with rxq := smSet x.rxq cls t })).enter (feryoCluster l) 20 cls f) l cls n
      else c
    | [] => c

/-- Queue accepted traffic toward the router input. -/
def Chip.feryoAccept (c : Chip) (l : Nat) (f : Flit) : Chip :=
  let cls := poolClass (poolOf f)
  (c.modLink l (fun x => { x with rxq := smSet x.rxq cls (smGet [] x.rxq cls ++ [f]) })).drainFeryo l cls 4

/-- One flit accepted: an event is translated; a whole packet is checked as a fresh path (R336) and its credit returned
when it is discarded. -/
def Chip.feryoFlit (c : Chip) (l : Nat) (d : DWord) : Chip :=
  let part := (c.link l).part ++ [d]
  match part with
  | [] => c
  | hdr :: body =>
    if dbits hdr 18 16 = 0 then
      c.feryoAccept l (.event (withKey d (c.translate l (evKey d))) none)
    else
      let p : Packet := { hdr := hdr, body := body }
      if body.length < p.len + 1 then c.modLink l (fun x => { x with part := part })
      else
        let c := c.modLink l (fun x => { x with part := [] })
        if pathCheck c (feryoCluster l) p.route = OK then c.feryoAccept l (.packet p)
        else (c.bump (Reg.FER_LINK_DROP_PATH l)).giveCredit l (poolOf (.packet p)) 1

/-- FERYO_FRAME (R330): a frame with its SEQ, flits and CRC arrives. -/
def execFeryoFrame (l : LinkId) (seq : BitVec 12) (flits : List DWord) (crc : Word) (s : State) : Host.Outcome State Fault Refusal :=
  act (whenLink l.toNat [3] (fun c =>
    let l := l.toNat
    let rx := (c.link l).rx
    if flits.length = 0 ∨ 32 < flits.length then c
    else if frameCrc32 seq.toNat flits ≠ crc then (c.bump (Reg.FER_LINK_CNT_CRC l)).block l 0x55 rx
    else if seq.toNat = rx then
      let c := c.modLink l (fun x => { x with rx := (rx + 1) % 4096 })
      (flits.foldl (fun c d => c.feryoFlit l d) c).block l 0x4B rx
    else if (seq.toNat + 4096 - rx) % 4096 < 2048 then c.block l 0x55 rx
    else c.block l 0x4B ((rx + 4095) % 4096))) s

/-! ## ACK, NAK, timeouts (R330, R331) -/

/-- Bytes the peer has acknowledged go to the oldest descriptor that still waits for some; to none that a failure of the link
has ended (R339). -/
def ackXfers : Nat → List Xfer → List Xfer
  | _, [] => []
  | n, x :: xs =>
    if x.failed then x :: ackXfers n xs
    else
      let k := min n (x.len - x.acked)
      { x with acked := x.acked + k } :: ackXfers (n - k) xs

/-- Bytes of a link's live descriptors sent and not acknowledged. -/
def unacked (l : List Xfer) : Nat := (l.map (fun x => if x.failed then 0 else x.sent - x.acked)).foldl (· + ·) 0

/-- A link's failure ends every descriptor it holds (R339); the writes of theirs that are not among its lost frames are still on
their way. -/
def LinkSt.endXfers (x : LinkSt) : LinkSt :=
  { x with xfers := x.xfers.map (fun d => { d with failed := true }),
           stale := x.stale + unacked x.xfers / 16 - (x.replay.filter (·.own)).length }

/-- FERYO_ACK (R330): every frame up to the SEQ is acknowledged. -/
def Chip.feryoAck (c : Chip) (l seq : Nat) : Chip :=
  let x := c.link l
  let gone := x.replay.filter (fun s => (seq + 4096 - s.seq) % 4096 < 2048)
  if gone.isEmpty then c
  else
    let n := (gone.filter (·.own)).length
    c.setLink l { x with replay := x.replay.filter (fun s => ¬ (seq + 4096 - s.seq) % 4096 < 2048), replays := 0,
                         stale := x.stale - n, xfers := ackXfers (16 * (n - x.stale)) x.xfers }

/-- FERYO_NAK (R330). -/
def execFeryoNak (l : LinkId) (_seq : BitVec 12) (s : State) : Host.Outcome State Fault Refusal :=
  act (whenLink l.toNat [3] (·.replayOrRetrain l.toNat)) s

/-- REPLAY_TIMEOUT (R331): no ACK has advanced for REPLAY_TO; 0 is no limit. -/
def execReplayTimeout (l : LinkId) (s : State) : Host.Outcome State Fault Refusal :=
  act (whenLink l.toNat [3] (fun c => if c.get Reg.FER_TIMING_REPLAY_TO = 0 then c else c.replayOrRetrain l.toNat)) s

/-- A link enters FAILED with a code (R331 to R333): its unacknowledged frames are lost and counted, and no descriptor it holds
goes on. -/
def Chip.linkFail (c : Chip) (l code : Nat) : Chip :=
  let n := (c.link l).replay.length
  let c := c.bump (Reg.FER_LINK_CNT_LOST l) n
  let c := c.modLink l (fun x => { x.endXfers with replay := [], replays := 0 })
  let c := (c.setLinkState l 6).put (Reg.FER_LINK_STAT_FAULT l) code
  c.put Reg.FER_IRQ_STATUS_FAIL (c.get Reg.FER_IRQ_STATUS_FAIL ||| 2 ^ l)

/-- CREDIT_BLOCK (R334): credits come back, never above a pool's total. -/
def execCreditBlock (l : LinkId) (payload : DWord) (s : State) : Host.Outcome State Fault Refusal :=
  act (whenLink l.toNat [3] (fun c =>
    c.modLink l.toNat (fun x => { x with credits := (List.range 5).foldl (fun m k =>
      smSet m k (min (poolMax k) (smGet 0 m k + dbits payload (poolBit k + poolWidth k - 1) (poolBit k)))) x.credits }))) s

/-- UNKNOWN_CONTROL_BLOCK (R328): discarded and counted. -/
def execUnknownControlBlock (l : LinkId) (kind : Byte) (s : State) : Host.Outcome State Fault Refusal :=
  act (whenLink l.toNat [1, 2, 3, 4] (fun c =>
    if [0x1E, 0x2D, 0x33, 0x4B, 0x55, 0x66, 0x78, 0x87, 0x99].contains kind.toNat then c
    else c.bump (Reg.FER_LINK_CNT_OTHER l.toNat))) s

/-! ## Peers and what fails (R326, R345) -/

/-- The peer R326 names for link `l`: chip by topology, chip count and this chip's number. -/
def peerOf (topo chips me l : Nat) : Nat :=
  if topo = 1 then (if l = 1 then (me + 1) % chips else (me + chips - 1) % chips)
  else
    let x := me % 4
    let y := me / 4
    if l = 1 then (x + 1) % 4 + 4 * y else if l = 0 then (x + 3) % 4 + 4 * y
    else if l = 3 then x + 4 * ((y + 1) % 4) else x + 4 * ((y + 3) % 4)

/-- The links a topology uses (R326): 0 and 1 of a ring, all four of a torus. -/
def linkUsed (topo l : Nat) : Bool := topo == 2 || (topo == 1 && l < 2)

/-- The chip at the other end of link `l`, where the topology uses the link. -/
def Chip.linkPeer (c : Chip) (l : Nat) : Option Nat :=
  let topo := c.get Reg.FER_CFG_TOPO
  if linkUsed topo l then some (peerOf topo (c.get Reg.FER_CFG_CHIPS_M1 + 1) (c.get Reg.FER_CFG_CHIP_ID) l) else none

/-- A chip that has not been declared failed. -/
def Chip.alive (c : Chip) (chip : Nat) : Bool := !c.dead.getLsbD chip

/-- Some ACTIVE link leads to a chip that is alive: what the links reach, this chip still reaches. -/
def Chip.linksOut (c : Chip) : Bool :=
  (List.range c.links_).any (fun k => c.linkState k == 3 && (c.linkPeer k).any c.alive)

/-- The loaded multi-chip job (R343). -/
def Chip.multiJob (c : Chip) : Option (Nat × Job) := c.fw.jobs.find? (fun j => j.2.multi && j.2.state != 0)

/-- A CHIP_REMAP notification (R325, R345). -/
def Chip.remapNotice (c : Chip) (chip cells : Nat) : Chip :=
  c.notify 0x0004 ERR_FENCED (match c.multiJob with | some j => j.1 | none => 0xFFFFFFFF) chip (if c.multiJob.isSome then cells else 0)

/-- A link fails; where its peer lives and another link still leads out, that is reported with no cells moved (R345). -/
def Chip.linkLost (c : Chip) (l code : Nat) : Chip :=
  let c := c.linkFail l code
  match c.linkPeer l with
  | some p => if c.alive p && c.linksOut then c.remapNotice p 0 else c
  | none => c

/-! ## Training (R332, R333, R346) -/

/-- Enter TRAIN: sequence numbers, credits and what was in flight start afresh. -/
def Chip.linkTrain (c : Chip) (l : Nat) : Chip :=
  let c := c.modLink l (fun x => { LinkSt.init with xfers := x.xfers, stale := x.stale, rxq := x.rxq, lastHb := x.lastHb, peerUp := x.peerUp })
  (c.setLinkState l 1).put (Reg.FER_LINK_STAT_FAULT l) 0

/-- A training pattern wakes a link from SLEEP (R332): it trains again; its unacknowledged frames and its numbering stay,
its credits are granted anew. -/
def Chip.linkWake (c : Chip) (l : Nat) : Chip :=
  (c.modLink l (fun x => { x with credits := [], granted := false, replays := x.replay.length })).setLinkState l 1

/-- LINK_EN written (R332): a link in DOWN whose bit is set enters TRAIN. -/
def Chip.linkEnable (c : Chip) (l : Nat) : Chip :=
  if bit (c.get Reg.FER_CTRL_LINK_EN) l then whenLink l [0] (·.linkTrain l) c else c

/-- FER_LINK_CMD.REBRING (R332). -/
def Chip.linkRebring (c : Chip) (l : Nat) : Chip := whenLink l [6] (·.linkTrain l) c

def execFerLinkCmdRebring (l : LinkId) (s : State) : Host.Outcome State Fault Refusal := act (·.linkRebring l.toNat) s

/-- This chip's INIT block (R328, R333) with a nonce and a turnaround. -/
def Chip.initBlock (c : Chip) (l : Nat) (nonce : BitVec 16) (turn : Nat) : Chip :=
  c.block l 0x87 (c.get Reg.FER_CFG_CHIP_ID + l * 2 ^ 4 + c.get Reg.FER_CFG_TOPO * 2 ^ 6 + c.get Reg.FER_CFG_CHIPS_M1 * 2 ^ 8 +
    Config.linkVersion.toNat * 2 ^ 12 + nonce.toNat * 2 ^ 20 + turn % 2 ^ 16 * 2 ^ 36)

/-- Start an INIT exchange: a nonce and the time of departure are kept. -/
def Chip.initStart (c : Chip) (l : Nat) : Chip :=
  let n := Config.nonce c.fresh
  let c := { c with fresh := c.fresh + 1 }
  (c.modLink l (fun x => { x with nonce := n, reqTime := c.time })).initBlock l n 0

/-- TRAIN_DONE (R327, R332): lanes locked and deskewed, at ×8 or on one half at ×4. -/
def execTrainDone (l : LinkId) (lanes : Byte) (s : State) : Host.Outcome State Fault Refusal :=
  act (whenLink l.toNat [1, 4] (fun c =>
    let l := l.toNat
    let low := lanes &&& 0x0F#8 == 0x0F#8
    let high := lanes &&& 0xF0#8 == 0xF0#8
    if low || high then
      let retrain := c.linkState l == 4
      let c := (c.put (Reg.FER_LINK_STAT_LANES_OK l) lanes.toNat).put (Reg.FER_LINK_STAT_WIDTH l) (if low && high then 0 else 1)
      let c := (c.setLinkState l (if retrain then 3 else 2)).initStart l
      if retrain then (c.modLink l (fun x => { x with replays := 0 })).replayAll l else c
    else c)) s

/-- TRAIN_TIMEOUT (R332): not trained within 1 ms. -/
def execTrainTimeout (l : LinkId) (s : State) : Host.Outcome State Fault Refusal :=
  act (whenLink l.toNat [1] (·.linkLost l.toNat 1)) s

/-- The first failing check of R333, by fault code; 0 when all pass. `b` is the block's payload. -/
def Chip.initCheck (c : Chip) (l : Nat) (b : DWord) : Nat :=
  let me := c.get Reg.FER_CFG_CHIP_ID
  let topo := c.get Reg.FER_CFG_TOPO
  let chips := c.get Reg.FER_CFG_CHIPS_M1 + 1
  let pl := dbits b 13 12
  if dbits b 27 20 ≠ Config.linkVersion.toNat then 6
  else if dbits b 11 8 = me then 4
  else if (pl != (if l % 2 = 0 then l + 1 else l - 1)) then 3
  else if dbits b 15 14 ≠ topo ∨ dbits b 19 16 + 1 ≠ chips ∨ linkUsed topo l = false ∨ dbits b 11 8 ≠ peerOf topo chips me l then 5
  else 0

/-- INIT_BLOCK (R333): checked; one that carries this chip's own nonce is the answer, which gives the delay and makes
the link ACTIVE; any other is answered with its nonce. -/
def execInitBlock (l : LinkId) (b : DWord) (s : State) : Host.Outcome State Fault Refusal :=
  act (whenLink l.toNat [2, 3] (fun c =>
    let l := l.toNat
    let code := c.initCheck l b
    if c.linkState l = 2 ∧ code ≠ 0 then c.linkLost l code
    else
      let c := (c.put (Reg.FER_LINK_STAT_PEER_CHIP l) (dbits b 11 8)).put (Reg.FER_LINK_STAT_PEER_LINK l) (dbits b 13 12)
      let nonce : BitVec 16 := b.extractLsb' 28 16
      if nonce = (c.link l).nonce then
        let d := (((c.time - (c.link l).reqTime).toNat : Int) - (dbits b 59 44 : Nat)) / 2
        let c := c.put (Reg.FER_LINK_DELAY_DELAY l) (BitVec.ofInt 16 d).toNat
        let c := (c.setLinkState l 3).grant l
        if (c.link l).replays = 0 then c else (c.modLink l (fun x => { x with replays := 0 })).replayAll l
      else c.initBlock l nonce 0)) s

/-! ## SYNC and HB (R338, R344) -/

/-- FERYO_SYNC_SEND (R338): every 10 µs, on every ACTIVE link. -/
def execFeryoSyncSend (s : State) : Host.Outcome State Fault Refusal :=
  act (fun c => (List.range c.links_).foldl (fun c l => if c.linkState l = 3 then c.block l 0x78 c.time.toNat else c) c) s

/-- This chip keeps its own time: the time master, and a chip without a topology (R338). -/
def Chip.keepsTime (c : Chip) : Bool := c.get Reg.FER_CFG_CHIP_ID == 0 || !linkUsed (c.get Reg.FER_CFG_TOPO) 0

/-- The peer of link `l` is aligned (R338): chip 0 always; of another, no block of R328 tells it (log 159). -/
def Chip.peerAligned (c : Chip) (l : Nat) : Bool :=
  match c.linkPeer l with
  | some 0 => true
  | some _ => Config.peerAligned l c.time
  | none => false

/-- The upstream link of this chip (R338); none where it keeps its own time. -/
def Chip.upstream (c : Chip) : Option Nat :=
  if c.keepsTime then none
  else
    let up := if c.get Reg.FER_CFG_TOPO = 1 ∨ 0 < c.get Reg.FER_CFG_CHIP_ID % 4 then 0 else 2
    if c.linkState up = 3 then some up else (List.range c.links_).find? (fun l => c.linkState l == 3 && c.peerAligned l)

/-- Firmware runs (R328): FW_STATE is WAIT_HELLO or READY. -/
def Chip.fwUp (c : Chip) : Bool := c.fwState == 2 || c.fwState == 3

/-- HB_SEND (R344): every HB_PERIOD, on every ACTIVE link; 0 sends none. -/
def execHbSend (s : State) : Host.Outcome State Fault Refusal :=
  act (fun c =>
    if c.get Reg.FER_HB_HB_PERIOD = 0 then c
    else (List.range c.links_).foldl (fun c l => if c.linkState l = 3 then c.block l 0x99 c.fwUp.toNat else c) c) s

/-- HB_RECEIVE (R344): liveness of the peer; a SLEEP request moves the link to SLEEP. -/
def execHbReceive (l : LinkId) (up sleep : Bool) (s : State) : Host.Outcome State Fault Refusal :=
  act (whenLink l.toNat [3] (fun c =>
    let c := c.modLink l.toNat (fun x => { x with lastHb := some c.time, peerUp := up })
    if sleep then c.setLinkState l.toNat 5 else c)) s

end Sys2Proof.Machine
end

