-- ==== Sys2Proof/Machine/Fabric.lean ====
section
/-! DEFINITION. The cluster router at work (R97 to R121, R476, R477): multicast lookup and hop of an event, hop of a
packet, delivery of an event, swaps of the core map. -/

namespace Sys2Proof.Machine

/-! ## Slots (R121) -/

/-- A slot is fenced (R412). -/
def Chip.fenced (c : Chip) (s : Nat) : Bool := bit (c.get (Reg.RST_FENCED_SLOTS (s / 32))) (s % 32)

/-- A slot is in reset: in the region of a partial reset in ABSORB (R409). -/
def Chip.absorbing (c : Chip) (s : Nat) : Bool := c.get Reg.RST_STAT_PHASE == 2 && c.rst.slots.contains s

/-- A slot is in the region of a reset in DRAIN (R409). -/
def Chip.draining (c : Chip) (s : Nat) : Bool := c.get Reg.RST_STAT_PHASE == 1 && c.rst.slots.contains s

/-- The slot the previous copy of cluster `k`'s map gives logical core `i` (R118). -/
def Chip.prevSlot (c : Chip) (k i : Nat) : Nat :=
  let a := Reg.NI_MAP_ACTIVE k i
  (smGet (BitVec.ofNat 32 ((instReset a).getD 0)) (c.router k).prev a).toNat

/-- A map swap is in progress in cluster `k`. -/
def Chip.swapping (c : Chip) (k : Nat) : Bool := c.get (Reg.NI_MAP_STAT_DRAINED k) == 0

/-- Physical slot `s` seats a logical core of its cluster, in the active map or, while a drain lasts, in the previous
one (R120, R121). -/
def Chip.seats (c : Chip) (s : Nat) : Bool :=
  let k := s / 32
  (List.range 16).any (fun i => c.activeSlot k (k * 16 + i) == s % 32 || (c.swapping k && c.prevSlot k (k * 16 + i) == s % 32))

/-- A rotation step freezes slot `s` (R369, phase 3): its core port accepts nothing, no pass begins. -/
def Chip.frozenSlot (c : Chip) (s : Nat) : Bool :=
  c.get Reg.DMAP_ROT_STAT_PHASE == 3 && c.get Reg.DMAP_ROT_STAT_CLUSTER * 32 + c.get Reg.DMAP_ROT_STAT_SLOT == s

/-- The core port of logical core `i` is frozen. -/
def Chip.frozenPort (c : Chip) (i : Nat) : Bool := c.get Reg.DMAP_ROT_STAT_PHASE == 3 && c.rot.core == i

/-! ## What the router answers in place of a core (R121) -/

/-- The body of a MEMRSP to request `p` with a status and up to 16 data bytes (R99). -/
def memRspBody (p : Packet) (status : Nat) (data : List Byte) : List DWord :=
  let f1 := mkFlit1 p.dst (if p.sb then 0x3FF else p.src) p.tag status 0
  if p.op % 2 = 0 then
    [f1, BitVec.ofNat 64 (bytesToNat (data.take 8)), BitVec.ofNat 64 (bytesToNat (data.drop 8))]
  else [f1]

/-- A MEMRSP from cluster `k` to request `p` (R111, R121). -/
def Chip.respond (c : Chip) (k : Nat) (p : Packet) (status : Nat) (data : List Byte := []) : Chip :=
  c.originate k 4 (if p.sb then 0x3FF else p.src) p.sb (memRspBody p status data)

/-- A WADI packet's fields (R99): queue, words, sending port. -/
def Packet.wadiQueue (p : Packet) : Nat := p.op % 4
def Packet.wadiWords (p : Packet) : Nat := p.op / 4 % 4 + 1
def Packet.wadiPort (p : Packet) : Nat := p.op / 16

/-- What becomes of a packet that is absorbed in cluster `k` (R120, R121, R218): a MEMREQ is answered, a WADI packet
returns its credits with ORPHAN = 1, the rest is discarded. -/
def Chip.absorbPacket (c : Chip) (k : Nat) (p : Packet) (status : Nat) : Chip :=
  if p.cls = 3 then c.respond k p status
  else if p.cls = 1 then
    c.creditBack k p.dst p.src p.sb p.wadiPort p.wadiWords true (p.dst * 4 + p.wadiQueue)
  else c

/-! ## Leaving an input buffer (R102, R103) -/

/-- The head of an input buffer leaves: what waited for the space moves up, and a Feryo input returns the credit (R334). -/
def Chip.freeHead (c : Chip) (k input cls : Nat) : Chip :=
  match c.buf k input cls with
  | [] => c
  | f :: t =>
    let c := c.setBuf k input cls t
    if input = 20 then
      match feryoAt c k with
      | some l => (c.giveCredit l (poolOf f) 1).drainFeryo l (poolClass (poolOf f)) 4
      | none => c
    else (if input = 19 && cy k == 0 then c.drainCap k 4 else c).drainWaiting k input cls

/-- RT_CFG.EN of a present cluster whose domain is powered (R385, R476). -/
def Chip.routerOn (c : Chip) (k : Nat) : Bool := k < c.clusters && c.clusterOn k && c.on (Reg.RT_CFG_EN k)

/-- Something reaches the fabric bridge through the edge port of cluster `k`. -/
def Chip.toBridge (c : Chip) (k : Nat) (f : Flit) : Chip :=
  { c with bridge := { c.bridge with inbox := c.bridge.inbox ++ [(k, f)] } }

/-! ## Events (R104 to R107) -/

/-- Multicast entry word (R104). -/
def Chip.mcast (c : Chip) (k n w : Nat) : Word := c.rd (Reg.MCAST k n w)

/-- The lowest-indexed valid entry that matches a key (R105). -/
def Chip.lookup (c : Chip) (k : Nat) (key : Word) : Option Nat :=
  (List.range 2048).find? (fun n => bit (c.mcast k n 2).toNat 31 && (key ^^^ c.mcast k n 0) &&& c.mcast k n 1 == 0)

/-- Which of the ports of an entry's set do not count (R106): the arrival port, W for arrivals on W, N or S, a mesh port
that faces the edge of the die or a fused cluster, FERYO without a Feryo port. -/
def Chip.removed (c : Chip) (k input o : Nat) : Bool :=
  let edge := cy k == 0
  (o == input) ||
  (o == 18 && (input == 18 || input == 17 || (input == 19 && !edge))) ||
  (16 ≤ o && o ≤ 19 && !(o == 19 && edge) && (neighbour c k (o - 16)).isNone) ||
  (o == 20 && (feryoAt c k).isNone)

/-- The number of ones among the lowest `n` bits. -/
def popcount (n v : Nat) : Nat := ((List.range n).filter (bit v)).length

/-- The outputs an event leaves by, after its lookup, with the removals counted (R105, R106). -/
def Chip.portSet (c : Chip) (k input n : Nat) : Chip × Nat :=
  let set := (c.mcast k n 2).toNat % 2 ^ 21
  let gone := ((List.range 21).filter (fun o => bit set o && c.removed k input o)).foldl (fun m o => m + 2 ^ o) 0
  let c := c.tallyRouter k 0x41
  if gone = 0 then (c, set)
  else
    let n := popcount 21 gone
    (((c.bump (Reg.RT_TURN_CNT_COUNT k) n).set (Reg.RT_IRQ_STATUS_TURN k)).tallyRouter k 0x43 n, set - gone)

/-- A multicast miss (R107): counted, and reported to firmware at most once a microsecond. -/
def Chip.miss (c : Chip) (k : Nat) (e : DWord) : Chip :=
  let c := ((c.bump (Reg.RT_MISS_CNT_COUNT k)).put (Reg.RT_MISS_LAST_KEY k) (evKey e).toNat).set (Reg.RT_IRQ_STATUS_MISS k)
  let c := c.tallyRouter k 0x42
  if c.on (Reg.RT_CFG_MISS_TO_HCU k) then
    let ok := match (c.router k).lastMiss with
      | none => true
      | some t => 400 ≤ (c.time - t).toNat
    if ok then
      (c.modRouter k (fun r => { r with lastMiss := some c.time })).originate k 5 0 true
        [mkFlit1 0 0x3FF 0 0x22 (BitVec.ofNat 32 k), e]
    else c.set (Reg.RT_IRQ_STATUS_MISS_RATE k)
  else c

/-- Whether output `o` of cluster `k` can take an event now. -/
def Chip.outFree (c : Chip) (k o : Nat) (e : DWord) : Bool :=
  if o < 16 then (c.staged k o 0).isNone && !c.frozenPort (k * 16 + o)
  else if o = 20 then
    match feryoAt c k with
    | some l => c.feryoReady l (.event e none)
    | none => false
  else if o = 19 ∧ cy k = 0 then true
  else match neighbour c k (o - 16) with
    | some k' => c.room k' (arriveOn (o - 16)) 0
    | none => false

/-- An event leaves by output `o`. -/
def Chip.outSend (c : Chip) (k o : Nat) (e : DWord) : Chip :=
  let c := c.tallyRouter k 0x40
  if o < 16 then c.setStage k o 0 (some { flit := .event e none, slot := none })
  else if o = 20 then
    match feryoAt c k with
    | some l => c.feryoSend l (.event e none)
    | none => c
  else if o = 19 ∧ cy k = 0 then c.toBridge k (.event e none)
  else match neighbour c k (o - 16) with
    | some k' => c.enter k' (arriveOn (o - 16)) 0 (.event e none)
    | none => c

/-- One output's grant of an event: sent when the output is free, otherwise still to be sent. -/
def Chip.grantOut (k : Nat) (e : DWord) (p : Chip × Nat) (o : Nat) : Chip × Nat :=
  if bit p.2 o && p.1.outFree k o e then (p.1.outSend k o e, p.2 - 2 ^ o) else p

/-- Copies to every output of the set that is free; the buffer is freed when the last copy has left (R103). -/
def Chip.copyOut (c : Chip) (k input : Nat) (e : DWord) (set : Nat) : Chip :=
  let r := (List.range 21).foldl (Chip.grantOut k e) (c, set)
  if r.2 = 0 then r.1.freeHead k input 0
  else match r.1.buf k input 0 with
    | _ :: t => r.1.setBuf k input 0 (.event e (some (BitVec.ofNat 21 r.2)) :: t)
    | [] => r.1

/-- The head of an input stands ready and its output has no free buffer downstream (R427, OUT_WAIT): a packet, or an event with
copies still to send. -/
def Chip.headWaits (c : Chip) (k input cls : Nat) : Bool :=
  match c.buf k input cls with
  | .event e (some left) :: _ => (List.range 21).any (fun o => left.getLsbD o && !c.outFree k o e)
  | .packet p :: _ =>
    let h := hop p.route 0
    if h = 4 then (c.staged k (p.dst % 16) cls).isSome || c.frozenPort (k * 16 + p.dst % 16)
    else if h = 5 then (match feryoAt c k with | some l => !c.feryoReady l (.packet p.shift) | none => false)
    else if h ≥ 6 ∨ edgeExit k h = true then false
    else match neighbour c k h with
      | some k' => !c.room k' (arriveOn h) cls
      | none => false
  | _ => false

/-- Any output of router `k` holds a packet it cannot send on. -/
def Chip.outWaits (c : Chip) (k : Nat) : Bool := (List.range 22).any (fun i => (List.range 6).any (fun cls => c.headWaits k i cls))

/-- One hop of the event at the head of an input (R103, R105 to R107, R476). -/
def Chip.eventHop (c : Chip) (k input : Nat) : Chip :=
  if c.routerOn k then
    match c.buf k input 0 with
    | .event e (some left) :: _ => c.copyOut k input e left.toNat
    | .event e none :: _ =>
      match c.lookup k (evKey e) with
      | none => (c.miss k e).freeHead k input 0
      | some n =>
        let r := c.portSet k input n
        r.1.copyOut k input e r.2
    | _ => c
  else c

/-- EVENT_HOP (R105). -/
def execEventHop (k : Cluster) (input : BitVec 5) (s : State) : Host.Outcome State Fault Refusal :=
  act (·.eventHop k.toNat input.toNat) s

/-! ## Packets (R97, R477, R335) -/

/-- A packet whose hop cannot be carried out (R477). -/
def Chip.badHop (c : Chip) (k input : Nat) (p : Packet) : Chip :=
  let c := ((c.bump (Reg.RT_BADHOP_CNT_COUNT k)).set (Reg.RT_IRQ_STATUS_BADHOP k)).freeHead k input p.cls
  if p.cls = 3 then c.respond k p ERR_PARAM else c

/-- A packet has been forwarded: counted and its buffer freed. -/
def Chip.passed (c : Chip) (k input : Nat) (p : Packet) : Chip :=
  ((c.tallyRouter k 0x45).tallyRouter k 0x40 (p.body.length + 1)).freeHead k input p.cls

/-- A packet at a Feryo port (R334, R335): what never crosses is discarded, the rest waits for a credit. -/
def Chip.packetFeryo (c : Chip) (k input l : Nat) (p : Packet) : Chip :=
  if p.cls = 1 ∨ p.cls = 4 ∨ (p.cls = 3 ∧ p.op % 2 = 0) then
    let c := (c.bump (Reg.FER_LINK_DROP_CLASS l)).freeHead k input p.cls
    if p.cls = 3 then c.respond k p ERR_PARAM else c
  else if c.feryoReady l (.packet p.shift) then (c.feryoSend l (.packet p.shift)).passed k input p
  else c

/-- One hop of the packet at the head of an input (R97, R102, R476, R477). A LOCAL hop takes the stage of the core port of the
destination's logical index (R101); the stage delivers to slot DSLOT (R97, R117; log 140). -/
def Chip.packetHop (c : Chip) (k input cls : Nat) : Chip :=
  if c.routerOn k then
    match c.buf k input cls with
    | .packet p :: _ =>
      let h := hop p.route 0
      if h = 4 then
        if (c.staged k (p.dst % 16) cls).isNone && !c.frozenPort (k * 16 + p.dst % 16) then
          (c.setStage k (p.dst % 16) cls (some { flit := .packet p.shift, slot := none })).passed k input p
        else c
      else if h = 5 then
        match feryoAt c k with
        | some l => c.packetFeryo k input l p
        | none => c.badHop k input p
      else if h ≥ 6 then c.badHop k input p
      else if edgeExit k h then
        if p.db then (c.toBridge k (.packet p.shift)).passed k input p else c.badHop k input p
      else match neighbour c k h with
        | none => c.badHop k input p
        | some k' =>
          if c.room k' (arriveOn h) cls then (c.enter k' (arriveOn h) cls (.packet p.shift)).passed k input p else c
    | _ => c
  else c

/-- PACKET_HOP (R97). -/
def execPacketHop (k : Cluster) (input : BitVec 5) (cls : BitVec 3) (s : State) : Host.Outcome State Fault Refusal :=
  act (·.packetHop k.toNat input.toNat cls.toNat) s

/-! ## Delivery of events (R117, R121, R127) -/

/-- NE_STAT.INQ and the other levels are read from the queues themselves. -/
def Core.inRoom (k : Core) : Bool := k.inq.length < 64

/-- Delivery of the event in the stage of a core port. One that waits in the stage for a full queue keeps the slot its
translation named, whatever a swap does to the map since (R117). -/
def Chip.deliverEvent (c : Chip) (k port : Nat) : Chip :=
  match c.staged k port 0 with
  | some { flit := .event e _, slot := slot } =>
    let sl := slot.getD (c.activeSlot k (k * 16 + port))
    let s := k * 32 + sl
    if 17 ≤ sl ∨ c.fenced s ∨ c.absorbing s ∨ (slot.isNone ∧ !c.seats s) then
      ((c.bump (Reg.NI_ABSORB_CNT_COUNT k)).tallyRouter k 0x46).setStage k port 0 none
    else
      let x := c.core s
      if x.inRoom then
        let c := c.setCore s { x with inq := x.inq ++ [{ ev := e, age := x.age, served := [] }], age := x.age + 1 }
        (c.tallyCore s 0x10).setStage k port 0 none
      else c.setStage k port 0 (some { flit := .event e none, slot := some sl })
  | _ => c

/-- EVENT_DELIVER (R117). -/
def execEventDeliver (k : Cluster) (port : BitVec 4) (s : State) : Host.Outcome State Fault Refusal :=
  act (fun c => if c.routerOn k.toNat && !c.frozenPort (k.toNat * 16 + port.toNat) then c.deliverEvent k.toNat port.toNat else c) s

/-! ## The core map (R118, R119) -/

/-- The shadow of cluster `k` becomes active under a new epoch (R118); a cluster that still drains ignores it. -/
def Chip.mapSwap (c : Chip) (k epoch : Nat) : Chip :=
  let isActive : Nat → Bool := fun a => Reg.NI_MAP_ACTIVE k 0 ≤ a && a < Reg.NI_MAP_ACTIVE k 1024
  let isShadow : Nat → Bool := fun a => Reg.NI_MAP_SHADOW k 0 ≤ a && a < Reg.NI_MAP_SHADOW k 1024
  let prev := c.regs.filter (fun r => isActive r.1)
  let shadow := c.regs.filter (fun r => isShadow r.1)
  let c := c.dropRegs isActive
  let c := shadow.foldl (fun c r => c.wr (r.1 + 0x1000) r.2) c
  let c := c.modRouter k (fun r => { r with prev := prev })
  let c := c.put (Reg.NI_MAP_STAT_PREV_EPOCH k) (c.get (Reg.NI_MAP_STAT_EPOCH k))
  (c.put (Reg.NI_MAP_STAT_EPOCH k) epoch).clr (Reg.NI_MAP_STAT_DRAINED k)

/-- NI_MAP_CTRL with SWAP = 1 (R118). -/
def Chip.mapCtrlSwap (c : Chip) (k epoch : Nat) : Chip :=
  if k < c.clusters then
    if c.swapping k then c.set (Reg.NI_MAP_STAT_SWAP_REJ k) else c.mapSwap k epoch
  else c

def execNiMapCtrlSwap (k : Cluster) (epoch : BitVec 4) (s : State) : Host.Outcome State Fault Refusal :=
  act (·.mapCtrlSwap k.toNat epoch.toNat) s

/-- NI_MAP_BCAST with SWAP = 1 (R118): every present cluster, or none while one drains. -/
def Chip.mapBcastSwap (c : Chip) (epoch : Nat) : Chip :=
  let ks := List.range c.clusters
  if ks.any c.swapping then ks.foldl (fun c k => c.set (Reg.NI_MAP_STAT_SWAP_REJ k)) c
  else ks.foldl (fun c k => c.mapSwap k epoch) c

def execNiMapBcastSwap (epoch : BitVec 4) (s : State) : Host.Outcome State Fault Refusal := act (·.mapBcastSwap epoch.toNat) s

/-- A flit is a packet stamped with an epoch. -/
def stampedWith (e : Nat) : Flit → Bool
  | .packet p => p.epoch == e
  | .event _ _ => false

/-- What stands at the bridge and has not been taken: a core's request or a credit of the bridge's own ports. -/
def bridgePending (e : Nat) : Nat × Flit → Bool
  | (_, .packet p) => p.epoch == e && ((p.cls == 3 && !p.sb) || (p.cls == 5 && p.op == 0x21))
  | (_, .event _ _) => false

/-- A router holds a packet of epoch `e`, in a buffer, before an input or in a delivery stage. -/
def Router.holds (r : Router) (e : Nat) : Bool :=
  r.bufs.any (fun b => b.2.any (stampedWith e)) || r.waits.any (fun b => b.2.any (stampedWith e)) ||
    r.stage.any (fun x => match x.2 with | some y => stampedWith e y.flit | none => false)

/-- A packet stamped with cluster `k`'s previous epoch stands in a buffer or a network interface of the chip (R118): in a
router, at a core that has not taken it yet, at the bridge, or before the input of a Feryo link. -/
def Chip.oldPackets (c : Chip) (k : Nat) : Bool :=
  let e := c.get (Reg.NI_MAP_STAT_PREV_EPOCH k)
  c.routers.any (fun r => r.2.holds e) || c.cores.any (fun x => x.2.arrived.any (fun p => p.epoch == e)) ||
    c.bridge.inbox.any (bridgePending e) || (List.range c.links_).any (fun l => (c.link l).rxq.any (fun b => b.2.any (stampedWith e)))

/-- DRAIN_LATE (R119): a swap has lasted 2 µs; firmware makes one report, about the lowest cluster that still drains. -/
def execDrainLate (s : State) : Host.Outcome State Fault Refusal :=
  act (fun c =>
    let ks := (List.range c.clusters).filter (fun k => c.swapping k && c.get (Reg.NI_MAP_STAT_DRAIN_LATE k) == 0)
    match ks with
    | [] => c
    | k :: _ => (ks.foldl (fun c k => c.set (Reg.NI_MAP_STAT_DRAIN_LATE k)) c).notify 0x0008 OK k (c.get (Reg.NI_MAP_STAT_EPOCH k)) 0) s

end Sys2Proof.Machine
end

