-- ==== Sys2Proof/Machine/Access.lean ====
section
/-! DEFINITION. The answers of the control crossbar (R18, R262): an access served, an error response and what it records, and
when the window of a slot serves at all (R18, R121, R385). -/

namespace Sys2Proof.Machine

/-- The HCU's master port (R257). -/
def whoHcu : Nat := 0

/-- What an access leaves: the state, its status (ERR_NOT_READY where R443 tells it apart), and the bytes a read returns. -/
abbrev Answer := Chip × Nat × List Byte

/-- An access served. -/
def served (c : Chip) (data : List Byte := []) : Answer := (c, OK, data)

/-- The status other masters see (R262): only the debug port tells ERR_NOT_READY apart. -/
def masterStatus (st : Nat) : Nat := if st = ERR_NOT_READY then ERR_RESOURCE else st

/-- An event-log code of the model's own (log 31): an access that R18 names. -/
def logAccess := 0x0105

/-- An error response (R262): recorded, counted, zeros for a read. -/
def Chip.busError (c : Chip) (who target a n st : Nat) : Answer :=
  let c := c.wr Reg.XBAR_ERR_INFO (BitVec.ofNat 32 a)
  let c := ((c.put Reg.XBAR_ERR_INFO_HI_ADDR_HI (a / 2 ^ 32)).put Reg.XBAR_ERR_INFO_HI_MASTER who).put Reg.XBAR_ERR_INFO_HI_TARGET target
  let c := ((c.bump Reg.XBAR_ERR_CNT_COUNT).set Reg.XBAR_IRQ_STATUS_ERR).tallyChip 0x88
  (c, st, List.replicate n 0)

/-- Firmware runs: booting, waiting for a HELLO or ready (R293). -/
def Chip.fwRuns (c : Chip) : Bool := 1 ≤ c.fwState && c.fwState ≤ 3

/-- An access that R18 names: firmware counts it in its event log. -/
def Chip.fusedError (c : Chip) (who target a n : Nat) : Answer :=
  (if c.fwRuns then c.logged logAccess who a else c).busError who target a n ERR_RESOURCE

/-- Where the core windows begin and end (R254). -/
def winBase : Nat := 0x1000000000
def winTop : Nat := 0x1100000000

/-- Where the core registers begin in a core window (R254). -/
def regsOff : Nat := 0x1F0000

/-- The address of an offset of the window that reaches slot `s`: that of the logical core it seats, of the cluster's first core
where it seats none. -/
def Chip.slotWindow (c : Chip) (s off : Nat) : Nat := winBase + (c.logical? s).getD (s / 32 * 16) * 0x400000 + off

/-- An access to the window of slot `s`, at address `a`, is served by `f` unless the slot answers none (R18, R121, R385): its
cluster is fused, the slot is fenced or in a reset, the cluster has no power. -/
def Chip.slotServe (c : Chip) (s who a n : Nat) (f : Chip → Answer) : Answer :=
  if c.clusters ≤ s / 32 ∨ 17 ≤ s % 32 then c.fusedError who 5 a n
  else if c.fenced s ∨ c.absorbing s then
    ((c.bump (Reg.NI_ABSORB_CNT_COUNT (s / 32))).tallyRouter (s / 32) 0x46).busError who 5 a n ERR_FENCED
  else if !c.clusterOn (s / 32) then c.busError who 5 a n ERR_NOT_READY
  else f c

/-- Firmware's write of the core register at an offset of slot `s`, which `f` carries out where the window serves. -/
def Chip.slotWrite (c : Chip) (s off : Nat) (f : Chip → Chip) : Chip :=
  (c.slotServe s whoHcu (c.slotWindow s (regsOff + off)) 4 (fun c => served (f c))).1

end Sys2Proof.Machine
end

