-- ==== Sys2Proof/Machine/Wadis.lean ====
section
/-! DEFINITION. Wadi queues and send ports (R209 to R222) and sync objects (R223 to R230): what each does with an
arrival, a credit, an operation, and the commands of the table that name them. -/

namespace Sys2Proof.Machine

/-- The slot number under which the fabric bridge's own send ports stand (R222). -/
def bridgeSlot : Nat := 2047

/-- The logical number of the core a physical slot seats, 0 where it seats none. -/
def Chip.logicalOf (c : Chip) (s : Nat) : Nat := (c.logical? s).getD 0

/-! ## Queues (R213 to R218) -/

/-- Words a queue holds. -/
def wordsOf (q : List Tuple) : Nat := (q.map (·.words.length)).foldl (· + ·) 0

/-- Queue `q` of slot `s`. -/
def Core.queue (k : Core) (q : Nat) : List Tuple := if h : q < 4 then k.queues[q] else []
def Core.setQueue (k : Core) (q : Nat) (l : List Tuple) : Core := { k with queues := k.queues.setIfInBounds q l }

def Chip.queueOpen (c : Chip) (s q : Nat) : Bool := c.on (Reg.WADI_Q_STAT_STATE s q)

/-- The credits of a tuple of slot `s`'s queue `q` go back to its sender (R214). -/
def Chip.creditTuple (c : Chip) (s q : Nat) (t : Tuple) (orphan : Bool) : Chip :=
  let me := c.logicalOf s
  c.creditBack (s / 32) me t.src.toNat t.sb t.port t.words.length orphan (me * 4 + q)

/-- A tuple leaves the head of its queue, with its credits (R215). -/
def Chip.takeTuple (c : Chip) (s q : Nat) : Chip :=
  match (c.core s).queue q with
  | t :: rest => (c.modCore s (·.setQueue q rest)).creditTuple s q t false
  | [] => c

/-- A queue enters DRAINED (R216, R217): its tuples are discarded and their credits returned with ORPHAN. -/
def Chip.drainQueue (c : Chip) (s q : Nat) : Chip :=
  let l := (c.core s).queue q
  let c := c.clr (Reg.WADI_Q_STAT_STATE s q)
  let c := c.modCore s (·.setQueue q [])
  let c := c.bump (Reg.WADI_Q_DISCARD_DRAINED s q) (wordsOf l)
  l.foldl (fun c t => c.creditTuple s q t true) c

/-- All four queues enter DRAINED. -/
def Chip.drainQueues (c : Chip) (s : Nat) : Chip := (List.range 4).foldl (fun c q => c.drainQueue s q) c

/-- The words of a WADI packet (R99). -/
def Packet.wadiData (p : Packet) : List Word :=
  ([p.data, (p.flit 2).extractLsb' 0 32, (p.flit 2).extractLsb' 32 32, (p.flit 3).extractLsb' 0 32] : List Word).take p.wadiWords

/-- The tuple a WADI packet carries. -/
def Packet.tuple (p : Packet) : Tuple := { words := p.wadiData, src := BitVec.ofNat 10 p.src, port := p.wadiPort, sb := p.sb }

/-- A slot that has been freed by a swap still takes tuples of the previous epoch, without checks (R370). -/
def Chip.oldSlot (c : Chip) (s : Nat) : Bool := c.swapping (s / 32) && (c.logical? s).isNone

/-- A tuple that finds queue `q` of slot `s` DRAINED is counted there; the router of cluster `k` returns its credits to the
sender, with ORPHAN (R218). -/
def Chip.tupleOrphan (c : Chip) (k s q : Nat) (t : Tuple) : Chip :=
  (c.bump (Reg.WADI_Q_DISCARD_DRAINED s q) t.words.length).creditBack k (c.logicalOf s) t.src.toNat t.sb t.port t.words.length true
    (c.logicalOf s * 4 + q)

/-- A tuple reaches a queue (R213, R218, R370). At a freed slot, the state of the queue is that of the core in its new slot. -/
def Chip.tupleArrive (c : Chip) (s : Nat) (p : Packet) : Chip :=
  let q := p.wadiQueue
  let t := p.tuple
  let home := if c.oldSlot s then c.pcore p.dst else s
  if !c.queueOpen home q then c.tupleOrphan (s / 32) home q t
  else if c.oldSlot s ∨ wordsOf ((c.core s).queue q) + t.words.length ≤ 32 then c.modCore s (fun k => k.setQueue q (k.queue q ++ [t]))
  else
    let c := (c.bump (Reg.WADI_Q_DISCARD_OVF s q) t.words.length).set (Reg.WADI_Q_STAT_OVF s q)
    c.creditTuple s q t false

/-! ## What has been delivered to a core and waits for its step -/

/-- The oldest delivered packet of a class, and the rest. -/
def splitFirst {α : Type} (p : α → Bool) : List α → Option (α × List α)
  | [] => none
  | x :: xs => if p x then some (x, xs) else (splitFirst p xs).map (fun r => (r.1, x :: r.2))

/-- Take the oldest packet of class `cls` delivered to slot `s`. -/
def Chip.takeArrived (c : Chip) (s cls : Nat) (f : Chip → Packet → Chip) : Chip :=
  match splitFirst (fun p => p.cls == cls) (c.core s).arrived with
  | some (p, rest) => f (c.modCore s (fun k => { k with arrived := rest })) p
  | none => c

/-- WADI_TUPLE_ARRIVE (R213). -/
def execWadiTupleArrive (s : PCore) (st : State) : Host.Outcome State Fault Refusal :=
  act (fun c => c.takeArrived s.toNat 1 (fun c p => c.tupleArrive s.toNat p)) st

/-! ## Credits (R214, R219) -/

/-- A WCREDIT at a send port of slot `s` (R214). -/
def Chip.wcredit (c : Chip) (s : Nat) (data : Nat) : Chip :=
  let port := data % 16
  let count := data / 16 % 64
  if c.on (Reg.WADI_SPORT_CFG_BOUND s port) then
    let cap := c.get (Reg.WADI_SPORT_CFG_CREDITS s port)
    let cred := if bit data 11 then cap else min cap (c.get (Reg.WADI_SPORT_STAT_CRED s port) + count)
    let c := c.put (Reg.WADI_SPORT_STAT_CRED s port) cred
    if bit data 10 then c.set (Reg.WADI_SPORT_STAT_ORPHAN s port) else c
  else c

/-- A WCREDIT waits among what has reached the bridge. -/
def isWcredit : Nat × Flit → Bool
  | (_, .packet p) => p.cls == 5 && p.op == 0x21
  | _ => false

/-- WCREDIT (R214): at a core, or at the fabric bridge for its own ports (R222). -/
def execWcredit (s : PCore) (st : State) : Host.Outcome State Fault Refusal :=
  act (fun c =>
    if s.toNat = bridgeSlot then
      match splitFirst isWcredit c.bridge.inbox with
      | some ((_, .packet p), rest) => ({ c with bridge := { c.bridge with inbox := rest } } : Chip).wcredit bridgeSlot p.data.toNat
      | _ => c
    else c.takeArrived s.toNat 5 (fun c p => c.wcredit s.toNat p.data.toNat)) st

/-- A write to WADI_SPORT_CFG (R210, R219): binds the port, sets CRED, clears ORPHAN. A store of the core's own program
and any write under WADI_CTRL.LOCK are ignored. -/
def Chip.sportCfgWrite (c : Chip) (s port : Nat) (v : Word) : Chip :=
  if c.on (Reg.WADI_CTRL_LOCK s) then c
  else
    let c := c.wr (Reg.WADI_SPORT_CFG s port) (v &&& 0x7FFFF#32)
    (c.put (Reg.WADI_SPORT_STAT_CRED s port) (c.get (Reg.WADI_SPORT_CFG_CREDITS s port))).clr (Reg.WADI_SPORT_STAT_ORPHAN s port)

/-! ## Sync objects (R223 to R230) -/

def Chip.syncType (c : Chip) (s i : Nat) : Nat := c.get (Reg.SYNC_CFG_TYPE s i)
def Chip.syncValue (c : Chip) (s i : Nat) : Nat := (c.rd (Reg.SYNC_VALUE s i)).toNat
def Chip.syncTarget (c : Chip) (s i : Nat) : Nat := (c.rd (Reg.SYNC_TARGET s i)).toNat
def Chip.setSyncValue (c : Chip) (s i v : Nat) : Chip := c.wr (Reg.SYNC_VALUE s i) (BitVec.ofNat 32 v)

/-- The completion check of a BARRIER (R224). -/
def Chip.barrierCheck (c : Chip) (s i : Nat) : Chip :=
  if c.syncTarget s i ≠ 0 ∧ c.syncTarget s i ≤ c.syncValue s i then
    let c := c.setSyncValue s i 0
    let c := c.put (Reg.SYNC_STAT_GEN s i) (c.get (Reg.SYNC_STAT_GEN s i) + 1)
    let c := if c.on (Reg.SYNC_STAT_SAT s i) then c.set (Reg.SYNC_STAT_BAR_OVR s i) else c
    c.set (Reg.SYNC_STAT_SAT s i)
  else c

/-- An operation on sync object `i` of slot `s` (R224): 0 ADD, 1 SET, 2 ARRIVE; anything else applies nothing (R226). -/
def Chip.syncOp (c : Chip) (s i op x : Nat) : Chip :=
  if 3 ≤ op then c
  else
    let v := if op = 0 then c.syncValue s i + x else if op = 1 then x
      else if c.syncType s i = 2 then 1 else c.syncValue s i + 1
    let c := c.setSyncValue s i (v % 2 ^ 32)
    if c.syncType s i = 1 then c.barrierCheck s i else c

/-- Satisfied (R225); an object of the reserved type never is. -/
def Chip.satisfied (c : Chip) (s i : Nat) : Bool :=
  match c.syncType s i with
  | 0 => c.syncTarget s i ≤ c.syncValue s i
  | 1 => c.on (Reg.SYNC_STAT_SAT s i)
  | 2 => c.syncValue s i != 0
  | _ => false

/-- Consumption by SWAIT (R225). -/
def Chip.consume (c : Chip) (s i : Nat) : Chip :=
  let opt := c.on (Reg.SYNC_CFG_CONSUME s i)
  match c.syncType s i with
  | 0 => if opt then c.setSyncValue s i (c.syncValue s i - c.syncTarget s i) else c
  | 1 => c.clr (Reg.SYNC_STAT_SAT s i)
  | 2 => if opt then c.setSyncValue s i 0 else c
  | _ => c

/-- The slot a class-2 packet takes effect in: the new slot of a logical core that a swap has moved (R370). -/
def Chip.movedTo (c : Chip) (s i : Nat) : Nat := if c.oldSlot s then c.pcore i else s

/-- SYNC_PACKET (R226): the oldest class-2 packet delivered to a slot. -/
def execSyncPacket (s : PCore) (st : State) : Host.Outcome State Fault Refusal :=
  act (fun c => c.takeArrived s.toNat 2 (fun c p =>
    c.syncOp (c.movedTo s.toNat p.dst) (p.op % 8) (p.op / 8 % 4) p.data.toNat)) st

/-- A slot answers accesses through its core window: fused clusters, absent and fenced slots do not, nor those of a cluster
without power (R18, R121, R385). -/
def Chip.windowOpen (c : Chip) (s : Nat) : Bool :=
  s / 32 < c.clusters && s % 32 < 17 && !c.fenced s && !c.absorbing s && c.clusterOn (s / 32)

/-- Where a register of sync object `i` stands among the core registers. -/
def syncOff (i r : Nat) : Nat := 0x5800 + 0x20 * i + r

/-- SYNC_VALUE_WRITE (R230): SET. -/
def execSyncValueWrite (s : PCore) (i : BitVec 3) (v : Word) (st : State) : Host.Outcome State Fault Refusal :=
  act (·.slotWrite s.toNat (syncOff i.toNat 4) (fun c => c.syncOp s.toNat i.toNat 1 v.toNat)) st

/-- SYNC_ADD_WRITE (R230): ADD. -/
def execSyncAddWrite (s : PCore) (i : BitVec 3) (v : Word) (st : State) : Host.Outcome State Fault Refusal :=
  act (·.slotWrite s.toNat (syncOff i.toNat 0x10) (fun c => c.syncOp s.toNat i.toNat 0 v.toNat)) st

/-- A write to SYNC_ARRIVE: 1 performs ARRIVE. -/
def Chip.syncArriveWrite (c : Chip) (s i : Nat) (v : Word) : Chip := if v.getLsbD 0 then c.syncOp s i 2 0 else c

/-- SYNC_ARRIVE_WRITE (R230). -/
def execSyncArriveWrite (s : PCore) (i : BitVec 3) (v : Word) (st : State) : Host.Outcome State Fault Refusal :=
  act (·.slotWrite s.toNat (syncOff i.toNat 0x14) (fun c => c.syncArriveWrite s.toNat i.toNat v)) st

/-- A write to SYNC_ALARM (R227): arms or restarts the one-shot; 0 disarms it. -/
def Chip.alarmWrite (c : Chip) (s i : Nat) (v : Word) : Chip :=
  let n := v.toNat % 2 ^ 24
  (c.put (Reg.SYNC_ALARM_ALARM s i) n).put (Reg.SYNC_ALARM_ARMED s i) (if n = 0 then 0 else 1)

/-- SYNC_ALARM_WRITE (R227). -/
def execSyncAlarmWrite (s : PCore) (i : BitVec 3) (v : Word) (st : State) : Host.Outcome State Fault Refusal :=
  act (·.slotWrite s.toNat (syncOff i.toNat 0x18) (fun c => c.alarmWrite s.toNat i.toNat v)) st

/-- SYNC_ALARM_EXPIRY (R227): an armed one-shot applies ARRIVE and disarms. -/
def execSyncAlarmExpiry (s : PCore) (i : BitVec 3) (st : State) : Host.Outcome State Fault Refusal :=
  act (fun c => if c.on (Reg.SYNC_ALARM_ARMED s.toNat i.toNat) then
    (c.syncOp s.toNat i.toNat 2 0).clr (Reg.SYNC_ALARM_ARMED s.toNat i.toNat) else c) st

end Sys2Proof.Machine
end

