-- ==== Sys2Proof/Machine/CoreRegs.lean ====
section
/-! DEFINITION. The registers of a core window (R160, R254) as a master reads and writes them (R6, R8, R9), the control
of the sequencer through CORE_CTRL, and the memories of a slot. -/

namespace Sys2Proof.Machine

/-! ## Who writes -/

/-- The core's own program (R210). -/
def whoOwn : Nat := 14

/-- Another core, through its network interface (R167). -/
def whoFabric : Nat := 15

/-- The debug port, master port 12 (R257, R444). -/
def whoDebug : Nat := 12

/-! ## Plain register accesses (R6, R8, R9) -/

/-- A write of `v` to the register at `a` by its field types; RWL fields are kept when the block is locked. -/
def Chip.plainWrite (c : Chip) (a : Nat) (v : Word) (locked : Bool) : Chip :=
  match Reg.row? a with
  | none => c
  | some r =>
    let old := (c.rd a).toNat
    let m := if locked then r.rw else r.rw ||| r.rwl
    let n := (old &&& (0xFFFFFFFF ^^^ m)) ||| (v.toNat &&& m)
    let n := n &&& (0xFFFFFFFF ^^^ (v.toNat &&& r.w1c))
    c.wr a (BitVec.ofNat 32 (n ||| (v.toNat &&& r.w1s)))

/-! ## The memories of a slot (R124, R160) -/

/-- Byte offsets of the memories inside a slot (R160). -/
def stateOff : Nat := 0x100000
def progOff : Nat := 0x180000

/-- An offset of a core window that one of the memories holds (R160); `n` bytes fit. -/
def Chip.memOk (c : Chip) (off n : Nat) : Bool :=
  off + n ≤ c.synSize || (stateOff ≤ off && off + n ≤ 0x180000) || (progOff ≤ off && off + n ≤ 0x190000)

/-! ## Sequencer state (R158, R181) -/

def Chip.seqState (c : Chip) (s : Nat) : Nat := c.get (Reg.CORE_STAT_STATE s)
def Chip.setSeqState (c : Chip) (s v : Nat) : Chip := c.put (Reg.CORE_STAT_STATE s) v
def Chip.pc (c : Chip) (s : Nat) : Nat := c.get (Reg.CORE_PC_PC s)
def Chip.setPc (c : Chip) (s v : Nat) : Chip := c.put (Reg.CORE_PC_PC s) v
def Chip.dhalted (c : Chip) (s : Nat) : Bool := c.on (Reg.BDP_CORE_STAT_DHALT s)

/-- The core enters HALTED (R181): the hold ends (R180), its queues drain (R216). -/
def Chip.enterHalt (c : Chip) (s hcause : Nat) : Chip :=
  let c := ((c.setSeqState s 0).put (Reg.CORE_STAT_HCAUSE s) hcause).clr (Reg.CORE_STAT_HOLD s)
  let c := (c.clr (Reg.BDP_CORE_STAT_DHALT s)).clr (Reg.BDP_CORE_STAT_BPHIT s)
  (c.modCore s (fun k => { k with holdReq := false, haltDue := none, dbgSkip := false })).drainQueues s

/-- Firmware reports a halt once (R181, R189, R325). -/
def Chip.reportHalt (c : Chip) (s : Nat) : Chip :=
  c.notify 0x0001 OK (c.logicalOf s) (c.get (Reg.CORE_STAT_HCAUSE s)) (c.get (Reg.CORE_STAT_HALT_CODE s))

/-- Running or waiting. -/
def Chip.seqLive (c : Chip) (s : Nat) : Bool := c.seqState s == 1 || c.seqState s == 2

/-- A halt request (R186): HCAUSE 3; on a debug-halted core it turns the debug halt into a halt. -/
def Chip.haltRequest (c : Chip) (s : Nat) (report : Bool) : Chip :=
  if c.seqLive s ∨ c.dhalted s then
    let c := c.enterHalt s 3
    if report then c.reportHalt s else c
  else c

/-- CORE_CTRL.RUN (R192): starts a halted core at CORE_PC; ignored while the core is debug-halted. -/
def Chip.runRequest (c : Chip) (s : Nat) : Chip :=
  if c.seqState s = 0 ∧ c.dhalted s = false ∧ c.fenced s = false then c.setSeqState s 1 else c

/-- CORE_CTRL_RUN (R192). -/
def execCoreCtrlRun (s : PCore) (st : State) : Host.Outcome State Fault Refusal :=
  act (·.slotWrite s.toNat 0 (·.runRequest s.toNat)) st

/-- CORE_CTRL_HALT (R186). -/
def execCoreCtrlHalt (s : PCore) (st : State) : Host.Outcome State Fault Refusal :=
  act (·.slotWrite s.toNat 0 (·.haltRequest s.toNat true)) st

/-- A debug halt (R438): HALTED with HCAUSE 4, the queues as they stand. -/
def Chip.debugHalt (c : Chip) (s : Nat) : Chip :=
  ((c.setSeqState s 0).put (Reg.CORE_STAT_HCAUSE s) 4).set (Reg.BDP_CORE_STAT_DHALT s)

/-! ## Reading a core register -/

/-- LRN_STAT, NE_STAT, MX_STAT, NI_STAT and the queue levels follow the queues themselves. -/
def Chip.coreRegWord (c : Chip) (s off : Nat) : Word :=
  let k := c.core s
  let w := c.rd (Reg.coreBase s + off)
  if off = 0x804 then
    BitVec.ofNat 32 ((k.reqs.filter (fun r => !r.late)).length % 32 + c.get (Reg.NI_STAT_EPOCH s) * 32 + (k.reqs.filter (·.late)).length % 32 * 512)
  else if off = 0x1004 then
    BitVec.ofNat 32 (k.pass.isSome.toNat + c.get (Reg.NE_STAT_CFG_ERR s) * 2 + k.inq.length % 128 * 4 + k.loopq.length % 64 * 512 +
      c.get (Reg.NE_STAT_UOP_ERR s) * 2 ^ 15)
  else if off = 0x1018 then BitVec.ofNat 32 (c.rdMem (flagMem s (c.get (Reg.NE_FLAG_IDX_SLOT s))) 1 % 8)
  else if off = 0x2004 then
    BitVec.ofNat 32 ((k.mx.isSome || k.group.isSome || !k.banks.isEmpty).toNat + k.slice.toNat * 2 + (k.banks.length + k.mx.isSome.toNat) % 4 * 4 + c.get (Reg.MX_STAT_FMT_ERR s) * 16)
  else if off = 0x3004 then BitVec.ofNat 32 (k.drift.length % 32)
  else if 0x5010 ≤ off ∧ off < 0x5050 ∧ off % 16 = 0 then
    let q := (off - 0x5010) / 16
    BitVec.ofNat 32 (c.get (Reg.WADI_Q_STAT_STATE s q) + wordsOf (k.queue q) % 64 * 2 + (k.queue q).length % 64 * 128 + c.get (Reg.WADI_Q_STAT_OVF s q) * 2 ^ 13)
  else w

/-- Whether an offset lies in the counters of a core (R424). -/
def inPmon (off : Nat) : Bool := 0x7800 ≤ off && off < 0x7880

/-- A write-only register reads 0 (R6). -/
def coreWO (off : Nat) : Bool :=
  off == 0 || (0x5800 ≤ off && off < 0x5900 && ((off - 0x5800) % 0x20 == 0x10 || (off - 0x5800) % 0x20 == 0x14))

/-- A read of the core register at `off` (a multiple of 4): the state it leaves and the word. -/
def Chip.coreRegRead (c : Chip) (s off : Nat) : Chip × Word :=
  if inPmon off then c.pmonRead (Reg.pmonCore s ((off - 0x7800) / 0x20)) ((off - 0x7800) % 0x20)
  else if coreWO off ∨ (Reg.row? (Reg.coreBase s + off)).isNone then (c, 0)
  else (c, c.coreRegWord s off)

/-! ## Writing a core register -/

/-- The LOCK bit that governs an offset's RWL fields. -/
def Chip.coreLocked (c : Chip) (s off : Nat) : Bool :=
  if 0x1000 ≤ off ∧ off < 0x2000 then c.on (Reg.NE_CFG_LOCK s)
  else if 0x2000 ≤ off ∧ off < 0x3000 then c.on (Reg.MX_CFG_LOCK s)
  else c.on (Reg.WADI_CTRL_LOCK s)

/-- A write to NE_CFG: the reserved LANES values 6 and 7 leave LANES as it is (R125). -/
def Chip.neCfgWrite (c : Chip) (s : Nat) (v : Word) : Chip :=
  let v := if 6 ≤ wbits v 2 0 then wset v 2 0 (c.get (Reg.NE_CFG_LANES s)) else v
  c.plainWrite (Reg.NE_CFG s) v (c.on (Reg.NE_CFG_LOCK s))

/-- A write to a BDP_ register of a core (R441, R444): only by port 12, which also writes the read-only fields. -/
def Chip.bdpWrite (c : Chip) (s off : Nat) (v : Word) : Chip :=
  if off = 0x7000 then
    let hit := c.get (Reg.BDP_CORE_STAT_BPHIT s)
    let c := c.put (Reg.BDP_CORE_STAT_BPHIT s) (if c.dhalted s then hit &&& (15 ^^^ (wbits v 5 2)) else hit)
    (c.put (Reg.BDP_CORE_STAT_DBG_EN s) (wbits v 0 0)).put (Reg.BDP_CORE_STAT_DHALT s) (wbits v 1 1)
  else if 0x7010 ≤ off ∧ off < 0x7030 then
    c.wr (Reg.coreBase s + off) (v &&& (if off % 8 = 0 then 0x7F#32 else 0x3FFFFF#32))
  else c

/-- CORE_PC of a halted core is written: neither the overrun at 0xFFFC nor a breakpoint passed over belongs to the new place. -/
def Chip.writePc (c : Chip) (s : Nat) (v : Word) : Chip :=
  (c.wr (Reg.CORE_PC s) (v &&& 0xFFFC#32)).modCore s (fun k => { k with overrun := false, dbgSkip := false })

/-- A write of `v` to the core register at `off` (a multiple of 4) by master `who`. -/
def Chip.coreRegWrite (c : Chip) (s off : Nat) (v : Word) (who : Nat) : Chip :=
  let a := Reg.coreBase s + off
  if inPmon off then
    if (off - 0x7800) % 0x20 = 0 then c.pmonCfgWrite (Reg.pmonCore s ((off - 0x7800) / 0x20)) 0 v else c
  else if off = 0 then
    let c := if v.getLsbD 1 then c.haltRequest s true else c
    if v.getLsbD 0 then c.runRequest s else c
  else if off = 8 then
    if c.seqState s = 0 then c.writePc s v else c
  else if off = 0x10 ∨ off = 0x14 then c.wr a (v &&& 0xFFFC#32)
  else if off = 0x1000 then c.neCfgWrite s v
  else if off = 0x1018 then c.wrMem (flagMem s (c.get (Reg.NE_FLAG_IDX_SLOT s))) 1 (wbits v 2 0)
  else if off = 0x3008 then c.wr a (if v = 0 then 1#32 else v)
  else if 0x5100 ≤ off ∧ off < 0x5200 ∧ off % 16 ≠ 12 then
    if who = whoOwn then c
    else if off % 16 = 0 then c.sportCfgWrite s ((off - 0x5100) / 16) v
    else c.plainWrite a v (c.coreLocked s off)
  else if 0x5800 ≤ off ∧ off < 0x5900 then
    let i := (off - 0x5800) / 0x20
    let o := (off - 0x5800) % 0x20
    if o = 4 then c.syncOp s i 1 v.toNat
    else if o = 0x10 then c.syncOp s i 0 v.toNat
    else if o = 0x14 then c.syncArriveWrite s i v
    else if o = 0x18 then c.alarmWrite s i v
    else c.plainWrite a v false
  else if 0x7000 ≤ off ∧ off < 0x7800 then if who = whoDebug then c.bdpWrite s off v else c
  else c.plainWrite a v (c.coreLocked s off)

end Sys2Proof.Machine
end

