-- ==== Sys2Proof/Machine/Engine.lean ====
section
/-! DEFINITION. Event mode of a core (R124 to R138, R190, R191, R479, R480): coalescer, matrix unit and neuron engine,
and what the Drift unit is handed (R197, R202). -/

namespace Sys2Proof.Machine

/-! ## Lanes, populations, slots (R125, R126, R480) -/

/-- The lane count L (R125). -/
def Chip.lanes (c : Chip) (s : Nat) : Nat := 2 ^ c.get (Reg.NE_CFG_LANES s)

/-- A population's descriptor as six words: RANGE, CFG, THETA, RESC, REFR, TRACE. -/
def Chip.popDesc (c : Chip) (s p : Nat) : List Word :=
  (List.range 6).map (fun i => c.rd (Reg.NE_POP_RANGE s p + 4 * i))

def descFirst (d : List Word) : Nat := wbits (d.getD 0 0) 13 0
def descCount (d : List Word) : Nat := wbits (d.getD 0 0) 28 14
def descCfg (d : List Word) (hi lo : Nat) : Nat := wbits (d.getD 1 0) hi lo
def descTheta (d : List Word) : Word := d.getD 2 0
def descM (d : List Word) : Nat := wbits (d.getD 3 0) 15 0
def descS (d : List Word) : Nat := wbits (d.getD 3 0) 20 16
def descUser (d : List Word) : Nat := wbits (d.getD 3 0) 31 24
def descRefrT (d : List Word) : Nat := wbits (d.getD 4 0) 12 0
def descRefrEn (d : List Word) : Bool := (d.getD 4 0).getLsbD 13

/-- Output blocks of a population (R130). -/
def blocksOf (count : Nat) : Nat := (count + 31) / 32

/-- The neuron of output `j` of block `b`, and whether it lies below COUNT. -/
def neuronOf (d : List Word) (b j : Nat) : Nat := descFirst d + 32 * b + j
def belowCount (d : List Word) (b j : Nat) : Bool := 32 * b + j < descCount d

/-- A neuron has a neuron-lane (R480). -/
def hasLane (l n : Nat) : Bool := n < 16384 && n < 65536 / l

/-- The neuron-lane in slot `i` of physical slot `s`. -/
def Chip.readLane (c : Chip) (s i : Nat) : Lane :=
  let a := slotMem s (stateOff + 8 * i)
  let f := c.rdMem (flagMem s i) 1
  { pot := signed 32 (c.rdMem a 4), tag := c.rdMem (a + 4) 2, y1 := c.rdMem (a + 6) 1, y2 := c.rdMem (a + 7) 1,
    refr := bit f 0, sat := bit f 1, user := bit f 2 }

def Lane.flags (x : Lane) : Nat := x.refr.toNat + x.sat.toNat * 2 + x.user.toNat * 4

/-- Write a neuron-lane back with its flags (R133 step 7). -/
def Chip.writeLane (c : Chip) (s i : Nat) (x : Lane) : Chip :=
  let a := slotMem s (stateOff + 8 * i)
  let c := c.wrMem a 4 (BitVec.ofInt 32 x.pot).toNat
  let c := c.wrMem (a + 4) 2 x.tag
  let c := c.wrMem (a + 6) 1 x.y1
  let c := c.wrMem (a + 7) 1 x.y2
  c.wrMem (flagMem s i) 1 x.flags

/-! ## Decay (R134, R154) -/

/-- Entry for an elapsed time in a population's decay table. -/
def Chip.decayEntry (c : Chip) (s p d : Nat) : Word := c.rd (Reg.NE_DECAY s p (decayIdx d))

/-- Step 3 of R133 at tag `t`: late, or decayed and retagged. The flag says late. -/
def Chip.decayLane (c : Chip) (s p t : Nat) (x : Lane) : Lane × Bool :=
  let d := (t + 65536 - x.tag) % 65536
  if 32768 ≤ d then (x, true)
  else if d = 0 then (x, false)
  else
    let e := c.decayEntry s p d
    ({ x with pot := decayPot x.pot (wbits e 15 0), y1 := decayTrace x.y1 (wbits e 23 16), y2 := decayTrace x.y2 (wbits e 31 24), tag := t }, false)

/-- Step 2 of R133: `none` when the refractory interval discards the contribution. -/
def refractory (d : List Word) (t : Nat) (x : Lane) : Option Lane :=
  if x.refr then
    let e := (t + 65536 - x.tag) % 65536
    if descRefrEn d ∧ (descRefrT d = 0 ∨ e < descRefrT d) then none else some { x with refr := false }
  else some x

/-- Late touches are counted (R133, R427). -/
def Chip.countLate (c : Chip) (s : Nat) : Chip := (c.bump (Reg.NE_LATE_CNT_COUNT s)).tallyCore s 0x19

/-! ## Microprograms (R190, R191) -/

/-- The operand registers of a microprogram. -/
structure Uop where
  lane : Lane
  t0 : Int
  t1 : Int
  inp : Int
  pay : Int
  nofire : Bool
  err : Bool
  deriving DecidableEq, Repr

def Uop.read (u : Uop) (r : Nat) : Int :=
  match r with
  | 0 => u.lane.pot | 1 => u.t0 | 2 => u.t1 | 3 => u.lane.y1 | 4 => u.lane.y2 | 5 => u.inp | 6 => u.pay | _ => 0

/-- Clamp to 0–255 (R190). -/
def clamp8 (v : Int) : Nat := if v < 0 then 0 else if 255 < v then 255 else v.toNat

def Uop.write (u : Uop) (r : Nat) (v : Int) : Uop :=
  match r with
  | 0 => { u with lane := { u.lane with pot := (sat32 v).1, sat := (sat32 v).2 } }
  | 1 => { u with t0 := (sat32 v).1 }
  | 2 => { u with t1 := (sat32 v).1 }
  | 3 => { u with lane := { u.lane with y1 := clamp8 v } }
  | 4 => { u with lane := { u.lane with y2 := clamp8 v } }
  | _ => u

/-- FLAGS (R191): set by IMM[3:0], then cleared by IMM[7:4]; only REFR and USER. -/
def Uop.flags (u : Uop) (imm : Nat) : Uop :=
  { u with lane := { u.lane with refr := (u.lane.refr || bit imm 0) && !bit imm 4, user := (u.lane.user || bit imm 2) && !bit imm 6 } }

/-- One operation (R191): the registers after it, and how many of the following operations are passed over; none ends. -/
def Uop.step (u : Uop) (w : Word) : Uop × Option Nat :=
  let d := wbits w 25 23
  let a := u.read (wbits w 22 20)
  let imm := signed 16 (wbits w 15 0)
  let b := if bit w.toNat 16 then imm else u.read (wbits w 19 17)
  match wbits w 31 26 with
  | 0x00 => (u, none)
  | 0x01 => (u.write d (a + b), some 0)
  | 0x02 => (u.write d (a - b), some 0)
  | 0x03 => (u.write d (Int.tdiv (a * b) 65536), some 0)
  | 0x04 => (u.write d (min a b), some 0)
  | 0x05 => (u.write d (max a b), some 0)
  | 0x06 => (u.write d b, some 0)
  | 0x07 => (u.write d (Int.fdiv a (2 ^ wbits w 4 0 : Nat)), some 0)
  | 0x08 => (u, some (if a < b then d else 0))
  | 0x09 => (u, some (if b ≤ a then d else 0))
  | 0x0A => (u.flags (wbits w 7 0), some 0)
  | 0x0B => ({ u with nofire := true }, some 0)
  | _ => ({ u with err := true }, none)

/-- Run the operations of a microprogram, `skip` of them passed over first. -/
def Uop.run (u : Uop) (skip : Nat) : List Word → Uop
  | [] => u
  | w :: ws =>
    if skip = 0 then
      match u.step w with
      | (u, some n) => Uop.run u n ws
      | (u, none) => u
    else Uop.run u (skip - 1) ws

/-- The operations of a population's microprogram: from UBASE, ULEN of them and no more than 64; past the store, END. -/
def Chip.uops (c : Chip) (s : Nat) (d : List Word) : List Word :=
  (List.range (min (descCfg d 13 7) 64)).map (fun k =>
    let i := descCfg d 23 14 + k
    if i < 1024 then c.rd (Reg.NE_UOP s i) else 0)

/-- Run the microprogram of a descriptor on a lane (R190, R191): the registers after it, the errors noted. -/
def Chip.runUop (c : Chip) (s : Nat) (d : List Word) (x : Lane) (inp pay : Int) : Chip × Uop :=
  let u : Uop := { lane := x, t0 := 0, t1 := 0, inp := inp, pay := pay, nofire := false, err := false }
  let u := u.run 0 (c.uops s d)
  let c := if u.err then c.set (Reg.NE_STAT_UOP_ERR s) else c
  let c := if 64 < descCfg d 13 7 then c.set (Reg.NE_STAT_CFG_ERR s) else c
  (c, u)

/-! ## Emission (R135, R137) -/

/-- An emission can go where EMIT names: 1 ROUTE, 2 LOCAL, 3 both (R137). -/
def Core.emitRoom (k : Core) (emit : Nat) : Bool :=
  (emit % 2 == 0 || k.outq.length < 32) && (emit / 2 == 0 || k.loopq.length < 32)

/-- An event enters the queues EMIT names. -/
def Chip.emitTo (c : Chip) (s emit : Nat) (e : DWord) : Chip :=
  let c := if emit % 2 = 1 then c.modCore s (fun k => { k with outq := k.outq ++ [e] }) else c
  let c := if emit / 2 = 1 then
    (c.modCore s (fun k => { k with loopq := k.loopq ++ [{ ev := e, age := k.age, served := [] }], age := k.age + 1 })).tallyCore s 0x11
    else c
  if emit = 0 then c else c.tallyCore s 0x18

/-- The key of an emission (R94, R135): logical core, neuron, user byte. -/
def emitKey (core neuron user : Nat) : Word := BitVec.ofNat 32 (core % 1024 * 2 ^ 22 + neuron % 16384 * 2 ^ 8 + user % 256)

/-! ## One touch (R133) -/

/-- What a touch asks of the queues: an event to emit, the traces and payload of an emission that learns; and the
neuron-lane it writes back at step 7. -/
structure Touched where
  chip : Chip
  ev : Option DWord
  /-- The slot and what step 7 writes into it; none when the touch ended under step 2. -/
  back : Option (Nat × Lane)
  /-- The touch was not discarded under step 2 (R202), with the post-traces after the microprogram. -/
  learn : Option (Nat × Nat)
  post : Option Drift

/-- Steps 1 to 6 of R133 for output `j` of the block on one lane; what it emits and hands to the Drift unit is still to
be placed, and the write-back of step 7 follows that (R161). -/
def Chip.touch (c : Chip) (s : Nat) (p : Pass) (j : Nat) : Touched :=
  let l := c.lanes s
  let n := neuronOf p.desc p.block j
  let i := n * l + p.item.lane
  let t := p.item.tag.toNat
  let c := c.tallyCore s 0x16
  match refractory p.desc t (c.readLane s i) with
  | none => { chip := c, ev := none, back := none, learn := none, post := none }
  | some x =>
    let (x, late) := c.decayLane s p.pop t x
    let c := if late then c.countLate s else c
    let (q, s1) := toQ16 (p.weights.getD j 0 * p.item.pay.toInt)
    let (pot, s2) := sat32 (x.pot + q)
    let (c, u) := c.runUop s p.desc { x with pot := pot, sat := s1 || s2 } q p.item.pay.toInt
    let x := u.lane
    let theta := descTheta p.desc
    let bad := theta = 0 ∨ theta.msb
    let c := if bad ∧ u.nofire = false then c.set (Reg.NE_STAT_CFG_ERR s) else c
    let learn := some (x.y1, x.y2)
    if u.nofire ∨ bad ∨ x.pot < (theta.toNat : Int) then
      { chip := c, ev := none, back := some (i, x), learn := learn, post := none }
    else
      let e := x.pot - theta.toNat
      let pay := rescale e (descM p.desc) (descS p.desc)
      let y1 := min 255 (x.y1 + wbits (p.desc.getD 5 0) 7 0)
      let y2 := min 255 (x.y2 + wbits (p.desc.getD 5 0) 15 8)
      let ev := mkEvent (emitKey (c.logicalOf s) n (descUser p.desc)) pay p.item.lane (BitVec.ofNat 16 x.tag)
      let post := Drift.post p.pop p.block j p.item.lane (BitVec.ofNat 16 x.tag) (BitVec.ofNat 8 y1) (BitVec.ofNat 8 y2) pay
      let x := { x with pot := if descCfg p.desc 1 1 = 1 then 0 else e, y1 := y1, y2 := y2, refr := x.refr || descRefrEn p.desc }
      { chip := c, ev := some ev, back := some (i, x), learn := learn, post := some post }

/-! ## The Drift queue as the engine sees it (R202, R207) -/

/-- Range `i`'s population learns and the range has learning rows (R193). -/
def Chip.learnRows (c : Chip) (s i : Nat) : Nat := c.get (Reg.LRN_RANGE_CFG_NROWS s i)
def Chip.popLearns (c : Chip) (s p : Nat) : Bool := c.on (Reg.NE_POP_CFG_LEARN s p)

/-- The rotation step of a slot has stopped Drift enqueues (R369). -/
def Chip.rotStops (c : Chip) (s : Nat) : Bool :=
  c.get Reg.DMAP_ROT_STAT_PHASE == 2 && c.get Reg.DMAP_ROT_STAT_CLUSTER * 32 + c.get Reg.DMAP_ROT_STAT_SLOT == s

/-- Whether the engine enqueues for the Drift unit now: not frozen, not stopped by a rotation step. -/
def Chip.driftOpen (c : Chip) (s : Nat) : Bool := !c.on (Reg.LRN_CFG_FREEZE s) && !c.rotStops s

/-- The event a pass holds enters its queues once they have room (R137). -/
def Chip.placeEvent (c : Chip) (s : Nat) (p : Pass) : Chip × Pass :=
  match p.heldEv with
  | some e =>
    if (c.core s).emitRoom (descCfg p.desc 5 4) then (c.emitTo s (descCfg p.desc 5 4) e, { p with heldEv := none }) else (c, p)
  | none => (c, p)

/-- The Drift entries a pass holds enter the Drift queue as far as it has room (R202). While enqueues are stopped none
enters: those whose turn comes then are not enqueued at all (R207, R369; log 149). -/
def Chip.placeDrift (c : Chip) (s : Nat) (p : Pass) : Chip × Pass :=
  if c.driftOpen s then
    let k := c.core s
    let room := 16 - k.drift.length
    (c.setCore s { k with drift := k.drift ++ p.heldDrift.take room }, { p with heldDrift := p.heldDrift.drop room })
  else (c, { p with heldDrift := [] })

/-- Place what a pass holds, in order: the event, the Drift entries, and when all that went the write-back of the touch
(step 7 of R133, R161). -/
def Chip.placeHeld (c : Chip) (s : Nat) (p : Pass) : Chip × Pass :=
  let (c, p) := c.placeEvent s p
  if p.heldEv.isSome then (c, p)
  else
    let (c, p) := c.placeDrift s p
    if !p.heldDrift.isEmpty then (c, p)
    else match p.heldLane with
      | some (i, x) => (c.writeLane s i x, { p with heldLane := none })
      | none => (c, p)

/-- A pass holds nothing and can go on. -/
def Pass.free (p : Pass) : Bool := p.heldEv.isNone && p.heldDrift.isEmpty && p.heldLane.isNone

/-- The touch of the next output, and what it holds: outputs go in ascending order (log 147), and each one below COUNT that
has no neuron-lane sets CFG_ERR when the pass reaches it (R480, log 148). -/
def Chip.passStep (c : Chip) (s : Nat) (p : Pass) : Chip × Pass :=
  let j := p.next
  let p := { p with next := j + 1 }
  if !belowCount p.desc p.block j then (c, p)
  else if !hasLane (c.lanes s) (neuronOf p.desc p.block j) then (c.set (Reg.NE_STAT_CFG_ERR s), p)
  else
    let t := c.touch s p j
    let outs := match t.learn with
      | some (y1, y2) => p.outs ++ [(j, BitVec.ofNat 8 y1, BitVec.ofNat 8 y2)]
      | none => p.outs
    let learns := descCfg p.desc 6 6 == 1 && t.chip.driftOpen s
    let post := if learns then t.post.toList else []
    let ev := if descCfg p.desc 5 4 = 0 then none else t.ev
    t.chip.placeHeld s { p with outs := outs, heldEv := ev, heldDrift := post, heldLane := t.back }

/-- Run a pass to output 31 or to its next stall. -/
def Chip.runPass (c : Chip) (s : Nat) (p : Pass) : Nat → Chip × Pass
  | 0 => (c, p)
  | n + 1 =>
    let (c, p) := c.placeHeld s p
    if !p.free ∨ 32 ≤ p.next then (c, p)
    else
      let (c, p) := c.passStep s p
      Chip.runPass c s p n

/-- The PRE entry of a finished pass, when its row learns (R193, R202). -/
def Chip.preEntry (c : Chip) (s : Nat) (p : Pass) : List Drift :=
  if descCfg p.desc 6 6 = 1 ∧ c.driftOpen s ∧ p.row < c.learnRows s p.range then
    [.pre p.pop p.range p.row p.block p.item.lane p.item.x1 p.item.x2 p.item.pay p.outs]
  else []

/-- The pass ends; a bank whose last lane it was is free again (R131). -/
def Core.endPass (k : Core) : Core :=
  let banks := match k.banks with
    | b :: bs => if b.items.isEmpty then bs else b :: bs
    | [] => []
  { k with pass := none, banks := banks, mx := k.mx.map (fun m => { m with ahead := m.ahead && !banks.isEmpty }) }

/-- The accumulator banks that hold results (R131): those of event mode, and the one of a dense pass. -/
def Core.usedBanks (k : Core) : Nat := k.banks.length + k.mx.isSome.toNat

/-- Go on with a pass: outputs, then its PRE entry (`next` 33 marks it placed), then its end. -/
def Chip.advancePass (c : Chip) (s : Nat) (p : Pass) : Chip :=
  let (c, p) := c.runPass s p 33
  if !p.free ∨ p.next < 32 then c.modCore s (fun k => { k with pass := some p })
  else
    let p := if p.next = 32 then { p with next := 33, heldDrift := c.preEntry s p } else p
    let (c, p) := c.placeHeld s p
    if p.free then c.modCore s (·.endPass)
    else c.modCore s (fun k => { k with pass := some p })

/-! ## Event-mode work runs (R159) -/

/-- The slot's engines run: its cluster is there, it is neither fenced nor in reset. -/
def Chip.engineOn (c : Chip) (s : Nat) : Bool :=
  s / 32 < c.clusters && s % 32 < 17 && c.clusterOn (s / 32) && !c.fenced s && !c.absorbing s

/-- A hold is in effect (R180); the DRAIN of a reset stops the program, and with it the hold (R409). -/
def Chip.holding (c : Chip) (s : Nat) : Bool := c.on (Reg.CORE_STAT_HOLD s) && !c.draining s

/-- A hold is in effect or asked for (R180). -/
def Chip.held (c : Chip) (s : Nat) : Bool := c.holding s || ((c.core s).holdReq && !c.draining s)

/-- The next pass: the oldest bank's next lane, in ascending lane order (log 147). The bank stays in use until its last
pass ends. -/
def Chip.startPass (c : Chip) (s : Nat) : Option (Chip × Pass) :=
  let k := c.core s
  match k.banks with
  | [] => none
  | b :: bs =>
    match b.items with
    | [] => none
    | it :: its =>
      let p : Pass := { pop := b.pop, range := b.range, row := b.row, block := b.block, item := it, weights := b.weights,
                        desc := c.popDesc s b.pop, next := 0, outs := [], heldEv := none, heldDrift := [], heldLane := none }
      some (c.setCore s { k with banks := { b with items := its } :: bs }, p)

/-- The neuron engine's next work is the write-back of a dense pass: no bank of event mode stands before it. -/
def Core.denseNext (k : Core) : Bool :=
  match k.mx with
  | some m => !m.ahead
  | none => false

/-- NEURON_PASS (R133): the pass in progress goes on, or the next one starts. -/
def Chip.neuronPass (c : Chip) (s : Nat) : Chip :=
  match (c.core s).pass with
  | some p => c.advancePass s p
  | none =>
    if c.held s ∨ (c.core s).denseNext ∨ c.frozenSlot s then c
    else match c.startPass s with
      | some (c, p) => c.advancePass s p
      | none => c

def execNeuronPass (s : PCore) (st : State) : Host.Outcome State Fault Refusal :=
  act (fun c => if c.engineOn s.toNat then c.neuronPass s.toNat else c) st

/-! ## Coalescer (R128, R129, R130) -/

/-- Range word fields (R128). -/
def Chip.rangePop (c : Chip) (s i : Nat) : Nat := c.get (Reg.MX_IN_RANGE_CFG_POP s i)
def Chip.rangeW8 (c : Chip) (s i : Nat) : Bool := c.on (Reg.MX_IN_RANGE_CFG_W8 s i)
def Chip.rangeBase (c : Chip) (s i : Nat) : Nat := c.get (Reg.MX_IN_RANGE_BASE_WBASE s i)

/-- Range `i` matches a key (R128). -/
def Chip.rangeMatches (c : Chip) (s i : Nat) (key : Word) : Bool :=
  c.on (Reg.MX_IN_RANGE_CFG_VALID s i) && c.get (Reg.MX_IN_RANGE_CFG_IDX_W s i) ≤ 14 &&
  (key ^^^ c.rd (Reg.MX_IN_RANGE_KEY s i)) &&& c.rd (Reg.MX_IN_RANGE_MASK s i) == 0

/-- The population of a range is usable (R128). -/
def Chip.rangeUsable (c : Chip) (s i : Nat) : Bool :=
  let p := c.rangePop s i
  c.on (Reg.NE_POP_CFG_VALID s p) && !c.on (Reg.NE_POP_CFG_DENSE s p) && 0 < c.get (Reg.NE_POP_RANGE_COUNT s p)

/-- The row index of a key under range `i` (R128). -/
def Chip.rowOf (c : Chip) (s i : Nat) (key : Word) : Nat :=
  (key >>> c.get (Reg.MX_IN_RANGE_CFG_IDX_LO s i)).toNat % 2 ^ c.get (Reg.MX_IN_RANGE_CFG_IDX_W s i)

/-- The ranges whose work item an event still owes, lowest number first: the order of the work items of one event
(log 146). -/
def Chip.pendingRanges (c : Chip) (s : Nat) (q : QEvent) : List Nat :=
  if c.lanes s ≤ evLane q.ev then []
  else (List.range 32).filter (fun i => c.rangeMatches s i (evKey q.ev) && c.rangeUsable s i && !q.served.contains i)

/-- Put an event into a list in age order. -/
def insAge (x : QEvent) : List QEvent → List QEvent
  | [] => [x]
  | y :: ys => if x.age ≤ y.age then x :: y :: ys else y :: insAge x ys

/-- Both queues as one list in age order (R127). -/
def mergeAge (a b : List QEvent) : List QEvent := b.foldl (fun l x => insAge x l) a

/-- Remove an event from the queues by its age. -/
def Core.dropEvent (k : Core) (age : Nat) : Core :=
  { k with inq := k.inq.filter (·.age != age), loopq := k.loopq.filter (·.age != age) }

/-- Events ahead of the oldest work item that owe none are discarded; one that never owed any is counted (R128). -/
def Chip.discardIdle (c : Chip) (s : Nat) : List QEvent → Chip × Option (QEvent × Nat)
  | [] => (c, none)
  | q :: qs =>
    match c.pendingRanges s q with
    | i :: _ => (c, some (q, i))
    | [] =>
      let c := c.modCore s (·.dropEvent q.age)
      let c := if q.served.isEmpty then (c.bump (Reg.NE_DROP_CNT_COUNT s)).tallyCore s 0x1A else c
      Chip.discardIdle c s qs

/-- The oldest queued work item per lane with the range and row of the group (R129), in ascending lane order (log 147). -/
def Chip.joiners (c : Chip) (s range row : Nat) (all : List QEvent) : List QEvent :=
  let mine := all.filter (fun q => (c.pendingRanges s q).contains range && c.rowOf s range (evKey q.ev) == row)
  (List.range (c.lanes s)).filterMap (fun l => mine.find? (fun q => evLane q.ev == l))

/-! ### Pre-traces (R195 to R197) -/

/-- State-memory offset of a pre-trace entry (R195). -/
def Chip.traceOff (c : Chip) (s range row lane : Nat) : Nat :=
  c.get (Reg.LRN_RANGE_XBASE_XBASE s range) * 4 + (row * c.lanes s + lane) * 4

/-- A pre-trace entry decayed to tag `t` (R196): X1, X2 and TAG, with late updates counted. -/
def Chip.decayTraceEntry (c : Chip) (s pop off t : Nat) : Chip × Nat × Nat × Nat :=
  let w := BitVec.ofNat 32 (c.rdMem (slotMem s (stateOff + off)) 4)
  let x1 := wbits w 7 0
  let x2 := wbits w 15 8
  let tag := wbits w 31 16
  let d := (t + 65536 - tag) % 65536
  if 32768 ≤ d then (c.bump (Reg.LRN_LATE_CNT_COUNT s), x1, x2, tag)
  else if d = 0 then (c, x1, x2, tag)
  else
    let e := c.decayEntry s pop d
    (c, decayTrace x1 (wbits e 23 16), decayTrace x2 (wbits e 31 24), t)

/-- Write a pre-trace entry. -/
def Chip.writeTrace (c : Chip) (s off x1 x2 tag : Nat) : Chip :=
  c.wrMem (slotMem s (stateOff + off)) 4 (x1 + x2 * 256 + tag * 65536)

/-- One lane of a group: its item, with the pre-trace captured and incremented when the row learns (R197). -/
def Chip.joinLane (s range row pop : Nat) (acc : Chip × List GItem) (q : QEvent) : Chip × List GItem :=
  let c := acc.1
  let it : GItem := { lane := evLane q.ev, pay := evPay q.ev, tag := evTag q.ev, x1 := 0, x2 := 0 }
  if c.popLearns s pop ∧ 0 < c.learnRows s range then
    if row < c.learnRows s range then
      let off := c.traceOff s range row it.lane
      let (c, x1, x2, tag) := c.decayTraceEntry s pop off it.tag.toNat
      let c := c.writeTrace s off (min 255 (x1 + c.get (Reg.LRN_POP_CFG_X1_INC s pop))) (min 255 (x2 + c.get (Reg.LRN_POP_CFG_X2_INC s pop))) tag
      (c, acc.2 ++ [{ it with x1 := BitVec.ofNat 8 x1, x2 := BitVec.ofNat 8 x2 }])
    else (c.bump (Reg.LRN_ERR_CNT_ROW s), acc.2 ++ [it])
  else (c, acc.2 ++ [it])

/-! ### Reading a slice (R130, R145) -/

/-- The weights of the slice at a synapse address: zeros, and counted, when its W8 flag differs from the range's or it
reaches beyond synapse memory (R145). -/
def Chip.readSlice (c : Chip) (s addr : Nat) (w8 : Bool) : Chip × List Int :=
  let z := sliceSize w8
  let c := c.tallyCore s 0x14
  let c := if addr / 64 = (addr + z - 1) / 64 then c else c.tallyCore s 0x15
  let bs := c.rdBytes (slotMem s addr) z
  if c.synSize < addr + z ∨ bit (bytesToNat (bs.take 2)) 15 ≠ w8 then
    ((c.bump (Reg.MX_FMT_ERR_COUNT s)).set (Reg.MX_STAT_FMT_ERR s), List.replicate 32 0)
  else (c, sliceWeights bs w8)

/-- The address of a slice (R130). -/
def sliceAddr (base row blocks b : Nat) (w8 : Bool) : Nat := base + (row * blocks + b) * sliceSize w8

/-- The work items of a finished group leave the queues (R130). -/
def Core.leaveGroup (k : Core) (g : Group) : Core :=
  let mark := fun (q : QEvent) => if g.ages.contains q.age then { q with served := q.served ++ [g.range] } else q
  { k with inq := k.inq.map mark, loopq := k.loopq.map mark, group := none }

/-- Events whose last work item has left leave the queue. -/
def Chip.sweepServed (c : Chip) (s : Nat) (ages : List Nat) : Chip :=
  let k := c.core s
  let keep := fun (q : QEvent) => !(ages.contains q.age && (c.pendingRanges s q).isEmpty)
  c.setCore s { k with inq := k.inq.filter keep, loopq := k.loopq.filter keep }

/-- The next rank-1 update of the group (R130, R131): the slice is read and expanded into a bank. -/
def Chip.issueUpdate (c : Chip) (s : Nat) (g : Group) : Chip :=
  let (c, ws) := c.readSlice s (sliceAddr g.base g.row g.blocks g.block g.w8) g.w8
  let b : Bank := { pop := g.pop, range := g.range, row := g.row, block := g.block, weights := ws, items := g.items }
  let c := c.modCore s (fun k => { k with banks := k.banks ++ [b] })
  if g.block + 1 < g.blocks then c.modCore s (fun k => { k with group := some { g with block := g.block + 1 } })
  else (c.modCore s (·.leaveGroup g)).sweepServed s g.ages

/-- A new group around the oldest work item (R129). -/
def Chip.newGroup (c : Chip) (s : Nat) : Chip :=
  let k := c.core s
  match c.discardIdle s (mergeAge k.inq k.loopq) with
  | (c, none) => c
  | (c, some (q, i)) =>
    let k := c.core s
    let row := c.rowOf s i (evKey q.ev)
    let pop := c.rangePop s i
    let js := c.joiners s i row (mergeAge k.inq k.loopq)
    let (c, items) := js.foldl (Chip.joinLane s i row pop) (c, [])
    let c := (c.tallyCore s 0x12).tallyCore s 0x13 items.length
    let g : Group := { range := i, pop := pop, row := row, block := 0, blocks := blocksOf (c.get (Reg.NE_POP_RANGE_COUNT s pop)),
                       base := c.rangeBase s i, w8 := c.rangeW8 s i, items := items, ages := js.map (·.age) }
    c.issueUpdate s g

/-- GROUP_FORM (R129, R131): with a free bank, the next update of the group in progress, or a new group. -/
def Chip.groupForm (c : Chip) (s : Nat) : Chip :=
  let k := c.core s
  if 2 ≤ k.usedBanks ∨ k.slice ∨ c.frozenSlot s then c
  else match k.group with
    | some g => if c.holding s then c else c.issueUpdate s g
    | none => if c.held s ∨ c.draining s then c else c.newGroup s

def execGroupForm (s : PCore) (st : State) : Host.Outcome State Fault Refusal :=
  act (fun c => if c.engineOn s.toNat then c.groupForm s.toNat else c) st

/-! ## Stalls and injection (R137) -/

/-- EMIT_TIMEOUT (R137): the held event is discarded and counted; EMIT_TO = 0 has no limit. -/
def Chip.emitTimeout (c : Chip) (s : Nat) : Chip :=
  if c.get (Reg.NE_CFG_EMIT_TO s) = 0 then c
  else
    let drop := fun (c : Chip) => (c.bump (Reg.NE_EMIT_DROP_COUNT s)).tallyCore s 0x1A
    match (c.core s).pass with
    | some p =>
      if p.heldEv.isSome then (drop c).modCore s (fun k => { k with pass := some { p with heldEv := none } }) else c
    | none =>
      match (c.core s).mx with
      | some m => if m.heldEv.isSome then (drop c).modCore s (fun k => { k with mx := some { m with heldEv := none } }) else c
      | none => c

def execEmitTimeout (s : PCore) (st : State) : Host.Outcome State Fault Refusal := act (·.emitTimeout s.toNat) st

/-- OUTPUT_QUEUE_INJECT (R137): the oldest event of the output queue enters the router at the core port. -/
def Chip.outInject (c : Chip) (s : Nat) : Chip :=
  match c.logical? s with
  | none => c
  | some i =>
    match (c.core s).outq with
    | [] => c
    | e :: t =>
      if c.room (i / 16) (i % 16) 0 then (c.modCore s (fun k => { k with outq := t })).enter (i / 16) (i % 16) 0 (.event e none) else c

def execOutputQueueInject (s : PCore) (st : State) : Host.Outcome State Fault Refusal :=
  act (fun c => if c.engineOn s.toNat then c.outInject s.toNat else c) st

/-! ## Scrubber (R138, R196) -/

/-- A place of the scrubber's walk: the slot of a population, or a pre-trace entry of a range. -/
inductive Place where
  | slot (pop i : Nat)
  | trace (pop off : Nat)
  deriving DecidableEq, Repr

/-- Slots of a population the scrubber visits: those of a valid event-mode population that have a neuron-lane. -/
def Chip.scrubSlots (c : Chip) (s p : Nat) : Nat :=
  let d := c.popDesc s p
  if descCfg d 0 0 = 1 ∧ descCfg d 2 2 = 0 then
    let top := min (descFirst d + descCount d) (min 16384 (65536 / c.lanes s))
    (top - descFirst d) * c.lanes s
  else 0

/-- Pre-trace entries of a learning range. -/
def Chip.scrubTraces (c : Chip) (s i : Nat) : Nat :=
  if c.on (Reg.MX_IN_RANGE_CFG_VALID s i) ∧ c.popLearns s (c.rangePop s i) then c.learnRows s i * c.lanes s else 0

/-- Find place `n` among the ranges from `i` on. -/
def Chip.placeTrace (c : Chip) (s n : Nat) : List Nat → Option Place
  | [] => none
  | i :: is =>
    let m := c.scrubTraces s i
    if n < m then some (.trace (c.rangePop s i) (c.traceOff s i 0 0 + 4 * n)) else Chip.placeTrace c s (n - m) is

/-- Find place `n` among the populations from `p` on, then among the ranges. -/
def Chip.placeAt (c : Chip) (s n : Nat) : List Nat → Option Place
  | [] => c.placeTrace s n (List.range 32)
  | p :: ps =>
    let m := c.scrubSlots s p
    if n < m then some (.slot p (c.get (Reg.NE_POP_RANGE_FIRST s p) * c.lanes s + n)) else Chip.placeAt c s (n - m) ps

/-- Visit one place at the tag of the current time. -/
def Chip.visit (c : Chip) (s : Nat) (x : Place) : Chip :=
  let t := (tagOf c.time).toNat
  let c := c.tallyCore s 0x17
  match x with
  | .slot p i =>
    let y := c.readLane s i
    if (t + 65536 - y.tag) % 65536 < 8192 then c
    else match refractory (c.popDesc s p) t y with
      | none => c
      | some y =>
        let r := c.decayLane s p t y
        let c := if r.2 then c.countLate s else c
        c.writeLane s i r.1
  | .trace p off =>
    let tag := c.rdMem (slotMem s (stateOff + off + 2)) 2
    if (t + 65536 - tag) % 65536 < 8192 then c
    else
      let (c, x1, x2, tag) := c.decayTraceEntry s p off t
      c.writeTrace s off x1 x2 tag

/-- SCRUB_TOUCH (R138): the next place of the walk, from the start again at its end; behind a pass or a write-back in
progress, and not in the FREEZE phase of a rotation step (R159). -/
def Chip.scrubTouch (c : Chip) (s : Nat) : Chip :=
  let k := c.core s
  if !c.on (Reg.NE_CFG_SCRUB_EN s) ∨ c.held s ∨ k.pass.isSome ∨ k.mx.isSome ∨ c.frozenSlot s then c
  else match c.placeAt s k.scrub (List.range 16) with
    | some x => (c.visit s x).modCore s (fun k => { k with scrub := k.scrub + 1 })
    | none =>
      match c.placeAt s 0 (List.range 16) with
      | some x => (c.visit s x).modCore s (fun k => { k with scrub := 1 })
      | none => c.modCore s (fun k => { k with scrub := 0 })

def execScrubTouch (s : PCore) (st : State) : Host.Outcome State Fault Refusal :=
  act (fun c => if c.engineOn s.toNat then c.scrubTouch s.toNat else c) st

/-! ## What a core's configuration holds of its memories -/

/-- Valid populations of slot `s`. -/
def Chip.validPops (c : Chip) (s : Nat) : List Nat := (List.range 16).filter (fun p => c.on (Reg.NE_POP_CFG_VALID s p))

/-- Learning ranges of slot `s` (R193). -/
def Chip.learningRanges (c : Chip) (s : Nat) : List Nat :=
  (List.range 32).filter (fun i => c.on (Reg.MX_IN_RANGE_CFG_VALID s i) && c.on (Reg.NE_POP_CFG_LEARN s (c.rangePop s i)) &&
    c.get (Reg.LRN_RANGE_CFG_NROWS s i) != 0)

/-- A span of state memory meets another; an empty one meets none. -/
def meets (a b : Nat × Nat) : Bool := a.2 != 0 && b.2 != 0 && a.1 < b.1 + b.2 && b.1 < a.1 + a.2

/-- The pre-trace table of a learning range (R195): where it begins and its bytes. -/
def Chip.preTable (c : Chip) (s i : Nat) : Nat × Nat :=
  (c.get (Reg.LRN_RANGE_XBASE_XBASE s i) * 4, c.get (Reg.LRN_RANGE_CFG_NROWS s i) * c.lanes s * 4)

end Sys2Proof.Machine
end

