-- ==== Sys2Proof/Machine/Dense.lean ====
section
/-! DEFINITION. Dense and gang passes (R139 to R142, R150, R176, R177): the check and start of a pass, and the write-back
that ends it. -/

namespace Sys2Proof.Machine

/-- The operands of MXPASS (R176). -/
structure MxArgs where
  range : Nat
  block : Nat
  steps : Nat
  row : Nat
  area : Nat
  gang : Bool

/-- One step of an output's accumulation (R150): the weights of a slice times one activation vector added, lane by lane. -/
def accStep (acc : List (List Int)) (ws acts : List Int) : List (List Int) :=
  List.zipWith (fun row a => List.zipWith (fun x w => addF32 x (w * a)) row ws) acc acts

/-- An accumulator of `l` lanes of 32 outputs at +0. -/
def accZero (l : Nat) : List (List Int) := List.replicate l (List.replicate 32 0)

/-- `n` int8 activations from a byte address on. -/
def Chip.activations (c : Chip) (a n : Nat) : List Int := (c.rdBytes a n).map (·.toInt)

/-- The weight slices that the steps from `k` on read out of core `src`, one a step (R139, R140): their weights, with a
failing one counted and zero (R145). -/
def Chip.denseSlices (c : Chip) (src : Nat) (m : MxArgs) (base blocks : Nat) (w8 : Bool) (k : Nat) : Nat → Chip × List (List Int)
  | 0 => (c, [])
  | n + 1 =>
    let (c, ws) := c.readSlice src (sliceAddr base (m.row + k) blocks m.block w8) w8
    let (c, rest) := Chip.denseSlices c src m base blocks w8 (k + 1) n
    (c, ws :: rest)

/-- The sums of steps from `k` on over their slices (R139, R150): activations of `l` lanes from `acts` at a stride. -/
def Chip.denseSum (c : Chip) (l acts stride : Nat) (acc : List (List Int)) (k : Nat) : List (List Int) → List (List Int)
  | [] => acc
  | ws :: rest => Chip.denseSum c l acts stride (accStep acc ws (c.activations (acts + k * stride) l)) (k + 1) rest

/-- The checks of R177 on slot `s`, logical core `i`: whether the pass may start. -/
def Chip.mxOk (c : Chip) (s i : Nat) (m : MxArgs) : Bool :=
  let p := c.rangePop s m.range
  let width := if m.gang then 128 else c.lanes s
  m.steps != 0 && m.block < blocksOf (c.get (Reg.NE_POP_RANGE_COUNT s p)) && m.area + m.steps * width ≤ 0x80000 &&
  c.on (Reg.MX_IN_RANGE_CFG_VALID s m.range) && c.on (Reg.NE_POP_CFG_DENSE s p) && c.on (Reg.NE_POP_CFG_VALID s p) &&
  (m.gang == c.on (Reg.MX_CFG_GANG s)) && (!m.gang || i % 16 == 0)

/-- A core's pass begins to write back what it has accumulated, under the population's descriptor of this moment. -/
def Chip.beginPass (c : Chip) (s : Nat) (gang : Bool) (pop block owner : Nat) (acc : List (List Int)) : Chip :=
  let m (k : Core) : MxPass := { gang := gang, pop := pop, block := block, acc := acc, lane := 0, next := 0, heldEv := none, owner := owner,
                                 desc := c.popDesc s pop, ahead := !k.banks.isEmpty }
  c.modCore s (fun k => { k with mx := some (m k) })

/-- The slot of a cluster that seats no logical core (R366): its spare. -/
def Chip.spareSlot (c : Chip) (k : Nat) : Option Nat :=
  (List.range 17).find? (fun sl => !(List.range 16).any (fun i => c.activeSlot k (k * 16 + i) == sl))

/-- One row of a gang pass (R140): the slices of core 4r are read once a step, and core 4r + j takes them with column group
j of the staging buffer in the spare's state memory. -/
def Chip.gangRow (c : Chip) (k spare : Nat) (m : MxArgs) (base blocks : Nat) (w8 : Bool) (pop owner r : Nat) : Chip :=
  let (c, ws) := c.denseSlices (c.pcore (k * 16 + r * 4)) m base blocks w8 0 m.steps
  (List.range 4).foldl (fun c j =>
    c.beginPass (c.pcore (k * 16 + r * 4 + j)) true pop m.block owner
      (c.denseSum 32 (slotMem (k * 32 + spare) (stateOff + m.area + 32 * j)) 128 (accZero 32) 0 ws)) c

/-- Start a pass (R139, R140): the sums of its steps, counted at the core that starts it, then the write-back by
DENSE_WRITEBACK. -/
def Chip.mxStart (c : Chip) (s i : Nat) (m : MxArgs) : Chip :=
  let p := c.rangePop s m.range
  let blocks := blocksOf (c.get (Reg.NE_POP_RANGE_COUNT s p))
  let base := c.rangeBase s m.range
  let w8 := c.rangeW8 s m.range
  let c := c.tallyCore s 0x1D m.steps
  if m.gang then
    match c.spareSlot (s / 32) with
    | some sp => (List.range 4).foldl (fun c r => c.gangRow (s / 32) sp m base blocks w8 p i r) c
    | none => c
  else
    let l := c.lanes s
    let (c, ws) := c.denseSlices s m base blocks w8 0 m.steps
    c.beginPass s false p m.block i (c.denseSum l (slotMem s (stateOff + m.area)) l (accZero l) 0 ws)

/-- A pass started by MXPASS of logical core `i` is in progress or writes back (R178, R175). -/
def Chip.mxBusy (c : Chip) (s i : Nat) : Bool :=
  (List.range 17).any (fun sl => match (c.core (s / 32 * 32 + sl)).mx with | some m => m.owner == i | none => false)

/-- MXPASS of logical core `i` waits (R176, R131): a pass of its own or one that uses its matrix unit is in progress, or
neither bank is free. -/
def Chip.mxStalls (c : Chip) (s i : Nat) : Bool := c.mxBusy s i || (c.core s).mx.isSome || decide (2 ≤ (c.core s).usedBanks)

/-! ## Write-back (R139, R151) -/

/-- The write-back of one neuron-lane: its new state, and the event it emits. -/
def Chip.denseLane (c : Chip) (s : Nat) (m : MxPass) (d : List Word) (lane j : Nat) : Chip × Option DWord :=
  let n := neuronOf d m.block j
  let i := n * c.lanes s + lane
  let x := c.readLane s i
  let (pot, sat) := toQ16 ((m.acc.getD lane []).getD j 0)
  let t := (tagOf c.time).toNat
  let (c, u) := c.runUop s d { x with pot := pot, sat := sat, tag := t } pot 0
  let c := (c.writeLane s i u.lane).tallyCore s 0x16
  let pay := rescale u.lane.pot (descM d) (descS d)
  if u.nofire ∨ (descCfg d 3 3 = 1 ∧ pay = 0) ∨ descCfg d 5 4 = 0 then (c, none)
  else (c, some (mkEvent (emitKey (c.logicalOf s) n (descUser d)) pay lane (BitVec.ofNat 16 t)))

/-- Place the emission a write-back holds. -/
def Chip.placeDense (c : Chip) (s emit : Nat) (m : MxPass) : Chip × MxPass :=
  match m.heldEv with
  | some e => if (c.core s).emitRoom emit then (c.emitTo s emit e, { m with heldEv := none }) else (c, m)
  | none => (c, m)

/-- Outputs in order, lane by lane, to the end or to the next stall; each one below COUNT without a neuron-lane sets CFG_ERR
when the write-back reaches it (R480, log 148). -/
def Chip.denseRun (c : Chip) (s : Nat) (m : MxPass) (d : List Word) : Nat → Chip × MxPass
  | 0 => (c, m)
  | n + 1 =>
    let (c, m) := c.placeDense s (descCfg d 5 4) m
    if m.heldEv.isSome ∨ c.lanes s ≤ m.lane then (c, m)
    else
      let j := m.next
      let lane := m.lane
      let m := if j = 31 then { m with next := 0, lane := lane + 1 } else { m with next := j + 1 }
      if !belowCount d m.block j then Chip.denseRun c s m d n
      else if !hasLane (c.lanes s) (neuronOf d m.block j) then Chip.denseRun (c.set (Reg.NE_STAT_CFG_ERR s)) s m d n
      else
        let (c, ev) := c.denseLane s m d lane j
        Chip.denseRun c s { m with heldEv := ev } d n

/-- DENSE_WRITEBACK (R139): the pass of a slot writes back and emits until it ends or stalls, after the touches of an older
bank. -/
def Chip.denseWriteback (c : Chip) (s : Nat) : Chip :=
  match (c.core s).mx with
  | none => c
  | some m =>
    if (c.core s).pass.isSome ∨ m.ahead then c
    else
      let (c, m) := c.denseRun s m m.desc (32 * 32 + 1)
      let (c, m) := c.placeDense s (descCfg m.desc 5 4) m
      if m.heldEv.isNone ∧ c.lanes s ≤ m.lane then c.modCore s (fun k => { k with mx := none })
      else c.modCore s (fun k => { k with mx := some m })

def execDenseWriteback (s : PCore) (st : State) : Host.Outcome State Fault Refusal :=
  act (fun c => if c.engineOn s.toNat then c.denseWriteback s.toNat else c) st

end Sys2Proof.Machine
end

