-- ==== Sys2Proof/Machine/Learning.lean ====
section
/-! DEFINITION. The Drift unit (R198 to R206): terms and factors, stochastic rounding, PRE and POST entries, the r-queue. -/

namespace Sys2Proof.Machine

/-- Term `k` of a learning population (R198). -/
def Chip.term (c : Chip) (s p k : Nat) : Nat :=
  let w := if k < 2 then c.rd (Reg.LRN_POP_TERM01 s p) else c.rd (Reg.LRN_POP_TERM23 s p)
  wbits w (if k % 2 = 0 then 15 else 31) (if k % 2 = 0 then 0 else 16)

/-- The values the factors of R199 are formed from. -/
structure Factors where
  x1 : Nat
  x2 : Nat
  y1 : Nat
  y2 : Nat
  r : Int
  pay : Int
  w8 : Bool

/-- A factor in units of 2^−8 (R199); `code` is the current code. -/
def Factors.value (f : Factors) (code : Int) (n : Nat) : Int :=
  match n with
  | 0 => f.x1 | 1 => f.x2 | 2 => f.y1 | 3 => f.y2 | 4 => 2 * f.r
  | 5 => if f.w8 then 2 * code else 32 * code
  | 6 => 2 * f.pay
  | _ => 256

/-- D of R199 over the terms with the trigger's tag: bit 14 PRE, bit 15 POST. -/
def Chip.driftSum (c : Chip) (s p : Nat) (tagBit : Nat) (f : Factors) (code : Int) : Int :=
  (List.range 4).foldl (fun d k =>
    let t := c.term s p k
    if bit t tagBit then d + signed 8 t * f.value code (t / 2 ^ 8 % 8) * f.value code (t / 2 ^ 11 % 8) else d) 0

/-- One step of the LFSR (R201). -/
def lfsrStep (x : Word) : Word := if x.getLsbD 0 then (x >>> 1) ^^^ 0x80200003#32 else x >>> 1

/-- One code evaluated (R201): the code after it, with the LFSR advanced and saturation counted. -/
def Chip.evalCode (c : Chip) (s p : Nat) (tagBit : Nat) (f : Factors) (code : Int) : Chip × Int :=
  let l := lfsrStep (c.rd (Reg.LRN_SEED s))
  let c := c.wr (Reg.LRN_SEED s) l
  let sh := 16 + c.get (Reg.LRN_POP_CFG_CEXP s p)
  let d := c.driftSum s p tagBit f code
  let v := code + Int.fdiv (d + (l.toNat % 2 ^ sh : Nat)) (2 ^ sh : Nat)
  let hi : Int := if f.w8 then 127 else 7
  let lo : Int := if f.w8 then -128 else -8
  if v < lo ∨ hi < v then ((c.bump (Reg.LRN_SAT_CNT_COUNT s)).tallyCore s 0x1F, if v < lo then lo else hi) else (c, v)

/-- Write code `j` of the slice at a synapse address (R143). -/
def Chip.writeCode (c : Chip) (s addr j : Nat) (w8 : Bool) (v : Int) : Chip :=
  if w8 then c.wrMem (slotMem s (addr + 2 + j)) 1 (BitVec.ofInt 8 v).toNat
  else
    let a := slotMem s (addr + 2 + j / 2)
    let old := c.rdMem a 1
    let n := (BitVec.ofInt 4 v).toNat
    c.wrMem a 1 (if j % 2 = 0 then old / 16 * 16 + n else old % 16 + n * 16)

/-- A slice a Drift entry reads fails the check of R145 (R204). -/
def Chip.sliceBad (c : Chip) (s addr : Nat) (w8 : Bool) : Bool :=
  c.synSize < addr + sliceSize w8 || bit (c.rdMem (slotMem s addr) 2) 15 != w8

/-- The count of a failed slice (R204). -/
def Chip.noteBadSlice (c : Chip) (s : Nat) : Chip := (c.bump (Reg.MX_FMT_ERR_COUNT s)).set (Reg.MX_STAT_FMT_ERR s)

/-- Evaluate code `j` of a slice and write it back. -/
def Chip.updateCode (c : Chip) (s p tagBit addr j : Nat) (f : Factors) : Chip :=
  let code := sliceCode (c.rdBytes (slotMem s addr) (sliceSize f.w8)) f.w8 j
  let (c, v) := c.evalCode s p tagBit f code
  c.writeCode s addr j f.w8 v

/-- The third factor of a lane (R205). -/
def Chip.thirdFactor (c : Chip) (s lane : Nat) : Int := signed 8 (c.get (Reg.LRN_R_R s lane))

/-- The slice of row `row`, block `b` under range `i` of population `p`, as they stand. -/
def Chip.driftAddr (c : Chip) (s i p row b : Nat) : Nat :=
  sliceAddr (c.rangeBase s i) row (blocksOf (c.get (Reg.NE_POP_RANGE_COUNT s p))) b (c.rangeW8 s i)

/-- A PRE entry (R202): the PRE terms for each output its pass touched. -/
def Chip.runPre (c : Chip) (s p i row b lane : Nat) (x1 x2 pay : Byte) (outs : List (Nat × Byte × Byte)) : Chip :=
  let w8 := c.rangeW8 s i
  let addr := c.driftAddr s i p row b
  if c.sliceBad s addr w8 then c.noteBadSlice s
  else outs.foldl (fun c o =>
    c.updateCode s p 14 addr o.1 { x1 := x1.toNat, x2 := x2.toNat, y1 := o.2.1.toNat, y2 := o.2.2.toNat, r := c.thirdFactor s lane, pay := pay.toInt, w8 := w8 }) c

/-- One row of a POST entry (R200, R202). -/
def Chip.postRow (c : Chip) (s p i row b j lane : Nat) (tag : BitVec 16) (y1 y2 pay : Byte) : Chip :=
  let off := c.traceOff s i row lane
  let (c, x1, x2, t) := c.decayTraceEntry s p off tag.toNat
  let c := c.writeTrace s off x1 x2 t
  let w8 := c.rangeW8 s i
  let addr := c.driftAddr s i p row b
  if c.sliceBad s addr w8 then c.noteBadSlice s
  else c.updateCode s p 15 addr j { x1 := x1, x2 := x2, y1 := y1.toNat, y2 := y2.toNat, r := c.thirdFactor s lane, pay := pay.toInt, w8 := w8 }

/-- A POST entry (R202): every learning range that targets the population, in ascending range and row order. -/
def Chip.runPost (c : Chip) (s p b j lane : Nat) (tag : BitVec 16) (y1 y2 pay : Byte) : Chip :=
  (List.range 32).foldl (fun c i =>
    if c.on (Reg.MX_IN_RANGE_CFG_VALID s i) ∧ c.rangePop s i = p ∧ c.popLearns s p then
      (List.range (c.learnRows s i)).foldl (fun c row => c.postRow s p i row b j lane tag y1 y2 pay) c
    else c) c

/-- DRIFT_ENTRY (R203): the next entry of the Drift queue, unless a Dune slice holds the matrix unit. -/
def Chip.driftEntry (c : Chip) (s : Nat) : Chip :=
  let k := c.core s
  if k.slice then c
  else match k.drift with
    | [] => c
    | d :: ds =>
      let c := (c.setCore s { k with drift := ds }).tallyCore s 0x1E
      match d with
      | .pre p i row b lane x1 x2 pay outs => c.runPre s p i row b lane x1 x2 pay outs
      | .post p b j lane tag y1 y2 pay => c.runPost s p b j lane tag y1 y2 pay

def execDriftEntry (s : PCore) (st : State) : Host.Outcome State Fault Refusal :=
  act (fun c => if c.engineOn s.toNat then c.driftEntry s.toNat else c) st

/-! ## The r-queue (R206) -/

/-- Queue `q` of a slot is its r-queue. -/
def Chip.isRQueue (c : Chip) (s q : Nat) : Bool := c.on (Reg.LRN_CFG_RQ_EN s) && c.get (Reg.LRN_CFG_RQ s) == q

/-- One word of the r-queue (R206). -/
def Chip.rWord (c : Chip) (s : Nat) (w : Word) : Chip :=
  let lane := wbits w 12 8
  if wbits w 31 14 ≠ 0 ∨ (w.getLsbD 13 = false ∧ c.lanes s ≤ lane) then c.bump (Reg.LRN_ERR_CNT_RQ s)
  else if w.getLsbD 13 then (List.range 32).foldl (fun c l => c.put (Reg.LRN_R_R s l) (wbits w 7 0)) c
  else c.put (Reg.LRN_R_R s lane) (wbits w 7 0)

/-- R_QUEUE_WORD (R206): the words of the tuple at the head of the r-queue, in order; the tuple leaves with its credits
(R215). -/
def Chip.rQueueWord (c : Chip) (s : Nat) : Chip :=
  if c.on (Reg.LRN_CFG_RQ_EN s) then
    let q := c.get (Reg.LRN_CFG_RQ s)
    match (c.core s).queue q with
    | t :: _ => (t.words.foldl (fun c w => c.rWord s w) c).takeTuple s q
    | [] => c
  else c

def execRQueueWord (s : PCore) (st : State) : Host.Outcome State Fault Refusal :=
  act (fun c => if c.engineOn s.toNat && !(c.rot.taken && (c.rot.new == s.toNat || c.rot.old == s.toNat)) then c.rQueueWord s.toNat else c) st

end Sys2Proof.Machine
end

