-- ==== Sys2Proof/Machine/Sequencer.lean ====
section
/-! DEFINITION. The sequencer around its instructions (R158, R162, R166, R181 to R189, R440, R441): fields of a word,
registers and interlock, exceptions, halts, breakpoints, and the one operation that runs an instruction on a core. -/

namespace Sys2Proof.Machine

/-! ## Fields of an instruction word -/

def fOp (w : Word) : Nat := wbits w 31 26
def fD (w : Word) : Nat := wbits w 25 21
def fA (w : Word) : Nat := wbits w 20 16
def fB (w : Word) : Nat := wbits w 15 11
def fF (w : Word) : Nat := wbits w 10 0
def fI (w : Word) : Nat := wbits w 15 0

/-- IMM sign-extended. -/
def sextI (w : Word) : Word := (w.extractLsb' 0 16).signExtend 32

/-- An R-format word. -/
def rWord (op : Nat) (d a b : BitVec 5) (f : BitVec 11) : Word := BitVec.ofNat 6 op ++ d ++ a ++ b ++ f

/-- An I-format word. -/
def iWord (op : Nat) (d a : BitVec 5) (imm : BitVec 16) : Word := BitVec.ofNat 6 op ++ d ++ a ++ imm

/-! ## Registers (R158) -/

/-- Register `r` of a core; g0 reads 0. -/
def Core.greg (k : Core) (r : Nat) : Word := if h : 1 ≤ r ∧ r < 32 then k.g[r - 1]'(by omega) else 0

/-- Register `r` written; g0 discards. -/
def Core.setReg (k : Core) (r : Nat) (v : Word) : Core := if 1 ≤ r then { k with g := k.g.setIfInBounds (r - 1) v } else k

def Chip.greg (c : Chip) (s r : Nat) : Word := (c.core s).greg r
def Chip.setReg (c : Chip) (s r : Nat) (v : Word) : Chip := c.modCore s (·.setReg r v)

/-- A register waits for the response of an RLD (R168). -/
def Core.pendingReg (k : Core) (r : Nat) : Bool := r != 0 && k.reqs.any (fun q => q.load && !q.late && q.reg == r)

/-- Requests without their end (R169). -/
def Core.outstanding (k : Core) : Bool := k.reqs.any (fun q => !q.late)

/-- The registers an instruction word reads or writes, for the interlock (R158, R168). -/
def regsUsed (w : Word) : List Nat :=
  let run := fun (r n : Nat) => (List.range n).map (r + ·)
  match fOp w with
  | 0x00 => [fD w, fA w, fB w]
  | 0x18 => [fD w, fA w, fB w]
  | 0x19 => [fD w, fA w, fB w]
  | 0x1A => []
  | 0x20 => fD w :: run (fA w) (fF w / 16 % 4 + 1)
  | 0x21 => fA w :: run (fD w) (fF w / 4 % 4 + 1)
  | 0x22 => []
  | 0x23 => [fD w, fA w, fB w]
  | 0x28 => [fD w, fA w, fB w]
  | 0x29 => []
  | 0x2A => [fA w, fB w]
  | 0x2B => []
  | 0x30 => []
  | 0x31 => []
  | 0x32 => []
  | _ => [fD w, fA w]

/-! ## How an instruction ends -/

/-- What an instruction does when it is tried: completes, passes control, waits, raises a cause with EINFO and STATUS,
halts (R181), or halts for debug (R183). -/
inductive Res where
  | done (c : Chip)
  | jump (c : Chip) (pc : Nat)
  | stall (c : Chip)
  | trap (c : Chip) (cause info status : Nat)
  | halt (c : Chip)
  | debug (c : Chip)

/-- The meaning of an instruction word on slot `s`, logical core `i`. -/
abbrev Sem := Chip → Nat → Nat → Word → Res

/-- Causes of R187. -/
def ILLEGAL := 1
def MISALIGN := 2
def ACCESS := 3
def MEMERR := 4
def PATH := 5
def ORPHAN := 6
def MXCFG := 7
def BREAK := 8

/-- ILLEGAL (R162): EINFO holds the word. -/
def illegal (c : Chip) (w : Word) : Res := .trap c ILLEGAL w.toNat 0

/-! ## Exceptions (R188, R189) -/

/-- A halt that follows R181 from its first step: it waits for outstanding requests. -/
def Chip.haltWhenIdle (c : Chip) (s hcause : Nat) : Chip :=
  if (c.core s).outstanding then (c.modCore s (fun k => { k with haltDue := some hcause })).setSeqState s 2
  else (c.enterHalt s hcause).reportHalt s

/-- An exception is raised at `pc` (R188, R189). -/
def Chip.raise (c : Chip) (s pc cause info status : Nat) : Chip :=
  let c := c.put (Reg.CORE_EPC_EPC s) (pc / 4 * 4)
  let c := (c.put (Reg.CORE_CAUSE_CAUSE s) cause).put (Reg.CORE_CAUSE_STATUS s) status
  let c := c.wr (Reg.CORE_EINFO s) (BitVec.ofNat 32 info)
  if !c.on (Reg.CORE_CFG_EXC_EN s) then (c.setPc s pc).haltWhenIdle s 1
  else if c.on (Reg.CORE_STAT_INEXC s) then (c.setPc s pc).haltWhenIdle s 2
  else ((c.set (Reg.CORE_STAT_INEXC s)).setPc s (c.get (Reg.CORE_EVEC_VEC s))).setSeqState s 1

/-- A step of the debugger ends (R440); a halt under R189 that waits for requests takes its own HCAUSE. -/
def Chip.endStep (c : Chip) (s : Nat) : Chip :=
  if (c.core s).stepping then
    let c := c.modCore s (fun k => { k with stepping := false })
    if c.seqLive s && (c.core s).haltDue.isNone then c.debugHalt s else c
  else c

/-- What waits at an instruction boundary (R168, R166, R189): a halt, a MEMERR, the overrun at 0xFFFC. -/
def Chip.boundaryDue (c : Chip) (s : Nat) : Bool :=
  let k := c.core s
  k.haltDue.isSome || (c.seqState s == 1 && (!k.due.isEmpty || k.overrun))

/-- Take what is due at the boundary. -/
def Chip.takeDue (c : Chip) (s : Nat) : Chip :=
  let k := c.core s
  match k.haltDue with
  | some h => if k.outstanding then c else (c.enterHalt s h).reportHalt s
  | none =>
    match k.due with
    | (st, a) :: rest =>
      ((c.setCore s { k with due := rest, dbgSkip := false }).raise s (c.pc s) MEMERR (a.toNat % 2 ^ 32) st).endStep s
    | [] =>
      if k.overrun then ((c.setCore s { k with overrun := false, dbgSkip := false }).raise s 0xFFFC ACCESS 0x10000 0).endStep s else c

/-- Control passes on in sequence; past 0xFFFC the overrun of R166 is due. -/
def Chip.nextPc (c : Chip) (s : Nat) : Chip :=
  if c.pc s = 0xFFFC then c.modCore s (fun k => { k with overrun := true }) else c.setPc s (c.pc s + 4)

/-- An instruction has completed. -/
def Chip.retire (c : Chip) (s : Nat) : Chip :=
  let c := (c.modCore s (fun k => { k with dbgSkip := false })).tallyCore s 0x20
  (if c.seqLive s then c.setSeqState s 1 else c).endStep s

/-- The outcome of an instruction applied to its core. -/
def Chip.settle (s pc : Nat) : Res → Chip
  | .done c => (c.nextPc s).retire s
  | .jump c t => (c.setPc s t).retire s
  | .stall c => c.setSeqState s 2
  | .trap c cause info status => ((c.modCore s (fun k => { k with dbgSkip := false })).raise s pc cause info status).endStep s
  | .halt c =>
    let c := c.nextPc s
    ((c.modCore s (fun k => { k with dbgSkip := false, stepping := false })).tallyCore s 0x20 |>.enterHalt s 0).reportHalt s
  | .debug c => (c.modCore s (fun k => { k with stepping := false })).debugHalt s

/-! ## Breakpoints (R441) -/

/-- A local load or store of a word, with its address (R165). -/
def Chip.localAddr? (c : Chip) (s : Nat) (w : Word) : Option (Bool × Nat) :=
  if 0x08 ≤ fOp w ∧ fOp w ≤ 0x0F then some (decide (0x0D ≤ fOp w), (c.greg s (fA w) + sextI w).toNat) else none

/-- Breakpoint `n` matches the instruction at the PC. -/
def Chip.brkHit (c : Chip) (s : Nat) (w : Word) (n : Nat) : Bool :=
  let ty := c.get (Reg.BDP_BRK_CFG_TYPE s n)
  let ign := 2 ^ c.get (Reg.BDP_BRK_CFG_IGN s n)
  let ad := c.get (Reg.BDP_BRK_ADDR_ADDR s n)
  if ty = 1 then c.pc s / ign == ad % 2 ^ 16 / ign
  else match c.localAddr? s w with
    | some (store, x) => x / ign == ad / ign && (ty == 4 || (ty == 2 && !store) || (ty == 3 && store))
    | none => false

/-- The breakpoints that match, as bits; none while the core is not under debug or passes one over. -/
def Chip.brkMask (c : Chip) (s : Nat) (w : Word) : Nat :=
  if c.on (Reg.BDP_CORE_STAT_DBG_EN s) && !(c.core s).dbgSkip then
    (List.range 4).foldl (fun m n => if c.brkHit s w n then m + 2 ^ n else m) 0
  else 0

/-! ## Running an instruction -/

/-- A rotation step has taken the sequencer of the slot (R369). -/
def Chip.seqTaken (c : Chip) (s : Nat) : Bool := c.rot.taken && (c.rot.old == s || c.rot.new == s)

/-- The sequencer of a slot can issue: its engines run, it is running or waiting, no reset drains it. -/
def Chip.seqRuns (c : Chip) (s : Nat) : Bool := c.engineOn s && c.seqLive s && !c.draining s && !c.seqTaken s

/-- A breakpoint halts before the instruction takes effect; the instruction runs without matching again when the debugger has
the core go on (R441). -/
def Chip.brkHalt (c : Chip) (s : Nat) : Chip := (c.modCore s (fun k => { k with stepping := false, holdReq := false, dbgSkip := true })).debugHalt s

/-- Try the instruction `w` with its meaning on slot `s`: the interlock first, for a breakpoint may compare an address of its
registers. -/
def Chip.tryInstr (c : Chip) (s i : Nat) (w : Word) (sem : Sem) : Chip :=
  let hit := c.brkMask s w
  if (regsUsed w).any (c.core s).pendingReg then c
  else if hit ≠ 0 then (c.put (Reg.BDP_CORE_STAT_BPHIT s) hit).brkHalt s
  else Chip.settle s (c.pc s) (sem c s i w)

/-- One instruction of logical core `i`'s program: what is due at the boundary first, then the instruction. -/
def Chip.runInstr (c : Chip) (i : Nat) (w : Word) (sem : Sem) : Chip :=
  let s := c.pcore i
  if c.seated i && c.seqRuns s then
    if c.boundaryDue s then c.takeDue s else c.tryInstr s i w sem
  else c

end Sys2Proof.Machine
end

