-- ==== Sys2Proof/Machine/CoreScalar.lean ====
section
/-! DEFINITION. Scalar instructions, local loads and stores, and control flow (R160, R163 to R166). -/

namespace Sys2Proof.Machine

/-! ## Scalar (R163, R164) -/

/-- gD receives a function of gA and gB. -/
def semR (f : Word → Word → Word) : Sem := fun c s _ w => .done (c.setReg s (fD w) (f (c.greg s (fA w)) (c.greg s (fB w))))

/-- gD receives a function of gA and the operand IMM stands for. -/
def semI (f : Word → Word → Word) (imm : Word → Word) : Sem := fun c s _ w => .done (c.setReg s (fD w) (f (c.greg s (fA w)) (imm w)))

/-- IMM zero-extended. -/
def zextI (w : Word) : Word := (w.extractLsb' 0 16).setWidth 32

/-- SHIFTI (R164). -/
def semShifti : Sem := fun c s i w =>
  if fI w / 128 ≠ 0 ∨ fI w / 32 % 4 = 3 then illegal c w
  else
    let f := match fI w / 32 % 4 with | 0 => aluSll | 1 => aluSrl | _ => aluSra
    semI f zextI c s i w

/-- LUI (R164). -/
def semLui : Sem := fun c s _ w => if fA w ≠ 0 then illegal c w else .done (c.setReg s (fD w) (BitVec.ofNat 32 (fI w * 65536)))

/-- TIME (R164, R474). -/
def semTime : Sem := fun c s _ w =>
  if fA w ≠ 0 ∨ 2 ≤ fI w then illegal c w
  else if fI w = 0 then
    .done ((c.modCore s (fun k => { k with timeHi := c.time.extractLsb' 32 16 })).setReg s (fD w) (c.time.extractLsb' 0 32))
  else .done (c.setReg s (fD w) ((c.core s).timeHi.setWidth 32))

/-- ADD (R163). -/
def execAdd (i : CoreId) (d a b : BitVec 5) (s : State) : Host.Outcome State Fault Refusal :=
  act (·.runInstr i.toNat (rWord 0x00 d a b 0) (semR aluAdd)) s

/-- SUB (R163). -/
def execSub (i : CoreId) (d a b : BitVec 5) (s : State) : Host.Outcome State Fault Refusal :=
  act (·.runInstr i.toNat (rWord 0x00 d a b 1) (semR aluSub)) s

/-- AND (R163). -/
def execAnd (i : CoreId) (d a b : BitVec 5) (s : State) : Host.Outcome State Fault Refusal :=
  act (·.runInstr i.toNat (rWord 0x00 d a b 2) (semR aluAnd)) s

/-- OR (R163). -/
def execOr (i : CoreId) (d a b : BitVec 5) (s : State) : Host.Outcome State Fault Refusal :=
  act (·.runInstr i.toNat (rWord 0x00 d a b 3) (semR aluOr)) s

/-- XOR (R163). -/
def execXor (i : CoreId) (d a b : BitVec 5) (s : State) : Host.Outcome State Fault Refusal :=
  act (·.runInstr i.toNat (rWord 0x00 d a b 4) (semR aluXor)) s

/-- SLL (R163). -/
def execSll (i : CoreId) (d a b : BitVec 5) (s : State) : Host.Outcome State Fault Refusal :=
  act (·.runInstr i.toNat (rWord 0x00 d a b 5) (semR aluSll)) s

/-- SRL (R163). -/
def execSrl (i : CoreId) (d a b : BitVec 5) (s : State) : Host.Outcome State Fault Refusal :=
  act (·.runInstr i.toNat (rWord 0x00 d a b 6) (semR aluSrl)) s

/-- SRA (R163). -/
def execSra (i : CoreId) (d a b : BitVec 5) (s : State) : Host.Outcome State Fault Refusal :=
  act (·.runInstr i.toNat (rWord 0x00 d a b 7) (semR aluSra)) s

/-- SLT (R163). -/
def execSlt (i : CoreId) (d a b : BitVec 5) (s : State) : Host.Outcome State Fault Refusal :=
  act (·.runInstr i.toNat (rWord 0x00 d a b 8) (semR aluSlt)) s

/-- SLTU (R163). -/
def execSltu (i : CoreId) (d a b : BitVec 5) (s : State) : Host.Outcome State Fault Refusal :=
  act (·.runInstr i.toNat (rWord 0x00 d a b 9) (semR aluSltu)) s

/-- MUL (R163). -/
def execMul (i : CoreId) (d a b : BitVec 5) (s : State) : Host.Outcome State Fault Refusal :=
  act (·.runInstr i.toNat (rWord 0x00 d a b 10) (semR aluMul)) s

/-- MULH (R163). -/
def execMulh (i : CoreId) (d a b : BitVec 5) (s : State) : Host.Outcome State Fault Refusal :=
  act (·.runInstr i.toNat (rWord 0x00 d a b 11) (semR aluMulh)) s

/-- MULHU (R163). -/
def execMulhu (i : CoreId) (d a b : BitVec 5) (s : State) : Host.Outcome State Fault Refusal :=
  act (·.runInstr i.toNat (rWord 0x00 d a b 12) (semR aluMulhu)) s

/-- MIN (R163). -/
def execMin (i : CoreId) (d a b : BitVec 5) (s : State) : Host.Outcome State Fault Refusal :=
  act (·.runInstr i.toNat (rWord 0x00 d a b 13) (semR aluMin)) s

/-- MAX (R163). -/
def execMax (i : CoreId) (d a b : BitVec 5) (s : State) : Host.Outcome State Fault Refusal :=
  act (·.runInstr i.toNat (rWord 0x00 d a b 14) (semR aluMax)) s

/-- ADDI (R164). -/
def execAddi (i : CoreId) (d a : BitVec 5) (imm : BitVec 16) (s : State) : Host.Outcome State Fault Refusal :=
  act (·.runInstr i.toNat (iWord 0x01 d a imm) (semI aluAdd sextI)) s

/-- ANDI (R164). -/
def execAndi (i : CoreId) (d a : BitVec 5) (imm : BitVec 16) (s : State) : Host.Outcome State Fault Refusal :=
  act (·.runInstr i.toNat (iWord 0x02 d a imm) (semI aluAnd zextI)) s

/-- ORI (R164). -/
def execOri (i : CoreId) (d a : BitVec 5) (imm : BitVec 16) (s : State) : Host.Outcome State Fault Refusal :=
  act (·.runInstr i.toNat (iWord 0x03 d a imm) (semI aluOr zextI)) s

/-- XORI (R164). -/
def execXori (i : CoreId) (d a : BitVec 5) (imm : BitVec 16) (s : State) : Host.Outcome State Fault Refusal :=
  act (·.runInstr i.toNat (iWord 0x04 d a imm) (semI aluXor zextI)) s

/-- SHIFTI (R164). -/
def execShifti (i : CoreId) (d a : BitVec 5) (imm : BitVec 16) (s : State) : Host.Outcome State Fault Refusal :=
  act (·.runInstr i.toNat (iWord 0x05 d a imm) semShifti) s

/-- SLTI (R164). -/
def execSlti (i : CoreId) (d a : BitVec 5) (imm : BitVec 16) (s : State) : Host.Outcome State Fault Refusal :=
  act (·.runInstr i.toNat (iWord 0x06 d a imm) (semI aluSlt sextI)) s

/-- LUI (R164). -/
def execLui (i : CoreId) (d a : BitVec 5) (imm : BitVec 16) (s : State) : Host.Outcome State Fault Refusal :=
  act (·.runInstr i.toNat (iWord 0x07 d a imm) semLui) s

/-- TIME (R164). -/
def execTime (i : CoreId) (d a : BitVec 5) (imm : BitVec 16) (s : State) : Host.Outcome State Fault Refusal :=
  act (·.runInstr i.toNat (iWord 0x1B d a imm) semTime) s

/-! ## Local memory (R160, R165) -/

/-- Where a local access of `n` bytes goes: core registers, a memory, or the cause it raises. -/
inductive Place160 where
  | reg (off : Nat)
  | mem (off : Nat)
  | bad (cause : Nat)

/-- R160 on an address: alignment first (the lower cause), then the regions. -/
def Chip.place160 (c : Chip) (a n : Nat) (store : Bool) : Place160 :=
  if a % n ≠ 0 then .bad MISALIGN
  else if 2 ^ 22 ≤ a then .bad ACCESS
  else if 0x1F0000 ≤ a ∧ a < 0x200000 then (if n = 4 then .reg (a - 0x1F0000) else .bad ACCESS)
  else if c.memOk a n ∧ ¬ (store ∧ progOff ≤ a) then .mem a
  else .bad ACCESS

/-- A load of `n` bytes, extended by `ext`. -/
def semLoad (n : Nat) (ext : Nat → Word) : Sem := fun c s _ w =>
  let a := (c.greg s (fA w) + sextI w).toNat
  match c.place160 a n false with
  | .bad cause => .trap c cause a 0
  | .mem off => .done (c.setReg s (fD w) (ext (c.rdMem (slotMem s off) n)))
  | .reg off =>
    let r := c.coreRegRead s off
    .done (r.1.setReg s (fD w) r.2)

/-- A store of the low `n` bytes of gD. -/
def semStore (n : Nat) : Sem := fun c s _ w =>
  let a := (c.greg s (fA w) + sextI w).toNat
  match c.place160 a n true with
  | .bad cause => .trap c cause a 0
  | .mem off => .done (c.wrMem (slotMem s off) n (c.greg s (fD w)).toNat)
  | .reg off => .done (c.coreRegWrite s off (c.greg s (fD w)) whoOwn)

/-- `n`-bit values extended to a word. -/
def zextN (v : Nat) : Word := BitVec.ofNat 32 v
def sextN (bits v : Nat) : Word := BitVec.ofInt 32 (signed bits v)

/-- LB (R165). -/
def execLb (i : CoreId) (d a : BitVec 5) (imm : BitVec 16) (s : State) : Host.Outcome State Fault Refusal :=
  act (·.runInstr i.toNat (iWord 0x08 d a imm) (semLoad 1 (sextN 8))) s

/-- LBU (R165). -/
def execLbu (i : CoreId) (d a : BitVec 5) (imm : BitVec 16) (s : State) : Host.Outcome State Fault Refusal :=
  act (·.runInstr i.toNat (iWord 0x09 d a imm) (semLoad 1 zextN)) s

/-- LH (R165). -/
def execLh (i : CoreId) (d a : BitVec 5) (imm : BitVec 16) (s : State) : Host.Outcome State Fault Refusal :=
  act (·.runInstr i.toNat (iWord 0x0A d a imm) (semLoad 2 (sextN 16))) s

/-- LHU (R165). -/
def execLhu (i : CoreId) (d a : BitVec 5) (imm : BitVec 16) (s : State) : Host.Outcome State Fault Refusal :=
  act (·.runInstr i.toNat (iWord 0x0B d a imm) (semLoad 2 zextN)) s

/-- LW (R165). -/
def execLw (i : CoreId) (d a : BitVec 5) (imm : BitVec 16) (s : State) : Host.Outcome State Fault Refusal :=
  act (·.runInstr i.toNat (iWord 0x0C d a imm) (semLoad 4 zextN)) s

/-- SB (R165). -/
def execSb (i : CoreId) (d a : BitVec 5) (imm : BitVec 16) (s : State) : Host.Outcome State Fault Refusal :=
  act (·.runInstr i.toNat (iWord 0x0D d a imm) (semStore 1)) s

/-- SH (R165). -/
def execSh (i : CoreId) (d a : BitVec 5) (imm : BitVec 16) (s : State) : Host.Outcome State Fault Refusal :=
  act (·.runInstr i.toNat (iWord 0x0E d a imm) (semStore 2)) s

/-- SW (R165). -/
def execSw (i : CoreId) (d a : BitVec 5) (imm : BitVec 16) (s : State) : Host.Outcome State Fault Refusal :=
  act (·.runInstr i.toNat (iWord 0x0F d a imm) (semStore 4)) s

/-! ## Control flow (R166) -/

/-- The target of a branch or JAL. -/
def target (pc : Nat) (w : Word) : Word := BitVec.ofNat 32 (pc + 4) + (sextI w <<< 2)

/-- Control passes to a target, or ACCESS when it lies at or above 0x1_0000. -/
def goTo (c c' : Chip) (t : Word) : Res := if 0x10000 ≤ t.toNat then .trap c ACCESS t.toNat 0 else .jump c' t.toNat

/-- A branch (R166). -/
def semBranch (p : Word → Word → Bool) : Sem := fun c s _ w =>
  if p (c.greg s (fD w)) (c.greg s (fA w)) then goTo c c (target (c.pc s) w) else .done c

/-- JAL (R166). -/
def semJal : Sem := fun c s _ w =>
  if fA w ≠ 0 then illegal c w
  else goTo c (c.setReg s (fD w) (BitVec.ofNat 32 (c.pc s + 4))) (target (c.pc s) w)

/-- JALR (R166). -/
def semJalr : Sem := fun c s _ w =>
  goTo c (c.setReg s (fD w) (BitVec.ofNat 32 (c.pc s + 4))) ((c.greg s (fA w) + sextI w) &&& ~~~ 3#32)

/-- BEQ (R166). -/
def execBeq (i : CoreId) (d a : BitVec 5) (imm : BitVec 16) (s : State) : Host.Outcome State Fault Refusal :=
  act (·.runInstr i.toNat (iWord 0x10 d a imm) (semBranch brEq)) s

/-- BNE (R166). -/
def execBne (i : CoreId) (d a : BitVec 5) (imm : BitVec 16) (s : State) : Host.Outcome State Fault Refusal :=
  act (·.runInstr i.toNat (iWord 0x11 d a imm) (semBranch brNe)) s

/-- BLT (R166). -/
def execBlt (i : CoreId) (d a : BitVec 5) (imm : BitVec 16) (s : State) : Host.Outcome State Fault Refusal :=
  act (·.runInstr i.toNat (iWord 0x12 d a imm) (semBranch brLt)) s

/-- BGE (R166). -/
def execBge (i : CoreId) (d a : BitVec 5) (imm : BitVec 16) (s : State) : Host.Outcome State Fault Refusal :=
  act (·.runInstr i.toNat (iWord 0x13 d a imm) (semBranch brGe)) s

/-- BLTU (R166). -/
def execBltu (i : CoreId) (d a : BitVec 5) (imm : BitVec 16) (s : State) : Host.Outcome State Fault Refusal :=
  act (·.runInstr i.toNat (iWord 0x14 d a imm) (semBranch brLtu)) s

/-- BGEU (R166). -/
def execBgeu (i : CoreId) (d a : BitVec 5) (imm : BitVec 16) (s : State) : Host.Outcome State Fault Refusal :=
  act (·.runInstr i.toNat (iWord 0x15 d a imm) (semBranch brGeu)) s

/-- JAL (R166). -/
def execJal (i : CoreId) (d a : BitVec 5) (imm : BitVec 16) (s : State) : Host.Outcome State Fault Refusal :=
  act (·.runInstr i.toNat (iWord 0x16 d a imm) semJal) s

/-- JALR (R166). -/
def execJalr (i : CoreId) (d a : BitVec 5) (imm : BitVec 16) (s : State) : Host.Outcome State Fault Refusal :=
  act (·.runInstr i.toNat (iWord 0x17 d a imm) semJalr) s

end Sys2Proof.Machine
end

