-- ==== Sys2Proof/Machine/CoreSystem.lean ====
section
/-! DEFINITION. The instructions that reach beyond the registers (R167 to R183): remote memory, wadis, sync objects,
waiting, the matrix unit, events, halt and return; and what becomes of a request (R116, R168). -/

namespace Sys2Proof.Machine

/-! ## The network interface (R100, R110, R115 to R117, R167) -/


/-- The logical core whose window holds an address. -/
def winCore (a : Nat) : Option Nat := if winBase ≤ a ∧ a < winTop then some ((a - winBase) / 0x400000) else none

/-- A refusal under R110 is counted (R110). -/
def Chip.pathErr (c : Chip) (s st : Nat) : Chip :=
  if st = PATH_ILLEGAL then c.bump (Reg.NI_PATH_ERR_ILLEGAL s) else c.bump (Reg.NI_PATH_ERR_OTHER s)

/-- A path leaves by an edge port (R98). -/
def pathExits (y : Nat) : List Nat → Bool
  | [] => false
  | h :: t => if 4 ≤ h then false else if h = 3 ∧ y = 0 then true else pathExits (if h = 1 then y + 1 else if h = 3 then y - 1 else y) t

/-- Inject a packet of logical core `i` with a checked route (R98, R117). -/
def Chip.inject (c : Chip) (s i cls : Nat) (route : BitVec 48) (dst tag op : Nat) (data : Word) (more : List DWord) : Chip :=
  let k := i / 16
  let exits := pathExits (cy k) ((List.range 16).map (hop route))
  let ep := c.get (Reg.NI_MAP_STAT_EPOCH k)
  let dst := if exits then 0x3FF else dst
  let p : Packet := { hdr := mkHdr route cls false exits (if exits then 0 else c.activeSlot k dst) ep more.length,
                      body := mkFlit1 i dst tag op data :: more }
  (c.put (Reg.NI_STAT_EPOCH s) ep).enter k (i % 16) cls (.packet p)

/-- The path the network interface forms to an address or to a core (R167): XY to a core's cluster, else out of the edge
port of the requester's column. -/
def routeTo (i : Nat) (dst : Option Nat) : BitVec 48 :=
  match dst with
  | some d => routeOf (xyPath (i / 16) (d / 16) 4)
  | none => routeOf (exitPath (i / 16))

/-- A remote access has failed (R168): recorded, gD cleared for RLD, MEMERR due when enabled and `due`. -/
def Chip.remoteFail (c : Chip) (s : Nat) (load : Bool) (reg st : Nat) (a : BitVec 48) : Chip :=
  let c := if load then c.setReg s reg 0 else c
  let c := (c.put (Reg.CORE_MEMERR_STATUS s) st).put (Reg.CORE_MEMERR_ADDR_HI s) (a.toNat / 2 ^ 32)
  let c := (c.bump (Reg.CORE_MEMERR_COUNT s)).wr (Reg.CORE_EINFO s) (BitVec.ofNat 32 a.toNat)
  if c.on (Reg.CORE_CFG_MEMERR_EXC s) then c.modCore s (fun k => { k with due := k.due ++ [(st, a)] }) else c

/-- The 16 data bytes of a request, as two flits (R99). -/
def dataFlits (a size : Nat) (v : Word) : List DWord :=
  let n := v.toNat % 2 ^ (8 * size) * 2 ^ (8 * (a % 16))
  [BitVec.ofNat 64 n, BitVec.ofNat 64 (n / 2 ^ 64)]

/-- The free request tag with the lowest number (R115). -/
def Core.freeTag (k : Core) : Option Nat := (List.range 16).find? (fun t => !k.reqs.any (fun q => q.tag == t))

/-- RLD and RST (R167, R168). -/
def semRemote (load : Bool) : Sem := fun c s i w =>
  let f := fF w
  if f % 4 = 3 ∨ f / 8 ≠ 0 then illegal c w
  else match (c.core s).freeTag with
    | none => .stall c
    | some tag =>
      let hi := c.greg s (fB w)
      let lo := c.greg s (fA w)
      let size := 2 ^ (f % 4)
      let a : BitVec 48 := hi.extractLsb' 0 16 ++ lo
      if wbits hi 31 16 ≠ 0 then illegal c w
      else if a.toNat % size ≠ 0 then .trap c MISALIGN lo.toNat 0
      else
        let dst := winCore a.toNat
        let route := routeTo i dst
        let st := pathCheck c (i / 16) route
        if st ≠ OK then
          let c := c.pathErr s st
          if c.on (Reg.NI_CFG_PATH_EXC s) then
            let c := (c.put (Reg.CORE_MEMERR_STATUS s) st).put (Reg.CORE_MEMERR_ADDR_HI s) (a.toNat / 2 ^ 32)
            .trap (c.bump (Reg.CORE_MEMERR_COUNT s)) PATH w.toNat st
          else .done (c.remoteFail s load (fD w) st a)
        else if !c.room (i / 16) (i % 16) 3 then .stall c
        else
          let q : Request := { tag := tag, load := load, reg := fD w, size := size, signed := bit f 2, addr := a,
                               limit := c.get (Reg.NI_CFG_REQ_TO s), late := false }
          let more := BitVec.ofNat 64 (a.toNat / 2 ^ 32) :: (if load then [] else dataFlits a.toNat size (c.greg s (fD w)))
          let c := c.inject s i 3 route (dst.getD 0x3FF) tag ((if load then 0 else 1) + f % 4 * 2) lo more
          .done ((c.modCore s (fun k => { k with reqs := k.reqs ++ [q] })).tallyCore s 0x25)

def execRld (i : CoreId) (d a b : BitVec 5) (f : BitVec 11) (s : State) : Host.Outcome State Fault Refusal :=
  act (·.runInstr i.toNat (rWord 0x18 d a b f) (semRemote true)) s

def execRst (i : CoreId) (d a b : BitVec 5) (f : BitVec 11) (s : State) : Host.Outcome State Fault Refusal :=
  act (·.runInstr i.toNat (rWord 0x19 d a b f) (semRemote false)) s

/-- A response for request `q` with a status and 16 data bytes (R168). -/
def Chip.requestEnd (c : Chip) (s : Nat) (q : Request) (st : Nat) (data : Nat) : Chip :=
  if st = OK then
    if q.load then
      let v := data / 2 ^ (8 * (q.addr.toNat % 16)) % 2 ^ (8 * q.size)
      c.setReg s q.reg (if q.signed then sextN (8 * q.size) v else zextN v)
    else c
  else c.remoteFail s q.load q.reg st q.addr

/-- MEMRSP_ARRIVE (R168): the oldest response delivered to a slot completes its request, or is discarded as late (R116). -/
def execMemrspArrive (s : PCore) (st : State) : Host.Outcome State Fault Refusal :=
  act (fun c =>
    let s := s.toNat
    c.takeArrived s 4 (fun c p =>
      match (c.core s).reqs.find? (fun q => q.tag == p.tag) with
      | none => c
      | some q =>
        let c := c.modCore s (fun k => { k with reqs := k.reqs.filter (fun x => x.tag != p.tag) })
        if q.late then c.bump (Reg.NI_TIMEOUT_CNT_NI_LATE_RSP s)
        else c.requestEnd s q p.op ((p.flit 2).toNat + (p.flit 3).toNat * 2 ^ 64))) st

/-- REQUEST_TIMEOUT (R116): the request completes with ERR_TIMEOUT and keeps its tag; a sampled REQ_TO of 0 never does. -/
def execRequestTimeout (s : PCore) (tag : BitVec 4) (st : State) : Host.Outcome State Fault Refusal :=
  act (fun c =>
    let s := s.toNat
    match (c.core s).reqs.find? (fun q => q.tag == tag.toNat && !q.late && q.limit != 0) with
    | none => c
    | some q =>
      let c := c.modCore s (fun k => { k with reqs := k.reqs.map (fun x => if x.tag = q.tag then { x with late := true } else x) })
      (c.bump (Reg.NI_TIMEOUT_CNT_COUNT s)).requestEnd s q ERR_TIMEOUT 0) st

/-- MFENCE (R169). -/
def semMfence : Sem := fun c s _ w =>
  if w.toNat % 2 ^ 26 ≠ 0 then illegal c w else if (c.core s).outstanding then .stall c else .done c

def execMfence (i : CoreId) (rest : BitVec 26) (s : State) : Host.Outcome State Fault Refusal :=
  act (·.runInstr i.toNat ((0x1A#6) ++ rest) semMfence) s

/-! ## Wadis (R170 to R172, R212) -/

/-- `n` registers from `r` on. -/
def Chip.gregs (c : Chip) (s r n : Nat) : List Word := (List.range n).map (fun j => c.greg s (r + j))

/-- The packet of a tuple enters the mesh (R99, R212). -/
def Chip.sendTuple (c : Chip) (s i port : Nat) (route : BitVec 48) (ws : List Word) : Chip :=
  let n := ws.length
  let wadi := c.get (Reg.WADI_SPORT_CFG_WADI s port)
  let more : List DWord := if n = 1 then [] else if n ≤ 3 then [ws.getD 2 0 ++ ws.getD 1 0]
    else [ws.getD 2 0 ++ ws.getD 1 0, (0#32) ++ ws.getD 3 0]
  let c := c.put (Reg.WADI_SPORT_STAT_CRED s port) (c.get (Reg.WADI_SPORT_STAT_CRED s port) - n)
  (c.inject s i 1 route (wadi / 4) 0 (wadi % 4 + (n - 1) * 4 + port * 16) (ws.getD 0 0) more).tallyCore s 0x22

/-- The route bound to a send port (R210). -/
def Chip.sportRoute (c : Chip) (s port : Nat) : BitVec 48 :=
  BitVec.ofNat 16 (c.get (Reg.WADI_SPORT_ROUTE_HI_ROUTE_HI s port)) ++ c.rd (Reg.WADI_SPORT_ROUTE_LO s port)

/-- A status written into gD. -/
def withStatus (c : Chip) (s : Nat) (w : Word) (st : Nat) : Chip := c.setReg s (fD w) (BitVec.ofNat 32 st)

/-- SEND and TRYSEND (R170, R212). -/
def semSend (try_ : Bool) : Sem := fun c s i w =>
  let f := fF w
  let port := f % 16
  let n := f / 16 % 4 + 1
  if f / 128 ≠ 0 ∨ 32 < fA w + n then illegal c w
  else if !c.on (Reg.WADI_SPORT_CFG_BOUND s port) then .done (withStatus c s w ERR_PARAM)
  else if c.on (Reg.WADI_SPORT_STAT_ORPHAN s port) then
    let c := withStatus c s w ERR_FENCED
    if c.on (Reg.CORE_CFG_ORPHAN_EXC s) then .trap c ORPHAN w.toNat ERR_FENCED else .done c
  else if c.get (Reg.WADI_SPORT_CFG_CREDITS s port) < n then .done (withStatus c s w ERR_PARAM)
  else if c.get (Reg.WADI_SPORT_STAT_CRED s port) < n then
    if try_ then .done (withStatus c s w ERR_BUSY) else .stall c
  else
    let route := c.sportRoute s port
    let st := pathCheck c (i / 16) route
    if st ≠ OK then
      let c := withStatus (c.pathErr s st) s w st
      if c.on (Reg.NI_CFG_PATH_EXC s) then .trap c PATH w.toNat st else .done c
    else if !c.room (i / 16) (i % 16) 1 then .stall c
    else .done (withStatus (c.sendTuple s i port route (c.gregs s (fA w) n)) s w OK)

/-- FUNCT with bit 6 as the mnemonic has it. -/
def sendFunct (f : BitVec 11) (try_ : Bool) : BitVec 11 := if try_ then f ||| 0x40#11 else f &&& ~~~ 0x40#11

def execSend (i : CoreId) (d a b : BitVec 5) (f : BitVec 11) (s : State) : Host.Outcome State Fault Refusal :=
  act (·.runInstr i.toNat (rWord 0x20 d a b (sendFunct f false)) (semSend false)) s

def execTrysend (i : CoreId) (d a b : BitVec 5) (f : BitVec 11) (s : State) : Host.Outcome State Fault Refusal :=
  act (·.runInstr i.toNat (rWord 0x20 d a b (sendFunct f true)) (semSend true)) s

/-- Words written to a run of registers. -/
def Chip.setRegs (c : Chip) (s r : Nat) : List Word → Chip
  | [] => c
  | w :: ws => Chip.setRegs (c.setReg s r w) s (r + 1) ws

/-- The status word of RECV (R171). -/
def recvStatus (st len port : Nat) : Word := BitVec.ofNat 32 (st + len * 256 + port * 4096)

/-- RECV (R171, R206, R225). -/
def semRecv : Sem := fun c s _ w =>
  let f := fF w
  let q := f % 4
  let n := f / 4 % 4 + 1
  if f / 512 ≠ 0 ∨ 32 < fD w + n ∨ (fD w ≤ fA w ∧ fA w < fD w + n) then illegal c w
  else
    let put := fun (c : Chip) (v : Word) => c.setReg s (fA w) v
    if c.isRQueue s q then .done (put c (recvStatus ERR_PARAM 0 0))
    else if !c.queueOpen s q then .done (put c (recvStatus ERR_NOT_READY 0 0))
    else match (c.core s).queue q with
      | t :: _ =>
        if t.words.length ≤ n then
          .done (put (((c.setRegs s (fD w) t.words).takeTuple s q).tallyCore s 0x23) (recvStatus OK t.words.length t.port))
        else .done (put c (recvStatus ERR_PARAM t.words.length t.port))
      | [] =>
        if bit f 4 then .done (put c (recvStatus ERR_BUSY 0 0))
        else if bit f 5 && c.satisfied s (f / 64 % 8) then .done (put c (recvStatus ERR_TIMEOUT 0 0))
        else .stall c

def execRecv (i : CoreId) (d a b : BitVec 5) (f : BitVec 11) (s : State) : Host.Outcome State Fault Refusal :=
  act (·.runInstr i.toNat (rWord 0x21 d a b f) semRecv) s

/-- WARM (R172, R216). -/
def semWarm : Sem := fun c s _ w =>
  if w.toNat % 2 ^ 26 / 16 ≠ 0 then illegal c w
  else .done ((List.range 4).foldl (fun c q => if bit (fF w) q then c.set (Reg.WADI_Q_STAT_STATE s q) else c) c)

def execWarm (i : CoreId) (d a b : BitVec 5) (f : BitVec 11) (s : State) : Host.Outcome State Fault Refusal :=
  act (·.runInstr i.toNat (rWord 0x22 d a b f) semWarm) s

/-! ## Sync objects (R173, R174) -/

/-- SOP (R173). -/
def semSop : Sem := fun c s i w =>
  let op := fF w % 4
  let obj := c.greg s (fA w)
  let x := c.greg s (fB w)
  if op = 3 ∨ fF w / 4 ≠ 0 ∨ wbits obj 31 13 ≠ 0 then illegal c w
  else
    let dst := obj.toNat / 8
    let c0 := c.tallyCore s 0x24
    if dst = i then .done (withStatus (c0.syncOp s (obj.toNat % 8) op x.toNat) s w OK)
    else
      let route := routeTo i (some dst)
      let st := pathCheck c (i / 16) route
      if st ≠ OK then
        let c := withStatus (c0.pathErr s st) s w st
        if c.on (Reg.NI_CFG_PATH_EXC s) then .trap c PATH w.toNat st else .done c
      else if !c.room (i / 16) (i % 16) 2 then .stall c
      else .done (withStatus (c0.inject s i 2 route dst 0 (obj.toNat % 8 + op * 8) x []) s w OK)

def execSop (i : CoreId) (d a b : BitVec 5) (f : BitVec 11) (s : State) : Host.Outcome State Fault Refusal :=
  act (·.runInstr i.toNat (rWord 0x23 d a b f) semSop) s

/-- SWAIT (R174, R225, R228). -/
def semSwait : Sem := fun c s _ w =>
  let f := fF w
  if f / 128 ≠ 0 then illegal c w
  else if c.satisfied s (f % 8) then
    let v := BitVec.ofNat 32 (c.syncValue s (f % 8))
    .done (((c.consume s (f % 8)).setReg s (fD w) v).setReg s (fA w) 0)
  else if bit f 3 && c.satisfied s (f / 16 % 8) then .done (c.setReg s (fA w) (BitVec.ofNat 32 ERR_TIMEOUT))
  else .stall c

def execSwait (i : CoreId) (d a b : BitVec 5) (f : BitVec 11) (s : State) : Host.Outcome State Fault Refusal :=
  act (·.runInstr i.toNat (rWord 0x24 d a b f) semSwait) s

/-! ## Waiting for work (R175) -/

/-- The sources that are ready, as WFE's mask numbers them (R175, R206). -/
def Chip.readyMask (c : Chip) (s i : Nat) : Nat :=
  let q := (List.range 4).foldl (fun m q => if c.queueOpen s q && !((c.core s).queue q).isEmpty && !c.isRQueue s q then m + 2 ^ q else m) 0
  let o := (List.range 8).foldl (fun m j => if c.satisfied s j then m + 2 ^ (4 + j) else m) 0
  q + o + (if c.mxBusy s i then 0 else 2 ^ 12)

/-- WFE (R175). With gA = 0 it names no source and raises ILLEGAL at once; the reserved bits of gA are checked when it would
take effect, after its wait (R162). -/
def semWfe : Sem := fun c s i w =>
  let m := c.greg s (fA w)
  let r := m &&& BitVec.ofNat 32 (c.readyMask s i)
  if m = 0 then illegal c w
  else if r = 0 then .stall c
  else if wbits m 31 13 ≠ 0 then illegal c w
  else .done (c.setReg s (fD w) r)

def execWfe (i : CoreId) (d a b : BitVec 5) (f : BitVec 11) (s : State) : Host.Outcome State Fault Refusal :=
  act (·.runInstr i.toNat (rWord 0x25 d a b f) semWfe) s

/-! ## Matrix unit and neuron engine (R176 to R180) -/

/-- MXPASS (R176, R177); one that waits behind a Dune slice is pending inference work (R32). -/
def semMxpass : Sem := fun c s i w =>
  if fF w / 2 ≠ 0 then illegal c w
  else if (c.core s).slice then .stall (c.modCore s (fun k => { k with mxWait := some (c.pc s) }))
  else if c.mxStalls s i then .stall c
  else
    let ga := c.greg s (fA w)
    let gb := c.greg s (fB w)
    let gd := c.greg s (fD w)
    if wbits ga 15 14 ≠ 0 ∨ wbits gb 31 16 ≠ 0 ∨ wbits gd 31 19 ≠ 0 then illegal c w
    else
      let m : MxArgs := { range := wbits ga 4 0, block := wbits ga 13 5, steps := wbits ga 31 16, row := wbits gb 15 0,
                          area := wbits gd 18 0, gang := bit (fF w) 0 }
      if c.mxOk s i m then .done (c.mxStart s i m) else .trap c MXCFG w.toNat 0

def execMxpass (i : CoreId) (d a b : BitVec 5) (f : BitVec 11) (s : State) : Host.Outcome State Fault Refusal :=
  act (·.runInstr i.toNat (rWord 0x28 d a b f) semMxpass) s

/-- MXWAIT (R178). -/
def semMxwait : Sem := fun c s i w =>
  if w.toNat % 2 ^ 26 ≠ 0 then illegal c w else if c.mxBusy s i then .stall c else .done c

def execMxwait (i : CoreId) (rest : BitVec 26) (s : State) : Host.Outcome State Fault Refusal :=
  act (·.runInstr i.toNat ((0x29#6) ++ rest) semMxwait) s

/-- EVSEND (R179). -/
def semEvsend : Sem := fun c s _ w =>
  let f := fF w
  if f / 4 ≠ 0 ∨ f % 4 = 0 then illegal c w
  else if !(c.core s).emitRoom (f % 4) then .stall c
  else
    let gb := c.greg s (fB w)
    if wbits gb 31 13 ≠ 0 ∨ c.lanes s ≤ wbits gb 12 8 then illegal c w
    else .done (c.emitTo s (f % 4) (mkEvent (c.greg s (fA w)) (gb.extractLsb' 0 8) (wbits gb 12 8) (tagOf c.time)))

def execEvsend (i : CoreId) (d a b : BitVec 5) (f : BitVec 11) (s : State) : Host.Outcome State Fault Refusal :=
  act (·.runInstr i.toNat (rWord 0x2A d a b f) semEvsend) s

/-- NEHOLD (R180): FUNCT[0] tells the request from the release; the other fields must be 0. -/
def semNehold : Sem := fun c s _ w =>
  if w.toNat % 2 ^ 26 / 2 ≠ 0 then illegal c w
  else if bit (fF w) 0 then
    if (c.core s).pass.isSome then .stall (c.modCore s (fun k => { k with holdReq := true }))
    else .done ((c.modCore s (fun k => { k with holdReq := false })).set (Reg.CORE_STAT_HOLD s))
  else .done ((c.modCore s (fun k => { k with holdReq := false })).clr (Reg.CORE_STAT_HOLD s))

def execNehold (i : CoreId) (d a b : BitVec 5) (f : BitVec 11) (s : State) : Host.Outcome State Fault Refusal :=
  act (·.runInstr i.toNat (rWord 0x2B d a b (f ||| 1#11)) semNehold) s

def execNeholdRelease (i : CoreId) (d a b : BitVec 5) (f : BitVec 11) (s : State) : Host.Outcome State Fault Refusal :=
  act (·.runInstr i.toNat (rWord 0x2B d a b (f &&& ~~~ 1#11)) semNehold) s

/-! ## Halt, return, break (R181 to R183) -/

/-- HALT (R181). -/
def semHalt : Sem := fun c s _ w =>
  if (c.core s).outstanding then .stall c else .halt (c.put (Reg.CORE_STAT_HALT_CODE s) (fI w))

def execHalt (i : CoreId) (d a : BitVec 5) (imm : BitVec 16) (s : State) : Host.Outcome State Fault Refusal :=
  act (·.runInstr i.toNat (iWord 0x30 d a imm) semHalt) s

/-- ERET (R182). -/
def semEret : Sem := fun c s _ w =>
  if w.toNat % 2 ^ 26 ≠ 0 ∨ !c.on (Reg.CORE_STAT_INEXC s) then illegal c w
  else .jump (c.clr (Reg.CORE_STAT_INEXC s)) (c.get (Reg.CORE_EPC_EPC s) / 4 * 4)

def execEret (i : CoreId) (rest : BitVec 26) (s : State) : Host.Outcome State Fault Refusal :=
  act (·.runInstr i.toNat ((0x31#6) ++ rest) semEret) s

/-- BRK (R183). -/
def semBrk : Sem := fun c s _ w =>
  if c.on (Reg.BDP_CORE_STAT_DBG_EN s) then .debug c else .trap c BREAK (fI w) 0

def execBrk (i : CoreId) (d a : BitVec 5) (imm : BitVec 16) (s : State) : Host.Outcome State Fault Refusal :=
  act (·.runInstr i.toNat (iWord 0x32 d a imm) semBrk) s

/-! ## Decoding a word of program memory (R162, the encoding summary), for a step of the debugger (R440) -/

/-- The ALU operation FUNCT selects (R163). -/
def aluOf (f : Nat) : Option Sem :=
  ([semR aluAdd, semR aluSub, semR aluAnd, semR aluOr, semR aluXor, semR aluSll, semR aluSrl, semR aluSra, semR aluSlt,
    semR aluSltu, semR aluMul, semR aluMulh, semR aluMulhu, semR aluMin, semR aluMax] : List Sem)[f]?

/-- The meaning of an instruction word; an undefined OP or FUNCT raises ILLEGAL (R162). -/
def semOf (w : Word) : Sem :=
  match fOp w with
  | 0x00 => (aluOf (fF w)).getD (fun c _ _ w => illegal c w)
  | 0x01 => semI aluAdd sextI
  | 0x02 => semI aluAnd zextI
  | 0x03 => semI aluOr zextI
  | 0x04 => semI aluXor zextI
  | 0x05 => semShifti
  | 0x06 => semI aluSlt sextI
  | 0x07 => semLui
  | 0x08 => semLoad 1 (sextN 8)
  | 0x09 => semLoad 1 zextN
  | 0x0A => semLoad 2 (sextN 16)
  | 0x0B => semLoad 2 zextN
  | 0x0C => semLoad 4 zextN
  | 0x0D => semStore 1
  | 0x0E => semStore 2
  | 0x0F => semStore 4
  | 0x10 => semBranch brEq
  | 0x11 => semBranch brNe
  | 0x12 => semBranch brLt
  | 0x13 => semBranch brGe
  | 0x14 => semBranch brLtu
  | 0x15 => semBranch brGeu
  | 0x16 => semJal
  | 0x17 => semJalr
  | 0x18 => semRemote true
  | 0x19 => semRemote false
  | 0x1A => semMfence
  | 0x1B => semTime
  | 0x20 => semSend (bit (fF w) 6)
  | 0x21 => semRecv
  | 0x22 => semWarm
  | 0x23 => semSop
  | 0x24 => semSwait
  | 0x25 => semWfe
  | 0x28 => semMxpass
  | 0x29 => semMxwait
  | 0x2A => semEvsend
  | 0x2B => semNehold
  | 0x30 => semHalt
  | 0x31 => semEret
  | 0x32 => semBrk
  | _ => fun c _ _ w => illegal c w

/-- The word in program memory at the PC of slot `s`. -/
def Chip.fetched (c : Chip) (s : Nat) : Word := BitVec.ofNat 32 (c.rdMem (slotMem s (progOff + c.pc s)) 4)

/-- The outcome of an instruction is an exception. -/
def Res.isTrap : Res → Bool
  | .trap _ _ _ _ => true
  | _ => false

/-- EXCEPTION_ENTRY (R188, R189): what is due at the instruction boundary of a core, or the exception that the word at its PC
raises, an undefined OP or FUNCT among them (R162). -/
def execExceptionEntry (i : CoreId) (st : State) : Host.Outcome State Fault Refusal :=
  act (fun c =>
    let s := c.pcore i.toNat
    let w := c.fetched s
    if (c.seated i.toNat && c.seqRuns s && c.boundaryDue s) || (semOf w c s i.toNat w).isTrap then c.runInstr i.toNat w (semOf w) else c) st

end Sys2Proof.Machine
end

