-- ==== Sys2Proof/Machine/Buffers.lean ====
section
/-! DEFINITION. The buffer manager (R275 to R278): allocation with and without waiting, frees, waiters and their
timeouts, pool configuration. Which free buffer a pool gives is left open by the spec: a free value (log 7). -/

namespace Sys2Proof.Machine

def Chip.pool (c : Chip) (p : Nat) : Pool := smGet Pool.init c.pools p

/-- BUF_POOL_STAT follows the pool. -/
def Chip.setPool (c : Chip) (p : Nat) (x : Pool) : Chip :=
  let c := { c with pools := smSet c.pools p x }
  (c.put (Reg.BUF_POOL_STAT_FREE p) (c.get (Reg.BUF_POOL_CFG_COUNT p) - x.taken.length)).put (Reg.BUF_POOL_STAT_WAITERS p) x.waiters.length

def Chip.poolOn (c : Chip) (p : Nat) : Bool := c.on (Reg.BUF_POOL_CFG_EN p)

/-- Free buffers of a pool. -/
def Chip.poolFree (c : Chip) (p : Nat) : Nat := c.get (Reg.BUF_POOL_CFG_COUNT p) - (c.pool p).taken.length

/-- Take a free buffer: any one of them. -/
def Chip.takeBuffer (c : Chip) (p : Nat) : Chip × Nat :=
  let x := c.pool p
  let free := (List.range (c.get (Reg.BUF_POOL_CFG_COUNT p))).filter (fun i => !x.taken.contains i)
  let i := free.getD ((Config.freeWord c.fresh).toNat % free.length) 0
  (({ c with fresh := c.fresh + 1 } : Chip).setPool p { x with taken := i :: x.taken }, i)

/-- The handle of buffer `i` of pool `p` (R275). -/
def handleOf (p i : Nat) : Nat := i % 65536 + p % 4 * 65536

/-- A grant at a read by `port` (R276, R277). -/
def Chip.grantRead (c : Chip) (p port : Nat) : Chip × Word :=
  let r := c.takeBuffer p
  (r.1.put (Reg.BUF_POOL_STAT_PTR p) ((port + 1) % 14), BitVec.ofNat 32 (handleOf p r.2))

def emptyResult : Word := 0x40000000#32
def queuedResult : Word := 0x80000000#32

/-- A read of BUF_POOL_ALLOC (R276, R277). -/
def Chip.alloc (c : Chip) (p port : Nat) : Chip × Word :=
  if c.poolOn p ∧ (c.pool p).waiters = [] ∧ 0 < c.poolFree p then c.grantRead p port else (c, emptyResult)

/-- A read of BUF_POOL_WALLOC (R276 to R278). -/
def Chip.walloc (c : Chip) (p port : Nat) : Chip × Word :=
  let x := c.pool p
  if c.poolOn p = false then (c, emptyResult)
  else if x.waiters.contains port then (c, queuedResult)
  else if x.waiters = [] ∧ 0 < c.poolFree p then c.grantRead p port
  else if x.waiters.length < 8 then (c.setPool p { x with waiters := x.waiters ++ [port] }, queuedResult)
  else (c.bump Reg.BUF_ERR_WOVF, emptyResult)

/-- Post a grant in the port's BUF_GRANT (R278). -/
def Chip.postGrant (c : Chip) (m h : Nat) (timeout : Bool) : Chip :=
  ((c.put (Reg.BUF_GRANT_HANDLE m) h).put (Reg.BUF_GRANT_TIMEOUT m) timeout.toNat).set (Reg.BUF_GRANT_VALID m)

/-- A free buffer goes to the oldest waiter (R278). -/
def Chip.serveWaiter (c : Chip) (p : Nat) : Chip :=
  let x := c.pool p
  match x.waiters with
  | m :: t =>
    if 0 < c.poolFree p then
      let r := (c.setPool p { x with waiters := t }).takeBuffer p
      let c := r.1.postGrant m (handleOf p r.2) false
      c.put Reg.BUF_IRQ_STATUS_GRANT (c.get Reg.BUF_IRQ_STATUS_GRANT ||| 2 ^ m)
    else c
  | [] => c

/-- A write to BUF_FREE (R276). -/
def Chip.bufFree (c : Chip) (h : Nat) : Chip :=
  let p := h / 65536 % 4
  let i := h % 65536
  let x := c.pool p
  if i < c.get (Reg.BUF_POOL_CFG_COUNT p) ∧ x.taken.contains i then
    (c.setPool p { x with taken := x.taken.erase i }).serveWaiter p
  else c.bump Reg.BUF_ERR_DFREE

/-- A waiter leaves with TIMEOUT (R278). -/
def Chip.dropWaiter (c : Chip) (p m : Nat) : Chip :=
  let x := c.pool p
  (c.setPool p { x with waiters := x.waiters.erase m }).postGrant m 0 true

/-- A write to BUF_POOL_CFG (R275, R278): sizes and counts out of range leave their field; setting EN frees every buffer,
clearing it times the waiters out. -/
def Chip.poolCfgWrite (c : Chip) (p : Nat) (v : Word) : Chip :=
  if c.poolOn p then
    if v.getLsbD 22 then c
    else (c.pool p).waiters.foldl (fun c m => c.dropWaiter p m) (c.clr (Reg.BUF_POOL_CFG_EN p))
  else
    let size := wbits v 4 0
    let count := wbits v 21 5
    let c := if 6 ≤ size ∧ size ≤ 16 then c.put (Reg.BUF_POOL_CFG_SIZE_LOG2 p) size else c
    let c := if count ≤ 65536 then c.put (Reg.BUF_POOL_CFG_COUNT p) count else c
    if v.getLsbD 22 then (c.set (Reg.BUF_POOL_CFG_EN p)).setPool p Pool.init else c

/-- What a read by a command shows outside. -/
def Chip.showRead (r : Chip × Word) : Chip := r.1.emit (.readData (natToBytes 4 r.2.toNat) false)

/-- BUF_POOL_ALLOC (R276): a read by master `port`. -/
def execBufPoolAlloc (p : BitVec 2) (port : BitVec 4) (s : State) : Host.Outcome State Fault Refusal :=
  actIf (port.toNat < 14) "BUF_POOL_ALLOC" (fun c => Chip.showRead (c.alloc p.toNat port.toNat)) s

/-- BUF_POOL_WALLOC (R278). -/
def execBufPoolWalloc (p : BitVec 2) (port : BitVec 4) (s : State) : Host.Outcome State Fault Refusal :=
  actIf (port.toNat < 14) "BUF_POOL_WALLOC" (fun c => Chip.showRead (c.walloc p.toNat port.toNat)) s

/-- BUF_FREE (R278). -/
def execBufFree (h : BitVec 18) (s : State) : Host.Outcome State Fault Refusal := act (·.bufFree h.toNat) s

/-- WAITER_TIMEOUT (R278): a WAIT_TO of 0 never expires. -/
def execWaiterTimeout (p : BitVec 2) (port : BitVec 4) (s : State) : Host.Outcome State Fault Refusal :=
  act (fun c =>
    if c.get (Reg.BUF_POOL_WAIT_TO_TO p.toNat) ≠ 0 ∧ (c.pool p.toNat).waiters.contains port.toNat then c.dropWaiter p.toNat port.toNat
    else c) s

/-- BUF_POOL_CFG_WRITE (R275). -/
def execBufPoolCfgWrite (p : BitVec 2) (v : Word) (s : State) : Host.Outcome State Fault Refusal :=
  act (·.poolCfgWrite p.toNat v) s

end Sys2Proof.Machine
end

