-- ==== Sys2Proof/Machine/Bandwidth.lean ====
section
/-! DEFINITION. DRAM channels and bandwidth guarantees (R267 to R274): which channels are in use, the deliverable figure and
the admission cap, admission of reservations, shedding; and the commands of this family. -/

namespace Sys2Proof.Machine

/-! ## Channels (R268) -/

/-- Channel `ch` is in use: trained, with DRAM, and of equal capacity with channel 0. -/
def Chip.chanUsed (c : Chip) (ch : Nat) : Bool :=
  ch < c.drams && c.on (Reg.DDR_STAT_TRAINED ch) && c.get (Reg.DDR_CFG_CAP_GIB ch) != 0 &&
  (ch == 0 || c.get (Reg.DDR_CFG_CAP_GIB ch) == c.get (Reg.DDR_CFG_CAP_GIB 0))

def Chip.chansUsed (c : Chip) : List Nat := [0, 1].filter c.chanUsed

/-- Usable capacity in bytes: 7/8 of the sum with inline ECC. -/
def Chip.usable (c : Chip) : Nat :=
  let sum := (c.chansUsed.map (fun ch => c.get (Reg.DDR_CFG_CAP_GIB ch) * 2 ^ 30)).foldl (· + ·) 0
  if c.on (Reg.DDR_CFG_IECC 0) then sum / 8 * 7 else sum

/-- The channel that serves an address: bit [8] selects when two are in use. -/
def Chip.chanOf (c : Chip) (a : Nat) : Nat :=
  match c.chansUsed with
  | [0, 1] => a / 256 % 2
  | ch :: _ => ch
  | [] => 0

/-! ## D and C (R270) -/

/-- MT/s of a rate code. -/
def rateOf (code : Nat) : Nat := if code = 0 then 6400 else if code = 1 then 7500 else 8533

/-- What a channel delivers, in units of 1/16 MB/s: rate × 8 bytes × f. -/
def Chip.chanDelivers (c : Chip) (ch : Nat) : Nat :=
  rateOf (if c.on (Reg.DDR_STAT_FSP ch) then c.get (Reg.DDR_CFG_DERATE_RATE ch) else c.get (Reg.DDR_CFG_RATE ch)) * 8 *
  (if c.on (Reg.DDR_STAT_REFX2 ch) then 13 else 14)

def Chip.deliverable (c : Chip) : Nat := (c.chansUsed.map c.chanDelivers).foldl (· + ·) 0 / 16000

/-- The admission cap. -/
def capOf (d : Nat) : Nat := d * 4 / 5

/-! ## Reservations (R271 to R274) -/

def Chip.resOf (c : Chip) (n : Nat) : Nat := c.get (Reg.BW_RES_GBPS n)
def Chip.isShed (c : Chip) (n : Nat) : Bool := c.on (Reg.BW_RES_SHED n)

/-- The sum of the reservations that are not shed, but for class `skip`. -/
def Chip.resSum (c : Chip) (skip : Nat := 5) : Nat :=
  ((List.range 5).filter (fun n => n != skip && !c.isShed n)).foldl (fun a n => a + c.resOf n) 0

/-- BW_STAT.SUM and SHED_MASK follow the reservations. -/
def Chip.bwStat (c : Chip) : Chip :=
  (c.put Reg.BW_STAT_SUM c.resSum).put Reg.BW_STAT_SHED_MASK ((List.range 5).foldl (fun m n => if c.isShed n then m + 2 ^ n else m) 0)

/-- Shed one class (R274). -/
def Chip.shed (c : Chip) (n : Nat) : Chip :=
  let c := c.set (Reg.BW_RES_SHED n)
  let c := c.put Reg.BW_IRQ_STATUS_SHED (c.get Reg.BW_IRQ_STATUS_SHED ||| 2 ^ n)
  (c.tallyChip 0x8D).notify 0x0007 SHED n (c.get Reg.BW_DELIV_D) (c.get Reg.BW_DELIV_C)

/-- D and C anew (R270); when D falls, classes are shed in order until the sum is within C (R274). -/
def Chip.bwRecompute (c : Chip) : Chip :=
  let old := c.get Reg.BW_DELIV_D
  let d := c.deliverable
  let c := (c.put Reg.BW_DELIV_D d).put Reg.BW_DELIV_C (capOf d)
  let c := if d < old then
      [1, 2, 3, 4].foldl (fun c n => if c.resSum > capOf d ∧ c.resOf n ≠ 0 ∧ c.isShed n = false then c.shed n else c) c
    else c
  c.bwStat

/-- A write of a reservation is admitted (R272). -/
def Chip.bwAdmits (c : Chip) (n v : Nat) : Bool := v == 0 || c.resSum n + v ≤ c.get Reg.BW_DELIV_C

/-- A write to BW_RES_n (R272). -/
def Chip.bwResWrite (c : Chip) (n : Nat) (v : Word) : Chip :=
  let v := wbits v 7 0
  if c.bwAdmits n v then ((c.put (Reg.BW_RES_GBPS n) v).clr (Reg.BW_RES_SHED n)).bwStat
  else c.set Reg.BW_STAT_ADMIT_ERR

/-- BW_RES_WRITE (R272); there is no sixth class (R9). -/
def execBwResWrite (n : BitVec 3) (v : Word) (s : State) : Host.Outcome State Fault Refusal :=
  act (fun c => if n.toNat < 5 then c.bwResWrite n.toNat v else c) s

/-! ## The channels at work (R269, R270) -/

/-- DDR_TRACK_PASS (R269): a pass takes time and leaves nothing behind; a PERIOD of 0 makes none. -/
def execDdrTrackPass (_ch : BitVec 1) (s : State) : Host.Outcome State Fault Refusal := act id s

/-- DDR_REFRESH_CHANGE (R270): MR4 reads a code, which calls for a doubled rate or not. -/
def execDdrRefreshChange (ch : BitVec 1) (mr4 : BitVec 3) (doubled : Bool) (s : State) : Host.Outcome State Fault Refusal :=
  act (fun c =>
    let ch := ch.toNat
    if ch < c.drams then
      let was := c.on (Reg.DDR_STAT_REFX2 ch)
      let c := (c.put (Reg.DDR_STAT_MR4 ch) mr4.toNat).put (Reg.DDR_STAT_REFX2 ch) doubled.toNat
      if was = doubled then c else (c.set (Reg.DDR_IRQ_STATUS_REFX2 ch)).bwRecompute
    else c) s

/-- DDR_SETPOINT_SWITCH (R270): FSP1 while MR4 reports a temperature above the limit or the thermal derating asks for it,
FSP0 once neither does. -/
def execDdrSetpointSwitch (ch : BitVec 1) (hot : Bool) (s : State) : Host.Outcome State Fault Refusal :=
  act (fun c =>
    let ch := ch.toNat
    let fsp := hot || c.power.ddrRequest
    if ch < c.drams ∧ c.on (Reg.DDR_STAT_FSP ch) ≠ fsp then
      ((c.put (Reg.DDR_STAT_FSP ch) fsp.toNat).set (Reg.DDR_IRQ_STATUS_DERATE ch)).bwRecompute
    else c) s

/-- A write to DDR_CFG: a rate code of 3 leaves its field unchanged. -/
def ddrCfgValue (old v : Word) : Word :=
  let v := if wbits v 1 0 = 3 then wset v 1 0 (wbits old 1 0) else v
  if wbits v 3 2 = 3 then wset v 3 2 (wbits old 3 2) else v

end Sys2Proof.Machine
end

