-- ==== Sys2Proof/Machine/Binary64.lean ====
section
/-! DEFINITION. Binary64 and binary32 as the Dune engine's firmware uses them (R233, R234, R248): a number is a whole number
times a power of two, and each operation rounds once to 53 bits, to nearest with ties to even. -/

namespace Sys2Proof.Machine

/-- A number m × 2^e. -/
abbrev Dy := Int × Int

/-- Rounded to 53 significant bits. -/
def Dy.round (x : Dy) : Dy := (onMag (roundSig 53) x.1, x.2)

/-- The whole number of `x` in units of 2^e, for an `e` no greater than its own. -/
def Dy.at (x : Dy) (e : Int) : Int := x.1 * 2 ^ (x.2 - e).toNat

def Dy.add (x y : Dy) : Dy :=
  let e := min x.2 y.2
  Dy.round (Dy.at x e + Dy.at y e, e)

def Dy.mul (x y : Dy) : Dy := Dy.round (x.1 * y.1, x.2 + y.2)

/-- Whether `x` is smaller than `y`. -/
def Dy.lt (x y : Dy) : Bool :=
  let e := min x.2 y.2
  Dy.at x e < Dy.at y e

/-- The quotient of two positive magnitudes with at least 56 bits, its last bit set when it is not exact. -/
def quotSticky (a b : Nat) : Nat × Nat :=
  let k := Nat.log2 b + 57
  let q := a * 2 ^ k / b
  let q := if a * 2 ^ k % b = 0 then 2 * q else 2 * q + 1
  (q, k + 1)

/-- `x / y`. -/
def Dy.div (x y : Dy) : Dy :=
  let r := quotSticky x.1.natAbs y.1.natAbs
  let m : Int := if (x.1 < 0) = (y.1 < 0) then (r.1 : Int) else -(r.1 : Int)
  Dy.round (m, x.2 - y.2 - (r.2 : Int))

/-- `x / y` of positive numbers, rounded upward to 53 bits. -/
def Dy.divUp (x y : Dy) : Dy :=
  let r := quotSticky x.1.natAbs y.1.natAbs
  let n := r.1
  let s := Nat.log2 n + 1 - 53
  (((n + 2 ^ s - 1) / 2 ^ s * 2 ^ s : Nat), x.2 - y.2 - (r.2 : Int))

/-- To the nearest integer, ties to even. -/
def Dy.toInt (x : Dy) : Int :=
  if 0 ≤ x.2 then x.1 * 2 ^ x.2.toNat else onMag (fun n => rneShift n (-x.2).toNat) x.1

/-- The value of a binary32; none for infinities and NaN. -/
def f32 (w : Nat) : Option Dy :=
  let e : Nat := w / 2 ^ 23 % 256
  let f : Nat := w % 2 ^ 23
  let n : Int := if e = 0 then (f : Int) else ((f + 2 ^ 23 : Nat) : Int)
  let n := if w / 2 ^ 31 % 2 = 1 then -n else n
  if e = 255 then none else some (n, if e = 0 then -149 else (e : Int) - 150)

/-! ## Powers and exponentials: fixed point with more bits than a result keeps -/

/-- ln 2 in units of 2^−128, rounded down. -/
def ln2 : Nat := 235865763225513294137944142764154484399

/-- exp(x) in units of 2^−128 for x in the same units: 24 terms for x / 32, squared five times. -/
def expFix (x : Nat) : Nat :=
  let y := x / 32
  let e := (List.range 24).foldl (fun a k => 2 ^ 128 + y * a / (2 ^ 128 * (24 - k))) (2 ^ 128)
  (List.range 5).foldl (fun a _ => a * a / 2 ^ 128) e

/-- log2 of a number z in [1, 2) given in units of 2^−200, in units of 2^−96: one bit for each squaring. -/
def log2Frac (z : Nat) : Nat :=
  ((List.range 96).foldl (fun (p : Nat × Nat) _ =>
    let q := p.1 * p.1 / 2 ^ 200
    if 2 ^ 201 ≤ q then (q / 2, 2 * p.2 + 1) else (q, 2 * p.2)) (z, 0)).2

/-- log2 of a positive number in units of 2^−96. -/
def Dy.log2 (x : Dy) : Int :=
  let l := Nat.log2 x.1.natAbs
  ((l : Int) + x.2) * 2 ^ 96 + (log2Frac (x.1.natAbs * 2 ^ 200 / 2 ^ l) : Nat)

/-- x^y of a positive x, rounded to binary64. -/
def Dy.pow (x y : Dy) : Dy :=
  let p := if 0 ≤ y.2 then Dy.log2 x * y.1 * 2 ^ y.2.toNat else Int.fdiv (Dy.log2 x * y.1) (2 ^ (-y.2).toNat : Nat)
  Dy.round ((expFix ((Int.fmod p (2 ^ 96 : Nat)).toNat * ln2 / 2 ^ 96) : Nat), Int.fdiv p (2 ^ 96 : Nat) - 128)

/-- A positive number of 53 bits moved by one unit in its last place: up, or down. -/
def Dy.nudge (x : Dy) (n : Nat) : Dy :=
  let l := Nat.log2 x.1.natAbs
  let m := x.1.natAbs * 2 ^ 52 / 2 ^ l
  (((if n % 3 = 0 then m - 1 else if n % 3 = 1 then m else m + 1) : Nat), x.2 + l - 52)

/-- The binary64 encoding of a number that has at most 53 significant bits. -/
def Dy.bits (x : Dy) : Nat :=
  let n := x.1.natAbs
  let sign := if x.1 < 0 then 2 ^ 63 else 0
  if n = 0 then 0
  else
    let l := Nat.log2 n
    let e : Int := (l : Int) + x.2
    if e > 1023 then sign + 0x7FF * 2 ^ 52
    else if e < -1022 then sign + (if 0 ≤ x.2 + 1074 then n * 2 ^ (x.2 + 1074).toNat else rneShift n (-(x.2 + 1074)).toNat)
    else sign + (e + 1023).toNat * 2 ^ 52 + ((if l ≤ 52 then n * 2 ^ (52 - l) else n / 2 ^ (l - 52)) - 2 ^ 52)

end Sys2Proof.Machine
end

