-- ==== Sys2Proof/Machine/Reply.lean ====
section
/-! DEFINITION. How a command ends (R290, R299, R301, R310): the reply in its mailbox slot or the entry in its ring's
completion queue, with the message it raises. -/

namespace Sys2Proof.Machine

/-- State of mailbox slot `n` (R289). -/
def Chip.mbxState (c : Chip) (n : Nat) : Nat := wbits (c.rd Reg.MBX_STATE) (2 * n + 1) (2 * n)

def Chip.setMbxState (c : Chip) (n v : Nat) : Chip := c.wr Reg.MBX_STATE (wset (c.rd Reg.MBX_STATE) (2 * n + 1) (2 * n) v)

/-- The reply of R290 in slot `n`: SEQ and CMD stay, STATUS and REPLY are set, LEN and payload follow, the slot is DONE. -/
def Chip.mbxReply (c : Chip) (n major minor status : Nat) (payload : List Byte) : Chip :=
  let c := c.wrMem (mbxMem n 0) 1 major
  let c := c.wrMem (mbxMem n 1) 1 minor
  let c := c.wrMem (mbxMem n 4) 2 payload.length
  let c := c.wrMem (mbxMem n 8) 1 status
  let c := c.wrMem (mbxMem n 9) 1 (c.rdMem (mbxMem n 9) 1 % 2 + 2)
  let c := c.wrBytes (mbxMem n 0x10) payload
  let c := c.setMbxState n 2
  if c.on Reg.HIF_IRQ_EN_MBX then c.msix 0 else c

/-- CQ tail and SQ head of ring `k` as the mirror shows them (R293). -/
def Chip.cqTail (c : Chip) (k : Nat) : Nat := c.get (Reg.RING_MIRROR_CQ_TAIL k)
def Chip.sqHead (c : Chip) (k : Nat) : Nat := c.get (Reg.RING_MIRROR_SQ_HEAD k)
def Chip.cqSize (c : Chip) (k : Nat) : Nat := 2 ^ c.get (Reg.RING_CFG_CQ_LOG2 k)
def Chip.sqSize (c : Chip) (k : Nat) : Nat := 2 ^ c.get (Reg.RING_CFG_SQ_LOG2 k)
def Chip.cqBase (c : Chip) (k : Nat) : Nat := (c.rd (Reg.RING_CQ_BASE k)).toNat + c.get (Reg.RING_CQ_BASE_HI_BASE k) * 2 ^ 32
def Chip.sqBase (c : Chip) (k : Nat) : Nat := (c.rd (Reg.RING_SQ_BASE k)).toNat + c.get (Reg.RING_SQ_BASE_HI_BASE k) * 2 ^ 32

/-- CQ entries of ring `k` that hold a record the host has not read. -/
def Chip.cqUsed (c : Chip) (k : Nat) : Nat := (c.cqTail k + 0x10000 - (c.ring k).cqHead) % 0x10000

/-- Whether ring `k` has a free CQ entry that no command has reserved (R298, R300). -/
def Chip.cqFree (c : Chip) (k : Nat) : Bool := c.cqUsed k + (c.ring k).reserved < c.cqSize k

/-- Send the ring's message when COUNT entries are unsignalled (R301). -/
def Chip.cqSignal (c : Chip) (k : Nat) : Chip :=
  let r := c.ring k
  if c.get (Reg.RING_CQ_IRQ_COUNT k) ≤ r.unsignalled then
    (c.setRing k { r with unsignalled := 0 }).msix (c.get (Reg.RING_CFG_VEC k))
  else c

/-- Write a record at the CQ tail (R299): the entry whole, then the mirror, then the message (R301). The OVF flag and the
DROPS count of R300 have a place in an EVENT record only, which restarts them (log 58). -/
def Chip.cqPush (c : Chip) (k kind status : Nat) (w4 w8 wc : Nat) (w10 : Nat) : Chip :=
  let r := c.ring k
  let i := c.cqTail k
  let phase := 1 - (i / c.cqSize k) % 2
  let ovf := if kind = 2 ∧ r.drops ≠ 0 then 2 else 0
  let drops := if kind = 2 then r.drops else 0
  let bs := natToBytes 1 kind ++ natToBytes 1 status ++ natToBytes 2 (phase + ovf) ++ natToBytes 4 w4 ++
    natToBytes 4 w8 ++ natToBytes 4 wc ++ natToBytes 8 w10 ++ natToBytes 4 drops ++ natToBytes 4 0
  let c := c.wrBytes (c.cqBase k + (i % c.cqSize k) * 32) bs
  let c := c.put (Reg.RING_MIRROR_CQ_TAIL k) (i + 1)
  let c := c.setRing k { r with unsignalled := r.unsignalled + 1, drops := if kind = 2 then 0 else r.drops }
  c.cqSignal k

/-- TIMEOUT of the command that waits (R288, R297), in µs; 0 is no limit. -/
def Chip.timeoutOf (c : Chip) (o : Origin) : Nat :=
  match o with
  | .mailbox n => c.rdMem (mbxMem n 0xC) 4
  | .ring k tag => match (c.ring k).busy.find? (·.2.1 == tag) with
    | some x => x.2.2
    | none => 0
  | .internal => 0

/-- End a command with its status and results (R15: exactly one status). -/
def Chip.complete (c : Chip) (o : Origin) (code status r0 r1 : Nat) : Chip :=
  match o with
  | .mailbox n => c.mbxReply n (c.rdMem (mbxMem n 0) 1) (c.rdMem (mbxMem n 1) 1) status (natToBytes 4 r0 ++ natToBytes 8 r1)
  | .ring k tag =>
    let r := c.ring k
    let c := c.setRing k { r with reserved := r.reserved - 1, busy := r.busy.eraseP (·.2.1 == tag) }
    c.cqPush k 1 status tag code r0 r1
  | .internal => c

/-- An event-log code of the model's own (log 31): a fault that a command's completion reports. -/
def logService := 0x0107

/-- A fault that a command's own completion reports (R323): one entry in the event log, and the status. -/
def Chip.faulted (c : Chip) (o : Origin) (code status r0 r1 : Nat) : Chip := (c.logged logService code status).complete o code status r0 r1

end Sys2Proof.Machine
end

