-- ==== Sys2Proof/Machine/Wake.lean ====
section
/-! DEFINITION. Wake sources of Lookout (R396): what a source that fires leaves behind for the full wake. -/

namespace Sys2Proof.Machine

/-- A 128-bit set of the descriptor (R392): bit `p` of the set at byte offset `off`. -/
def Chip.lkoBit (c : Chip) (off p : Nat) : Bool := bit ((c.power.lko.desc.getD (off + p / 8) 0).toNat) (p % 8)

/-- SPORTS, SPAIRS and WPORTS of the descriptor (R392). -/
def Chip.sampledPort (c : Chip) (p : Nat) : Bool := c.lkoBit 0x10 p
def Chip.sampledPair (c : Chip) (p : Nat) : Bool := c.lkoBit 0x20 p
def Chip.watchedPort (c : Chip) (p : Nat) : Bool := c.lkoBit 0x28 p

/-- A wake source fires in Lookout, or during entry, where it is held until entry completes (R396). -/
def Chip.wakeSource (c : Chip) (code detail : Nat) : Chip :=
  if c.inLookout ∨ c.power.lko.entering then
    { c with power := { c.power with lko := { c.power.lko with held := c.power.lko.held ++ [(code, detail)] } } }
  else c

end Sys2Proof.Machine
end

