-- ==== Sys2Proof/Machine/CellLinks.lean ====
section
/-! DEFINITION. Cell links (R37 to R72): bring-up, identification, time distribution, frames, the cell-link engine, CONTROL
exchanges, pauses and wiring faults. -/

namespace Sys2Proof.Machine

/-- The state of a port (R44): 0 OFF, 1 SIGNAL, 2 ALIGN, 3 IDENT, 4 RUN, 5 PAUSED, 6 FAULT. -/
def Chip.portState (c : Chip) (p : Nat) : Nat := c.get (Reg.CL_PORT_STAT_STATE p)
def Chip.setPortState (c : Chip) (p st : Nat) : Chip := c.put (Reg.CL_PORT_STAT_STATE p) st

/-- The edge port of a cell-link port (R22). -/
def edgeOfPort (p : Nat) : Nat := p / 16

/-- Send a frame on a port with its next SEQ; TIME is the departure (R46). -/
def Chip.sendFrame (c : Chip) (p type : Nat) (payload : BitVec 160) : Chip :=
  let q := c.port p
  (c.setPort p { q with txSeq := q.txSeq + 1 }).emit (.cellFrame p (mkFrame type false q.txSeq c.time payload))

/-- Send a frame again under the SEQ it had (R39 DUP, R60). -/
def Chip.resendFrame (c : Chip) (p type : Nat) (seq : Byte) (payload : BitVec 160) : Chip :=
  c.emit (.cellFrame p (mkFrame type true seq c.time payload))

/-- End a port's CONTROL exchange with ERR_TIMEOUT (R60, R322). -/
def Chip.dropExchange (c : Chip) (p : Nat) : Chip :=
  match (c.port p).ctrl with
  | some x => (c.setPort p { c.port p with ctrl := none }).complete x.origin 0x0048 ERR_TIMEOUT 0 0
  | none => c

/-- The commands that waited for a pause of `kind` on `id` complete with RESULT0 = 1 (R319). -/
def Chip.pauseDone (c : Chip) (kind id : Nat) : Chip :=
  c.fw.pauses.foldl (fun c r =>
    if r.kind = kind ∧ r.id = id ∧ r.inEffect = false then
      let c := { c with fw := { c.fw with pauses := c.fw.pauses.map (fun x => if x = r then { x with inEffect := true, origin := none } else x) } }
      match r.origin with
      | some o => c.complete o 0x0030 OK 1 0
      | none => c
    else c) c

/-- Forget a pause that is over; a command that still waits for it completes with RESULT0 = 0 (log 56). -/
def Chip.pauseOver (c : Chip) (kind id : Nat) : Chip :=
  let mine : PauseRec → Bool := fun x => x.kind == kind && x.id == id
  let l := c.fw.pauses.filter mine
  let c : Chip := { c with fw := { c.fw with pauses := c.fw.pauses.filter (fun x => !mine x) } }
  l.foldl (fun (c : Chip) (r : PauseRec) => match r.origin with
    | some o => c.complete o 0x0030 OK 0 0
    | none => c) c

/-- A port enters FAULT (R44, R71) with its one report (R72); its exchange fails at once. -/
def Chip.portFault (c : Chip) (p code : Nat) : Chip :=
  let c := (c.setPortState p 6).put (Reg.CL_PORT_STAT_FAULT p) code
  let c := (c.dropExchange p).pauseOver 0 p
  let q := c.port p
  let c := c.setPort p { q with pauseReq := false, nonce := none, reported := true }
  if q.reported then c else (c.set Reg.CL_IRQ_STATUS_FAULT).notify 0x0005 OK p code 0

/-- A port enters SIGNAL (R44, R45). -/
def Chip.portSignal (c : Chip) (p : Nat) : Chip :=
  let c := (c.setPortState p 1).clr (Reg.CL_PORT_STAT_FAULT p)
  c.modPort p (fun q => { q with nonce := none, attempts := 0, rxSeq := none, heard := [], alarms := [] })

/-- Commands for a port the variant has, when it is in one of the states named. -/
def whenPort (p : Nat) (sts : List Nat) (f : Chip → Chip) (c : Chip) : Chip :=
  if p < c.clPorts ∧ c.portState p ∈ sts then f c else c

/-- CL_PORT_BRINGUP (R66): an enabled port's turn arrives. -/
def execClPortBringup (p : Port) (s : State) : Host.Outcome State Fault Refusal :=
  act (whileRuns 68 fun c => whenPort p.toNat [0] (fun c =>
    if c.on Reg.CL_CTRL_ENABLE && c.on (Reg.CL_PORT_CFG_EN p.toNat) then c.portSignal p.toNat else c) c) s

/-- CLOCK_RECOVERY_LOCK (R44). -/
def execClockRecoveryLock (p : Port) (s : State) : Host.Outcome State Fault Refusal :=
  act (whileRuns 68 (whenPort p.toNat [1] (·.setPortState p.toNat 2))) s

/-- SIGNAL_TIMEOUT (R44): no lock in 1 ms. DESIGN CHOICE (log 132): the code is 1, LOS. -/
def execSignalTimeout (p : Port) (s : State) : Host.Outcome State Fault Refusal :=
  act (whileRuns 68 (whenPort p.toNat [1] (·.portFault p.toNat 1))) s

/-- ALIGN_TIMEOUT (R44). DESIGN CHOICE (log 132): R71 gives this fault no code; the model shows 1, LOS. -/
def execAlignTimeout (p : Port) (s : State) : Host.Outcome State Fault Refusal :=
  act (whileRuns 68 (whenPort p.toNat [2] (·.portFault p.toNat 1))) s

/-- PAYLOAD of an ID request (R46). -/
def idPayload (p : Nat) (nonce : BitVec 16) : BitVec 160 := BitVec.ofNat 160 (p + nonce.toNat * 256)

/-- Send an ID request; the first of an IDENT takes a fresh nonce, repeats keep it with DUP (R46). -/
def Chip.idRequest (c : Chip) (p : Nat) : Chip :=
  let q := c.port p
  match q.nonce with
  | some n =>
    (c.setPort p { q with reqTime := c.time, attempts := q.attempts + 1 }).resendFrame p 7 q.idSeq (idPayload p n)
  | none =>
    let n := Config.nonce c.fresh
    let c := { c with fresh := c.fresh + 1 }
    let c := c.setPort p { q with reqTime := c.time, attempts := 1, nonce := some n, idSeq := q.txSeq }
    c.sendFrame p 7 (idPayload p n)

/-- ALIGN_DONE (R44, R71): 64 idle pairs decode; `reversed` when they came as K28.5, D10.2. -/
def execAlignDone (p : Port) (reversed : Bool) (s : State) : Host.Outcome State Fault Refusal :=
  act (whileRuns 68 (whenPort p.toNat [2] (fun c =>
    if reversed && !c.on (Reg.CL_PORT_CFG_POL_AUTO p.toNat) then c.portFault p.toNat 4
    else
      let c := if reversed then c.set (Reg.CL_PORT_STAT_RX_INVERTED p.toNat) else c
      (c.setPortState p.toNat 3).idRequest p.toNat))) s

/-- ID_REQUEST_RETRY (R46, R50): 8 µs without a valid reply. -/
def execIdRequestRetry (p : Port) (s : State) : Host.Outcome State Fault Refusal :=
  act (whileRuns 68 (whenPort p.toNat [3] (fun c =>
    let q := c.port p.toNat
    if q.attempts < 3 ∨ (3 < q.attempts ∧ q.attempts < 6) then c.idRequest p.toNat
    else if q.attempts = 3 ∧ c.on (Reg.CL_PORT_CFG_TXPOL_AUTO p.toNat) = true then
      (c.put (Reg.CL_PORT_STAT_TX_INVERTED p.toNat) (1 - c.get (Reg.CL_PORT_STAT_TX_INVERTED p.toNat))).idRequest p.toNat
    else c.portFault p.toNat 6))) s

/-- PORT_REARM (R45, R49): REARM_PERIOD expires in FAULT; 0 never fires, and a crossed port waits for REBRING. -/
def execPortRearm (p : Port) (s : State) : Host.Outcome State Fault Refusal :=
  act (whileRuns 68 (whenPort p.toNat [6] (fun c =>
    if c.get Reg.CL_CFG_REARM_PERIOD = 0 ∨ c.get (Reg.CL_PORT_STAT_FAULT p.toNat) = 5 then c else c.portSignal p.toNat))) s

/-- CL_PORT_CMD_REBRING (R45). -/
def Chip.portRebring (c : Chip) (p : Nat) : Chip := whenPort p [6] (·.portSignal p) c

def execClPortCmdRebring (p : Port) (s : State) : Host.Outcome State Fault Refusal := act (·.portRebring p.toNat) s

/-- SYNC_FRAME_SEND (R51): a SYNC frame on every port in RUN or PAUSED, with the port's DELAY, the count and its number. -/
def execSyncFrameSend (s : State) : Host.Outcome State Fault Refusal :=
  act (whileRuns 68 fun c =>
    let n := c.syncCount
    let c := (List.range c.clPorts).foldl (fun c p => whenPort p [4, 5] (fun c =>
      c.sendFrame p 6 (BitVec.ofNat 160 (c.get (Reg.CL_PORT_DELAY_DELAY p) + n.toNat * 2 ^ 16 + p * 2 ^ 48))) c) c
    { c with syncCount := n + 1 }) s

/-! ## Received frames (R40 to R43, R55, R62, R65) -/

/-- The port decodes frames: alignment is done (R44). -/
def Chip.portHears (c : Chip) (p : Nat) : Bool := c.portState p == 3 || c.portState p == 4 || c.portState p == 5

/-- How many SEQs strictly between `last` and `seq` no frame in `heard` carried (R65). -/
def missingSeqs (last seq : Byte) (heard : List Byte) : Nat :=
  ((List.range (seq - last - 1).toNat).filter (fun i => !heard.contains (last + 1 + BitVec.ofNat 8 i))).length

/-- A gap in the received SEQ (R65), judged at a TELEMETRY or EDGE frame against the one before it (log 22). -/
def Chip.seqGap (c : Chip) (p : Nat) (f : CellFrame) : Chip :=
  let q := c.port p
  match q.rxSeq with
  | some last => if frameDup f then c else c.bump (Reg.CL_PORT_SEQGAP_COUNT p) (missingSeqs last (frameSeq f) q.heard)
  | none => c

/-- The frame is a TELEMETRY or an EDGE frame (R42). -/
def frameIsData (f : CellFrame) : Bool := frameType f == 1 || frameType f == 2

/-- The gap count at a frame that passed its checks: only TELEMETRY and EDGE frames count (R65). -/
def Chip.seqGapIfData (c : Chip) (p : Nat) (f : CellFrame) : Chip := if frameIsData f then c.seqGap p f else c

/-- Keep the SEQ of a good frame (R65); an accepted ALARM's SEQ is forgotten once the node's numbers are 128 past it (log 131). -/
def Chip.noteSeq (c : Chip) (p : Nat) (f : CellFrame) : Chip :=
  c.modPort p (fun q => { q with
    rxSeq := if frameIsData f && !frameDup f then some (frameSeq f) else q.rxSeq
    heard := if frameIsData f then (if frameDup f then q.heard else [])
      else if q.heard.contains (frameSeq f) then q.heard else q.heard ++ [frameSeq f]
    alarms := if frameDup f then q.alarms else q.alarms.filter (fun a => (frameSeq f - a).toNat < 128) })

/-- Offer a frame to the ingest FIFO (R55); `lost` is what a full FIFO also marks (R62). -/
def Chip.offer (c : Chip) (p : Nat) (f : CellFrame) (sof : Time) (lost : Chip → Chip) : Chip :=
  if c.get (Reg.CL_PORT_CFG_MAP_COUNT p) = 0 then c
  else
    let q := c.port p
    if q.fifo.length ≥ 16 then
      lost (((c.bump (Reg.CL_PORT_DROP_COUNT p)).set Reg.CL_IRQ_STATUS_DROP).tallyChip 0x81)
    else c.setPort p { q with fifo := q.fifo ++ [(f, sof)] }

/-- A TELEMETRY or EDGE frame that passed its checks (R55, R65, R68). -/
def Chip.rxData (c : Chip) (p : Nat) (f : CellFrame) (sof : Time) : Chip :=
  if c.portState p = 4 then c.offer p f sof id
  else if c.portState p = 5 then (c.bump (Reg.CL_PORT_PDROP_COUNT p)).tallyChip 0x81
  else c

/-- PAYLOAD of an ACK (R42). -/
def ackPayload (type : Nat) (seq : Byte) : BitVec 160 := BitVec.ofNat 160 (type + seq.toNat * 256)

/-- An ALARM with a new SEQ is accepted: steps 1 and 2 of R62. -/
def Chip.alarmReport (c : Chip) (p : Nat) (f : CellFrame) : Chip :=
  let c := c.modPort p (fun q => { q with alarms := q.alarms ++ [frameSeq f] })
  let c := c.set Reg.CL_IRQ_STATUS_ALARM
  let c := (c.put (Reg.CL_PORT_ALARM_CODE p) ((framePayload f).toNat % 256)).put (Reg.CL_PORT_ALARM_SEQ p) (frameSeq f).toNat
  c.bump (Reg.CL_PORT_ALARM_COUNT p)

/-- An ALARM frame that passed its checks (R62, R68): the ACK, and for a new SEQ the report and the offer. -/
def Chip.rxAlarm (c : Chip) (p : Nat) (f : CellFrame) (sof : Time) : Chip :=
  let c := c.sendFrame p 5 (ackPayload 3 (frameSeq f))
  if (c.port p).alarms.contains (frameSeq f) then c
  else
    let c := c.alarmReport p f
    let c := if c.portState p = 4 then c.offer p f sof (·.set (Reg.CL_PORT_ALARM_LOST p)) else c
    if c.sampledPort p then c.wakeSource 2 p else c

/-- An ACK frame (R60, R63): it ends the exchange it names; any other is late. -/
def Chip.rxAck (c : Chip) (p : Nat) (f : CellFrame) : Chip :=
  let pl := (framePayload f).toNat
  match (c.port p).ctrl with
  | some x =>
    if pl % 256 = 4 ∧ pl / 256 % 256 = x.seq.toNat then
      (c.setPort p { c.port p with ctrl := none }).complete x.origin 0x0048 OK (pl / 65536 % 256) 0
    else c.bump (Reg.CL_PORT_RXERR_OTHER p)
  | none => c.bump (Reg.CL_PORT_RXERR_OTHER p)

/-- A WAKE frame passes through the control buffer (R42, R55); its cause is the node's own. -/
def Chip.rxWake (c : Chip) (p : Nat) (f : CellFrame) : Chip :=
  c.emit (.wakeCause p ((framePayload f).setWidth 8))

/-- The ports hold CROSSED, each with the other's number (R49). -/
def Chip.crossed (c : Chip) (p q : Nat) : Chip :=
  let c := (c.portFault p 5).portFault q 5
  let c := (c.put (Reg.CL_PORT_STAT_PEER_PORT p) q).put (Reg.CL_PORT_STAT_PEER_PORT q) p
  c.set Reg.CL_IRQ_STATUS_CROSSED

/-- An ID reply (R47 to R49) whose SOF arrived at chip time `sof`. -/
def Chip.rxId (c : Chip) (p : Nat) (f : CellFrame) (sof : Time) : Chip :=
  if c.portState p ≠ 3 then c
  else
    let pl := framePayload f
    let q := pl.toNat % 256
    let nonce : BitVec 16 := pl.extractLsb' 8 16
    if q = p then
      if (c.port p).nonce = some nonce then
        let turn := (pl.extractLsb' 80 16).toNat
        let d := (((sof - (c.port p).reqTime).toNat : Int) - turn) / 2
        let c := c.put (Reg.CL_PORT_DELAY_DELAY p) (BitVec.ofInt 16 d).toNat
        let c := c.put (Reg.CL_PORT_PEERID_SERIAL p) (pl.extractLsb' 48 32).toNat
        if d > 200 then c.portFault p 7
        else
          let c := c.setPortState p 4
          c.modPort p (fun x => { x with nonce := none, reported := false, rxSeq := some (frameSeq f), heard := [] })
      else c
    else if q < c.clPorts ∧ (c.port q).nonce = some nonce then c.crossed p q
    else c

/-- A frame's TYPE or PVER is one R41 discards. -/
def frameUndefined (f : CellFrame) : Bool := frameType f == 0 || 8 < frameType f || framePver f != 1

/-- In Lookout (R393, R396) a sampled port checks its frames (R41) and acknowledges an ALARM, which is a wake source; a new SEQ is
reported as R62 says, and nothing is offered. -/
def Chip.rxLookout (c : Chip) (p : Nat) (f : CellFrame) : Chip :=
  if c.sampledPort p = false then c
  else if frameCrc f ≠ frameCrcOf f then c.bump (Reg.CL_PORT_RXERR_CRC p)
  else if frameUndefined f then c.bump (Reg.CL_PORT_RXERR_OTHER p)
  else
    let c := (c.seqGapIfData p f).noteSeq p f
    if frameType f = 3 then
      let c := c.sendFrame p 5 (ackPayload 3 (frameSeq f))
      let c := if (c.port p).alarms.contains (frameSeq f) then c else c.alarmReport p f
      c.wakeSource 2 p
    else c

/-- A frame arrives on a port (R41): its checks, its record (R33), then what its TYPE asks. -/
def Chip.rxFrame (c : Chip) (p : Nat) (f : CellFrame) (sof : Time) : Chip :=
  if c.pinsIdle then c
  else if p < c.clPorts && c.inLookout then c.rxLookout p f
  else if !(p < c.clPorts) || c.unitHeld 68 || !c.portHears p then c
  else if frameCrc f ≠ frameCrcOf f then c.bump (Reg.CL_PORT_RXERR_CRC p)
  else if frameUndefined f then c.bump (Reg.CL_PORT_RXERR_OTHER p)
  else
    let c := (((c.tallyChip 0x80).recFrame p f).seqGapIfData p f).noteSeq p f
    match frameType f with
    | 1 => c.rxData p f sof
    | 2 => c.rxData p f sof
    | 3 => c.rxAlarm p f sof
    | 5 => c.rxAck p f
    | 7 => c.rxId p f sof
    | 8 => c.rxWake p f
    | _ => c

/-- TELEMETRY_FRAME (R55, R65). -/
def execTelemetryFrame (p : Port) (f : CellFrame) (sof : Time) (s : State) : Host.Outcome State Fault Refusal :=
  act (·.rxFrame p.toNat f sof) s

/-- EDGE_FRAME (R55, R65). -/
def execEdgeFrame (p : Port) (f : CellFrame) (sof : Time) (s : State) : Host.Outcome State Fault Refusal :=
  act (·.rxFrame p.toNat f sof) s

/-- ACK_FRAME (R60, R63). -/
def execAckFrame (p : Port) (f : CellFrame) (sof : Time) (s : State) : Host.Outcome State Fault Refusal :=
  act (·.rxFrame p.toNat f sof) s

/-- WAKE_FRAME (R42). -/
def execWakeFrame (p : Port) (f : CellFrame) (sof : Time) (s : State) : Host.Outcome State Fault Refusal :=
  act (·.rxFrame p.toNat f sof) s

/-- ID_REPLY (R48, R49). -/
def execIdReply (p : Port) (f : CellFrame) (sof : Time) (s : State) : Host.Outcome State Fault Refusal :=
  act (·.rxFrame p.toNat f sof) s

/-! ## The cell-link engine (R54, R57 to R59) -/

/-- A mapping entry's four words (R57). -/
def Chip.mapWord (c : Chip) (n w : Nat) : Word := c.rd (Reg.CL_MAP n w)

/-- The time tag of an event made from a frame (R53). -/
def walkTag (w : Walk) : BitVec 16 := if frameUnsync w.frame then tagOf w.sof else tagOf (frameTime w.frame)

/-- The event an entry forms from a field value (R58). -/
def Chip.mapEvent (c : Chip) (p n : Nat) (w : Walk) (field : Nat) (width : Nat) : DWord :=
  let w1 := c.mapWord n 1
  let w2 := c.mapWord n 2
  let v := (if wbits w2 12 12 = 1 then signed width field else (field : Int)) - signed 16 (wbits w1 15 0)
  mkEvent (c.mapWord n 0) (rescale v (wbits w1 31 16) (wbits (c.mapWord n 3) 4 0)) (c.get (Reg.CL_PORT_CFG_LANE p)) (walkTag w)

/-- The first EDGE record from `i` on that an entry matches (R43, R58). -/
def edgeMatch (payload : BitVec 160) (w2 : Word) (i : Nat) : Option Nat :=
  ((List.range 5).filter (i ≤ ·)).find? (fun r =>
    let sw := (payload.extractLsb' (32 * r) 8).toNat
    let kind := (payload.extractLsb' (32 * r + 8) 8).toNat
    kind != 0 && sw == wbits w2 7 0 && (wbits w2 14 13 == 0 || kind == wbits w2 14 13))

/-- What one HCLK of a walk does: nothing more to do, the next walk without or with an event, or a counted overrun. -/
inductive WalkStep where
  | done
  | skip (w : Walk)
  | overrun (w : Walk)
  | event (w : Walk) (e : DWord)

/-- Evaluate at the point where the walk stands (R54, R58). -/
def Chip.walkStep (c : Chip) (p : Nat) (w : Walk) : WalkStep :=
  if w.entry ≥ w.count then .done
  else
    let n := w.base + w.entry
    let w2 := c.mapWord n 2
    let next := { w with entry := w.entry + 1, recd := 0 }
    if n ≥ 4096 ∨ wbits w2 15 15 = 0 ∨ wbits w2 19 16 ≠ frameType w.frame then .skip next
    else if frameType w.frame = 2 then
      match edgeMatch (framePayload w.frame) w2 w.recd with
      | none => .skip next
      | some r =>
        let e := c.mapEvent p n w ((framePayload w.frame).extractLsb' (32 * r + 16) 16).toNat 16
        match edgeMatch (framePayload w.frame) w2 (r + 1) with
        | some r' => .event { w with recd := r' } e
        | none => .event next e
    else
      let width := wbits w2 11 8 + 1
      if wbits w2 7 0 + width > 160 then .overrun next
      else .event next (c.mapEvent p n w ((framePayload w.frame).toNat / 2 ^ wbits w2 7 0 % 2 ^ width) width)

/-- Up to `fuel` HCLKs of a port's walk; an event its edge port cannot take holds the walk at that point (R54). -/
def Chip.runWalk (c : Chip) (p : Nat) : Nat → Chip
  | 0 => c
  | fuel + 1 =>
    match (c.port p).walk with
    | none => c
    | some w =>
      match c.walkStep p w with
      | .done => c.modPort p (fun q => { q with walk := none })
      | .skip w' => Chip.runWalk (c.modPort p (fun q => { q with walk := some w' })) p fuel
      | .overrun w' =>
        Chip.runWalk ((c.bump (Reg.CL_PORT_RXERR_OTHER p)).modPort p (fun q => { q with walk := some w' })) p fuel
      | .event w' e =>
        let c := c.drainCap (edgeOfPort p) 4
        if c.edgeFree (edgeOfPort p) then
          Chip.runWalk ((c.modPort p (fun q => { q with walk := some w' })).ingest (edgeOfPort p) p e) p fuel
        else c

/-- End a walk that has no entry left. -/
def Chip.closeWalk (c : Chip) (p : Nat) : Chip :=
  match (c.port p).walk with
  | some w => if w.entry ≥ w.count then c.modPort p (fun q => { q with walk := none }) else c
  | none => c

/-- A port's share of its slot (R54, R59, R67). DESIGN CHOICE (log 133): a MAP_COUNT of 65 to 127, which R57 does not give, is
walked as it stands. The port takes a frame when no walk is in progress, then walks 64 HCLK. -/
def Chip.serve (c : Chip) (p : Nat) : Chip :=
  let q := c.port p
  let c :=
    match q.walk, q.fifo with
    | none, (f, sof) :: rest =>
      if c.on Reg.CL_CTRL_INGEST_EN then
        let w : Walk :=
          { frame := f, sof := sof, base := c.get (Reg.CL_PORT_CFG_MAP_BASE p),
            count := c.get (Reg.CL_PORT_CFG_MAP_COUNT p), entry := 0, recd := 0 }
        c.setPort p { q with fifo := rest, walk := some w }
      else c
    | _, _ => c
  (c.runWalk p 64).closeWalk p

/-- ENGINE_SLOT (R54): every port of one time slot is served. -/
def execEngineSlot (slot : BitVec 4) (s : State) : Host.Outcome State Fault Refusal :=
  act (whileRuns 68 fun c => ((List.range 8).map (fun i => slot.toNat + 16 * i)).foldl
    (fun c p => if p < c.clPorts then c.serve p else c) c) s

/-! ## CONTROL exchanges (R60) -/

/-- Send a CONTROL frame for a command (R60); the caller has made the checks. -/
def Chip.startControl (c : Chip) (p : Nat) (payload : BitVec 160) (o : Origin) : Chip :=
  let q := c.port p
  let c := c.setPort p { q with ctrl := some { seq := q.txSeq, payload := payload, retries := 0, origin := o } }
  c.sendFrame p 4 payload

/-- CONTROL_RETRY (R60): 8 µs without a matching ACK. -/
def execControlRetry (p : Port) (s : State) : Host.Outcome State Fault Refusal :=
  act (whileRuns 68 fun c => match (c.port p.toNat).ctrl with
    | some x =>
      if x.retries < 3 then
        (c.modPort p.toNat (fun q => { q with ctrl := some { x with retries := x.retries + 1 } })).resendFrame p.toNat 4 x.seq x.payload
      else c
    | none => c) s

/-- CONTROL_EXCHANGE_FAIL (R60): no ACK 8 µs after the third retry. -/
def execControlExchangeFail (p : Port) (s : State) : Host.Outcome State Fault Refusal :=
  act (whileRuns 68 fun c => match (c.port p.toNat).ctrl with
    | some x => if x.retries = 3 then ((c.set Reg.CL_IRQ_STATUS_CTRL_FAIL).logged logService 0x48 ERR_TIMEOUT).dropExchange p.toNat else c
    | none => c) s

/-! ## Pause (R68, R69) -/

/-- A request for a pause on a port in RUN (R68, R69). -/
def Chip.portPauseReq (c : Chip) (p : Nat) : Chip := whenPort p [4] (·.modPort p (fun q => { q with pauseReq := true })) c

/-- The pause takes effect (R68). -/
def Chip.portPaused (c : Chip) (p : Nat) : Chip :=
  if (c.port p).pauseReq then
    ((c.setPortState p 5).modPort p (fun q => { q with pauseReq := false })).pauseDone 0 p
  else c

/-- The port leaves PAUSED for RUN (R69). -/
def Chip.portResume (c : Chip) (p : Nat) : Chip :=
  let c := c.modPort p (fun q => { q with pauseReq := false })
  (whenPort p [5] (·.setPortState p 4) c).pauseOver 0 p

/-- CL_PORT_CMD_PAUSE (R68). -/
def execClPortCmdPause (p : Port) (s : State) : Host.Outcome State Fault Refusal := act (·.portPauseReq p.toNat) s

/-- PORT_PAUSE_EFFECT (R68). -/
def execPortPauseEffect (p : Port) (s : State) : Host.Outcome State Fault Refusal :=
  act (whileRuns 68 (whenPort p.toNat [4] (·.portPaused p.toNat))) s

/-- CL_PAUSE_EXPIRY (R69): DURATION µs are over; 0 never expires. -/
def execClPauseExpiry (p : Port) (s : State) : Host.Outcome State Fault Refusal :=
  act (whileRuns 68 (whenPort p.toNat [5] (fun c =>
    if c.get (Reg.CL_PORT_PAUSE_DURATION p.toNat) = 0 then c else c.portResume p.toNat))) s

/-- CL_PORT_CMD_RESUME (R69). -/
def execClPortCmdResume (p : Port) (s : State) : Host.Outcome State Fault Refusal := act (·.portResume p.toNat) s

/-! ## Wake pattern and wiring (R70, R71) -/

/-- 8 pairs K28.5, K28.7 recognised (R70). -/
def Chip.wakePattern (c : Chip) (p : Nat) : Chip :=
  if p < c.clPorts then
    let c := c.set Reg.CL_IRQ_STATUS_WAKE
    let c := if c.on Reg.CL_WAKE_PORT_VALID then c else (c.put Reg.CL_WAKE_PORT_PORT p).set Reg.CL_WAKE_PORT_VALID
    if c.watchedPort p then c.wakeSource 2 p else c
  else c

/-- CL_WIRING_FAULT (R71): a condition persisted for its window; a window of 0 never expires (R12). -/
def execClWiringFault (p : Port) (kind : Wiring) (s : State) : Host.Outcome State Fault Refusal :=
  act (whilePins <| whileRuns 68 (whenPort p.toNat [1, 2, 3, 4, 5] (fun c => match kind with
    | .los => if c.get Reg.CL_CFG_LOS_WIN = 0 then c else c.portFault p.toNat 1
    | .short => if c.get Reg.CL_CFG_SHORT_WIN = 0 then c else c.portFault p.toNat 2
    | .commonMode => c.portFault p.toNat 3
    | .reversed =>
      if c.portState p.toNat = 2 ∨ c.portState p.toNat = 4 then
        if c.on (Reg.CL_PORT_CFG_POL_AUTO p.toNat) then
          c.set (Reg.CL_PORT_STAT_RX_INVERTED p.toNat)
        else c.portFault p.toNat 4
      else c))) s

end Sys2Proof.Machine
end

