-- ==== Sys2Proof/Machine/Dune.lean ====
section
/-! DEFINITION. The Dune engine (R232 to R253): coefficients and codes, the regions, the sweep, the best state and the result
record, slices, pauses and the ways a run ends. -/

namespace Sys2Proof.Machine

/-! ## The run descriptor (R246) -/

def Dune.field (d : Dune) (off n : Nat) : Nat := bytesToNat ((d.desc.drop off).take n)
def Dune.n (d : Dune) : Nat := d.field 0 4
def Dune.width (d : Dune) : Nat := d.field 4 1
def Dune.mode (d : Dune) : Nat := d.field 5 1
def Dune.chains (d : Dune) : Nat := d.field 6 1
def Dune.flags (d : Dune) : Nat := d.field 7 1
def Dune.sweeps (d : Dune) : Nat := d.field 8 8
def Dune.ts (d : Dune) : Nat := d.field 0x10 4
def Dune.te (d : Dune) : Nat := d.field 0x14 4
def Dune.seed (d : Dune) : Nat := d.field 0x18 8
def Dune.jAddr (d : Dune) : Nat := d.field 0x20 8
def Dune.hAddr (d : Dune) : Nat := d.field 0x28 8
def Dune.initAddr (d : Dune) : Nat := d.field 0x30 8
def Dune.resAddr (d : Dune) : Nat := d.field 0x38 8
def Dune.deadline (d : Dune) : Nat := d.field 0x40 4
def Dune.blockVars (d : Dune) : Nat := d.field 0x44 4
def Dune.blockSweeps (d : Dune) : Nat := d.field 0x48 4
def Dune.exchange (d : Dune) : Nat := d.field 0x4C 2
def Dune.chips (d : Dune) : Nat := d.field 0x4E 1
def Dune.init (d : Dune) : Nat := d.flags / 4 % 4

/-! ## Which variables this chip sweeps (R249, R250) -/

/-- Variables of a chip in multi-chip mode. -/
def Dune.perChip (d : Dune) : Nat := (d.n + d.chips - 1) / d.chips

/-- This chip's place in the topology (R250, R326): its CHIP_ID. -/
def Chip.dunePlace (c : Chip) : Nat := c.get Reg.FER_CFG_CHIP_ID

/-- The first variable that stands in the regions now, and how many do. -/
def Chip.duneFirst (c : Chip) (d : Dune) : Nat :=
  if d.mode = 1 then d.block * d.blockVars else if d.mode = 2 then c.dunePlace * d.perChip else 0
def Chip.duneCount (c : Chip) (d : Dune) : Nat :=
  if d.mode = 0 then d.n
  else min (if d.mode = 1 then d.blockVars else d.perChip) (d.n - c.duneFirst d)

/-- The first variable whose coefficients this chip holds, and how many. -/
def Chip.ownFirst (c : Chip) (d : Dune) : Nat := if d.mode = 2 then c.dunePlace * d.perChip else 0
def Chip.ownCount (c : Chip) (d : Dune) : Nat := if d.mode = 2 then min d.perChip (d.n - c.ownFirst d) else d.n

/-! ## Coefficients (R232, R233, R250) -/

/-- The supplied word of J_ij: upper triangle, or full rows of the chip's own variables. -/
def Chip.jWord (c : Chip) (d : Dune) (i j : Nat) : Nat :=
  if d.mode = 2 then c.rdMem (d.jAddr + 4 * ((i - c.ownFirst d) * d.n + j)) 4
  else
    let a := min i j
    let b := max i j
    c.rdMem (d.jAddr + 4 * (a * d.n - a * (a + 1) / 2 + (b - a - 1))) 4

def Chip.hWord (c : Chip) (d : Dune) (i : Nat) : Nat := c.rdMem (d.hAddr + 4 * (i - c.ownFirst d)) 4

def Chip.jVal (c : Chip) (d : Dune) (i j : Nat) : Dy := (f32 (c.jWord d i j)).getD (0, 0)
def Chip.hVal (c : Chip) (d : Dune) (i : Nat) : Dy := (f32 (c.hWord d i)).getD (0, 0)

/-- Every word of J and h the chip was given. -/
def Chip.coefWords (c : Chip) (d : Dune) : List Nat :=
  let own := (List.range (c.ownCount d)).map (· + c.ownFirst d)
  own.flatMap (fun i => (((List.range d.n).filter (fun j => if d.mode = 2 then j != i else i < j)).map (c.jWord d i))) ++ own.map (c.hWord d)

/-- 2^(b−1) − 1. -/
def Dune.top (d : Dune) : Int := 2 ^ (d.width - 1) - 1

/-- The code of a coefficient (R233). -/
def Dune.quantise (d : Dune) (x : Dy) : Int :=
  let q := Dy.toInt (Dy.mul x d.sc)
  if q > d.top then d.top else if q < -d.top then -d.top else q

/-- Greater of two magnitudes. -/
def maxMag (a : Dy) (w : Nat) : Dy :=
  match f32 w with
  | some x => let x := ((x.1.natAbs : Int), x.2); if Dy.lt a x then x else a
  | none => a

/-! ## The regions (R236, R237) -/

def Dune.stride (d : Dune) : Nat := if d.width = 8 then 36 else 18

/-- Variables rounded up to whole blocks. -/
def pad32 (n : Nat) : Nat := (n + 31) / 32 * 32

/-- Where the slice of column `j` of variable block `v` stands; both count within the region. -/
def Chip.duneSlice (c : Chip) (d : Dune) (v j : Nat) : Nat :=
  slotMem (c.pcore (d.cores.getD v 0)) (d.bases.getD v 0 + j * d.stride)

/-- The code of row `i`, column `j`, both within the region, as synapse memory holds it. -/
def Chip.regionCode (c : Chip) (d : Dune) (i j : Nat) : Int :=
  let a := c.duneSlice d (i / 32) j
  let bs := c.rdBytes a (sliceSize (d.width == 8))
  if bit (bytesToNat (bs.take 2)) 14 then 0 else sliceCode bs (d.width == 8) (i % 32)

/-- The code of row `i`, a variable this chip holds, and column `j`, as firmware keeps it (R249). -/
def Chip.keptCode (c : Chip) (d : Dune) (i j : Nat) : Int := d.codes.getD ((i - c.ownFirst d) * d.n + j) 0

/-- The codes of every row this chip holds (R233); a diagonal is 0. -/
def Chip.formCodes (c : Chip) (d : Dune) : List Int :=
  (List.range (c.ownCount d)).flatMap (fun k => (List.range d.n).map (fun j =>
    if c.ownFirst d + k = j then 0 else d.quantise (c.jVal d (c.ownFirst d + k) j)))

/-- q_ij of two variables of the problem: from the regions where both stand there, else from the codes firmware keeps. -/
def Chip.duneCode (c : Chip) (d : Dune) (i j : Nat) : Int :=
  let f := c.duneFirst d
  let n := c.duneCount d
  if f ≤ i ∧ i < f + n ∧ f ≤ j ∧ j < f + n then c.regionCode d (i - f) (j - f)
  else if c.ownFirst d ≤ i ∧ i < c.ownFirst d + c.ownCount d then c.keptCode d i j
  else c.keptCode d j i

/-- The bytes of a slice with its pad (R143, R236). -/
def sliceBytes (w8 : Bool) (codes : List Int) : List Byte :=
  let zero := codes.all (· == 0)
  let hdr := 48 + (if zero then 0x4000 else 0) + (if w8 then 0x8000 else 0)
  natToBytes 2 hdr ++
  (if w8 then codes.map (fun q => BitVec.ofInt 8 q) ++ [0, 0]
  else (List.range 16).map (fun k => BitVec.ofInt 8 (codes.getD (2 * k) 0 % 16 + codes.getD (2 * k + 1) 0 % 16 * 16)))

/-- Write every slice of the regions. -/
def Chip.writeRegions (c : Chip) (d : Dune) : Chip :=
  let f := c.duneFirst d
  let n := c.duneCount d
  (List.range (pad32 n / 32)).foldl (fun x v => (List.range (pad32 n)).foldl (fun x j =>
    let codes := (List.range 32).map (fun k =>
      let i := 32 * v + k
      if i < n ∧ j < n then c.keptCode d (f + i) (f + j) else 0)
    x.wrBytes (c.duneSlice d v j) (sliceBytes (d.width == 8) codes)) x) c

/-- Most bytes of a region. -/
def Chip.regionMax (c : Chip) : Nat := if c.variant = 3 then 0x48000 else 0x90000

/-- Most variables of one chip (R238). -/
def Chip.duneCapacity (c : Chip) (width : Nat) : Nat :=
  min (c.regionMax / (if width = 8 then 36 else 18) / 32 * 32) (c.clusters * 16 * 32)

/-- The spans of core `i`'s synapse (false) or state (true) memory that a job does not leave free (R237; log 57): what it wrote
there, and in state memory the neuron-lanes of valid populations and the pre-trace tables of learning ranges. -/
def Chip.takenSpans (c : Chip) (i : Nat) (state : Bool) : List (Nat × Nat) :=
  let s := c.pcore i
  c.fw.jobs.flatMap (fun j => (j.2.extents.filter (fun x => x.1 == i && x.2.1 == state)).map (fun x => (x.2.2.1, x.2.2.2))) ++
  (if state then
    (c.validPops s).map (fun p => (c.get (Reg.NE_POP_RANGE_FIRST s p) * c.lanes s * 8, c.get (Reg.NE_POP_RANGE_COUNT s p) * c.lanes s * 8)) ++
    (c.learningRanges s).map (c.preTable s)
  else [])

/-- The highest place below `top` where `size` bytes of a core's memory are free. -/
def Chip.freeSpot (c : Chip) (i : Nat) (state : Bool) (top size : Nat) : Option Nat :=
  let spans := c.takenSpans i state
  let free := ((top :: spans.map (·.1)).filter (fun x => size ≤ x && x ≤ top)).map (· - size)
  (free.filter (fun lo => !spans.any (meets (lo, size)))).foldl (fun b lo => match b with
    | some x => some (max x lo)
    | none => some lo) none

/-- A cluster holds a gang population (R140). -/
def Chip.gangCluster (c : Chip) (k : Nat) : Bool := c.on (Reg.MX_CFG_GANG (k * 32)) || (List.range 17).any (fun s => c.on (Reg.MX_CFG_GANG (k * 32 + s)))

/-- A logical core may take part with a region of `size` bytes (R237). -/
def Chip.duneEligible (c : Chip) (size i : Nat) : Bool :=
  c.seated i && !c.fenced (c.pcore i) && !c.absorbing (c.pcore i) && c.clusterOn (i / 16) && !c.gangCluster (i / 16) &&
  (c.freeSpot i false c.synSize size).isSome && (c.freeSpot i true 0x80000 0x2000).isSome

/-! ## The sweep (R239 to R242) -/

def xorshift (x : DWord) : DWord :=
  let x := x ^^^ (x <<< 13)
  let x := x ^^^ (x >>> 7)
  x ^^^ (x <<< 17)

/-- The seed of variable block `v` (R240). -/
def duneSeed (seed v : Nat) : DWord :=
  let x := BitVec.ofNat 64 seed ^^^ BitVec.ofNat 64 (v * 0x9E3779B97F4A7C15)
  if x = 0 then 1 else x

/-- One draw of block `v`. -/
def Dune.draw (d : Dune) (v : Nat) : Dune × Nat :=
  let x := xorshift (d.rng.getD v 1)
  ({ d with rng := d.rng.set v x }, dbits x 63 32)

/-- s_i of a chain, +1 or −1. -/
def spinOf (w : BitVec 32) (ch : Nat) : Int := if w.getLsbD ch then 1 else -1

/-- Spins of every variable of the problem, those of other chips as last exchanged. -/
def Chip.spinAt (c : Chip) (d : Dune) (i : Nat) : BitVec 32 :=
  if c.ownFirst d ≤ i ∧ i < c.ownFirst d + c.ownCount d then d.spins.getD (i - c.ownFirst d) 0 else d.remote.getD i 0

/-- A random spin word: one draw per chain (R240). -/
def Dune.randomSpin (d : Dune) (v : Nat) : Dune × BitVec 32 :=
  (List.range d.chains).foldl (fun p ch =>
    let r := p.1.draw v
    (r.1, if bit r.2 31 then p.2 ||| (1#32 <<< ch) else p.2)) (d, 0)

/-- f_i of every chain (R239, R249). -/
def Chip.fieldOf (c : Chip) (d : Dune) (i : Nat) : List Int :=
  (List.range d.chains).map (fun ch =>
    ((List.range d.n).filter (· != i)).foldl (fun a j => a + c.duneCode d i j * spinOf (c.spinAt d j) ch)
      (d.hcodes.getD (i - c.ownFirst d) 0))

/-- The fields of the variables in the regions. -/
def Chip.formFields (c : Chip) (d : Dune) : Dune :=
  { d with fields := (List.range (c.duneCount d)).map (fun k => c.fieldOf d (c.duneFirst d + k)) }

/-- (T_E / T_S)^((k − 1) / (N − 1)) (R242): exact where the exponent is 0 or 1 or the base is 1; else the nearest binary64 or its
neighbour (log 10). -/
def Dune.power (ts te : Dy) (k n : Nat) : Dy :=
  let base := Dy.div te ts
  let y := Dy.div ((k - 1 : Nat), 0) ((n - 1 : Nat), 0)
  if k = n then base
  else if Dy.lt ts te = false ∧ Dy.lt te ts = false then (1, 0)
  else (Dy.pow base y).nudge (Config.powUlp base y)

/-- T_k as a code temperature (R242). -/
def Dune.temp (d : Dune) (k : Nat) : Dy :=
  let ts := (f32 d.ts).getD (0, 0)
  let te := (f32 d.te).getD (0, 0)
  let t :=
    if k = 1 then ts
    else if d.flags % 2 = 0 then Dy.mul ts (Dune.power ts te k d.sweeps)
    else Dy.add ts (Dy.div (Dy.mul (Dy.add te (-ts.1, ts.2)) ((k - 1 : Nat), 0)) ((d.sweeps - 1 : Nat), 0))
  Dy.mul t d.sc

/-- |ΔE| / T in units of 2^−128, 18 at most: from there on no bound on the number of draws changes. -/
def expArg (dE : Int) (t : Dy) : Nat :=
  let n := dE.natAbs * 2 ^ 128
  let q := if 0 ≤ t.2 then n / (t.1.natAbs * 2 ^ t.2.toNat) else n * 2 ^ (-t.2).toNat / t.1.natAbs
  min q (18 * 2 ^ 128)

/-- The exact p of R241 as a fraction: heat-bath or Metropolis with ΔE > 0. -/
def acceptExact (heat : Bool) (dE : Int) (t : Dy) : Nat × Nat :=
  let e := expFix (expArg dE t)
  if heat then (if dE < 0 then e else 2 ^ 128, e + 2 ^ 128) else (2 ^ 128, e)

/-- How many of the 2^24 values of draw [31:8] lie below p, when p is the exact value times `num` / 2^40. -/
def acceptCount (p : Nat × Nat) (num : Nat) : Nat := min (2 ^ 24) ((p.1 * num * 2 ^ 24 + p.2 * 2 ^ 40 - 1) / (p.2 * 2 ^ 40))

/-- The draws that flip a spin for every p that a relative error of 2^−20 allows, and those for some such p (R241). -/
def acceptLow (heat : Bool) (dE : Int) (t : Dy) : Nat := acceptCount (acceptExact heat dE t) (2 ^ 40 - 2 ^ 20 - 1)
def acceptHigh (heat : Bool) (dE : Int) (t : Dy) : Nat := acceptCount (acceptExact heat dE t) (2 ^ 40 + 2 ^ 20 + 1)

/-- Whether draw value `n` lies below p (R241): between the two bounds by free values, so that p is one number for a ΔE and
falls as ΔE grows (log 10). -/
def acceptFlips (heat : Bool) (dE : Int) (t : Dy) (n : Nat) : Bool :=
  let low := acceptLow heat dE t
  n < low || (n < acceptHigh heat dE t && (List.range (n + 1 - low)).all (fun i => dE ≤ Config.acceptUpTo heat t (low + i)))

/-- Whether a spin flips (R241). -/
def Dune.flips (d : Dune) (t : Dy) (dE : Int) (draw : Nat) : Bool :=
  if bit d.flags 1 then acceptFlips true dE t (draw / 256)
  else dE ≤ 0 || acceptFlips false dE t (draw / 256)

/-- The decisions of one visit of region variable `k`, variable `i` of those this chip holds: the chains that flip, with the
draws taken from the RNG of the variable's own block (R240). -/
def Dune.decide (d : Dune) (t : Dy) (k i : Nat) : Dune × BitVec 32 :=
  (List.range d.chains).foldl (fun p ch =>
    let r := p.1.draw (i / 32)
    let dE := 2 * spinOf (p.1.spins.getD i 0) ch * (p.1.fields.getD k []).getD ch 0
    (r.1, if r.1.flips t dE r.2 then p.2 ||| (1#32 <<< ch) else p.2)) (d, 0)

/-- A visit of variable `k` of the region (R239): the flips, then every field of every chain follows. -/
def Chip.visit_ (c : Chip) (t : Dy) (d : Dune) (k : Nat) : Dune :=
  let i := c.duneFirst d + k - c.ownFirst d
  let r : Dune × BitVec 32 := d.decide t k i
  let flip := r.2
  let d := r.1
  if flip = 0 then d
  else
    let new := d.spins.getD i 0 ^^^ flip
    let fields := (List.range d.fields.length).map (fun m =>
      (List.range d.chains).map (fun ch =>
        (d.fields.getD m []).getD ch 0 + (if flip.getLsbD ch ∧ m ≠ k then c.regionCode d m k * (2 * spinOf new ch) else 0)))
    { d with spins := d.spins.set i new, fields := fields }

/-- One sweep at temperature T_k: the variables of the regions in ascending index. -/
def Chip.sweep (c : Chip) (d : Dune) (k : Nat) : Dune :=
  (List.range (c.duneCount d)).foldl (c.visit_ (d.temp k)) d

/-! ## Energies and the best state (R243, R248) -/

/-- E of R232 over the codes for a chain: the pairs and variables whose lower index this chip owns. -/
def Chip.duneEnergy (c : Chip) (d : Dune) (ch : Nat) : Int :=
  let s : Nat → Int := fun i => spinOf (c.spinAt d i) ch
  ((List.range (c.ownCount d)).map (· + c.ownFirst d)).foldl (fun e i =>
    ((List.range d.n).filter (i < ·)).foldl (fun e j => e - c.duneCode d i j * s i * s j) (e - d.hcodes.getD (i - c.ownFirst d) 0 * s i)) 0

/-- A strictly lower energy replaces the best; `others` are the peers' parts by chain. -/
def Chip.judge (c : Chip) (others : List Int) : Chip :=
  let d := c.dune
  let best := (List.range d.chains).foldl (fun (b : Option Best) ch =>
    let e := c.duneEnergy d ch + others.getD ch 0
    let better : Bool := match b with
      | some x => e < x.energy
      | none => true
    if better then some { energy := e, sweep := d.done, chain := ch, spins := (List.range d.n).map (fun i => (c.spinAt d i).getLsbD ch) } else b) d.best
  if best = d.best then c
  else
    let c := { c with dune := { d with best := best, bestBuf := !d.bestBuf } }
    match best with
    | some b =>
      let w := BitVec.ofInt 64 b.energy
      ((c.put Reg.DUNE_BEST_LO_E (dbits w 31 0)).put Reg.DUNE_BEST_HI_E (dbits w 63 32)).set Reg.DUNE_IRQ_STATUS_BEST
    | none => c

/-- E_HOST (R248): the pairs in ascending (i, j) order, then h; those of the other chips of a multi-chip run follow this first
chip's own. -/
def Chip.eHost (c : Chip) (d : Dune) (spins : List Bool) : Dy :=
  let s : Nat → Int := fun i => if spins.getD i false then 1 else -1
  let own := (List.range (c.ownCount d)).map (· + c.ownFirst d)
  let acc := own.foldl (fun a i => ((List.range d.n).filter (i < ·)).foldl (fun a j =>
    let x := c.jVal d i j
    Dy.add a (-(x.1 * s i * s j), x.2)) a) ((0, 0) : Dy)
  let term : Dy → BitVec 32 → Int → Dy := fun a w q => let x := (f32 w.toNat).getD (0, 0); Dy.add a (-(x.1 * q), x.2)
  let others := (List.range d.n).filter (fun i => !own.contains i)
  let pairs := others.flatMap (fun i => ((List.range d.n).filter (i < ·)).map (fun j => s i * s j))
  let acc := (List.zip d.peerJ pairs).foldl (fun a x => term a x.1 x.2) acc
  let acc := own.foldl (fun a i => let x := c.hVal d i; Dy.add a (-(x.1 * s i), x.2)) acc
  (List.zip d.peerH (others.map s)).foldl (fun a x => term a x.1 x.2) acc

/-- Spin bits as bytes (R232). -/
def spinBytes (spins : List Bool) : List Byte :=
  (List.range ((spins.length + 7) / 8)).map (fun k =>
    BitVec.ofNat 8 ((List.range 8).foldl (fun a b => if spins.getD (8 * k + b) false then a + 2 ^ b else a) 0))

/-- ERR_BOUND (R234). -/
def Dune.errBound (d : Dune) : Dy := if d.sc.1 = 0 ∨ d.nonzero = 0 then (0, 0) else Dy.divUp ((d.nonzero : Nat), -1) d.sc

/-- The result record where there is no best state yet (R247, R252): what a best state would give, and before m is known the
scale, are open (log 152). -/
def Dune.openRecord (d : Dune) (status fresh : Nat) : List Byte :=
  let open_ : Nat → Nat → List Byte := fun off n => (List.range n).map (fun k => Config.openByte fresh (off + k))
  natToBytes 1 status ++ open_ 1 1 ++ natToBytes 2 0 ++ natToBytes 4 d.n ++ open_ 8 8 ++ natToBytes 8 d.done ++ open_ 0x18 16 ++
  (if d.sc.1 = 0 then open_ 0x28 16 else natToBytes 8 (Dy.bits d.sc) ++ natToBytes 8 (Dy.bits d.errBound)) ++ natToBytes 8 0 ++
  open_ 0x40 ((d.n + 7) / 8)

/-- The result record (R247). -/
def Dune.record (d : Dune) (status : Nat) (b : Best) (eHost : Dy) : List Byte :=
  natToBytes 1 status ++ natToBytes 1 b.chain ++ natToBytes 2 0 ++ natToBytes 4 d.n ++ natToBytes 8 b.sweep ++ natToBytes 8 d.done ++
  natToBytes 8 (BitVec.ofInt 64 b.energy).toNat ++ natToBytes 8 (Dy.bits eHost) ++ natToBytes 8 (Dy.bits d.sc) ++
  natToBytes 8 (Dy.bits d.errBound) ++ natToBytes 8 0 ++ spinBytes b.spins

/-- DUNE_STAT and the counters of sweeps follow the run. -/
def Chip.duneState (c : Chip) (st : Nat) : Chip := c.put Reg.DUNE_STAT_STATE st
def Chip.duneDone (c : Chip) : Chip :=
  (c.put Reg.DUNE_SWEEP_LO_DONE c.dune.done).put Reg.DUNE_SWEEP_HI_DONE (c.dune.done / 2 ^ 32)

/-- Every slice is given back. -/
def Chip.releaseSlices (c : Chip) : Chip := c.dune.cores.foldl (fun c i => c.modCore (c.pcore i) (fun k => { k with slice := false })) c

/-- The bytes a run's end writes: the record, or STATUS alone on the other chips of a multi-chip run (R250). -/
def Chip.duneResult (c : Chip) (status : Nat) : List Byte :=
  let d := c.dune
  if d.mode = 2 ∧ c.dunePlace ≠ 0 then natToBytes 1 status
  else match d.best with
    | some b => d.record status b (if d.sc.1 = 0 then (0, 0) else c.eHost d b.spins)
    | none => d.openRecord status c.fresh

/-- The run ends with a status (R252): the record, DONE, and one completion. `firmware` is whether firmware runs to make it. -/
def Chip.duneEnd (c : Chip) (status : Nat) : Chip :=
  let d := c.dune
  if d.active = false then c
  else
    let c := c.releaseSlices.wrBytes d.resAddr (c.duneResult status)
    let c := ((c.duneState 0).put Reg.DUNE_STAT_LAST status).set Reg.DUNE_IRQ_STATUS_DONE
    let c := ((c.clr Reg.DUNE_STAT_ROT).clr Reg.DUNE_STAT_MULTI).pauseOver 2 0
    let c := { c with dune := { Dune.idle with grants := d.grants }, fresh := if d.best.isNone then c.fresh + 1 else c.fresh }
    if c.fwUp then c.complete d.origin 0x0038 status status 0
    else { c with fw := { c.fw with broken := c.fw.broken ++ [(d.origin, 0x0038)] } }

/-- A run that meets a cause of R252 that takes effect at once, when core `i` takes part. -/
def Chip.duneLoses (c : Chip) (p : Nat → Bool) : Chip :=
  if c.dune.active && c.dune.cores.any p then c.duneEnd PARTIAL else c

/-- The run stands at a boundary (R250, R251): paused, or waiting for its peers, the exchange of m among that. -/
def Chip.duneStands (c : Chip) : Bool := c.dune.active && (c.get Reg.DUNE_STAT_STATE == 1 || c.get Reg.DUNE_STAT_STATE == 3 || c.dune.waiting)

/-- An end at the next boundary (R252): at once when the run stands at one. -/
def Chip.duneStop (c : Chip) (status : Nat) : Chip :=
  if c.dune.active = false then c
  else if c.duneStands ∧ c.inLookout = false then c.duneEnd status
  else { c with dune := { c.dune with stop := some (c.dune.stop.getD status) } }

/-! ## Pause (R251) -/

/-- The pause takes effect at a boundary. -/
def Chip.dunePaused (c : Chip) : Chip :=
  if c.dune.pauseReq then
    let c := { c with dune := { c.dune with pauseReq := false } }
    ((c.releaseSlices.duneState 3).set Reg.DUNE_IRQ_STATUS_PAUSED).pauseDone 2 0
  else c

/-- A pause is asked for: it takes effect at the run's next sweep boundary, at once when it waits for its peers at one. -/
def Chip.dunePause (c : Chip) : Chip :=
  if c.get Reg.DUNE_STAT_STATE = 2 then
    let c := { c with dune := { c.dune with pauseReq := true } }
    if c.dune.waiting then c.dunePaused else c
  else c

/-- RESUME (R251): while the run is not paused it is ignored. -/
def Chip.duneResume (c : Chip) : Chip :=
  if c.get Reg.DUNE_STAT_STATE = 3 then
    let c := (c.duneState 2).pauseOver 2 0
    match c.dune.stop with
    | some st => c.duneEnd st
    | none => c
  else c

/-- What a boundary still has to do: end the run, or let a pause take effect (R251, R252). -/
def Chip.boundaryEnd (c : Chip) : Chip :=
  match c.dune.stop with
  | some st => c.duneEnd st
  | none => if c.dune.sweeps ≤ c.dune.done then c.duneEnd OK else c.dunePaused

/-! ## Boundaries (R243, R249, R250) -/

/-- The next block of rotation mode is streamed in and its fields are formed (R249). -/
def Chip.blockChange (c : Chip) : Chip :=
  let d := c.dune
  let blocks := (d.n + d.blockVars - 1) / d.blockVars
  let d := { d with block := (d.block + 1) % blocks }
  let c := { c with dune := d }.writeRegions d
  { c with dune := c.formFields d }

/-- A sweep completes. At an exchange boundary a chip of a multi-chip run waits for its peers, unless the run is to end; a pause
takes effect there all the same (R250 to R252). -/
def Chip.sweepBoundary (c : Chip) : Chip :=
  let d := c.sweep c.dune (c.dune.done + 1)
  let c := ({ c with dune := { d with done := d.done + 1 } } : Chip).duneDone
  if d.mode = 2 then
    if c.dune.stop = none ∧ (c.dune.done % d.exchange = 0 ∨ c.dune.done = d.sweeps) then
      ({ c with dune := { c.dune with waiting := true } } : Chip).releaseSlices.dunePaused
    else c.boundaryEnd
  else
    let c := c.judge []
    let c := if d.mode = 1 ∧ c.dune.done % d.blockSweeps = 0 ∧ c.dune.done < d.sweeps then c.blockChange else c
    c.boundaryEnd

/-- All participating cores hold slices (R245). -/
def Chip.allSliced (c : Chip) : Bool := c.dune.cores.all (fun i => (c.core (c.pcore i)).slice)

/-- DUNE_SWEEP_BOUNDARY (R243): a sweep advances only while all participating cores hold slices. -/
def execDuneSweepBoundary (s : State) : Host.Outcome State Fault Refusal :=
  act (fun c =>
    if c.dune.active ∧ c.get Reg.DUNE_STAT_STATE = 2 ∧ c.dune.waiting = false ∧ c.allSliced then c.sweepBoundary else c) s

/-- A run whose coefficients are all zero (R235): the initial state, or all +1 where it is random. -/
def Chip.duneTrivial (c : Chip) : Chip :=
  let d := c.dune
  let spins := (List.range d.n).map (fun i => if d.init = 2 then bit (c.rdMem (d.initAddr + i / 8) 1) (i % 8) else true)
  ({ c with dune := { d with sc := (0, 0), best := some { energy := 0, sweep := 0, chain := 0, spins := spins } } } : Chip).duneEnd OK

/-- The local m of a multi-chip run is exchanged: every chip uses one s_c, and the run begins (R250). -/
def Chip.duneBegin (c : Chip) (m : Dy) : Chip :=
  let d := c.dune
  let d := { d with sc := Dy.div (d.top, 0) m }
  let d := { d with hcodes := (List.range (c.ownCount d)).map (fun k => d.quantise (c.hVal d (c.ownFirst d + k))), codes := c.formCodes d }
  let d := { d with rng := (List.range (pad32 (max (c.ownCount d) 1) / 32)).map (duneSeed d.seed) }
  let r := (List.range (c.ownCount d)).foldl (fun (p : Dune × List (BitVec 32)) k =>
    if d.init = 0 then
      let q := p.1.randomSpin (k / 32)
      (q.1, p.2 ++ [q.2])
    else
      let i := c.ownFirst d + k
      let up := d.init == 1 || bit (c.rdMem (d.initAddr + i / 8) 1) (i % 8)
      (p.1, p.2 ++ [if up then 0xFFFFFFFF#32 else 0#32])) (d, [])
  let d : Dune := { r.1 with spins := r.2 }
  let c := ({ c with dune := d } : Chip).writeRegions d
  let c := ({ c with dune := c.formFields d } : Chip).duneState 2
  if d.mode = 2 then { c with dune := { c.dune with waiting := true } }
  else
    let c := c.judge []
    if d.sweeps = 0 then c.duneEnd OK else c

/-- A multi-chip run is refused on every chip (R250). -/
def Chip.duneRefuse (c : Chip) : Chip :=
  let d := c.dune
  ({ ((c.releaseSlices.duneState 0).clr Reg.DUNE_STAT_ROT).clr Reg.DUNE_STAT_MULTI with dune := { Dune.idle with grants := d.grants } } : Chip).complete
    d.origin 0x0038 ERR_PARAM 0 0

/-- DUNE_EXCHANGE (R250): first the local m, then spins and energies; a peer whose descriptor differs, or a descriptor of this
chip that the multi-chip run does not share, MODE 1 among them, refuses the run on every chip. -/
def execDuneExchange (msg : DuneMsg) (s : State) : Host.Outcome State Fault Refusal :=
  act (fun c =>
    let d := c.dune
    if d.active = false then c
    else if msg.unequal then c.duneRefuse
    else if d.mode ≠ 2 then c
    else if c.get Reg.DUNE_STAT_STATE = 1 then
      let m := (c.coefWords d).foldl maxMag ((f32 (msg.m.toNat % 2 ^ 31)).getD (0, 0))
      let c := { c with dune := { d with nonzero := d.nonzero + msg.nonzero.toNat, peerJ := msg.peerJ, peerH := msg.peerH } }
      if m.1 = 0 then c.duneTrivial else c.duneBegin m
    else if d.waiting then
      let c := { c with dune := { d with waiting := false, remote := msg.spins } }
      let c := { c with dune := c.formFields c.dune }
      let c := c.judge (msg.energy.map BitVec.toInt)
      c.boundaryEnd
    else c) s

/-- DUNE_DEADLINE (R252); a DEADLINE of 0 never expires. -/
def execDuneDeadline (s : State) : Host.Outcome State Fault Refusal :=
  act (fun c => if c.dune.deadline = 0 then c else c.duneStop ERR_TIMEOUT) s

/-- DUNE_CMD_PAUSE (R251). -/
def execDuneCmdPause (s : State) : Host.Outcome State Fault Refusal := act (·.dunePause) s

/-- DUNE_CMD_RESUME (R251). -/
def execDuneCmdResume (s : State) : Host.Outcome State Fault Refusal := act (·.duneResume) s

/-- DUNE_CMD_ABORT (R252). -/
def execDuneCmdAbort (s : State) : Host.Outcome State Fault Refusal := act (·.duneStop PARTIAL) s

/-- DUNE_PAUSE_EXPIRY (R251); a DURATION of 0 never expires. -/
def execDunePauseExpiry (s : State) : Host.Outcome State Fault Refusal :=
  act (fun c => if c.get Reg.DUNE_PAUSE_DURATION = 0 then c else c.duneResume) s

/-! ## Slices (R245, R32) -/

/-- The share in force (R320): DUNE_SHARE less what the power cap takes. -/
def Chip.share (c : Chip) : Nat := c.get Reg.DUNE_SHARE_SHARE - c.power.cap.cut

/-- An MXPASS that a Dune slice has made wait has not run yet: the sequencer of the slot still waits at its PC (R32, R176). -/
def Chip.mxWaits (c : Chip) (s : Nat) : Bool := c.seqState s == 2 && (c.core s).mxWait == some (c.pc s)

/-- The matrix unit of slot `s` is idle and no inference work waits (R32, R245). -/
def Chip.matrixIdle (c : Chip) (s : Nat) : Bool :=
  let k := c.core s
  !c.mxWaits s && k.mx.isNone && k.group.isNone && k.banks.isEmpty && k.pass.isNone && k.inq.isEmpty && k.loopq.isEmpty && !k.slice

/-- Slices logical core `i` has been granted in the current millisecond. -/
def Chip.granted (c : Chip) (i : Nat) : Nat :=
  let g := smGet (0, 0) c.dune.grants i
  if g.1 = c.time.toNat / 400000 then g.2 else 0

/-- DUNE_SLICE_START (R245). -/
def execDuneSliceStart (i : CoreId) (s : State) : Host.Outcome State Fault Refusal :=
  act (fun c =>
    let i := i.toNat
    let p := c.pcore i
    if c.get Reg.DUNE_STAT_STATE = 2 ∧ c.dune.waiting = false ∧ c.dune.cores.contains i ∧ c.engineOn p ∧ c.matrixIdle p ∧ c.gangCluster (p / 32) = false ∧
        c.rotStops p = false ∧ c.granted i < c.share * 50 / 100 then
      let c := { c with dune := { c.dune with grants := smSet c.dune.grants i (c.time.toNat / 400000, c.granted i + 1) } }
      ((c.modCore p (fun k => { k with slice := true })).bump Reg.DUNE_SLICE_CNT_COUNT).tallyChip 0x89
    else c) s

/-- DUNE_SLICE_END (R245). -/
def execDuneSliceEnd (i : CoreId) (s : State) : Host.Outcome State Fault Refusal :=
  act (fun c => if c.seated i.toNat then c.modCore (c.pcore i.toNat) (fun k => { k with slice := false }) else c) s

end Sys2Proof.Machine
end

