-- ==== Sys2Proof/Machine/Defects.lean ====
section
/-! DEFINITION. Defect lists and seating (R363 to R367): the factory, field and working lists, the field list's copies in
flash, the slots a cluster seats and its spare. -/

namespace Sys2Proof.Machine

/-- The flash window (R254): byte `o` of the flash is the byte at this base + `o`. -/
def flashBase : Nat := 0x3800000000

/-- A listed entry, bits [15:0] of R364. -/
def entryOf (pcore kind : Nat) : Nat := pcore % 2 ^ 11 + kind % 16 * 2 ^ 11 + 2 ^ 15
def entryValid (e : Nat) : Bool := bit e 15
def entryCore (e : Nat) : Nat := e % 2 ^ 11
def entryKind (e : Nat) : Nat := e / 2 ^ 11 % 16

/-! ## The field list in flash (R365) -/

def fieldCopy (n : Nat) : Nat := flashBase + n * 0x1000
def Chip.copyCount (c : Chip) (n : Nat) : Nat := c.rdMem (fieldCopy n + 8) 2
def Chip.copySeq (c : Chip) (n : Nat) : Nat := c.rdMem (fieldCopy n + 4) 4

/-- The CRC of a copy: bytes 0 to 11 and its entries. -/
def Chip.copyCrcOf (c : Chip) (n : Nat) : Word :=
  crc32 (c.rdBytes (fieldCopy n) 12 ++ c.rdBytes (fieldCopy n + 16) (8 * c.copyCount n))

def Chip.copyOk (c : Chip) (n : Nat) : Bool :=
  c.rdMem (fieldCopy n) 4 == 0x4C464457 && c.copyCount n ≤ 256 && (c.copyCrcOf n).toNat == c.rdMem (fieldCopy n + 12) 4

/-- The valid copy with the greater SEQ. -/
def Chip.fieldInUse (c : Chip) : Option Nat :=
  if c.copyOk 0 ∧ (c.copyOk 1 = false ∨ c.copySeq 1 < c.copySeq 0) then some 0
  else if c.copyOk 1 then some 1 else none

/-- The 8-byte entries of the field list. -/
def Chip.fieldList (c : Chip) : List Nat :=
  match c.fieldInUse with
  | some n => (List.range (c.copyCount n)).map (fun i => c.rdMem (fieldCopy n + 16 + 8 * i) 8)
  | none => []

/-- A change of the field list: into the older copy with SEQ + 1, then the other copy's sector is erased. -/
def Chip.writeField (c : Chip) (l : List Nat) : Chip :=
  let n := match c.fieldInUse with | some n => 1 - n | none => 0
  let seq := match c.fieldInUse with | some n => c.copySeq n + 1 | none => 1
  let head := natToBytes 4 0x4C464457 ++ natToBytes 4 seq ++ natToBytes 2 l.length ++ natToBytes 2 0
  let body := l.flatMap (natToBytes 8)
  let c := c.wrBytes (fieldCopy n) (head ++ natToBytes 4 (crc32 (head ++ body)).toNat ++ body)
  c.wrBytes (fieldCopy (1 - n)) (List.replicate 4096 0xFF#8)

/-! ## The working list (R363) -/

def Chip.workCount (c : Chip) : Nat := c.get Reg.DMAP_STAT_WCOUNT
def Chip.workList (c : Chip) : List Nat := (List.range c.workCount).map (fun i => c.get (Reg.DMAP_WORK_ENTRY i))
def Chip.workPush (c : Chip) (e source build : Nat) : Chip :=
  let n := c.workCount
  if 384 ≤ n then c.set Reg.DMAP_STAT_WORK_FULL
  else
    let c := (c.put (Reg.DMAP_WORK_ENTRY n) e).put (Reg.DMAP_WORK_SOURCE n) source
    (c.wr (Reg.DMAP_WORK_BUILD n) (BitVec.ofNat 32 build)).put Reg.DMAP_STAT_WCOUNT (n + 1)

/-- A physical core is in the working list. -/
def Chip.listed (c : Chip) (s : Nat) : Bool := c.workList.any (fun e => entryValid e && entryCore e == s)

/-- A physical core is in the factory list. -/
def Chip.factoryListed (c : Chip) (s : Nat) : Bool :=
  (List.range 64).any (fun n => entryValid (c.get (Reg.FUSE_FDEF_ENTRY n)) && entryCore (c.get (Reg.FUSE_FDEF_ENTRY n)) == s)

/-- Add a defect to the lists (R365); with it the action a full list makes the report carry, 0 for none. -/
def Chip.addDefect (c : Chip) (s kind : Nat) : Chip × Nat :=
  if 384 ≤ c.workCount then (c.set Reg.DMAP_STAT_WORK_FULL, 6)
  else if 256 ≤ c.fieldList.length then
    ((c.workPush (entryOf s kind) 2 c.fw.build).set Reg.DMAP_STAT_FIELD_FULL, 4)
  else ((c.workPush (entryOf s kind) 1 c.fw.build).writeField (c.fieldList ++ [entryOf s kind + c.fw.build * 2 ^ 32]), 0)

/-- The working list is built afresh from factory and field entries (R363, R365), at every boot. -/
def Chip.buildWork (c : Chip) : Chip :=
  let kept := (List.range 384).filter (fun i => entryValid (c.get (Reg.DMAP_WORK_ENTRY i)) && c.get (Reg.DMAP_WORK_SOURCE i) == 2)
  let keptE := kept.map (fun i => (c.get (Reg.DMAP_WORK_ENTRY i), (c.rd (Reg.DMAP_WORK_BUILD i)).toNat))
  let c := if c.fieldInUse.isNone then c.set Reg.DMAP_STAT_FIELD_BAD else c.clr Reg.DMAP_STAT_FIELD_BAD
  let c := (c.put Reg.DMAP_STAT_WCOUNT 0).dropRegs (fun a => 0x21000 ≤ a && a < 0x22000)
  let c := (List.range 64).foldl (fun c n =>
    if entryValid (c.get (Reg.FUSE_FDEF_ENTRY n)) then c.workPush (c.get (Reg.FUSE_FDEF_ENTRY n)) 0 0 else c) c
  let c := c.fieldList.foldl (fun c e => c.workPush (e % 2 ^ 16) 1 (e / 2 ^ 32)) c
  keptE.foldl (fun c e => c.workPush e.1 2 e.2) c

/-! ## Seating (R366, R367) -/

/-- Healthy slots of cluster `k`, ascending. -/
def healthy (bad : Nat → Bool) (k : Nat) : List Nat := (List.range 17).filter (fun s => !bad (k * 32 + s))

/-- The slot that seats core `j` of a cluster, 31 for a core left absent. -/
def seatSlot (bad : Nat → Bool) (k j : Nat) : Nat := (healthy bad k).getD j 31

/-- Clusters with a bad slot: the others keep the seating of the store's reset. -/
def Chip.badClusters (c : Chip) (bad : Nat → Bool) : List Nat :=
  (List.range c.clusters).filter (fun k => (List.range 17).any (fun s => bad (k * 32 + s)))

/-- Write one seat into every cluster's shadow copy. -/
def Chip.shadowSeat (c : Chip) (i slot : Nat) : Chip :=
  (List.range c.clusters).foldl (fun c k => c.put (Reg.NI_MAP_SHADOW_SLOT k i) slot) c

/-- DMAP_CLUSTER_STAT of a cluster from its healthy slots. DESIGN CHOICE (log 171): SPARE is 31, no slot, where the cluster has no spare. -/
def Chip.clusterSeats (c : Chip) (bad : Nat → Bool) (k : Nat) : Chip :=
  let h := healthy bad k
  let c := c.put (Reg.DMAP_CLUSTER_STAT_HEALTHY k) h.length
  let c := c.put (Reg.DMAP_CLUSTER_STAT_DEGRADED k) (if h.length < 16 then 1 else 0)
  (c.put (Reg.DMAP_CLUSTER_STAT_SPARE k) (h.getD 16 31)).put (Reg.DMAP_CLUSTER_STAT_SPARE_FREE k) (if h.length = 17 then 1 else 0)

/-- At chip reset the map store loads the seating of the factory list (R366). -/
def Chip.factorySeats (c : Chip) : Chip :=
  (c.badClusters c.factoryListed).foldl (fun c k => (List.range 16).foldl (fun c j =>
    (List.range c.clusters).foldl (fun c r =>
      (c.put (Reg.NI_MAP_ACTIVE_SLOT r (k * 16 + j)) (seatSlot c.factoryListed k j)).put
        (Reg.NI_MAP_SHADOW_SLOT r (k * 16 + j)) (seatSlot c.factoryListed k j)) c) c) c

/-- Firmware's seating by the working list, in the shadow copies; one swap under R118 makes it active. -/
def Chip.workSeats (c : Chip) : Chip :=
  let c := (c.badClusters c.listed).foldl (fun c k => (List.range 16).foldl (fun c j =>
    c.shadowSeat (k * 16 + j) (seatSlot c.listed k j)) c) c
  (List.range c.clusters).foldl (fun c k => c.clusterSeats c.listed k) c

/-- One swap with the next epoch (R118, R369), when no cluster drains. -/
def Chip.swapAll (c : Chip) : Chip := c.mapBcastSwap ((c.get (Reg.NI_MAP_STAT_EPOCH 0) + 1) % 16)

/-- No swap is in progress in any present cluster. -/
def Chip.allDrained (c : Chip) : Bool := (List.range c.clusters).all (fun k => !c.swapping k)

/-- A seat of the shadow copies differs from the active one: the lists ask for a swap (R366). -/
def Chip.seatsDiffer (c : Chip) : Bool :=
  (List.range (16 * c.clusters)).any (fun i => c.get (Reg.NI_MAP_SHADOW_SLOT 0 i) != c.activeSlot 0 i)

/-- Logical core `i` moves to slot `slot` of its cluster by one swap. -/
def Chip.moveCore (c : Chip) (i slot : Nat) : Chip := (c.shadowSeat i slot).swapAll

/-- The spare of cluster `k` is free (R35). -/
def Chip.spareFree (c : Chip) (k : Nat) : Bool := c.on (Reg.DMAP_CLUSTER_STAT_SPARE_FREE k) && !c.gangCluster k
def Chip.spareOf (c : Chip) (k : Nat) : Nat := k * 32 + c.get (Reg.DMAP_CLUSTER_STAT_SPARE k)

end Sys2Proof.Machine
end

