-- ==== Sys2Proof/Machine/Resets.lean ====
section
/-! DEFINITION. What a reset clears (R347, R386, R406): a core, a cluster, the chip; and partial resets at work (R407 to
R411). -/

namespace Sys2Proof.Machine

/-! ## A core (R406, R411) -/

/-- Which offsets of a core window a core reset keeps: the microprogram store, and MX_CFG. -/
def coreKept (off : Nat) : Bool := (0x6000 ≤ off && off < 0x7000) || off == 0x2000

/-- An address lies in the core registers of slot `s`. -/
def inCore (s a : Nat) : Bool := Reg.coreBase s ≤ a && a < Reg.coreBase s + 0x10000

/-- The engine state and registers of a slot at their reset, once its traffic has been settled. -/
def Chip.clearCore (c : Chip) (s : Nat) : Chip :=
  (c.dropRegs (fun a => inCore s a && !coreKept (a - Reg.coreBase s))).setCore s Core.init

/-- The slot as ABSORB leaves it: queues DRAINED, what it holds discarded with its credits returned, its state reset. -/
def Chip.absorbCore (c : Chip) (s : Nat) : Chip :=
  let c := c.drainQueues s
  let c := (c.core s).arrived.foldl (fun c p => c.absorbPacket (s / 32) p ERR_FENCED) c
  let n := (c.core s).inq.length + (c.core s).loopq.length
  let c := (c.bump (Reg.NI_ABSORB_CNT_COUNT (s / 32)) n).tallyRouter (s / 32) 0x46 n
  c.clearCore s

/-- A gang pass of cluster `k` ends (R423). -/
def Chip.endGang (c : Chip) (k : Nat) : Chip :=
  (List.range 17).foldl (fun c s => c.modCore (k * 32 + s) (fun x => match x.mx with
    | some m => if m.gang then { x with mx := none } else x
    | none => x)) c

/-! ## A cluster domain that goes OFF (R386) -/

/-- A packet that router `k` originated leaves before the router's state is cleared (R217; log 145): to the bridge, or to the
router of its destination. -/
def Chip.sendOff (c : Chip) (k : Nat) : Flit → Chip
  | .event _ _ => c
  | .packet p =>
    if p.db then c.toBridge (cx k) (.packet p)
    else if p.dst / 16 = k then c
    else c.feed (p.dst / 16) 21 p.cls (.packet { p with hdr := mkHdr (routeOf [4]) p.cls p.sb p.db p.dslot p.epoch p.len })

/-- Everything router `k` originated and still holds leaves (R217). -/
def Chip.flushRouter (c : Chip) (k : Nat) : Chip :=
  ([4, 5] : List Nat).foldl (fun c cls => (c.buf k 21 cls ++ c.waiting k 21 cls).foldl (fun c f => c.sendOff k f) c) c

/-- Its cores, its router and their memories. -/
def Chip.clusterOff (c : Chip) (k : Nat) : Chip :=
  let c := ((List.range 17).foldl (fun c s => c.absorbCore (k * 32 + s)) c).flushRouter k
  let c := c.dropRegs (fun a => (List.range 17).any (fun s => inCore (k * 32 + s) a) || (0x1000000 + k * 0x10000 ≤ a && a < 0x1010000 + k * 0x10000))
  let c := { c with mem := (c.mem.clear (slotMem (k * 32) 0) (17 * 0x1000000)).clear (flagMem (k * 32) 0) (17 * 0x10000) }
  let c := c.setRouter k Router.init
  if k < 32 then c.wr Reg.BOOT_JOIN_LO (c.rd Reg.BOOT_JOIN_LO &&& ~~~ (1#32 <<< k))
  else c.wr Reg.BOOT_JOIN_HI (c.rd Reg.BOOT_JOIN_HI &&& ~~~ (1#32 <<< (k - 32)))

/-- The cluster has joined (R358). -/
def Chip.joined (c : Chip) (k : Nat) : Bool :=
  if k < 32 then (c.rd Reg.BOOT_JOIN_LO).getLsbD k else (c.rd Reg.BOOT_JOIN_HI).getLsbD (k - 32)

def Chip.join (c : Chip) (k : Nat) : Chip :=
  if k < 32 then c.wr Reg.BOOT_JOIN_LO (c.rd Reg.BOOT_JOIN_LO ||| (1#32 <<< k))
  else c.wr Reg.BOOT_JOIN_HI (c.rd Reg.BOOT_JOIN_HI ||| (1#32 <<< (k - 32)))

/-! ## The chip (R347) -/

/-- Registers a chip reset keeps: fuses, DMAP_WORK, the OAS_ block, BOOT_RST_CAUSE, the TRIP_COPY_ registers, and the
unlock state (R434). -/
def chipKept (a : Nat) : Bool :=
  (0x10000 ≤ a && a < 0x10800) || (0x21000 ≤ a && a < 0x22000) || (0x50000 ≤ a && a < 0x60000) || a == 0x8 ||
  (0xF0100 ≤ a && a < 0xF0114) || a == 0x110000

/-- Memory a chip reset keeps: DRAM's cells, Oasis SRAM and flash (log 12). -/
def memKept (a : Nat) : Bool := a < 0x1000000000000

/-- Causes of R347 as bits of BOOT_RST_CAUSE. -/
def POR := 1
def PIN := 2
def BROWNOUT := 4
def THERMAL := 8
def DEBUG := 16
def FIRMWARE := 32

/-- Power as a chip reset leaves it: supplies, the clock's phase and the charger are of the Oasis domain. -/
def Power.cleared (p : Power) : Power :=
  { supply := p.supply, inReset := true, good := p.good, selfRefresh := false, rem := 0, rtcPhase := p.rtcPhase, charged := p.charged,
    crcBad := p.crcBad, derated := [], ddrRequest := false, waiting := [], cap := Cap.off, lko := Lookout.none }

/-- A chip reset (R347): every domain but the Oasis domain, the time base from zero. -/
def Chip.cleared (c : Chip) : Chip :=
  { time := 0, regs := c.regs.filter (fun r => chipKept r.1), mem := c.mem.filter (fun m => memKept m.1), cores := [], routers := [],
    bridge := Bridge.init, ports := [], syncCount := 0, chans := [], links := [], sync := TimeSync.init, dead := 0, rst := RstRun.idle,
    rot := Rotation.idle, dune := Dune.idle, pools := [], dma := [], fw := Fw.init c.fw.log, host := HostSt.init, trip := Trip.init,
    power := c.power.cleared, tap := c.tap, fresh := c.fresh, out := c.out }

/-- A chip reset with its causes; the release follows by RESET_RELEASE. -/
def Chip.chipReset (c : Chip) (cause : Nat) : Chip :=
  let c := c.cleared.factorySeats
  c.put Reg.BOOT_RST_CAUSE_CAUSE (c.get Reg.BOOT_RST_CAUSE_CAUSE ||| cause)

/-! ## Partial resets (R407 to R411) -/

/-- Clusters of partition `p`'s reset mask. -/
def Chip.partClusters (c : Chip) (p : Nat) : List Nat :=
  (List.range c.clusters).filter (fun k =>
    if k < 32 then (c.rd (Reg.RST_PART_MASK_LO p)).getLsbD k else (c.rd (Reg.RST_PART_MASK_HI p)).getLsbD (k - 32))

/-- The target of a request exists (R407). -/
def Chip.resetTarget (c : Chip) (scope target : Nat) : Bool :=
  if scope = 0 then c.seated target
  else if scope = 1 then target < c.clusters
  else if scope = 2 then target < 16 && (c.rd (Reg.RST_PART_MASK_LO target) != 0 || c.rd (Reg.RST_PART_MASK_HI target) != 0)
  else !c.on Reg.RST_CTRL_LOCK

/-- Seated slots and the spare of a cluster (R406); a fenced slot is outside (the crossing of chapter 17). -/
def Chip.clusterSlots (c : Chip) (k : Nat) : List Nat :=
  ((List.range 17).map (k * 32 + ·)).filter (fun s => (c.seats s || s == c.spareOf k) && !c.fenced s)

/-- The region of a request: clusters reset whole, and slots. -/
def Chip.resetRegion (c : Chip) (scope target : Nat) : List Nat × List Nat :=
  if scope = 0 then ([], [c.pcore target].filter (fun s => !c.fenced s))
  else
    let ks := if scope = 1 then [target] else c.partClusters target
    (ks, ks.flatMap c.clusterSlots)

/-- The rotation step in progress is abandoned (R373): nothing moved, the next step waits for the next PERIOD. -/
def Chip.rotAbandon (c : Chip) : Chip :=
  let c := c.bump Reg.DMAP_ROT_CNT_ABANDONED
  { c.put Reg.DMAP_ROT_STAT_PHASE 0 with rot := Rotation.idle }

/-- A step that has not reached the swap is abandoned when `p` holds of its cluster. -/
def Chip.rotLoses (c : Chip) (p : Nat → Bool) : Chip :=
  let ph := c.get Reg.DMAP_ROT_STAT_PHASE
  if 1 ≤ ph ∧ ph ≤ 3 ∧ p (c.get Reg.DMAP_ROT_STAT_CLUSTER) then c.rotAbandon else c

/-- ABSORB begins (R409): the region's traffic is settled and its state reset. -/
def Chip.enterAbsorb (c : Chip) : Chip :=
  let c := c.put Reg.RST_STAT_PHASE 2
  let c := c.rst.slots.foldl (fun c s => c.absorbCore s) c
  let c := c.rst.slots.foldl (fun c s => c.endGang (s / 32)) c
  c.rst.clusters.foldl (fun c k =>
    ((List.range 17).foldl (fun c s => if c.rst.slots.contains (k * 32 + s) then c.dropRegs (· == Reg.MX_CFG (k * 32 + s)) else c) c).clr
      (Reg.RT_CFG_LOCK k)) c

/-- A substitution whose start still waits in a slot of the region ends under R35 (chapter 17; log 165). -/
def Chip.reloadsLost (c : Chip) (slots : List Nat) : Chip :=
  let hit := c.fw.reloads.filter (fun i => slots.contains (c.pcore i))
  if hit = [] then c
  else { c with fw := { c.fw with reloads := c.fw.reloads.filter (fun i => !slots.contains (c.pcore i)),
                                  fences := c.fw.fences ++ hit.map (fun i => (c.pcore i, 0, false)) } }

/-- An accepted request (R407, R409, R423): the chip scope resets the chip, any other starts its phases. -/
def Chip.resetStart (c : Chip) (scope target : Nat) (absorb : Bool) : Chip :=
  if scope = 3 then c.chipReset FIRMWARE
  else
    let r := c.resetRegion scope target
    let hit : Nat → Bool := fun s => r.2.contains s
    let c := c.duneLoses (fun i => hit (c.pcore i))
    let c := c.rotLoses (fun k => r.2.any (fun s => s / 32 == k))
    let c := c.reloadsLost r.2
    let c := ({ c with rst := { slots := r.2, clusters := r.1, scope := scope, target := target, fallback := false } } : Chip)
    let c := c.set Reg.RST_STAT_BUSY
    if absorb then c.enterAbsorb else c.put Reg.RST_STAT_PHASE 1

/-- A write to RST_REQ (R407). -/
def Chip.resetRequest (c : Chip) (v : Word) : Chip :=
  let scope := wbits v 1 0
  let target := wbits v 13 4
  if c.on Reg.RST_STAT_BUSY ∨ c.resetTarget scope target = false then c.set Reg.RST_STAT_REJ
  else c.resetStart scope target (wbits v 2 2 == 1)

/-- RST_REQ (R407). -/
def execRstReq (v : Word) (s : State) : Host.Outcome State Fault Refusal := act (·.resetRequest v) s

/-- The region is idle (R409). -/
def Chip.slotIdle (c : Chip) (s : Nat) : Bool :=
  let k := c.core s
  !k.outstanding && k.outq.isEmpty && k.drift.isEmpty && k.pass.isNone && k.mx.isNone && k.group.isNone && k.banks.isEmpty

/-- RESET_DRAIN_DONE (R409). -/
def execResetDrainDone (s : State) : Host.Outcome State Fault Refusal :=
  act (fun c => if c.get Reg.RST_STAT_PHASE = 1 ∧ c.rst.slots.all c.slotIdle then c.enterAbsorb else c) s

/-- DRAIN_TIMEOUT (R410): DRAIN_TO µs are over; 0 waits without limit. -/
def execDrainTimeout (s : State) : Host.Outcome State Fault Refusal :=
  act (fun c =>
    if c.get Reg.RST_STAT_PHASE = 1 ∧ c.get Reg.RST_CFG_DRAIN_TO ≠ 0 then
      let c := (c.set Reg.RST_STAT_FALLBACK).set Reg.RST_IRQ_STATUS_FALLBACK
      ({ c with rst := { c.rst with fallback := true } } : Chip).enterAbsorb
    else c) s

/-- Codes of event-log entries that no notification carries (log 31). -/
def logReset := 0x0101
def logClock := 0x0102
def logHello := 0x0103
def logAutostart := 0x0104
def logUnlock := 0x0106
/-- ABSORB_END (R408, R409): RELEASE follows at once; the reset leaves one event-log entry, which holds the fallback. -/
def execAbsorbEnd (s : State) : Host.Outcome State Fault Refusal :=
  act (fun c =>
    if c.get Reg.RST_STAT_PHASE = 2 then
      let c := c.logged logReset (c.rst.scope + c.rst.target * 16) c.rst.fallback.toNat
      let c := ((c.put Reg.RST_STAT_PHASE 0).clr Reg.RST_STAT_BUSY).set Reg.RST_IRQ_STATUS_DONE
      { c with rst := RstRun.idle }
    else c) s

/-! ## Fences (R412) -/

/-- The slot is fenced: nothing of it runs or is kept but its memories; a reset goes on without it, a Dune run and a
rotation step that need it end (R413, R423). -/
def Chip.fence (c : Chip) (s : Nat) : Chip :=
  let c := c.put (Reg.RST_FENCED_SLOTS (s / 32)) (c.get (Reg.RST_FENCED_SLOTS (s / 32)) ||| 2 ^ (s % 32))
  let c := c.duneLoses (fun i => c.pcore i == s)
  let c := c.rotLoses (fun k => k == s / 32)
  let c := c.endGang (s / 32)
  let c := (c.setCore s { Core.init with g := (c.core s).g }).setSeqState s 3
  let c := (c.clr (Reg.BDP_CORE_STAT_DHALT s)).clr (Reg.BDP_CORE_STAT_BPHIT s)
  let c := (c.clr (Reg.CORE_STAT_HOLD s)).dropRegs (fun a => (List.range 4).any (fun q => a == Reg.WADI_Q_STAT s q))
  { c with rst := { c.rst with slots := c.rst.slots.filter (· != s) } }

/-- A fence that firmware has to follow up (R413, R414): by R412 with its KIND, or by RST_FENCE_CMD. -/
def Chip.fenceFor (c : Chip) (s kind : Nat) (byCmd : Bool) : Chip :=
  if c.fenced s then c
  else
    let c := c.fence s
    { c with fw := { c.fw with fences := c.fw.fences ++ [(s, kind, byCmd)] } }

/-- SRAM_UNCORRECTABLE (R412, R415): an uncorrectable error of bonded memory is counted; a parity error of the other
memories is not; both fence the slot while AUTOFENCE is 1. -/
def execSramUncorrectable (p : PCore) (bonded : Bool) (s : State) : Host.Outcome State Fault Refusal :=
  act (fun c =>
    let s := p.toNat
    if s / 32 < c.clusters ∧ s % 32 < 17 then
      let c := if bonded then c.bump (Reg.RST_SRAM_ECC_UNCORR (s / 32)) else c
      if c.on Reg.RST_CFG_AUTOFENCE ∧ c.fenced s = false then (c.set Reg.RST_IRQ_STATUS_AUTOFENCE).fenceFor s 6 false else c
    else c) s

/-- A write to RST_FENCE_CMD (R412): SET fences; clear takes effect on a slot that seats no logical core, and resets it. -/
def Chip.fenceCmd (c : Chip) (v : Word) : Chip :=
  let s := wbits v 10 0
  if s / 32 < c.clusters ∧ s % 32 < 17 then
    if wbits v 12 12 = 1 then c.fenceFor s 7 true
    else if c.fenced s ∧ c.logical? s = none then
      (c.put (Reg.RST_FENCED_SLOTS (s / 32)) (c.get (Reg.RST_FENCED_SLOTS (s / 32)) &&& (2 ^ 17 - 1 - 2 ^ (s % 32)))).absorbCore s
    else c
  else c

/-- RST_FENCE_CMD (R412). -/
def execRstFenceCmd (v : Word) (s : State) : Host.Outcome State Fault Refusal := act (·.fenceCmd v) s

end Sys2Proof.Machine
end

