-- ==== Sys2Proof/Machine/Rotation.lean ====
section
/-! DEFINITION. The rotation test (R368 to R373), the end of a map swap (R118, R371) and the WCREDITs firmware sends after a
fence (R220). -/

namespace Sys2Proof.Machine

/-! ## WCREDITs of firmware (R220) -/

/-- The slot and send port whose WADI_SPORT_CFG stands at `a`, where one does. -/
def sportAt (a : Nat) : Option (Nat × Nat) :=
  let off := (a - 0x10000000) % 0x10000
  if 0x10000000 ≤ a ∧ 0x5100 ≤ off ∧ off < 0x5200 ∧ off % 16 = 0 then some ((a - 0x10000000) / 0x10000, (off - 0x5100) / 16) else none

/-- Ports bound to a queue of logical core `i`: slot and port, the bridge's own among them. BOUND is 0 at reset, so a bound port
is among the registers that differ from their reset. -/
def Chip.boundPorts (c : Chip) (i : Nat) : List (Nat × Nat) :=
  c.regs.filterMap (fun r => (sportAt r.1).filter (fun sp =>
    (sp.1 == bridgeSlot || (sp.1 / 32 < c.clusters && sp.1 % 32 < 17)) && r.2.getLsbD 18 && wbits r.2 11 0 / 4 == i))

/-- A packet of the fabric bridge to logical core `dst`: it enters at the edge port of the core's column (R111, R220), under
the bound of any input (R115). -/
def Chip.bridgeSend (c : Chip) (cls dst : Nat) (body : List DWord) : Chip :=
  let e := cx (dst / 16)
  let p : Packet := { hdr := mkHdr (routeOf (List.replicate (cy (dst / 16)) 1 ++ [4])) cls true false (c.activeSlot e dst)
                               (c.get (Reg.NI_MAP_STAT_EPOCH e)) (body.length - 1), body := body }
  c.feed e 19 cls (.packet p)

/-- Firmware's WCREDIT to one port. -/
def Chip.fwCredit (c : Chip) (orphan reload : Bool) (sp : Nat × Nat) : Chip :=
  let wadi := c.get (Reg.WADI_SPORT_CFG_WADI sp.1 sp.2)
  let body := wcreditBody 0x3FF (c.logicalOf sp.1) sp.2 0 orphan reload wadi
  if sp.1 = bridgeSlot then c.wcredit bridgeSlot (sp.2 + orphan.toNat * 2 ^ 10 + reload.toNat * 2 ^ 11 + wadi * 2 ^ 12)
  else if (c.logical? sp.1).isSome then c.bridgeSend 5 (c.logicalOf sp.1) body else c

def Chip.fwCredits (c : Chip) (i : Nat) (orphan reload : Bool) : Chip := (c.boundPorts i).foldl (fun c sp => c.fwCredit orphan reload sp) c

/-- A job that runs has a program for logical core `i` (R316). -/
def Chip.jobRuns (c : Chip) (i : Nat) : Bool := c.fw.jobs.any (fun x => (x.2.state == 3 || x.2.state == 4) && x.2.programs.contains i)

/-- Step 3 of R220 and step 5 of R413, once every cluster is drained and firmware runs; a core whose job does not run is not
started (log 54). -/
def Chip.finishReloads (c : Chip) : Chip :=
  if c.fwUp ∧ c.allDrained then
    let l := c.fw.reloads
    let c := { c with fw := { c.fw with reloads := [] } }
    l.foldl (fun c i => (if c.jobRuns i then (c.fwCredits i false true).runRequest (c.pcore i) else c.fwCredits i false true)) c
  else c

/-! ## A step (R368, R369) -/

def Chip.rotPhase (c : Chip) : Nat := c.get Reg.DMAP_ROT_STAT_PHASE

/-- The next slot above the spare that seats a core, wrapping after 16. -/
def Chip.nextSeated (c : Chip) (k : Nat) : Option Nat :=
  let sp := c.get (Reg.DMAP_CLUSTER_STAT_SPARE k)
  ((List.range 16).map (fun n => k * 32 + (sp + 1 + n) % 17)).find? (fun s => (c.logical? s).isSome && !c.listed s && !c.fenced s)

/-- A step that moves the core of slot `old` into the spare starts with PRECOPY. -/
def Chip.rotStart (c : Chip) (old withdraw : Nat) : Chip :=
  let k := old / 32
  let c := (c.put Reg.DMAP_ROT_STAT_CLUSTER k).put Reg.DMAP_ROT_STAT_SLOT (old % 32)
  let c := c.put Reg.DMAP_ROT_STAT_PHASE 1
  { c with rot := { core := c.logicalOf old, old := old, new := c.spareOf k, rounds := 0, taken := false, withdraw := withdraw } }

/-- ROTATION_STEP (R368): PERIOD is over for a cluster; 0 never fires. -/
def execRotationStep (k : Cluster) (s : State) : Host.Outcome State Fault Refusal :=
  act (fun c =>
    let k := k.toNat
    if c.on Reg.DMAP_ROT_CFG_EN && c.get Reg.DMAP_ROT_CFG_PERIOD != 0 && k < c.clusters && c.clusterOn k && c.spareFree k &&
        c.allDrained && c.rotPhase == 0 && c.power.cap.stage < 2 && !c.inLookout then
      match c.nextSeated k with
      | some old => if c.dhalted old then c else c.rotStart old 0
      | none => c
    else c) s

/-- PRECOPY_ROUND (R369, R373): a round ends with `dirty` lines written since they were copied; four rounds at most. -/
def execPrecopyRound (dirty : BitVec 16) (s : State) : Host.Outcome State Fault Refusal :=
  act (fun c =>
    if c.rotPhase = 1 then
      if dirty.toNat ≤ 1024 then c.put Reg.DMAP_ROT_STAT_PHASE 2
      else if c.rot.rounds + 1 < 4 then { c with rot := { c.rot with rounds := c.rot.rounds + 1 } }
      else c.rotAbandon
    else c) s

/-- ROTATION_QUIESCE (R369): the Drift queue is empty, no pass of MXPASS, no slice and no request is in progress; the
sequencer is taken. -/
def execRotationQuiesce (s : State) : Host.Outcome State Fault Refusal :=
  act (fun c =>
    let k := c.core c.rot.old
    if c.rotPhase = 2 ∧ k.drift.isEmpty ∧ k.mx.isNone ∧ k.slice = false ∧ k.outstanding = false ∧ c.allDrained then
      { c.put Reg.DMAP_ROT_STAT_PHASE 3 with rot := { c.rot with taken := true } }
    else c) s

/-- An event that waits in a delivery stage for room in slot `a`'s queue waits for the queue's new place, slot `b` (R36; log 141). -/
def Chip.retargetStages (c : Chip) (a b : Nat) : Chip :=
  (List.range 16).foldl (fun c port =>
    match c.staged (a / 32) port 0 with
    | some x => if x.slot = some (a % 32) then c.setStage (a / 32) port 0 (some { x with slot := some (b % 32) }) else c
    | none => c) c

/-- The whole state of slot `a` copied to slot `b` (R369, phase 3): memories, flags, every register of the core window, the
engine; queued tuples stay with the old slot until R371 joins the queues. -/
def Chip.copySlot (c : Chip) (a b : Nat) : Chip :=
  let mem := (c.mem.copyFrom c.mem (slotMem b 0) (slotMem a 0) 0x200000).copyFrom c.mem (flagMem b 0) (flagMem a 0) 0x10000
  let regs := c.regs.filter (fun r => inCore a r.1)
  let c := { c with mem := mem }.dropRegs (inCore b)
  let c := regs.foldl (fun c r => c.wr (Reg.coreBase b + (r.1 - Reg.coreBase a)) r.2) c
  let k := c.core a
  let c := c.setCore b { k with queues := Vector.replicate 4 [], arrived := k.arrived.filter (fun p => p.cls != 1) }
  c.setCore a { Core.init with queues := k.queues, arrived := k.arrived.filter (fun p => p.cls == 1) }

/-- ROTATION_FREEZE (R369): the current pass has ended; the copy and the swap, from which on the
cluster has no free spare (R372). -/
def execRotationFreeze (s : State) : Host.Outcome State Fault Refusal :=
  act (fun c =>
    if c.rotPhase = 3 ∧ (c.core c.rot.old).pass.isNone ∧ c.allDrained then
      let c := (c.copySlot c.rot.old c.rot.new).retargetStages c.rot.old c.rot.new
      let c := c.clr (Reg.DMAP_CLUSTER_STAT_SPARE_FREE (c.rot.old / 32))
      (c.moveCore c.rot.core (c.rot.new % 32)).put Reg.DMAP_ROT_STAT_PHASE 4
    else c) s

/-- A freed slot with nothing in it (log 14). -/
def Chip.blankSlot (c : Chip) (s : Nat) : Chip :=
  let c := { c with mem := (c.mem.clear (slotMem s 0) 0x200000).clear (flagMem s 0) 0x10000 }
  (c.dropRegs (inCore s)).setCore s Core.init

/-- The freed slot of a finished step becomes the spare. -/
def Chip.rotSpare (c : Chip) : Chip :=
  let k := c.rot.old / 32
  ((c.blankSlot c.rot.old).put (Reg.DMAP_CLUSTER_STAT_SPARE k) (c.rot.old % 32)).put (Reg.DMAP_CLUSTER_STAT_SPARE_FREE k) 1

/-- The cluster is left with no free spare and a healthy slot less. -/
def Chip.loseSpare (c : Chip) (k : Nat) : Chip :=
  (c.put (Reg.DMAP_CLUSTER_STAT_HEALTHY k) (c.get (Reg.DMAP_CLUSTER_STAT_HEALTHY k) - 1)).clr (Reg.DMAP_CLUSTER_STAT_SPARE_FREE k)

def Chip.rotDone (c : Chip) : Chip :=
  let c := (c.bump Reg.DMAP_ROT_CNT_DONE).put Reg.DMAP_ROT_STAT_PHASE 0
  { c with rot := Rotation.idle }

/-- A move that DEFECT_REMAP asked for is over (R375): its slot is withdrawn and the command completes. -/
def Chip.moveDone (c : Chip) : Chip :=
  let old := c.rot.old
  let c := ((c.blankSlot old).loseSpare (old / 32)).rotDone
  match c.fw.ops.find? (fun o => o.code == 0x51 && bytesToNat (o.args.take 2) == old) with
  | some o => ({ c with fw := { c.fw with ops := c.fw.ops.filter (fun x => x != o) } } : Chip).complete o.origin o.code OK 0 0
  | none => c

/-- Queue `q` of the old slot's copy joins the new slot's, ahead of what it holds (R371); where the queue has been DRAINED
since, its tuples are discarded and their credits returned (R217). -/
def Chip.mergeQueue (c : Chip) (a b q : Nat) : Chip :=
  let old := (c.core a).queue q
  if c.queueOpen b q then c.modCore b (fun x => x.setQueue q (old ++ x.queue q))
  else old.foldl (fun c t => c.tupleOrphan (a / 32) b q t) c

/-- The step's swap has ended (R371): old tuples ahead of new ones, queue by queue; the sequencer resumes. -/
def Chip.rotMerge (c : Chip) : Chip :=
  let a := c.rot.old
  let b := c.rot.new
  let c := (List.range 4).foldl (fun c q => c.mergeQueue a b q) c
  let c : Chip := { c.setCore a Core.init with rot := { c.rot with taken := false } }
  if c.rot.withdraw = 0 then c.put Reg.DMAP_ROT_STAT_PHASE 5 else c.moveDone

/-- MAP_DRAIN_DONE (R118, R371): no packet of the previous epoch remains, so the cluster is drained and its shadow equals the
active copy; the last cluster ends what waited for the swap. -/
def Chip.drainDone (c : Chip) (k : Nat) : Chip :=
  let isActive : Nat → Bool := fun a => Reg.NI_MAP_ACTIVE k 0 ≤ a && a < Reg.NI_MAP_ACTIVE k 1024
  let isShadow : Nat → Bool := fun a => Reg.NI_MAP_SHADOW k 0 ≤ a && a < Reg.NI_MAP_SHADOW k 1024
  let active := c.regs.filter (fun r => isActive r.1)
  let c := active.foldl (fun c r => c.wr (r.1 - 0x1000) r.2) (c.dropRegs isShadow)
  let c := (c.modRouter k (fun r => { r with prev := [] })).put (Reg.NI_MAP_STAT_DRAINED k) 1
  if c.allDrained then
    let c := if c.rotPhase = 4 then c.rotMerge else c
    c.finishReloads
  else c

def execMapDrainDone (k : Cluster) (s : State) : Host.Outcome State Fault Refusal :=
  act (fun c => if k.toNat < c.clusters ∧ c.swapping k.toNat ∧ c.oldPackets k.toNat = false then c.drainDone k.toNat else c) s

/-- The report of a defect (R365, R374): ARG1 says what was done, a full list says so in its place. -/
def Chip.reportDefect (c : Chip) (s kind action full : Nat) : Chip :=
  c.notify 0x000B OK s kind (if full = 0 then action else full)

/-- The slot in test has meanwhile taken the seat of a fenced core (chapter 15, fence during TEST; log 162). -/
def Chip.testClaimed (c : Chip) : Bool := (c.logical? c.rot.old).isSome

/-- ROTATION_SLOT_TEST (R372): the freed slot's test ends; a defect has a KIND. -/
def execRotationSlotTest (pass : Bool) (kind : BitVec 4) (s : State) : Host.Outcome State Fault Refusal :=
  act (fun c =>
    if c.rotPhase = 5 then
      if pass then (if c.testClaimed then c else c.rotSpare).rotDone
      else
        let s := c.rot.old
        let r : Chip × Nat := (if c.testClaimed then c else c.blankSlot s).addDefect s kind.toNat
        let c := r.1.loseSpare (s / 32)
        let c := if r.2 = 6 then c.fence s else c
        (c.reportDefect s kind.toNat 5 r.2).rotDone
    else c) s

/-- ROTATION_ABANDON (R373): a step that has not reached the swap exceeds a bound or meets a bar. -/
def execRotationAbandon (s : State) : Host.Outcome State Fault Refusal :=
  act (fun c => if 1 ≤ c.rotPhase ∧ c.rotPhase ≤ 3 then c.rotAbandon else c) s

end Sys2Proof.Machine
end

