-- ==== Sys2Proof/Machine/Power.lean ====
section
/-! DEFINITION. Clocks, power domains and their votes, supplies, the backup cell and the sensors (R378 to R389, R399 to R404). -/

namespace Sys2Proof.Machine

/-! ## Domains (R383 to R387) -/

/-- The domain exists and is not fused (R19). -/
def Chip.domPresent (c : Chip) (d : Nat) : Bool := if d < 64 then d < c.clusters else d < 70
def Chip.domState (c : Chip) (d : Nat) : Nat := c.get (Reg.PWR_DOM_STAT_STATE d)
def Chip.setDom (c : Chip) (d st : Nat) : Chip := c.put (Reg.PWR_DOM_STAT_STATE d) st
def Chip.votes (c : Chip) (d : Nat) : Word := c.rd (Reg.PWR_VOTE d)

/-- Cluster domains in RAMP. -/
def Chip.ramping (c : Chip) : Nat := ((List.range 64).filter (fun d => c.domState d == 1)).length

/-- A number put into an ascending list. -/
def insertAsc (d : Nat) : List Nat → List Nat
  | [] => [d]
  | x :: xs => if d < x then d :: x :: xs else if d = x then x :: xs else x :: insertAsc d xs

/-- A domain in OFF that has a vote: it ramps, a cluster only while fewer than four do (R387). -/
def Chip.rampStart (c : Chip) (d : Nat) : Chip :=
  if d < 64 ∧ 4 ≤ c.ramping then { c with power := { c.power with waiting := insertAsc d c.power.waiting } } else c.setDom d 1

/-- What a vote does to its domain (R385). -/
def Chip.domVoted (c : Chip) (d : Nat) : Chip :=
  if c.votes d = 0 then c
  else if c.domState d = 0 then c.rampStart d
  else if c.domState d = 3 ∨ c.domState d = 4 then c.setDom d 2
  else c

/-- Votes set (R384). -/
def Chip.voteSet (c : Chip) (d : Nat) (v : Word) : Chip :=
  if c.domPresent d then (c.wr (Reg.PWR_VOTE d) (c.votes d ||| v)).domVoted d else c

/-- A domain without votes (R385): from ON to HYST; one that waits to ramp waits no more. -/
def Chip.domIdle (c : Chip) (d : Nat) : Chip :=
  if c.votes d ≠ 0 then c
  else
    let c := { c with power := { c.power with waiting := c.power.waiting.filter (· != d) } }
    if c.domState d = 2 then c.setDom d 3 else c

/-- Votes cleared (R384); `v` has bit 31 only for a detach. -/
def Chip.voteDrop (c : Chip) (d : Nat) (v : Word) : Chip :=
  if c.domPresent d then (c.wr (Reg.PWR_VOTE d) (c.votes d &&& ~~~ v)).domIdle d else c

def Chip.voteClr (c : Chip) (d : Nat) (v : Word) : Chip := c.voteDrop d (v &&& 0x7FFFFFFF#32)

/-- PWR_VOTE_SET (R384). -/
def execPwrVoteSet (d : BitVec 7) (v : Word) (s : State) : Host.Outcome State Fault Refusal := act (·.voteSet d.toNat v) s

/-- PWR_VOTE_CLR (R384). -/
def execPwrVoteClr (d : BitVec 7) (v : Word) (s : State) : Host.Outcome State Fault Refusal := act (·.voteClr d.toNat v) s

/-- A domain's clock switch: PLL or FCLK (R380). -/
def Chip.clkSel (c : Chip) (d : Nat) (pll : Bool) : Chip :=
  let a := if d < 32 then Reg.CLK_SEL_LO else if d < 64 then Reg.CLK_SEL_MID else Reg.CLK_SEL_HI
  c.put ⟨a, d % 32, d % 32⟩ pll.toNat

/-- The next cluster that waits starts its ramp (R387). -/
def Chip.nextRamp (c : Chip) : Chip :=
  match c.power.waiting with
  | d :: ds => if c.ramping < 4 then ({ c with power := { c.power with waiting := ds } } : Chip).setDom d 1 else c
  | [] => c

/-- Registers of the cell-link block with its mapping store, and of the timer and capture blocks. -/
def inCellBlock (a : Nat) : Bool := 0x130000 ≤ a && a < 0x150000
def inCaptureBlock (a : Nat) : Bool := 0x150000 ≤ a && a < 0x170000

/-- A domain loses its state (R386): what it holds is reset. -/
def Chip.domainLost (c : Chip) (d : Nat) : Chip :=
  let c := c.clkSel d false
  if d < 64 then
    let c := c.duneLoses (fun i => i / 16 == d)
    (c.rotLoses (fun k => k == d)).clusterOff d
  else if d = 64 then
    let fw := Fw.init c.fw.log
    { (c.put Reg.HIF_FWSTATE_FW_STATE 0) with fw := { fw with jobs := c.fw.jobs, parts := c.fw.parts, fences := c.fw.fences, reloads := c.fw.reloads, autoDone := c.fw.autoDone },
                                              mem := c.mem.clear (hcuMem 0) 0x200000 }
  else if d = 65 then (c.clr (Reg.DDR_STAT_TRAINED 0)).clr (Reg.DDR_STAT_TRAINED 1)
  else if d = 67 then
    { (c.dropRegs (fun a => (List.range 4).any (fun l => a == Reg.FER_LINK_STAT l))) with links := [] }
  else if d = 68 then { c.dropRegs inCellBlock with ports := [] }
  else if d = 69 then { c.dropRegs inCaptureBlock with chans := [] }
  else c

/-! ## What firmware enables as clusters join and power comes (R67, R87, R338, R346, R358) -/

/-- Every edge port of the variant has joined: 0 to 7, or 0 to 3 on the UT-512. -/
def Chip.edgesJoined (c : Chip) : Bool := (List.range (if c.variant = 3 then 4 else 8)).all c.joined

/-- Every edge port that R22 names for an enabled cell-link port has joined; with no port enabled, every edge port (log 160). -/
def Chip.ingestJoined (c : Chip) : Bool :=
  let l := (List.range 128).filter (fun p => c.on (Reg.CL_PORT_CFG_EN p))
  if l.isEmpty then c.edgesJoined else l.all (fun p => c.joined (p / 16))

/-- INGEST_EN (R67). -/
def Chip.ingestActions (c : Chip) : Chip := if c.ingestJoined then c.set Reg.CL_CTRL_INGEST_EN else c

/-- ENABLE and EMIT_EN once time is aligned (R338), EMIT_EN also once the edge ports have joined (R87). -/
def Chip.timeActions (c : Chip) : Chip :=
  if c.keepsTime || c.sync.aligned then
    let c := if bit c.fw.offered 8 then c.set Reg.CL_CTRL_ENABLE else c
    if c.edgesJoined then c.set Reg.CAP_CTRL_EMIT_EN else c
  else c

/-- LINK_EN with the Feryo PHY; CREDIT_EN with a link's cluster and the edge ports (R346). -/
def Chip.linkActions (c : Chip) : Chip :=
  (List.range c.links_).foldl (fun c l =>
    let c := if c.domState 67 = 2 then (c.put Reg.FER_CTRL_LINK_EN (c.get Reg.FER_CTRL_LINK_EN ||| 2 ^ l)).linkEnable l else c
    if c.joined (feryoCluster l) && c.edgesJoined then (c.put Reg.FER_CTRL_CREDIT_EN (c.get Reg.FER_CTRL_CREDIT_EN ||| 2 ^ l)).grant l else c) c

/-- What firmware does as clusters join (R358). -/
def Chip.joinActions (c : Chip) : Chip := c.timeActions.ingestActions.linkActions

/-- DOMAIN_RAMP_DONE (R380, R385): ON, its blocks reset by their power-up (R386), on the PLL when AUTO_SEL has it; without votes it
goes on to HYST. With the Feryo PHY, firmware brings up the links (R346). -/
def execDomainRampDone (d : BitVec 7) (s : State) : Host.Outcome State Fault Refusal :=
  act (fun c =>
    let d := d.toNat
    if c.domPresent d ∧ c.domState d = 1 then
      let c := if d = 64 then c else c.domainLost d
      let c := c.setDom d 2
      let c := if c.on Reg.CLK_CTRL_AUTO_SEL && c.on Reg.CLK_STAT_LOCK then c.clkSel d true else c
      let c := if d = 67 && c.fwUp then c.linkActions else c
      (c.domIdle d).nextRamp
    else c) s

/-- DOMAIN_HYST_EXPIRY (R385): PWR_HYST µs are over without a vote; 0 never expires. -/
def execDomainHystExpiry (d : BitVec 7) (s : State) : Host.Outcome State Fault Refusal :=
  act (fun c =>
    let d := d.toNat
    if c.domPresent d ∧ c.domState d = 3 ∧ c.votes d = 0 ∧ c.get Reg.PWR_HYST_US ≠ 0 then
      if c.on (Reg.PWR_DOM_STAT_RET_EN d) then c.setDom d 4 else (c.setDom d 0).domainLost d
    else c) s

/-! ## Clocks (R380, R381) -/

/-- Firmware switches every present domain to its PLL clocks (R380, steps 3 and 4). -/
def Chip.selectPll (c : Chip) : Chip :=
  let c := (List.range 70).foldl (fun c d => if c.domPresent d then c.clkSel d true else c) c
  c.set Reg.CLK_CTRL_AUTO_SEL

/-- PLL_LOCK (R380): within 100 µs of PLL_EN. -/
def execPllLock (s : State) : Host.Outcome State Fault Refusal :=
  act (fun c =>
    if c.on Reg.CLK_CTRL_PLL_EN then
      let c := (c.set Reg.CLK_STAT_LOCK).set Reg.CLK_STAT_REF_OK
      let c := if c.fwRuns then c.selectPll else c
      if c.get Reg.BOOT_STAT_PHASE = 3 then c.put Reg.BOOT_STAT_PHASE 4 else c
    else c) s

/-- REFCLK_LOSS (R381): the reference left its range, or the PLL alone lost lock; reported by one event-log entry. -/
def execRefclkLoss (refLost : Bool) (s : State) : Host.Outcome State Fault Refusal :=
  act (fun c =>
    if c.on Reg.CLK_STAT_LOCK ∨ (refLost ∧ c.on Reg.CLK_STAT_REF_OK) then
      let c := ((c.clr Reg.CLK_STAT_LOCK).wr Reg.CLK_SEL_LO 0).wr Reg.CLK_SEL_MID 0
      let c := (c.wr Reg.CLK_SEL_HI 0).set Reg.CLK_IRQ_STATUS_UNLOCK
      let c := if refLost then (c.clr Reg.CLK_STAT_REF_OK).set Reg.CLK_IRQ_STATUS_REF_LOSS else c
      c.logged logClock 0 refLost.toNat
    else c) s

/-- REFCLK_RETURN (R381): REF_OK; firmware re-enables the PLL. -/
def execRefclkReturn (s : State) : Host.Outcome State Fault Refusal :=
  act (fun c =>
    let c := c.set Reg.CLK_STAT_REF_OK
    if c.fwRuns then c.set Reg.CLK_CTRL_PLL_EN else c) s

/-! ## The backup cell (R401 to R403) -/

def Chip.chargePhase (c : Chip) : Nat := c.get Reg.OAS_BAT_STAT_PHASE
def Chip.setCharge (c : Chip) (p : Nat) : Chip := c.put Reg.OAS_BAT_STAT_PHASE p

/-- Charging begins by the cell's voltage, in steps of 2 mV: precharge from 1.0 V, constant current from 3.0 V, constant
voltage at 4.20 V. -/
def Chip.chargeStart (c : Chip) (vbat : Nat) : Chip :=
  let c := c.put Reg.OAS_BAT_STAT_VBAT vbat
  if c.on Reg.OAS_BAT_CFG_CHG_EN = false ∨ c.on Reg.OAS_BAT_STAT_BAT_FAULT ∨ c.on Reg.OAS_BAT_STAT_BAT_REVERSED then c
  else if 2100 ≤ vbat then c.setCharge 3
  else if 1500 ≤ vbat then c.setCharge 2
  else if 500 ≤ vbat then c.setCharge 1
  else c

/-- A charger event in one of the phases named, on the main supply. -/
def whenCharging (ps : List Nat) (f : Chip → Chip) (c : Chip) : Chip :=
  if c.power.supply = 0 ∧ c.chargePhase ∈ ps then f c else c

/-- PRECHARGE_TIMEOUT (R401): 30 minutes without reaching 3.0 V. -/
def execPrechargeTimeout (s : State) : Host.Outcome State Fault Refusal :=
  act (whenCharging [1] (fun c => (c.setCharge 0).set Reg.OAS_BAT_STAT_BAT_FAULT)) s

/-- PRECHARGE_COMPLETE (R401). -/
def execPrechargeComplete (s : State) : Host.Outcome State Fault Refusal := act (whenCharging [1] (·.setCharge 2)) s

/-- CV_LIMIT_REACHED (R401). -/
def execCvLimitReached (s : State) : Host.Outcome State Fault Refusal := act (whenCharging [2] (·.setCharge 3)) s

/-- CHARGE_TERMINATE (R401): the current fell below ITERM. -/
def execChargeTerminate (s : State) : Host.Outcome State Fault Refusal :=
  act (whenCharging [3] (fun c => { c.setCharge 0 with power := { c.power with charged := true } })) s

/-- CHARGE_RESUME (R401): a terminated cell fell below 4.05 V. -/
def execChargeResume (s : State) : Host.Outcome State Fault Refusal :=
  act (whenCharging [0] (fun c =>
    if c.power.charged ∧ c.on Reg.OAS_BAT_CFG_CHG_EN then { c.setCharge 2 with power := { c.power with charged := false } } else c)) s

/-- A POWER_EVENT (R325); the detail is not stated. -/
def Chip.powerEvent (c : Chip) (subject : Nat) : Chip :=
  let r := c.free
  r.1.notify 0x000F OK subject r.2.toNat 0

/-- CELL_REMOVED (R402): VBAT at the CV limit with less than 0.2 mA while charging; reported once. -/
def execCellRemoved (s : State) : Host.Outcome State Fault Refusal :=
  act (whenCharging [1, 2, 3] (fun c =>
    let c := { c.setCharge 0 with power := { c.power with charged := false } }
    if c.on Reg.OAS_BAT_STAT_BAT_ABSENT then c else (c.set Reg.OAS_BAT_STAT_BAT_ABSENT).powerEvent 2)) s

/-- BATTERY_PROBE (R402): a reading, in steps of 2 mV, while BAT_ABSENT is set. -/
def execBatteryProbe (vbat : BitVec 12) (s : State) : Host.Outcome State Fault Refusal :=
  act (fun c =>
    if c.power.supply = 0 ∧ c.on Reg.OAS_BAT_STAT_BAT_ABSENT then
      let c := if 1500 ≤ vbat.toNat then c.clr Reg.OAS_BAT_STAT_BAT_ABSENT else c
      c.chargeStart vbat.toNat
    else c) s

/-- CELL_REVERSED (R403): VBAT below −0.3 V; reported once. -/
def execCellReversed (s : State) : Host.Outcome State Fault Refusal :=
  act (fun c =>
    let c := c.setCharge 0
    if c.on Reg.OAS_BAT_STAT_BAT_REVERSED then c else (c.set Reg.OAS_BAT_STAT_BAT_REVERSED).powerEvent 3) s

/-- CELL_REVERSED_CLEAR (R403). -/
def execCellReversedClear (s : State) : Host.Outcome State Fault Refusal := act (·.clr Reg.OAS_BAT_STAT_BAT_REVERSED) s

/-! ## Supplies (R389, R400) -/

/-- Memory that outlives the main supply: Oasis SRAM and flash. -/
def oasisKept (a : Nat) : Bool := 0x3000000000 ≤ a && a < 0x1000000000000

/-- Registers that outlive the main supply: fuses and the Oasis domain's; an unlock ends (R435). -/
def retainKept (a : Nat) : Bool := chipKept a && !(0x110000 ≤ a && a < 0x120000)

/-- The main supply is gone and VBAT holds the Oasis domain (R388, RETAIN). -/
def Chip.toRetain (c : Chip) : Chip :=
  let c := c.cleared
  let c := { c with regs := c.regs.filter (fun r => retainKept r.1), mem := c.mem.filter (fun m => oasisKept m.1), tap := Tap.init,
                    power := { c.power with supply := 1, good := false } }
  (c.setCharge 0).set Reg.OAS_STAT_ON_VBAT

/-- No supply is left (R388, OFF): fuses and flash alone remain. -/
def Chip.toOff (c : Chip) : Chip :=
  let c := c.cleared
  { c with regs := c.regs.filter (fun r => 0x10000 ≤ r.1 && r.1 < 0x10800), mem := c.mem.filter (fun m => flashBase ≤ m.1 && m.1 < 0x1000000000000),
           fw := Fw.init [], tap := Tap.init,
           power := { c.power with supply := 2, good := false, rtcPhase := 0, charged := false, crcBad := false } }

/-- A cell that can hold the Oasis domain: at least 2.8 V, neither absent nor reversed. -/
def Chip.goodCell (c : Chip) (vbat : Nat) : Bool :=
  1400 ≤ vbat && !c.on Reg.OAS_BAT_STAT_BAT_ABSENT && !c.on Reg.OAS_BAT_STAT_BAT_REVERSED

/-- MAIN_SUPPLY_LOSS (R389), with VBAT in steps of 2 mV. -/
def execMainSupplyLoss (vbat : BitVec 12) (s : State) : Host.Outcome State Fault Refusal :=
  act (fun c =>
    if c.power.supply ≠ 0 then c
    else if c.goodCell vbat.toNat then c.toRetain.put Reg.OAS_BAT_STAT_VBAT vbat.toNat else c.toOff) s

/-- VBAT_LOW (R389): in RETAIN, VBAT below 2.8 V or the cell removed. -/
def execVbatLow (s : State) : Host.Outcome State Fault Refusal :=
  act (fun c => if c.power.supply = 1 then c.toOff else c) s

/-! ## Temperature (R404) -/

/-- Average package power in W × 16 over the samples of the last 10 ms (R320). -/
def Cap.average (k : Cap) : Nat := k.samples.foldl (· + ·) 0 / max k.samples.length 1

/-- The average is above `n` sixteenths of a watt; it is below `n` hundredths of that. -/
def Cap.exceeds (k : Cap) (n : Nat) : Bool := n * max k.samples.length 1 < k.samples.foldl (· + ·) 0
def Cap.below (k : Cap) (n : Nat) : Bool := 100 * k.samples.foldl (· + ·) 0 < n * max k.samples.length 1

/-- A THROTTLE notification (R320, R325). -/
def Chip.throttle (c : Chip) (stage : Nat) : Chip := c.notify 0x0009 OK stage c.power.cap.average c.power.cap.watts

/-- PWR_THERM_STAT: the hottest reading and its domain. -/
def Chip.thermStat (c : Chip) : Chip :=
  let m := (List.range 70).foldl (fun (m : Nat × Nat) d => if m.1 < c.get (Reg.PWR_TEMP_T d) then (c.get (Reg.PWR_TEMP_T d), d) else m) (0, 0)
  (c.put Reg.PWR_THERM_STAT_MAX m.1).put Reg.PWR_THERM_STAT_SENSOR m.2

/-- Whether the sensor of domain `d` derates now. -/
def Chip.deratedNow (c : Chip) (d : Nat) : Bool := if d = 65 then c.power.ddrRequest else c.power.derated.contains d

def Chip.setDerated (c : Chip) (d : Nat) (on : Bool) : Chip :=
  if d = 65 then { c with power := { c.power with ddrRequest := on } }
  else if d < 64 then
    { c with power := { c.power with derated := if on then insertAsc d c.power.derated else c.power.derated.filter (· != d) } }
  else c

/-- The thresholds of R404 on a reading. -/
def Chip.thermal (c : Chip) (d t : Nat) : Chip :=
  let der := c.get Reg.PWR_THERM_CFG_DERATE
  let c := if c.get Reg.PWR_THERM_CFG_WARN ≤ t then c.set Reg.PWR_IRQ_STATUS_WARN else c
  if der ≤ t then
    let c := c.set Reg.PWR_IRQ_STATUS_DERATE
    if (d < 64 ∨ d = 65) ∧ c.deratedNow d = false then (c.setDerated d true).throttle 5 else c
  else if t ≤ der - 20 then c.setDerated d false
  else c

end Sys2Proof.Machine
end

