-- ==== Sys2Proof/Machine/Timers.lean ====
section
/-! DEFINITION. Timer channels and capture inputs (R73 to R92): counting, match, overflow and actions; captures, their
queue, their events; line faults and the polarity check of the capture pairs. -/

namespace Sys2Proof.Machine

/-- An action code of R76. -/
def actionOf : Nat → List Action
  | 1 => [.reset]
  | 2 => [.start]
  | 3 => [.stop]
  | _ => []

/-- Ticks of chip time in one cycle of the clock that drives the timers and captures (R381, R382). -/
def Chip.tickUnit (c : Chip) : Nat := if c.on Reg.CLK_STAT_LOCK then 1 else 4

/-- The counter takes the value `v` in this tick; what it held before is kept for the captures still in a filter (R80): 17
cycles at most. -/
def Chip.setCount (c : Chip) (k : Nat) (v : Word) : Chip :=
  (c.wr (Reg.TMR_CH_COUNT k) v).modChan k (fun x =>
    { x with hist := ((c.time, c.rd (Reg.TMR_CH_COUNT k)) :: x.hist).filter (fun h => (c.time - h.1).toNat ≤ 68) })

/-- The counter as it stood `age` ticks ago, after that tick's actions (R80). -/
def Chip.countAt (c : Chip) (k age : Nat) : Word :=
  match ((c.chan k).hist.filter (fun h => (c.time - h.1).toNat < age)).getLast? with
  | some h => h.2
  | none => c.rd (Reg.TMR_CH_COUNT k)

/-- The actions of one tick land together on a channel (R77); a START lands in vain in a tick that brought a STOP. -/
def Chip.land (c : Chip) (k : Nat) (acts : List Action) : Chip :=
  let c := if .stop ∈ acts then (c.clr (Reg.TMR_CH_STAT_RUN k)).modChan k (fun x => { x with stopTick := some c.time })
    else if .start ∈ acts ∧ (c.chan k).stopTick ≠ some c.time then c.set (Reg.TMR_CH_STAT_RUN k) else c
  if .reset ∈ acts then
    (c.setCount k 0).modChan k (fun x => { x with phase := 0, selfReset := false, resetTick := some c.time })
  else c

/-- The link actions due on a channel whose trigger's tick is past land (R76, R77). -/
def Chip.landDue (c : Chip) (k : Nat) : Chip :=
  let x := c.chan k
  (c.setChan k { x with due := x.due.filter (fun a => a.2 == c.time) }).land k ((x.due.filter (fun a => a.2 != c.time)).map (·.1))

/-- The actions written to TMR_CH_CMD in the last tick land (R76, R77). -/
def Chip.landCmds (c : Chip) (k : Nat) : Chip :=
  let x := c.chan k
  if x.cmds = [] then c else (c.setChan k { x with cmds := [] }).land k x.cmds

/-- A trigger's link action goes to the linked channel, where it lands one tick later (R76). -/
def Chip.linkTo (c : Chip) (k code : Nat) : Chip :=
  c.modChan (c.get (Reg.TMR_CH_CFG_LINK k)) (fun x => { x with due := x.due ++ (actionOf code).map (·, c.time) })

/-- The actions of a match or overflow (R76): the self STOP at once, the self RESET at the next step, the link action. -/
def Chip.fire (c : Chip) (k self link : Nat) (isMatch : Bool) : Chip :=
  let c := if self = 3 then c.land k [.stop]
    else if self = 1 ∧ isMatch = true then c.modChan k (fun x => { x with selfReset := true, countTick := none })
    else c
  c.linkTo k link

/-- The next step of a channel is the self RESET its last match asked for (R76): the host has not written the counter in an
earlier tick since (log 30). -/
def selfResets (x : ChanSt) (now : Time) : Bool := x.selfReset && (x.countTick == none || x.countTick == some now)

/-- The counter steps (R74 to R76). -/
def Chip.timerStep (c : Chip) (k : Nat) : Chip :=
  let x := c.chan k
  if !c.on (Reg.TMR_CH_STAT_RUN k) || x.resetTick == some c.time then c
  else
    let old := c.get (Reg.TMR_CH_COUNT_COUNT k)
    let new := if selfResets x c.time then 0 else (old + 1) % 2 ^ 32
    let c := (c.setCount k (BitVec.ofNat 32 new)).modChan k (fun y =>
      { y with phase := 0, selfReset := false, resetTick := if selfResets x c.time then some c.time else y.resetTick })
    let m := c.get (Reg.TMR_CH_MATCH_MATCH k)
    let c := if m ≠ 0 ∧ new = m then
        (c.set (Reg.TMR_CH_STAT_MATCHF k)).fire k (c.get (Reg.TMR_CH_CFG_M_SELF k)) (c.get (Reg.TMR_CH_CFG_M_LINK k)) true
      else c
    if new = 0 ∧ old = 2 ^ 32 - 1 then
      (c.set (Reg.TMR_CH_STAT_OVFF k)).fire k (c.get (Reg.TMR_CH_CFG_O_SELF k)) (c.get (Reg.TMR_CH_CFG_O_LINK k)) false
    else c

/-- TIMER_STEP (R74, R75): the prescaler of a channel passes DIV_M1. -/
def execTimerStep (k : Chan) (s : State) : Host.Outcome State Fault Refusal := act (whileRuns 69 (·.timerStep k.toNat)) s

/-- LINK_ACTION (R76): the link actions due on a channel land, one tick after their triggers. -/
def execLinkAction (k : Chan) (s : State) : Host.Outcome State Fault Refusal := act (whileRuns 69 (·.landDue k.toNat)) s

/-- A write to TMR_CH_CMD: its actions land in the next tick (R76). -/
def Chip.timerCmd (c : Chip) (k : Nat) (acts : List Action) : Chip := c.modChan k (fun x => { x with cmds := x.cmds ++ acts })

/-- TMR_CH_CMD_START. -/
def execTmrChCmdStart (k : Chan) (s : State) : Host.Outcome State Fault Refusal := act (·.timerCmd k.toNat [.start]) s

/-- TMR_CH_CMD_STOP. -/
def execTmrChCmdStop (k : Chan) (s : State) : Host.Outcome State Fault Refusal := act (·.timerCmd k.toNat [.stop]) s

/-- TMR_CH_CMD_RESET. -/
def execTmrChCmdReset (k : Chan) (s : State) : Host.Outcome State Fault Refusal := act (·.timerCmd k.toNat [.reset]) s

/-- A write to TMR_CH_COUNT: discarded in the tick of a RESET (R77); it calls off the self RESET of an earlier match, unless that
step comes in the same tick (log 30). -/
def Chip.timerCountWrite (c : Chip) (k : Nat) (v : Word) : Chip :=
  if (c.chan k).resetTick = some c.time then c
  else (c.setCount k v).modChan k (fun x => { x with countTick := some c.time })

/-- A write to TMR_CH_DIV (R74): a phase above the new DIV_M1 restarts from 0; while RUN is 1 it stands until the step it makes
in the next tick. -/
def Chip.timerDivWrite (c : Chip) (k : Nat) (v : Word) : Chip :=
  let c := c.wr (Reg.TMR_CH_DIV k) (v &&& 0xFFFF#32)
  if c.get (Reg.TMR_CH_DIV_DIV_M1 k) < (c.chan k).phase.toNat ∧ c.on (Reg.TMR_CH_STAT_RUN k) = false then c.modChan k (fun x => { x with phase := 0 })
  else c

/-- CAP_CH_STAT.CFG_ERR follows FLEN = 0 in a capture mode (R78). -/
def Chip.capCfgErr (c : Chip) (k : Nat) : Chip :=
  c.put (Reg.CAP_CH_STAT_CFG_ERR k)
    (if c.get (Reg.CAP_CH_CFG_FLEN k) = 0 ∧ (c.get (Reg.TMR_CH_CFG_MODE k) = 1 ∨ c.get (Reg.TMR_CH_CFG_MODE k) = 2) then 1 else 0)

/-- A write to TMR_CH_CFG (R78, R79, R92): the edge count restarts, the STAMPs are forgotten, the queue is emptied. -/
def Chip.timerCfgWrite (c : Chip) (k : Nat) (v : Word) : Chip :=
  ((c.wr (Reg.TMR_CH_CFG k) (v &&& 0xFFFFF#32)).modChan k (fun x => { x with edges := 0, stamps := [], queue := [] })).capCfgErr k

/-- TMR_CH_CFG_WRITE. -/
def execTmrChCfgWrite (k : Chan) (v : Word) (s : State) : Host.Outcome State Fault Refusal := act (·.timerCfgWrite k.toNat v) s

/-! ## Captures -/

/-- The pair a channel sources (R73). -/
def Chip.srcPair (c : Chip) (k : Nat) : Nat := 8 * (k / 32) + c.get (Reg.CAP_CH_CFG_SRC k)

/-- Where the STAMP of the last single capture stands; CAP_CH_VAL_STAMP is the holding register of R81. -/
def capStamp (k : Nat) : Nat := Reg.CAP_CH_VAL_COUNT k + 1

/-- The value x of R84, or none when the capture emits nothing (R85). -/
def Chip.capX (c : Chip) (k : Nat) (count stamp : Word) : Option Nat :=
  match c.get (Reg.CAP_CH_CFG_EMODE k) with
  | 0 => ((c.chan k).stamps.head?).map (fun p => (stamp - p.1).toNat)
  | 1 => (((c.chan (c.get (Reg.CAP_CH_CFG_REF k))).stamps.find? (fun p => p.2 != c.time))).map (fun p => (stamp - p.1).toNat)
  | 2 => some count.toNat
  | _ => none

/-- The event of a capture (R84 to R87): formed and handed to edge port k / 32, or counted in NOEVT. DEDUCED (log 135): a capture
that EMIT or EMIT_EN keeps from emitting is not counted in NOEVT. -/
def Chip.capEmit (c : Chip) (k : Nat) (count : Word) (at_ : Time) : Chip :=
  let stamp : Word := at_.setWidth 32
  if !(c.on (Reg.CAP_CH_CFG_EMIT k) && c.on Reg.CAP_CTRL_EMIT_EN) || c.get (Reg.CAP_CH_CFG_EMODE k) == 3 then c
  else match c.capX k count stamp with
    | some x =>
      let pay := rescale ((x : Int) - signed 16 (c.get (Reg.CAP_CH_RESC_SUB k))) (c.get (Reg.CAP_CH_RESC_M k)) (c.get (Reg.CAP_CH_RESC2_S k))
      c.ingestCap (k / 32) k (mkEvent (c.rd (Reg.CAP_CH_KEY k)) pay (c.get (Reg.CAP_CH_RESC2_LANE k)) (tagOf at_))
    | none => c.bump (Reg.CAP_CH_QDROP_NOEVT k)

/-- A single capture (R81). -/
def Chip.capSingle (c : Chip) (k : Nat) (count stamp : Word) : Chip :=
  let c := if c.on (Reg.CAP_CH_STAT_NEW k) then (c.set (Reg.CAP_CH_STAT_OVW k)).set Reg.CAP_IRQ_STATUS_OVW else c
  ((c.wr (Reg.CAP_CH_VAL_COUNT k) count).wr (capStamp k) stamp).set (Reg.CAP_CH_STAT_NEW k)

/-- A queued capture (R82). -/
def Chip.capQueue (c : Chip) (k : Nat) (count stamp : Word) (rising : Bool) : Chip :=
  let x := c.chan k
  if x.queue.length ≥ 8 then
    ((c.set (Reg.CAP_CH_STAT_QOVF k)).set Reg.CAP_IRQ_STATUS_QOVF).bump (Reg.CAP_CH_QDROP_COUNT k)
  else c.setChan k { x with queue := x.queue ++ [{ count := count, stamp := stamp, rising := rising }] }

/-- An edge has been declared on a channel and is latched in this tick (R78 to R85): `rising` is its direction at the pair's level.
STAMP and COUNT are those of tick 0 of R83, FLEN + 2 cycles ago (log 124). DESIGN CHOICE (log 137): the reserved MODE 3 captures
nothing. -/
def Chip.capture (c : Chip) (k : Nat) (rising : Bool) : Chip :=
  let mode := c.get (Reg.TMR_CH_CFG_MODE k)
  let pair := c.srcPair k
  if mode = 0 ∨ mode = 3 ∨ ¬ pair < c.pairs ∨ ¬ c.on (Reg.CAP_CH_CFG_SRC_EN k) = true then c
  else if c.get (Reg.CAP_CH_CFG_FLEN k) = 0 then c.set (Reg.CAP_CH_STAT_CFG_ERR k)
  else if !c.on (Reg.CAP_PAIR_CFG_EN pair) || c.get (Reg.CAP_PAIR_STAT_FAULT pair) != 0 then c
  else
    let edge := c.get (Reg.CAP_CH_CFG_EDGE k)
    let c := c.put (Reg.CAP_PAIR_STAT_LEVEL pair) rising.toNat
    if !((rising && bit edge 0) || (!rising && bit edge 1)) then c
    else
      let n := (c.chan k).edges + 1
      if mode = 1 ∧ n % (c.get (Reg.CAP_CH_CFG_EPRE k) + 1) ≠ 0 then c.modChan k (fun x => { x with edges := n })
      else
        let age := c.tickUnit * (c.get (Reg.CAP_CH_CFG_FLEN k) + 2)
        let count := c.countAt k age
        let at_ := c.time - BitVec.ofNat 48 age
        let stamp : Word := at_.setWidth 32
        let c := c.modChan k (fun x => { x with edges := 0 })
        let c := if mode = 1 then c.capSingle k count stamp else c.capQueue k count stamp rising
        let c := c.capEmit k count at_
        c.modChan k (fun x => { x with stamps := ((stamp, c.time) :: x.stamps).take 2 })

/-- CAPTURE (R83): an edge of a pair's level has been declared on a channel, and its COUNT and STAMP latch in this tick. -/
def execCapture (k : Chan) (rising : Bool) (s : State) : Host.Outcome State Fault Refusal := act (whilePins (whileRuns 69 (·.capture k.toNat rising))) s

/-- CAP_CH_VAL_COUNT_READ (R81, R474): COUNT, with the STAMP of the same capture into the holding register. -/
def Chip.capCountRead (c : Chip) (k : Nat) : Chip := c.wr (Reg.CAP_CH_VAL_STAMP k) (c.rd (capStamp k))

def execCapChValCountRead (k : Chan) (s : State) : Host.Outcome State Fault Refusal :=
  act (fun c => (c.capCountRead k.toNat).emit (.readData (natToBytes 4 (c.rd (Reg.CAP_CH_VAL_COUNT k.toNat)).toNat) false)) s

/-- CAP_CH_CMD_POP (R82). -/
def Chip.capPop (c : Chip) (k : Nat) : Chip := c.modChan k (fun x => { x with queue := x.queue.tail })

def execCapChCmdPop (k : Chan) (s : State) : Host.Outcome State Fault Refusal := act (·.capPop k.toNat) s

/-- The channels of a group other than `k` with EMIT = 1 (R86). -/
def Chip.emitters (c : Chip) (k : Nat) : Nat :=
  (((List.range 32).map (· + k / 32 * 32)).filter (fun j => j != k && c.on (Reg.CAP_CH_CFG_EMIT j))).length

/-- A write to CAP_CH_CFG (R73, R78, R86): SRC_EN ignored where the pairs are absent, EMIT refused on a fifth emitter. DEDUCED
(log 136): EMIT_REJ tells of the last write, and clears at the next that is not refused. -/
def Chip.capCfgWrite (c : Chip) (k : Nat) (v : Word) : Chip :=
  let v := v &&& 0x1FFFFFFF#32
  let v := if 8 * (k / 32) < c.pairs then v else wset v 3 3 0
  let rej := wbits v 18 18 = 1 ∧ c.emitters k ≥ 4
  let c := c.wr (Reg.CAP_CH_CFG k) (if rej then wset v 18 18 0 else v)
  let c := c.put (Reg.CAP_CH_STAT_EMIT_REJ k) (if rej then 1 else 0)
  let c := c.capCfgErr k
  if rej then c.set Reg.CAP_IRQ_STATUS_EMIT_LIMIT else c

/-- Firmware sets or clears EMIT of a channel (R316, R345): a write of CAP_CH_CFG like any other, under the limit of R86. -/
def Chip.setEmit (c : Chip) (k : Nat) (on : Bool) : Chip := c.capCfgWrite k (wset (c.rd (Reg.CAP_CH_CFG k)) 18 18 on.toNat)

/-- CAP_CH_CFG_WRITE. -/
def execCapChCfgWrite (k : Chan) (v : Word) (s : State) : Host.Outcome State Fault Refusal := act (·.capCfgWrite k.toNat v) s

/-! ## Capture pairs (R88 to R90) -/

/-- The code of a line fault (R88). -/
def lineCode : LineFault → Nat
  | .cmLow => 3
  | .cmHigh => 4
  | .open_ => 1
  | .short => 2

/-- The place of a fault code in the table of R88. -/
def lineRank (code : Nat) : Nat := if code = 3 then 0 else if code = 4 then 1 else if code = 1 then 2 else if code = 2 then 3 else 4

/-- A pair enters a fault (R89): the level is held at IDLE, one report. -/
def Chip.pairEnter (c : Chip) (n code : Nat) : Chip :=
  let c := (c.put (Reg.CAP_PAIR_STAT_FAULT n) code).put (Reg.CAP_PAIR_STAT_LEVEL n) (c.get (Reg.CAP_PAIR_CFG_IDLE n))
  ((c.bump (Reg.CAP_PAIR_FCNT_COUNT n)).set Reg.CAP_IRQ_STATUS_FAULT).notify 0x0006 OK n code 0

/-- PAIR_FAULT (R88): a line condition persisted for its window; a window of 0 declares nothing (R12). In a pair already in fault a
condition that the table places before it takes its place, without a further report (R89, log 138). -/
def execPairFault (n : Pair) (kind : LineFault) (s : State) : Host.Outcome State Fault Refusal :=
  act (whilePins <| whileRuns 69 fun c =>
    let off := (kind = .open_ ∧ c.get Reg.CAP_CFG_OPEN_WIN = 0) ∨ (kind = .short ∧ c.get Reg.CAP_CFG_SHORT_WIN = 0)
    let now := c.get (Reg.CAP_PAIR_STAT_FAULT n.toNat)
    if ¬ n.toNat < c.pairs ∨ ¬ c.on (Reg.CAP_PAIR_CFG_EN n.toNat) = true ∨ off then c
    else if now = 0 then c.pairEnter n.toNat (lineCode kind)
    else if lineRank (lineCode kind) < lineRank now then c.put (Reg.CAP_PAIR_STAT_FAULT n.toNat) (lineCode kind)
    else c) s

/-- PAIR_FAULT_RELEASE (R89): the condition has been absent for 1 ms; `level` is the level the filters reload. -/
def execPairFaultRelease (n : Pair) (level : Bool) (s : State) : Host.Outcome State Fault Refusal :=
  act (whileRuns 69 fun c =>
    if n.toNat < c.pairs ∧ c.get (Reg.CAP_PAIR_STAT_FAULT n.toNat) ≠ 0 then
      (c.put (Reg.CAP_PAIR_STAT_FAULT n.toNat) 0).put (Reg.CAP_PAIR_STAT_LEVEL n.toNat) level.toNat
    else c) s

/-- EN changes from 0 to 1 (R90): the polarity check starts. DEDUCED (log 139): what an earlier check found, INVERTED and CHECKED,
is cleared. -/
def Chip.pairEnable (c : Chip) (n : Nat) : Chip :=
  if n < c.pairs ∧ c.get (Reg.CAP_PAIR_CFG_EN n) = 0 then
    ((c.set (Reg.CAP_PAIR_CFG_EN n)).clr (Reg.CAP_PAIR_STAT_CHECKED n)).clr (Reg.CAP_PAIR_STAT_INVERTED n)
  else c

/-- CAP_PAIR_ENABLE. -/
def execCapPairEnable (n : Pair) (s : State) : Host.Outcome State Fault Refusal := act (·.pairEnable n.toNat) s

/-- POLARITY_CHECK_END (R90): what the pair showed over IDLE_WIN; a window of 0 never ends (R12). DEDUCED (log 139): a window that
ends while the pair stands in a line fault has no outcome. -/
def execPolarityCheckEnd (n : Pair) (o : PolarityOutcome) (s : State) : Host.Outcome State Fault Refusal :=
  act (whileRuns 69 fun c =>
    if ¬ n.toNat < c.pairs ∨ ¬ c.on (Reg.CAP_PAIR_CFG_EN n.toNat) = true ∨ c.on (Reg.CAP_PAIR_STAT_CHECKED n.toNat) = true ∨
        c.get Reg.CAP_CFG_IDLE_WIN = 0 ∨ c.get (Reg.CAP_PAIR_STAT_FAULT n.toNat) ≠ 0 then c
    else match o with
      | .steadyIdle => c.set (Reg.CAP_PAIR_STAT_CHECKED n.toNat)
      | .steadyOpposite =>
        if c.on (Reg.CAP_PAIR_CFG_POL_AUTO n.toNat) then
          ((c.set (Reg.CAP_PAIR_STAT_CHECKED n.toNat)).set (Reg.CAP_PAIR_STAT_INVERTED n.toNat)).put (Reg.CAP_PAIR_STAT_LEVEL n.toNat)
            (c.get (Reg.CAP_PAIR_CFG_IDLE n.toNat))
        else c.pairEnter n.toNat 5
      | .edge => c) s

end Sys2Proof.Machine
end

