-- ==== Sys2Proof/Machine/RegSpace.lean ====
section
/-! DEFINITION. Register space (R254, R256) as a master of the crossbar reads and writes it: which offsets are served, the
registers whose read or write acts, and the rest by their field types (R6, R8, R9). Masters are numbered by R257. -/

namespace Sys2Proof.Machine

/-! ## Which offsets are served (R18, R255) -/

/-- An offset lies in an assigned 64 KiB step. -/
def regAssigned (o : Nat) : Bool := o < 0x180000 || (0x1000000 ≤ o && o < 0x1410000)

/-- An offset lies in the register block of a fused unit. -/
def Chip.regFused (c : Chip) (o : Nat) : Bool :=
  (0x1000000 ≤ o && o < 0x1400000 && c.clusters ≤ (o - 0x1000000) / 0x10000) ||
  (0x90000 ≤ o && o < 0xA0000 && c.drams < 2) ||
  (0x131000 ≤ o && o < 0x133000 && c.clPorts ≤ (o - 0x131000) / 0x40) ||
  (0x160100 ≤ o && o < 0x160500 && c.pairs ≤ (o - 0x160100) / 0x10) ||
  (0x171000 ≤ o && o < 0x171400 && c.links_ ≤ (o - 0x171000) / 0x100) ||
  (0x178000 ≤ o && o < 0x179000 && c.links_ ≤ (o - 0x178000) / 0x400)

/-! ## Reads -/

/-- TMR_IRQ_SUM: the channels of a word with MATCHF or OVFF set and enabled. -/
def Chip.timerPend (c : Chip) (i : Nat) : Word :=
  (List.range 32).foldl (fun w j =>
    let k := 32 * i + j
    if (c.on (Reg.TMR_CH_STAT_MATCHF k) && c.on (Reg.TMR_CH_CFG_IE_MATCH k)) || (c.on (Reg.TMR_CH_STAT_OVFF k) && c.on (Reg.TMR_CH_CFG_IE_OVF k))
    then w ||| (1#32 <<< j) else w) 0

/-- CAP_CH_ registers that show the queue (R82). -/
def Chip.capWord (c : Chip) (k o : Nat) : Word :=
  let q := (c.chan k).queue
  if o = 0x18 then (q.head?.map (·.count)).getD 0
  else if o = 0x1C then (q.head?.map (·.stamp)).getD 0
  else
    let w := wset (c.rd (Reg.CAP_CH_STAT k)) 6 3 q.length
    wset w 7 7 ((q.head?.map (·.rising.toNat)).getD 0)

/-- What PWR_STATE shows (R388): LOOKOUT; else IDLE while firmware runs and no job is RUNNING and no Dune run active, else
ACTIVE, its reset value. -/
def Chip.powerState (c : Chip) : Nat :=
  if c.inLookout then 2
  else if c.fwState ≤ 1 || c.fw.jobs.any (fun j => j.2.state == 3) || c.dune.active then 0 else 1

/-- The word a register shows, for those that follow a queue. -/
def Chip.regWord (c : Chip) (o : Nat) : Word :=
  if 0x71000 ≤ o ∧ o < 0x71800 ∧ o % 0x100 = 0x24 then
    let n := (smGet [] c.dma ((o - 0x71000) / 0x100)).length
    wset (wset (c.rd o) 8 0 n) 9 9 (if n = 0 then 0 else 1)
  else if 0x131000 ≤ o ∧ o < 0x133000 ∧ o % 0x40 = 4 then wset (c.rd o) 28 24 (c.port ((o - 0x131000) / 0x40)).fifo.length
  else if 0x150010 ≤ o ∧ o < 0x150030 then c.timerPend ((o - 0x150010) / 4)
  else if 0x161000 ≤ o ∧ o < 0x165000 ∧ (o % 0x40 = 0x18 ∨ o % 0x40 = 0x1C ∨ o % 0x40 = 0x20) then c.capWord ((o - 0x161000) / 0x40) (o % 0x40)
  else if 0x171000 ≤ o ∧ o < 0x171400 ∧ o % 0x100 = 0x64 then wset (c.rd o) 4 0 (c.link ((o - 0x171000) / 0x100)).xfers.length
  else if 0x41000 ≤ o ∧ o < 0x41460 ∧ (o % 0x10 = 4 ∨ o % 0x10 = 8) then c.rd (o / 0x10 * 0x10)
  else if o = Reg.PWR_STATE then wset (c.rd o) 2 0 c.powerState
  else if (Reg.row? o).isNone then 0
  else c.rd o

/-- A little-endian field of a staged descriptor. -/
def wordsNat (ws : List Word) (i n : Nat) : Nat := ((ws.drop i).take n).foldr (fun w a => w.toNat + 2 ^ 32 * a) 0

/-- A descriptor that keeps to R263. -/
def dmaValid (ws : List Word) : Bool :=
  let src := wordsNat ws 0 2
  let dst := wordsNat ws 2 2
  let len := wordsNat ws 4 1
  let cls := wbits (ws.getD 5 0) 7 0
  src < 2 ^ 48 && dst < 2 ^ 48 && len ≤ 16777216 && src % 4 == 0 && dst % 4 == 0 && len % 4 == 0 &&
  (cls == 0 || cls == 2 || cls == 3) && wbits (ws.getD 5 0) 15 10 == 0 && wbits (ws.getD 5 0) 31 16 == 0

/-- A read of XBAR_DMA_COMMIT (R264); checked in the order of R15. -/
def Chip.dmaCommit (c : Chip) (e : Nat) : Chip × Nat :=
  let ws := (List.range 8).map (fun i => c.rd (Reg.XBAR_DMA_D e i))
  let q := smGet [] c.dma e
  if !dmaValid ws then (c, ERR_PARAM)
  else if 256 ≤ q.length then (c, ERR_RESOURCE)
  else ({ c with dma := smSet c.dma e (q ++ [ws]) }, OK)

/-- A transfer descriptor that keeps to R339. -/
def xferValid (ws : List Word) : Bool :=
  let src := wordsNat ws 0 2
  let dst := wordsNat ws 2 2
  let len := wordsNat ws 4 1
  src < 2 ^ 48 && dst < 2 ^ 48 && len ≤ 16777216 && src % 16 == 0 && dst % 16 == 0 && len % 16 == 0 &&
  wbits (ws.getD 5 0) 31 1 == 0 && ws.getD 7 0 == 0

/-- A read of FER_XFER_COMMIT (R339); checked in the order of R15. -/
def Chip.xferCommit (c : Chip) (l : Nat) : Chip × Nat :=
  let ws := (List.range 8).map (fun i => c.rd (Reg.FER_XFER_D l i))
  let x := c.link l
  if c.linkState l ≠ 3 then (c, ERR_NOT_READY)
  else if !xferValid ws then (c, ERR_PARAM)
  else if 16 ≤ x.xfers.length then (c, ERR_RESOURCE)
  else
    let d : Xfer := { src := wordsNat ws 0 2, dst := wordsNat ws 2 2, len := wordsNat ws 4 1, irq := (ws.getD 5 0).getLsbD 0,
                      tag := wordsNat ws 6 1, sent := 0, acked := 0, failed := false }
    (c.setLink l { x with xfers := x.xfers ++ [d] }, OK)

/-- A read of the register at offset `o` by master `who`: the state it leaves and the word. -/
def Chip.regRead (c : Chip) (o who : Nat) : Chip × Word :=
  if 0x100100 ≤ o ∧ o < 0x100500 then c.pmonRead (Reg.pmonChip ((o - 0x100100) / 0x20)) (o % 0x20)
  else if 0x1000000 ≤ o ∧ o < 0x1400000 ∧ 0x100 ≤ o % 0x10000 ∧ o % 0x10000 < 0x180 then
    c.pmonRead (Reg.pmonRouter ((o - 0x1000000) / 0x10000) ((o % 0x10000 - 0x100) / 0x20)) (o % 0x20)
  else if 0x161000 ≤ o ∧ o < 0x165000 ∧ o % 0x40 = 0x10 then (c.capCountRead ((o - 0x161000) / 0x40), c.rd o)
  else if 0xB0100 ≤ o ∧ o < 0xB0180 ∧ o % 0x20 = 0x14 then c.alloc ((o - 0xB0100) / 0x20) who
  else if 0xB0100 ≤ o ∧ o < 0xB0180 ∧ o % 0x20 = 0x18 then c.walloc ((o - 0xB0100) / 0x20) who
  else if who = whoHcu ∧ 0x71000 ≤ o ∧ o < 0x71800 ∧ o % 0x100 = 0x20 then
    let r := c.dmaCommit ((o - 0x71000) / 0x100)
    (r.1, BitVec.ofNat 32 r.2)
  else if who = whoHcu ∧ 0x171000 ≤ o ∧ o < 0x171400 ∧ o % 0x100 = 0x60 then
    let r := c.xferCommit ((o - 0x171000) / 0x100)
    (r.1, BitVec.ofNat 32 r.2)
  else (c, c.regWord o)

/-! ## Writes -/

/-- The LOCK bit that governs the RWL fields at an offset. -/
def Chip.regLocked (c : Chip) (o : Nat) : Bool :=
  let b := o / 0x10000
  if b = 0x13 then c.on Reg.CL_CTRL_LOCK
  else if b = 0x16 then c.on Reg.CAP_CTRL_LOCK
  else if b = 0x7 then c.on Reg.XBAR_CTRL_LOCK
  else if b = 0x8 then c.on (Reg.DDR_CFG_LOCK 0)
  else if b = 0x9 then c.on (Reg.DDR_CFG_LOCK 1)
  else if b = 0x17 then c.on Reg.FER_CTRL_LOCK
  else if b = 0x4 then c.on Reg.PWR_THERM_CFG_LOCK
  else if 0x100 ≤ b ∧ b < 0x140 then c.on (Reg.RT_CFG_LOCK (b - 0x100))
  else false

/-- A write by the field types of R6. -/
def Chip.typedWrite (c : Chip) (o : Nat) (v : Word) : Chip := c.plainWrite o v (c.regLocked o)

/-- FUSE_PROG (R349, R355): the thermometer is blown up to a count; fuses never clear. -/
def Chip.fuseProg (c : Chip) (svn : Nat) : Chip :=
  let bits := 2 ^ min svn 64 - 1
  let c := c.wr Reg.FUSE_SVN_LO (c.rd Reg.FUSE_SVN_LO ||| BitVec.ofNat 32 bits)
  c.wr Reg.FUSE_SVN_HI (c.rd Reg.FUSE_SVN_HI ||| BitVec.ofNat 32 (bits / 2 ^ 32))

/-- CLK_SEL: the bits of domains the variant has (R19, R380). -/
def Chip.clkSelWrite (c : Chip) (o first : Nat) (v : Word) : Chip :=
  c.wr o ((List.range 32).foldl (fun w j => if c.domPresent (first + j) && v.getLsbD j then w ||| (1#32 <<< j) else w) 0)

/-- PWR_THERM_CFG (R404): WARN and DERATE between 60 and 110 °C, else the field stays. -/
def Chip.thermCfgWrite (c : Chip) (v : Word) : Chip :=
  let ok : Nat → Bool := fun t => 400 ≤ t && t ≤ 600
  let v := if ok (wbits v 9 0) then v else wset v 9 0 (c.get Reg.PWR_THERM_CFG_WARN)
  let v := if ok (wbits v 19 10) then v else wset v 19 10 (c.get Reg.PWR_THERM_CFG_DERATE)
  c.typedWrite Reg.PWR_THERM_CFG v

/-- An OAS_ register, written by the HCU only; the charger follows CHG_EN (R401). -/
def Chip.oasWrite (c : Chip) (o : Nat) (v : Word) : Chip :=
  let was := c.on Reg.OAS_BAT_CFG_CHG_EN
  let c := c.typedWrite o v
  let now := c.on Reg.OAS_BAT_CFG_CHG_EN
  if was && !now then c.setCharge 0
  else if now && !was && c.power.supply == 0 then c.chargeStart (c.get Reg.OAS_BAT_STAT_VBAT)
  else c

/-- XBAR_DMA_CTRL.ABORT (R265): the current burst ends and the queue is discarded. -/
def Chip.dmaAbort (c : Chip) (e : Nat) : Chip := { c with dma := smSet c.dma e [] }

/-- DDR_CFG: reserved rates leave their field (R267); D and C follow (R270). -/
def Chip.ddrCfgWrite (c : Chip) (ch : Nat) (v : Word) : Chip :=
  (c.typedWrite (Reg.DDR_CFG ch) (ddrCfgValue (c.rd (Reg.DDR_CFG ch)) v)).bwRecompute

/-- A buffer pool's registers: its place and its timeout only while EN = 0 (R275). -/
def Chip.poolWrite (c : Chip) (o : Nat) (v : Word) : Chip :=
  let p := (o - 0xB0100) / 0x20
  if o % 0x20 = 8 then c.poolCfgWrite p v else if c.poolOn p then c else c.typedWrite o v

/-- HIF_EXP_CTRL.OPEN, which HIF_EXP_STAT shows (R302). -/
def Chip.expCtrlWrite (c : Chip) (v : Word) : Chip :=
  (c.put Reg.HIF_EXP_CTRL_OPEN (wbits v 0 0)).put Reg.HIF_EXP_STAT_OPEN (wbits v 0 0)

/-- TRIP_CTRL (R419 to R421). -/
def Chip.tripCtrlWrite (c : Chip) (v : Word) : Chip :=
  let c := c.tripEnWrite (v.getLsbD 0)
  let c := if v.getLsbD 1 then c.trip_ 4 else c
  if v.getLsbD 2 then c.clr Reg.TRIP_STAT_HELD else c

/-- The chip time in PMON_SNAP_TIME. -/
def Chip.snapTime (c : Chip) : Nat := (c.rd Reg.PMON_SNAP_TIME_LO).toNat + c.get Reg.PMON_SNAP_TIME_HI_T * 2 ^ 32

/-- PMON_CTRL.ARM (R429): pending, or at once and late when T has passed. -/
def Chip.pmonArm (c : Chip) : Chip :=
  if c.snapTime < c.time.toNat then (c.snapshot.set Reg.PMON_STAT_SNAP_LATE).clr Reg.PMON_STAT_PENDING else c.set Reg.PMON_STAT_PENDING

/-- PMON_CTRL. -/
def Chip.pmonCtrlWrite (c : Chip) (v : Word) : Chip :=
  let c := c.put Reg.PMON_CTRL_SNAP_ON_TRIP (wbits v 1 1)
  if v.getLsbD 0 then c.pmonArm else c

/-- DUNE_SHARE: 0 to 100. -/
def Chip.duneShareWrite (c : Chip) (v : Word) : Chip := if wbits v 6 0 ≤ 100 then c.put Reg.DUNE_SHARE_SHARE (wbits v 6 0) else c

/-- DUNE_CMD (R251, R252). -/
def Chip.duneCmdWrite (c : Chip) (v : Word) : Chip :=
  let c := if v.getLsbD 0 then c.dunePause else c
  let c := if v.getLsbD 1 then c.duneResume else c
  if v.getLsbD 2 then c.duneStop PARTIAL else c

/-- CL_PORT_CFG: EN = 0 is OFF (R44), and ends what the port was doing. -/
def Chip.portCfgWrite (c : Chip) (p : Nat) (v : Word) : Chip :=
  let was := c.on (Reg.CL_PORT_CFG_EN p)
  let c := c.typedWrite (Reg.CL_PORT_CFG p) v
  if was && !v.getLsbD 0 then
    (((c.dropExchange p).pauseOver 0 p).setPortState p 0).modPort p (fun q => { q with nonce := none, pauseReq := false })
  else c

/-- CL_PORT_CMD (R45, R68, R69). -/
def Chip.portCmdWrite (c : Chip) (p : Nat) (v : Word) : Chip :=
  let c := if v.getLsbD 0 then c.portPauseReq p else c
  let c := if v.getLsbD 1 then c.portResume p else c
  if v.getLsbD 2 then c.portRebring p else c

/-- The writes of the timer channels that act (R75 to R79). -/
def Chip.timerWrite (c : Chip) (o : Nat) (v : Word) : Chip :=
  let k := (o - 0x151000) / 0x20
  if o % 0x20 = 0 then c.timerCfgWrite k v
  else if o % 0x20 = 4 then c.timerDivWrite k v
  else if o % 0x20 = 0xC then c.timerCountWrite k v
  else if o % 0x20 = 0x10 then
    c.timerCmd k ((if v.getLsbD 0 then [.start] else []) ++ (if v.getLsbD 1 then [.stop] else []) ++ (if v.getLsbD 2 then [.reset] else []))
  else c.typedWrite o v

/-- The writes of the capture channels that act (R82, R86). -/
def Chip.capWrite (c : Chip) (o : Nat) (v : Word) : Chip :=
  let k := (o - 0x161000) / 0x40
  if o % 0x40 = 0 then c.capCfgWrite k v
  else if o % 0x40 = 0x28 then (if v.getLsbD 0 then c.capPop k else c)
  else c.typedWrite o v

/-- CAP_PAIR_CFG: a rise of EN starts the polarity check (R90); in a fault the level follows IDLE (R89). -/
def Chip.pairCfgWrite (c : Chip) (n : Nat) (v : Word) : Chip :=
  let c := if v.getLsbD 0 then c.pairEnable n else c
  let c := c.typedWrite (Reg.CAP_PAIR_CFG n) v
  if c.get (Reg.CAP_PAIR_STAT_FAULT n) = 0 then c else c.put (Reg.CAP_PAIR_STAT_LEVEL n) (c.get (Reg.CAP_PAIR_CFG_IDLE n))

/-- FER_CTRL: LINK_EN starts links (R332), CREDIT_EN lets them grant (R334, R346). -/
def Chip.ferCtrlWrite (c : Chip) (v : Word) : Chip :=
  let c := c.typedWrite Reg.FER_CTRL v
  (List.range c.links_).foldl (fun c l => (c.linkEnable l).grant l) c

/-- A register of the RING_ block: firmware alone writes its RO fields (chapter 12, Registers). -/
def Chip.ringWrite (c : Chip) (o : Nat) (v : Word) (who : Nat) : Chip :=
  let i := o % 0x40
  if who = whoHcu ∧ (i < 0x10 ∨ i = 0x18 ∨ i = 0x1C) then
    c.wr o (if i = 8 then v &&& 0x80003FFF#32 else if i < 0x10 then v else v &&& 0xFFFF#32)
  else c.typedWrite o v

/-- The blocks below 0x10_0000. -/
def Chip.regWriteLow (c : Chip) (o : Nat) (v : Word) (who : Nat) : Chip :=
  if o = Reg.FUSE_PROG then if who = whoHcu then c.fuseProg (wbits v 6 0) else c
  else if o = Reg.CLK_SEL_LO then c.clkSelWrite o 0 v
  else if o = Reg.CLK_SEL_MID then c.clkSelWrite o 32 v
  else if o = Reg.CLK_SEL_HI then c.clkSelWrite o 64 v
  else if o = Reg.PWR_THERM_CFG then c.thermCfgWrite v
  else if 0x41000 ≤ o ∧ o < 0x41460 ∧ o % 0x10 = 4 then c.voteSet ((o - 0x41000) / 0x10) v
  else if 0x41000 ≤ o ∧ o < 0x41460 ∧ o % 0x10 = 8 then c.voteClr ((o - 0x41000) / 0x10) v
  else if 0x50000 ≤ o ∧ o < 0x60000 then if who = whoHcu then c.oasWrite o v else c
  else if o = Reg.RST_REQ then c.resetRequest v
  else if o = Reg.RST_FENCE_CMD then c.fenceCmd v
  else if 0x71000 ≤ o ∧ o < 0x71800 ∧ o % 0x100 = 0x30 then if v.getLsbD 0 then c.dmaAbort ((o - 0x71000) / 0x100) else c
  else if o = Reg.DDR_CFG 0 then c.ddrCfgWrite 0 v
  else if o = Reg.DDR_CFG 1 then c.ddrCfgWrite 1 v
  else if Reg.BW_RES 0 ≤ o ∧ o ≤ Reg.BW_RES 4 then c.bwResWrite ((o - Reg.BW_RES 0) / 4) v
  else if o = Reg.BUF_FREE then c.bufFree (wbits v 17 0)
  else if 0xB0100 ≤ o ∧ o < 0xB0180 then c.poolWrite o v
  else if o = Reg.HIF_EXP_CTRL then c.expCtrlWrite v
  else if 0xE0000 ≤ o ∧ o < 0xE1000 then c.ringWrite o v who
  else if o = Reg.TRIP_CTRL then c.tripCtrlWrite v
  else if o = Reg.TRIP_WIN_BASE_LO then c.typedWrite o (v &&& 0xFE000000#32)
  else c.typedWrite o v

/-- The blocks from 0x10_0000 on. -/
def Chip.regWriteHigh (c : Chip) (o : Nat) (v : Word) : Chip :=
  if 0x100100 ≤ o ∧ o < 0x100500 then if o % 0x20 = 0 then c.pmonCfgWrite (Reg.pmonChip ((o - 0x100100) / 0x20)) 2 v else c
  else if o = Reg.PMON_CTRL then c.pmonCtrlWrite v
  else if o = Reg.DUNE_SHARE then c.duneShareWrite v
  else if o = Reg.DUNE_CMD then c.duneCmdWrite v
  else if 0x131000 ≤ o ∧ o < 0x133000 ∧ o % 0x40 = 0 then c.portCfgWrite ((o - 0x131000) / 0x40) v
  else if 0x131000 ≤ o ∧ o < 0x133000 ∧ o % 0x40 = 0x24 then c.portCmdWrite ((o - 0x131000) / 0x40) v
  else if 0x151000 ≤ o ∧ o < 0x153000 then c.timerWrite o v
  else if 0x161000 ≤ o ∧ o < 0x165000 then c.capWrite o v
  else if 0x160100 ≤ o ∧ o < 0x160500 ∧ o % 0x10 = 0 then c.pairCfgWrite ((o - 0x160100) / 0x10) v
  else if o = Reg.FER_CTRL then c.ferCtrlWrite v
  else if 0x171000 ≤ o ∧ o < 0x171400 ∧ o % 0x100 = 4 then if v.getLsbD 0 then c.linkRebring ((o - 0x171000) / 0x100) else c
  else if o = Reg.NI_MAP_BCAST then if v.getLsbD 4 then c.mapBcastSwap (wbits v 3 0) else c
  else if 0x1000000 ≤ o ∧ o < 0x1400000 then
    let k := (o - 0x1000000) / 0x10000
    if 0x100 ≤ o % 0x10000 ∧ o % 0x10000 < 0x180 then
      if o % 0x20 = 0 then c.pmonCfgWrite (Reg.pmonRouter k ((o % 0x10000 - 0x100) / 0x20)) 1 v else c
    else if o = Reg.NI_MAP_CTRL k then if v.getLsbD 4 then c.mapCtrlSwap k (wbits v 3 0) else c
    else c.typedWrite o v
  else c.typedWrite o v

/-- A write of `v` to the register at offset `o` by master `who`. -/
def Chip.regWrite (c : Chip) (o : Nat) (v : Word) (who : Nat) : Chip :=
  if o < 0x100000 then c.regWriteLow o v who else c.regWriteHigh o v

end Sys2Proof.Machine
end

