-- ==== Sys2Proof/Machine/Bus.lean ====
section
/-! DEFINITION. The control crossbar (R254 to R262, R475): every access by address, the error responses, what a core serves
through its window, the system DMA engines (R263 to R265), and the commands of the event counters (R425 to R429). -/

namespace Sys2Proof.Machine

/-! ## What a core serves through its window (R160, R192, R475) -/

/-- `n / 4` register reads in ascending order (R475). -/
def Chip.coreWordsRead (c : Chip) (s off : Nat) : Nat → Chip × List Byte
  | 0 => (c, [])
  | n + 1 =>
    let r := c.coreRegRead s off
    let t := Chip.coreWordsRead r.1 s (off + 4) n
    (t.1, natToBytes 4 r.2.toNat ++ t.2)

/-- Register writes in ascending order (R475). -/
def Chip.coreWordsWrite (c : Chip) (s off who : Nat) (bs : List Byte) : Chip :=
  let c := (List.range (bs.length / 4)).foldl (fun c i =>
    c.coreRegWrite s (off + 4 * i) (BitVec.ofNat 32 (bytesToNat ((bs.drop (4 * i)).take 4))) who) c
  if c.on (Reg.MX_CFG_GANG s) then c.rotLoses (· == s / 32) else c

/-- An access of `n` bytes at an offset of the window of slot `s`; a write brings its bytes. -/
def Chip.coreServe (c : Chip) (s off n who : Nat) (w : Option (List Byte)) : Answer :=
  if c.memOk off n then
    match w with
    | none => served c (c.rdBytes (slotMem s off) n)
    | some bs =>
      if progOff ≤ off ∧ c.seqLive s = true then (c, ERR_RESOURCE, []) else served (c.wrBytes (slotMem s off) bs)
  else if regsOff ≤ off ∧ off + n ≤ regsOff + 0x10000 ∧ off % 4 = 0 ∧ n % 4 = 0 then
    match w with
    | none =>
      let r := c.coreWordsRead s (off - regsOff) (n / 4)
      served r.1 r.2
    | some bs => served (c.coreWordsWrite s (off - regsOff) who bs)
  else (c, ERR_RESOURCE, List.replicate n 0)

/-! ## Targets (R254, R255) -/

/-- The memory PHY serves (R383): its domain is ON and DRAM is out of self-refresh. -/
def Chip.dramPhy (c : Chip) : Bool := c.domState 65 == 2 || c.domState 65 == 3

/-- DRAM: below the usable capacity (R255, R268). -/
def Chip.busDram (c : Chip) (who a n : Nat) (w : Option (List Byte)) : Answer :=
  let ch := c.chanOf a
  if c.power.selfRefresh then c.busError who ch a n ERR_NOT_READY
  else if !c.dramPhy ∨ c.usable < a + n then c.busError who ch a n ERR_RESOURCE
  else
    let c := c.tallyChip (0x86 + ch)
    match w with
    | none => served c (c.rdBytes a n)
    | some bs => served (c.wrBytes a bs)

/-- A core window, through the fabric bridge (R18, R121, R254). -/
def Chip.busCore (c : Chip) (who a n : Nat) (w : Option (List Byte)) : Answer :=
  let i := (a - winBase) / 0x400000
  let off := (a - winBase) % 0x400000
  let s := c.pcore i
  if !c.seated i ∨ (c.synSize ≤ off ∧ off < stateOff) then c.fusedError who 5 a n
  else c.slotServe s who a n (fun c =>
    let r := c.coreServe s off n who w
    if r.2.1 = OK then r else r.1.busError who 5 a n r.2.1)

/-- Register reads in ascending order (R475). -/
def Chip.regWordsRead (c : Chip) (o who : Nat) : Nat → Chip × List Byte
  | 0 => (c, [])
  | n + 1 =>
    let r := c.regRead o who
    let t := Chip.regWordsRead r.1 (o + 4) who n
    (t.1, natToBytes 4 r.2.toNat ++ t.2)

/-- Register writes in ascending order (R475). -/
def Chip.regWordsWrite (c : Chip) (o who : Nat) (bs : List Byte) : Chip :=
  (List.range (bs.length / 4)).foldl (fun c i =>
    c.regWrite (o + 4 * i) (BitVec.ofNat 32 (bytesToNat ((bs.drop (4 * i)).take 4))) who) c

/-- Register space (R18, R255, R475). -/
def Chip.busRegs (c : Chip) (who a n : Nat) (w : Option (List Byte)) : Answer :=
  let o := a - 0x2000000000
  if c.regFused o then c.fusedError who 4 a n
  else if !regAssigned o ∨ o % 4 ≠ 0 ∨ n % 4 ≠ 0 then c.busError who 4 a n ERR_RESOURCE
  else match w with
    | none =>
      let r := c.regWordsRead o who (n / 4)
      served r.1 r.2
    | some bs => served (c.regWordsWrite o who bs)

/-- One access that lies within an aligned span of 64 bytes. -/
def Chip.busOne (c : Chip) (who a n : Nat) (w : Option (List Byte)) : Answer :=
  if a < winBase then c.busDram who a n w
  else if a < winTop then c.busCore who a n w
  else if 0x2000000000 ≤ a ∧ a < 0x2002000000 then c.busRegs who a n w
  else if oasisBase ≤ a ∧ a < oasisBase + 0x400000 then
    match w with
    | none => served c (c.rdBytes a n)
    | some bs => served (c.wrBytes a bs)
  else if flashBase ≤ a ∧ a < flashBase + 0x20000000 then
    if w.isSome ∨ flashBase + Config.flashDensity < a + n ∨ c.on Reg.BOOT_XSPI_STAT_BUSY then c.busError who 3 a n ERR_RESOURCE
    else served c (c.rdBytes a n)
  else c.busError who 7 a n ERR_RESOURCE

/-- An access cut at the 64-byte spans it touches: start and length of each part. -/
def spans (a n : Nat) : Nat → List (Nat × Nat)
  | 0 => []
  | f + 1 =>
    let k := 64 - a % 64
    if n = 0 then [] else if n ≤ k then [(a, n)] else (a, k) :: spans (a + k) (n - k) f

/-- The parts of an access in turn; the first that fails ends it. -/
def Chip.busParts (c : Chip) (who : Nat) (w : Option (List Byte)) : List (Nat × Nat) → Answer
  | [] => served c
  | (a, n) :: t =>
    let r := c.busOne who a n (w.map (·.take n))
    if r.2.1 = OK then
      let u := Chip.busParts r.1 who (w.map (·.drop n)) t
      (u.1, u.2.1, r.2.2 ++ u.2.2)
    else (r.1, r.2.1, r.2.2 ++ List.replicate ((t.map (·.2)).foldl (· + ·) 0) 0)

/-- An access to register space, or to the core registers of a window, whose address or size is no multiple of 4: it has no
effect on any register (R475). -/
def misfit (a n : Nat) : Bool :=
  ((0x2000000000 ≤ a && a < 0x2002000000) || (winBase ≤ a && a < winTop && regsOff ≤ (a - winBase) % 0x400000 && (a - winBase) % 0x400000 < 0x200000)) &&
  (a % 4 != 0 || n % 4 != 0)

/-- An access of a master: one that R475 does not serve as a whole, every other by its parts. -/
def Chip.busAccess (c : Chip) (who a n : Nat) (w : Option (List Byte)) : Answer :=
  if misfit a n then c.busOne who a n w else c.busParts who w (spans a n (n / 64 + 2))

/-- A read of `n` bytes at `a` by master `who`. -/
def Chip.busRead (c : Chip) (who a n : Nat) : Answer := c.busAccess who a n none

/-- A write of bytes at `a` by master `who`: the state and the status. -/
def Chip.busWrite (c : Chip) (who a : Nat) (bs : List Byte) : Chip × Nat :=
  let r := c.busAccess who a bs.length (some bs)
  (r.1, r.2.1)

/-- A transfer in pieces of 8 KiB: each is read whole and then written (R265). -/
def Chip.moveBytes (c : Chip) (who src dst n : Nat) : Nat → Chip × Nat
  | 0 => (c, OK)
  | f + 1 =>
    if n = 0 then (c, OK) else
      let k := min n 8192
      let r := c.busRead who src k
      if r.2.1 ≠ OK then (r.1, r.2.1) else
        let w := r.1.busWrite who dst r.2.2
        if w.2 ≠ OK then w else Chip.moveBytes w.1 who (src + k) (dst + k) (n - k) f

/-- Fill with a pattern word in pieces of 8 KiB. -/
def Chip.fillBytes (c : Chip) (who dst n : Nat) (pat : List Byte) : Nat → Chip × Nat
  | 0 => (c, OK)
  | f + 1 =>
    if n = 0 then (c, OK) else
      let k := min n 8192
      let w := c.busWrite who dst ((List.replicate (k / 4) pat).flatten)
      if w.2 ≠ OK then w else Chip.fillBytes w.1 who (dst + k) (n - k) pat f

/-! ## CROSSBAR_ACCESS -/

/-- A MEMREQ of a core waits at the bridge (R167): the bridge's master side serves it. -/
def isCoreRequest : Nat × Flit → Bool
  | (_, .packet p) => p.cls == 3 && !p.sb
  | _ => false

/-- The address of a MEMREQ (R99). -/
def Packet.memAddr (p : Packet) : Nat := p.data.toNat + dbits (p.flit 2) 15 0 * 2 ^ 32
def Packet.memSize (p : Packet) : Nat := 2 ^ (p.op / 2 % 8)

/-- The bytes a write request brings for its access (R99). -/
def Packet.memData (p : Packet) : List Byte :=
  ((natToBytes 8 (p.flit 3).toNat ++ natToBytes 8 (p.flit 4).toNat).drop (p.memAddr % 16)).take p.memSize

/-- Read bytes placed in the 16-byte span of a response (R99). -/
def spanBytes (a : Nat) (bs : List Byte) : List Byte := (List.replicate (a % 16) 0 ++ bs ++ List.replicate 16 0).take 16

/-- The fabric bridge serves the oldest request of a core through master port 13 and answers it (R122, R262). -/
def Chip.bridgeServe (c : Chip) : Chip :=
  match splitFirst isCoreRequest c.bridge.inbox with
  | some ((_, .packet p), rest) =>
    let c : Chip := { c with bridge := { c.bridge with inbox := rest } }
    let a := p.memAddr
    if p.op % 2 = 0 then
      let r := c.busRead 13 a p.memSize
      let d := spanBytes a r.2.2
      r.1.bridgeSend 4 p.src [mkFlit1 0x3FF p.src p.tag (masterStatus r.2.1) 0, BitVec.ofNat 64 (bytesToNat (d.take 8)), BitVec.ofNat 64 (bytesToNat (d.drop 8))]
    else
      let r := c.busWrite 13 a p.memData
      r.1.bridgeSend 4 p.src [mkFlit1 0x3FF p.src p.tag (masterStatus r.2) 0]
  | _ => c

/-! ## The transfer engine of a link (R339), and accesses of the masters -/

/-- The packet of one 16-byte posted write: N hops to the Feryo cluster, FERYO, S hops out of the peer's edge port. -/
def Chip.postedWrite (c : Chip) (l dst : Nat) (bs : List Byte) : Packet :=
  let y := cy (feryoCluster l)
  { hdr := mkHdr (routeOf (List.replicate y 1 ++ [5] ++ List.replicate (y + 1) 3)) 3 true true 0 (c.get (Reg.NI_MAP_STAT_EPOCH (cx (feryoCluster l)))) 3,
    body := [mkFlit1 0x3FF 0x3FF 0 9 (BitVec.ofNat 32 dst), BitVec.ofNat 64 (dst / 2 ^ 32),
             BitVec.ofNat 64 (bytesToNat (bs.take 8)), BitVec.ofNat 64 (bytesToNat (bs.drop 8))] }

/-- The oldest live descriptor with bytes to send, marked 16 bytes further, with their place. -/
def nextWrite : List Xfer → Option (Nat × Nat × List Xfer)
  | [] => none
  | x :: t =>
    if x.sent < x.len ∧ x.failed = false then some (x.src + x.sent, x.dst + x.sent, { x with sent := x.sent + 16 } :: t)
    else match nextWrite t with
      | some (a, b, t') => some (a, b, x :: t')
      | none => none

/-- The engine reads through master port 13 into free space of its 8 KiB and sends (R339). -/
def Chip.xferPump (c : Chip) (l : Nat) : Nat → Chip
  | 0 => c
  | f + 1 =>
    let x := c.link l
    if 8192 < unacked x.xfers + 16 then c else
      match nextWrite x.xfers with
      | none => c
      | some (src, dst, xs) =>
        let r := (c.setLink l { x with xfers := xs }).busRead 13 src 16
        Chip.xferPump (r.1.feed (cx (feryoCluster l)) 19 3 (.packet (r.1.postedWrite l dst r.2.2))) l f

/-- Firmware's read at `a` was one of FER_XFER_COMMIT: that link's engine goes on with what it enqueued. -/
def Chip.pumpRead (c : Chip) (a : Nat) : Chip :=
  if 0x2000171000 ≤ a ∧ a < 0x2000171400 then c.xferPump ((a - 0x2000171000) / 0x100) 512 else c

/-- CROSSBAR_ACCESS (R255, R258, R261, R262): a transfer of a master port, burst after burst, and its response; the bridge's is
the oldest request of a core that waits, which the bridge answers itself. -/
def execCrossbarAccess (port : BitVec 4) (a : BitVec 48) (n : BitVec 14) (w : Option (List Byte)) (s : State) :
    Host.Outcome State Fault Refusal :=
  actIf (port.toNat < 14) "CROSSBAR_ACCESS" (fun c =>
    if port = 13#4 then c.bridgeServe
    else match w with
      | none =>
        let r := c.busRead port.toNat a.toNat n.toNat
        (if port = 0#4 then r.1.pumpRead a.toNat else r.1).emit (.readData r.2.2 (r.2.1 != OK))
      | some bs =>
        let r := c.busWrite port.toNat a.toNat bs
        r.1.emit (.readData [] (r.2 != OK))) s

/-! ## System DMA engines (R263 to R265) -/

/-- XBAR_DMA_COMMIT (R264): firmware's read. -/
def execXbarDmaCommit (e : BitVec 3) (s : State) : Host.Outcome State Fault Refusal :=
  act (fun c =>
    let r := c.dmaCommit e.toNat
    Chip.showRead (r.1, BitVec.ofNat 32 r.2)) s

/-- The transfer of a descriptor by engine `e`, master port 2 + e. -/
def Chip.dmaRun (c : Chip) (e : Nat) (ws : List Word) : Chip × Nat :=
  let len := wordsNat ws 4 1
  let f := len / 8192 + 1
  if bit (wbits (ws.getD 5 0) 15 8) 1 then c.fillBytes (2 + e) (wordsNat ws 2 2) len (natToBytes 4 (wordsNat ws 6 1)) f
  else c.moveBytes (2 + e) (wordsNat ws 0 2) (wordsNat ws 2 2) len f

/-- DMA_DESCRIPTOR (R263, R265): the oldest descriptor of an engine completes. -/
def execDmaDescriptor (e : BitVec 3) (s : State) : Host.Outcome State Fault Refusal :=
  act (fun c =>
    let e := e.toNat
    match smGet [] c.dma e with
    | [] => c
    | ws :: t =>
      let r := c.dmaRun e ws
      let c : Chip := { r.1 with dma := smSet r.1.dma e t }
      let c := c.wr (Reg.XBAR_DMA_DONE e) (c.rd (Reg.XBAR_DMA_DONE e) + 1)
      let c := c.wr (Reg.XBAR_DMA_LASTTAG e) (ws.getD 7 0)
      let c := if bit (wbits (ws.getD 5 0) 15 8) 0 then c.emit (.dmaIrq e) else c
      if r.2 = OK then c else (c.set (Reg.XBAR_DMA_STAT_ERR e)).put (Reg.XBAR_DMA_STAT_ERR_STATUS e) (masterStatus r.2)) s

/-- XBAR_DMA_CTRL_ABORT (R265). -/
def execXbarDmaCtrlAbort (e : BitVec 3) (s : State) : Host.Outcome State Fault Refusal := act (·.dmaAbort e.toNat) s

/-! ## Event counters (R425 to R429) -/

/-- PMON_OVERFLOW (R425): an enabled counter passes 2^48 − 1. -/
def execPmonOverflow (id : PmonId) (s : State) : Host.Outcome State Fault Refusal :=
  act (fun c =>
    let b := pmonBase id
    if c.on (Reg.PMON_CFG_EN b.1) then (c.setPmonCount b.1 0).pmonWrap b.1 b.2.2 else c) s

/-- The HCU's access to register `off` of the counter a command names (log 143): where the unit that has it is fused, without
power, fenced or in a reset, it is an error response (R18, R121, R262). -/
def Chip.pmonServe (c : Chip) (id : PmonId) (off : Nat) (f : Chip → Nat → Answer) : Answer :=
  let b := (pmonBase id).1
  match id with
  | .chip _ => f c b
  | .router _ _ => if c.regFused b then c.fusedError whoHcu 4 (0x2000000000 + b + off) 4 else f c b
  | .core s _ => c.slotServe s.toNat whoHcu (c.slotWindow s.toNat (regsOff + (b - Reg.coreBase s.toNat) + off)) 4 (f · b)

/-- What a read shows: its bytes, or zeros and an error. -/
def Chip.showAnswer (r : Answer) : Chip := r.1.emit (.readData r.2.2 (r.2.1 != OK))

/-- A read of a register of a counter. -/
def Chip.pmonShow (c : Chip) (id : PmonId) (off : Nat) : Chip :=
  Chip.showAnswer (c.pmonServe id off (fun c b =>
    let r := c.pmonRead b off
    served r.1 (natToBytes 4 r.2.toNat)))

/-- PMON_CLR (R425). -/
def execPmonClr (id : PmonId) (s : State) : Host.Outcome State Fault Refusal :=
  act (fun c => (c.pmonServe id 0 (fun c b => served (c.pmonClear b))).1) s

/-- PMON_CNT_LO_READ (R426). -/
def execPmonCntLoRead (id : PmonId) (s : State) : Host.Outcome State Fault Refusal := act (·.pmonShow id 4) s

/-- PMON_SNAP_LO_READ (R426). -/
def execPmonSnapLoRead (id : PmonId) (s : State) : Host.Outcome State Fault Refusal := act (·.pmonShow id 0xC) s

/-- PMON_CTRL_ARM (R429). -/
def execPmonCtrlArm (s : State) : Host.Outcome State Fault Refusal := act (·.pmonArm) s

/-- SNAPSHOT (R429): chip time reaches T. -/
def execSnapshot (s : State) : Host.Outcome State Fault Refusal :=
  act (fun c => if c.on Reg.PMON_STAT_PENDING then c.snapshot.clr Reg.PMON_STAT_PENDING else c) s

end Sys2Proof.Machine
end

