-- ==== Sys2Proof/Machine/Xfer.lean ====
section
/-! DEFINITION. The transfer engines of the Feryo links (R339, R340), what an ACK frees, links that fail and chips declared
failed (R331, R344, R345). -/

namespace Sys2Proof.Machine

/-! ## The transfer engine of a link (R339) -/

/-- FER_XFER_COMMIT (R339): firmware's read. -/
def execFerXferCommit (l : LinkId) (s : State) : Host.Outcome State Fault Refusal :=
  act (fun c =>
    let r := c.xferCommit l.toNat
    Chip.showRead (r.1.xferPump l.toNat 512, BitVec.ofNat 32 r.2)) s

/-- FERYO_ACK (R330): acknowledged frames leave the replay buffer; the engine goes on. -/
def execFeryoAck (l : LinkId) (seq : BitVec 12) (s : State) : Host.Outcome State Fault Refusal :=
  act (whenLink l.toNat [3] (fun c => (c.feryoAck l.toNat seq.toNat).xferPump l.toNat 512)) s

/-- FER_XFER_DONE (R339): the oldest descriptor completes, with OK when its last write is acknowledged, with PARTIAL when
the link failed first. -/
def execFerXferDone (l : LinkId) (s : State) : Host.Outcome State Fault Refusal :=
  act (fun c =>
    let l := l.toNat
    let x := c.link l
    match x.xfers with
    | [] => c
    | d :: t =>
      if d.acked < d.len ∧ d.failed = false then c
      else
        let c := c.setLink l { x with xfers := t }
        let c := c.put (Reg.FER_XFER_STAT_LAST l) (if d.acked < d.len then PARTIAL else OK)
        let c := (c.wr (Reg.FER_XFER_BYTES l) (BitVec.ofNat 32 d.acked)).wr (Reg.FER_XFER_LASTTAG l) (BitVec.ofNat 32 d.tag)
        let c := if d.irq then c.put Reg.FER_IRQ_STATUS_XFER (c.get Reg.FER_IRQ_STATUS_XFER ||| 2 ^ l) else c
        c.xferPump l 512) s

/-- FERYO_SYNC_RECEIVE (R338): the first alignment steps the time base, and what firmware held back for it follows (R358); later
ones leave a correction to slew. -/
def execFeryoSyncReceive (l : LinkId) (t : Time) (s : State) : Host.Outcome State Fault Refusal :=
  act (whenLink l.toNat [3] (fun c =>
    if c.upstream = some l.toNat then
      let want := t + BitVec.ofNat 48 (c.get (Reg.FER_LINK_DELAY_DELAY l.toNat))
      if c.sync.aligned then { c with sync := { c.sync with slew := (want - c.time).toInt } }
      else
        let c : Chip := { c with time := want, sync := { aligned := true, slew := 0, gap := 0 } }
        if c.fwUp then c.timeActions else c
    else c)) s

/-- A posted write of a Feryo link waits at the bridge: SB = 1 (R340). -/
def isPostedWrite : Nat × Flit → Bool
  | (_, .packet p) => p.cls == 3 && p.sb
  | _ => false

/-- FERYO_POSTED_WRITE (R340): the oldest posted write is committed through port 13; no response. -/
def execFeryoPostedWrite (s : State) : Host.Outcome State Fault Refusal :=
  act (fun c => match splitFirst isPostedWrite c.bridge.inbox with
    | some ((_, .packet p), rest) =>
      let r := ({ c with bridge := { c.bridge with inbox := rest } } : Chip).busWrite 13 p.memAddr p.memData
      if r.2 = OK then r.1 else r.1.bump Reg.FER_RX_ERR_COUNT
    | _ => c) s

/-! ## Links and chips that fail (R331, R344, R345) -/

/-- Standby triples on the chips that `live` names, not yet enabled, of cells whose primary triple chip `failed` has. -/
def Job.standbys (j : Job) (failed : Nat) (live : Nat → Bool) : List Cell :=
  j.cells.filter (fun x => x.standby && !x.enabled && live x.chip && j.cells.any (fun y => !y.standby && y.chip == failed && y.cell == x.cell))

/-- RETRAIN_TIMEOUT (R331, R345): not retrained within RETRAIN_TO; 0 is no limit. A peer still reached by another link is
reported with no cells moved. -/
def execRetrainTimeout (l : LinkId) (s : State) : Host.Outcome State Fault Refusal :=
  act (whenLink l.toNat [4] (fun c =>
    if c.get Reg.FER_TIMING_RETRAIN_TO = 0 then c
    else c.linkLost l.toNat 7)) s

/-- This chip's number. -/
def Chip.chipId (c : Chip) : Nat := c.get Reg.FER_CFG_CHIP_ID

/-- No chip with a lower number survives: this one coordinates (R345). -/
def Chip.coordinates (c : Chip) : Bool := (List.range c.chipId).all (fun k => c.dead.getLsbD k)

/-- A job with some of its standby triples enabled. -/
def Job.enable (j : Job) (l : List Cell) : Job := { j with cells := j.cells.map (fun x => if l.contains x then { x with enabled := true } else x) }

/-- Chip `f` has links to this one, and every one of them is FAILED (R344). -/
def Chip.linksDown (c : Chip) (f : Nat) : Bool :=
  let l := (List.range c.links_).filter (fun k => c.linkPeer k == some f)
  !l.isEmpty && l.all (fun k => c.linkState k == 6)

/-- HB_MISS (R344, R345): a peer is declared failed; without a heartbeat (R12) only where every link to it has failed. `ports` and `chans` are the mapping sets and emitters that feed this
chip's standby triples, which Delver placed. -/
def execHbMiss (peer : BitVec 4) (ports : List (Port × BitVec 12 × BitVec 7)) (chans : List Chan) (s : State) :
    Host.Outcome State Fault Refusal :=
  act (fun c =>
    let f := peer.toNat
    if c.dead.getLsbD f ∨ f = c.chipId ∨ (c.get Reg.FER_HB_HB_PERIOD = 0 ∧ c.linksDown f = false) then c
    else
      let c : Chip := { c with dead := c.dead ||| (1#16 <<< f) }
      let c : Chip := (List.range c.links_).foldl (fun (c : Chip) l =>
        if c.linkState l = 3 ∧ c.get (Reg.FER_LINK_STAT_PEER_CHIP l) = f then c.linkFail l 8 else c) c
      let c : Chip := if c.dune.active ∧ c.dune.mode = 2 then c.duneEnd PARTIAL else c
      let count := match c.multiJob with
        | some j => (j.2.standbys f (fun x => !c.dead.getLsbD x)).length
        | none => 0
      let c := match c.multiJob with
        | some j =>
          let mine := j.2.standbys f (· == c.chipId)
          if mine.isEmpty then c
          else
            let c := c.setJob j.1 (j.2.enable mine)
            let c := ports.foldl (fun (c : Chip) (p : Port × BitVec 12 × BitVec 7) =>
              (c.put (Reg.CL_PORT_CFG_MAP_BASE p.1.toNat) p.2.1.toNat).put (Reg.CL_PORT_CFG_MAP_COUNT p.1.toNat) p.2.2.toNat) c
            chans.foldl (fun (c : Chip) (k : Chan) => c.setEmit k.toNat true) c
        | none => c
      if c.coordinates then c.remapNotice f count else c) s

end Sys2Proof.Machine
end

