-- ==== Sys2Proof/Machine/Deliver.lean ====
section
/-! DEFINITION. PACKET_DELIVER (R117, R120 to R122, R370, R478): what becomes of a packet in the delivery stage of a core
port. -/

namespace Sys2Proof.Machine

/-- A MEMREQ's form and alignment (R99, R478): a size code of 0 to 4, reserved bits 0, the length of its operation, an address
aligned to its size. -/
def Packet.memForm (p : Packet) : Bool :=
  p.op / 2 % 8 ≤ 4 && p.op / 16 == 0 && p.len == (if p.op % 2 = 0 then 1 else 3) && p.memAddr % p.memSize == 0

/-- A packet the core discards or answers with ERR_PARAM (R478). -/
def Packet.malformed (p : Packet) : Bool :=
  if p.cls = 3 then !p.memForm || winCore p.memAddr != some p.dst
  else if p.cls = 2 then p.op / 8 % 4 == 3 || p.op / 32 != 0
  else if p.cls = 5 then p.op != 0x21
  else p.cls != 1 && p.cls != 4

/-- A MEMREQ served by slot `s` and answered (R122). -/
def Chip.serveMemreq (c : Chip) (s : Nat) (p : Packet) : Chip :=
  let off := (p.memAddr - winBase) % 0x400000
  if p.op % 2 = 0 then
    let r := c.coreServe s off p.memSize whoFabric none
    r.1.respond (s / 32) p r.2.1 (spanBytes p.memAddr r.2.2)
  else
    let r := c.coreServe s off p.memSize whoFabric (some p.memData)
    r.1.respond (s / 32) p r.2.1

/-- A packet that slot `s` accepts: checked, then served or kept for the core's own step. -/
def Chip.acceptPacket (c : Chip) (s : Nat) (p : Packet) : Chip :=
  if p.malformed then
    let c := c.bump (Reg.NI_BAD_PKT_COUNT s)
    if p.cls = 3 then c.respond (s / 32) p ERR_PARAM else c
  else if p.cls = 3 then c.serveMemreq s p
  else c.modCore s (fun k => { k with arrived := k.arrived ++ [p] })

/-- A packet absorbed at a stage for a slot that takes none (R121). -/
def Chip.absorbAt (c : Chip) (k : Nat) (p : Packet) (status : Nat) : Chip :=
  ((c.bump (Reg.NI_ABSORB_CNT_COUNT k)).tallyRouter k 0x46).absorbPacket k p status

/-- Delivery of the packet in the stage of a core port and class. -/
def Chip.deliverPacket (c : Chip) (k port cls : Nat) : Chip :=
  match c.staged k port cls with
  | some { flit := .packet p, slot := _ } =>
    let c := c.setStage k port cls none
    let s := k * 32 + p.dslot
    if p.epoch ≠ c.get (Reg.NI_MAP_STAT_EPOCH k) ∧ ¬ (c.swapping k ∧ p.epoch = c.get (Reg.NI_MAP_STAT_PREV_EPOCH k)) then
      (c.bump (Reg.NI_EPOCH_ERR_COUNT k)).absorbPacket k p ERR_FENCED
    else if 17 ≤ p.dslot then c.absorbAt k p ERR_RESOURCE
    else if c.fenced s ∨ c.absorbing s then c.absorbAt k p ERR_FENCED
    else if !c.seats s then c.absorbAt k p ERR_RESOURCE
    else c.acceptPacket (if p.cls = 1 then s else c.movedTo s p.dst) p
  | _ => c

/-- PACKET_DELIVER (R117). -/
def execPacketDeliver (k : Cluster) (port : BitVec 4) (cls : BitVec 3) (s : State) : Host.Outcome State Fault Refusal :=
  act (fun c =>
    if c.routerOn k.toNat && !c.frozenPort (k.toNat * 16 + port.toNat) then c.deliverPacket k.toNat port.toNat cls.toNat else c) s

end Sys2Proof.Machine
end

