-- ==== Sys2Proof/Machine/Jobs.lean ====
section
/-! DEFINITION. Job images (R376, R377) and jobs (R30, R314 to R316, R343): the checks of an image, what loading, starting,
stopping and unloading a job do. -/

namespace Sys2Proof.Machine

/-! ## Refusals in the order of R15, features (R306, R307) -/

/-- The order of R15. -/
def refusalOrder : List Nat :=
  [ERR_VERSION, ERR_NOT_READY, ERR_AUTH, PATH_ILLEGAL, ERR_PARAM, RESTRICTED, ERR_RESOURCE, ERR_FENCED, ERR_BUSY]

/-- The first status in the order of R15 among the checks that fail; OK when none does. -/
def firstRefusal (l : List (Bool × Nat)) : Nat := (refusalOrder.find? (fun st => l.any (fun x => x.1 && x.2 == st))).getD OK

/-- Every feature of R306. -/
def allFeatures : Nat := 0x3FFFF

/-- The features a command or image lacks (R307): RESTRICTED where the profile took them all from OFFERED, else ERR_PARAM.
What firmware runs of its own accord (R359) is held against OFFERED. -/
def Chip.featureStatus (c : Chip) (o : Origin) (need : Nat) : Nat :=
  let agreed := match o with
    | .internal => c.fw.offered
    | _ => c.fw.agreed
  let missing := need &&& (need ^^^ (need &&& agreed))
  if missing = 0 then OK
  else if missing &&& (missing ^^^ (missing &&& (allFeatures - (allFeatures &&& c.fw.offered)))) = 0 then RESTRICTED
  else ERR_PARAM

/-- Bytes of DRAM that firmware may read or write for a command (log 50). -/
def Chip.inDram (c : Chip) (a n : Nat) : Bool := a + n ≤ c.usable

/-! ## The image (R376, R377) -/

/-- The sections of the image at `b`. -/
def Chip.imageSections (c : Chip) (b : Nat) : List Section :=
  (List.range (c.rdMem (b + 6) 2)).map (fun i =>
    let e := b + 0x40 + 16 * i
    { kind := c.rdMem e 2, target := c.rdMem (e + 2) 2, offset := c.rdMem (e + 4) 4,
      data := c.rdBytes (b + c.rdMem (e + 12) 4) (c.rdMem (e + 8) 4) })

/-- The registers of a channel that a section of type 8 writes: TMR_ at OFFSET 0x00 to 0x1F, CAP_ at 0x40 to 0x7F (log 51). -/
def chanReg (k off : Nat) : Option Nat :=
  if off < 0x20 then some (Reg.TMR_CH_CFG k + off)
  else if 0x40 ≤ off ∧ off < 0x80 then some (Reg.CAP_CH_CFG k + (off - 0x40))
  else none

/-- The type, target, offset and size of a section (R377). -/
def Section.ok (x : Section) : Bool :=
  let n := x.data.length
  match x.kind with
  | 1 => x.target < 1024 && x.offset + n ≤ 0x10000
  | 2 => x.target < 1024 && x.offset + n ≤ 0x100000
  | 3 => x.target < 1024 && x.offset + n ≤ 0x80000
  | 4 => x.target < 1024 && x.offset + n ≤ 0x10000 && x.offset % 4 == 0 && n % 4 == 0
  | 5 => x.target < 64 && n % 16 == 0 && x.offset + n / 16 ≤ 2048
  | 6 => x.target == 0 && n % 16 == 0 && x.offset + n / 16 ≤ 4096
  | 7 => x.target < 128 && x.offset == 0 && n == 4
  | 8 => x.target < 256 && x.offset % 4 == 0 && n % 4 == 0 && (x.offset + n ≤ 0x20 || (0x40 ≤ x.offset && x.offset + n ≤ 0x80))
  | 9 => x.target == 0 && n % 8 == 0
  | 10 => x.target == 0 && n % 4 == 0 && x.offset + n / 4 ≤ 1024
  | 11 => x.target < 4 && n % 16 == 0 && x.offset + n / 16 ≤ 64
  | _ => false

/-- The CRC of an image: its own field counts as 0. -/
def Chip.imageCrc (c : Chip) (b len : Nat) : Word :=
  crc32 (c.rdBytes b 0x1C ++ List.replicate 4 0 ++ c.rdBytes (b + 0x20) (len - 0x20))

/-- CRC, sizes and types of the image of `len` bytes at `b`. -/
def Chip.imageForm (c : Chip) (b len : Nat) : Bool :=
  let n := c.rdMem (b + 6) 2
  c.rdMem b 4 == 0x4A424457 && c.rdMem (b + 4) 2 == 1 && 1 ≤ n && n ≤ 4096 && c.rdMem (b + 0x18) 4 == len && 0x40 + 16 * n ≤ len &&
  (c.imageCrc b len).toNat == c.rdMem (b + 0x1C) 4 &&
  (List.range n).all (fun i => c.rdMem (b + 0x40 + 16 * i + 8) 4 + c.rdMem (b + 0x40 + 16 * i + 12) 4 ≤ len) &&
  (c.imageSections b).all Section.ok

def Chip.imageFeatures (c : Chip) (b : Nat) : Nat := c.rdMem (b + 8) 16

/-- Word `i` of a section. -/
def Section.word (x : Section) (i : Nat) : Word := BitVec.ofNat 32 (bytesToNat ((x.data.drop (4 * i)).take 4))
def Section.words (x : Section) : List (Nat × Word) := (List.range (x.data.length / 4)).map (fun i => (i, x.word i))

/-- The targets of the sections of some kinds, each once. -/
def targetsOf (l : List Section) (p : Nat → Bool) : List Nat := ((l.filter (fun x => p x.kind)).map (·.target)).eraseDups

/-- The cell table (R377, type 9). -/
def cellsOf (l : List Section) : List Cell :=
  (l.filter (·.kind == 9)).flatMap (fun x => (List.range (x.data.length / 8)).map (fun i =>
    { chip := (x.data.getD (8 * i + 2) 0).toNat, replica := (x.data.getD (8 * i) 0).toNat, lane := (x.data.getD (8 * i + 1) 0).toNat,
      cell := (x.word (2 * i + 1)).toNat, standby := (x.data.getD (8 * i + 3) 0).getLsbD 0, enabled := false }))

/-- The valid HIF_EVRT entries of an image: source core and replica. -/
def evrtOf (l : List Section) : List (Nat × Nat) :=
  (l.filter (·.kind == 10)).flatMap (fun x => (x.words.filter (fun w => w.2.getLsbD 31)).map (fun w => (x.offset + w.1, wbits w.2 13 6)))

/-- The channels whose CAP_CH_CFG an image gives EMIT = 1. -/
def emittersOf (l : List Section) : List Nat :=
  ((l.filter (fun x => x.kind == 8 && x.offset == 0x40 && (x.word 0).getLsbD 18)).map (·.target)).eraseDups

/-! ## Writing the sections (R192, R377) -/

/-- Registers of register space written one after the other by firmware. -/
def Chip.fwRegs (c : Chip) (o : Nat) (bs : List Byte) : Chip := c.regWordsWrite o whoHcu bs

/-- A core's sequencer is halted before its memories and registers are loaded (R192). -/
def Chip.stopCore (c : Chip) (s : Nat) : Chip := if c.seqLive s then c.enterHalt s 3 else c

/-- Write one section of types 1 to 4 into slot `s`. -/
def Chip.putCore (c : Chip) (s : Nat) (x : Section) : Chip :=
  if x.kind = 1 then (c.stopCore s).wrBytes (slotMem s (progOff + x.offset)) x.data
  else if x.kind = 2 then c.wrBytes (slotMem s x.offset) x.data
  else if x.kind = 3 then c.wrBytes (slotMem s (stateOff + x.offset)) x.data
  else (c.stopCore s).coreWordsWrite s x.offset whoHcu x.data

/-- Write one section. Ports and emitters stay off until JOB_START enables them (R316, log 52); the cell table and the
HIF_EVRT entries are kept with the job. -/
def Chip.putSection (c : Chip) (x : Section) : Chip :=
  match x.kind with
  | 5 => c.fwRegs (Reg.MCAST x.target x.offset 0) x.data
  | 6 => c.fwRegs (Reg.CL_MAP x.offset 0) x.data
  | 7 => c.regWrite (Reg.CL_PORT_CFG x.target) (x.word 0 &&& ~~~ 1#32) whoHcu
  | 8 => x.words.foldl (fun c w => match chanReg x.target (x.offset + 4 * w.1) with
      | some a => c.regWrite a (if x.offset + 4 * w.1 = 0x40 then w.2 &&& ~~~ (1#32 <<< 18) else w.2) whoHcu
      | none => c) c
  | 9 => c
  | 10 => c
  | 11 => c.fwRegs (Reg.FER_XLAT x.target x.offset 0) x.data
  | _ => c.putCore (c.pcore x.target) x

/-- The job an image describes, once loaded. -/
def jobOf (l : List Section) (part features b len : Nat) : Job :=
  { state := 2, part := part, cores := targetsOf l (fun k => 1 ≤ k && k ≤ 4), programs := targetsOf l (· == 1),
    ports := targetsOf l (· == 7), chans := emittersOf l, cells := cellsOf l, evrt := evrtOf l, valid := [],
    extents := (l.filter (fun x => x.kind == 2 || x.kind == 3)).map (fun x => (x.target, x.kind == 3, x.offset, x.data.length)),
    image := (b, len), saved := l.filter (fun x => 1 ≤ x.kind && x.kind ≤ 4), multi := bit features 7 }

/-- The sections of the image at `b` are written in table order, and the job is LOADED. -/
def Chip.loadImage (c : Chip) (j part b : Nat) : Chip :=
  let l := c.imageSections b
  (l.foldl (fun c x => c.putSection x) c).setJob j (jobOf l part (c.imageFeatures b) b (c.rdMem (b + 0x18) 4))

/-! ## The checks of a configuration (R315, R377) -/

/-- Clusters a path visits, whose router failed its test (R367). -/
def crossesFailed (c : Chip) : Nat → List Nat → Bool
  | k, [] => c.on (Reg.DMAP_CLUSTER_STAT_ROUTER_FAIL k)
  | k, h :: t => c.on (Reg.DMAP_CLUSTER_STAT_ROUTER_FAIL k) || (if h < 4 then
      match neighbour c k h with
      | some n => crossesFailed c n t
      | none => false
    else false)

def Chip.sportPath (c : Chip) (s p : Nat) : BitVec 48 :=
  BitVec.ofNat 48 ((c.rd (Reg.WADI_SPORT_ROUTE_LO s p)).toNat + c.get (Reg.WADI_SPORT_ROUTE_HI_ROUTE_HI s p) * 2 ^ 32)

/-- A queue is the r-queue of its core (R206, R211). -/
def Chip.rQueueWadi (c : Chip) (wadi : Nat) : Bool :=
  let r := c.pcore (wadi / 4)
  c.on (Reg.LRN_CFG_RQ_EN r) && c.get (Reg.LRN_CFG_RQ r) == wadi % 4

/-- A send port's binding (R110, R211, R17): its route, its queue's core, the credits of its queue, and a port to an r-queue
whose shortest tuple is longer than its CREDITS (log 144). A bridge port's route starts at the edge port of the column of its
queue's core (R111, R222). -/
def Chip.bindingChecks (c : Chip) (s p : Nat) : List (Bool × Nat) :=
  let route := c.sportPath s p
  let wadi := c.get (Reg.WADI_SPORT_CFG_WADI s p)
  let hops := ((List.range 16).map (hop route)).takeWhile (· != 7)
  let from_ := if s = bridgeSlot then cx (wadi / 64) else s / 32
  let st := pathCheck c from_ route
  let sharers := (c.boundPorts (wadi / 4)).filter (fun sp => c.get (Reg.WADI_SPORT_CFG_WADI sp.1 sp.2) == wadi)
  let credits := (sharers.map (fun sp => c.get (Reg.WADI_SPORT_CFG_CREDITS sp.1 sp.2))).foldl (· + ·) 0
  let twoPaths := (c.boundPorts (wadi / 4)).any (fun sp => sp.1 == s && c.sportPath sp.1 sp.2 != route)
  [(st != OK, st), (hops.contains 5, ERR_PARAM), (!c.seated (wadi / 4), ERR_RESOURCE), (32 < credits, ERR_RESOURCE),
   (twoPaths, ERR_PARAM), (c.rQueueWadi wadi && c.get (Reg.WADI_SPORT_CFG_CREDITS s p) == 0, ERR_PARAM),
   (crossesFailed c from_ hops, ERR_RESOURCE)]

/-- Firmware's write of a binding (R211): it is checked as written, and a refused one changes nothing (log 142). -/
def Chip.bindPort (c : Chip) (s p : Nat) (v : Word) : Chip :=
  let t := c.sportCfgWrite s p v
  if v.getLsbD 18 && firstRefusal (t.bindingChecks s p) != OK then c else t

/-- WADI_SPORT_CFG_WRITE (R210, R211): a firmware write through the crossbar; the bridge's own ports (R222) have no window. -/
def execWadiSportCfgWrite (s : PCore) (port : BitVec 4) (v : Word) (st : State) : Host.Outcome State Fault Refusal :=
  act (fun c => if s.toNat = bridgeSlot then c.bindPort s.toNat port.toNat v
    else c.slotWrite s.toNat (0x5100 + 16 * port.toNat) (·.bindPort s.toNat port.toNat v)) st

/-- Bytes of synapse memory that the weights of a range take (R130, R143). -/
def Chip.rangeExtent (c : Chip) (s i : Nat) : Nat :=
  2 ^ c.get (Reg.MX_IN_RANGE_CFG_IDX_W s i) * blocksOf (c.get (Reg.NE_POP_RANGE_COUNT s (c.rangePop s i))) *
    sliceSize (c.on (Reg.MX_IN_RANGE_CFG_W8 s i))

/-- A core's populations, ranges and sync objects (R18, R141, R142, R194, R224, R480); no image names a dense activation area
(log 151). -/
def Chip.coreChecks (c : Chip) (s : Nat) : List (Bool × Nat) :=
  let l := c.lanes s
  let pops := c.validPops s
  let span : Nat → Nat × Nat := fun p => (c.get (Reg.NE_POP_RANGE_FIRST s p), c.get (Reg.NE_POP_RANGE_COUNT s p))
  let learn := c.learningRanges s
  let slots := (pops.map (fun p => (span p).2 * l)).foldl (· + ·) 0 + (learn.map (fun i => (c.preTable s i).2 / 4)).foldl (· + ·) 0
  let ranges := (List.range 32).filter (fun i => c.on (Reg.MX_IN_RANGE_CFG_VALID s i))
  [(pops.any (fun p => (span p).2 != 0 && min 16384 (65536 / l) < (span p).1 + (span p).2), ERR_RESOURCE),
   (learn.any (fun i => 4096 < c.get (Reg.LRN_RANGE_CFG_NROWS s i) || 2 ^ c.get (Reg.MX_IN_RANGE_CFG_IDX_W s i) < c.get (Reg.LRN_RANGE_CFG_NROWS s i)), ERR_PARAM),
   (learn.any (fun i => pops.any (fun p => meets (c.preTable s i) ((span p).1 * l * 8, (span p).2 * l * 8)) ||
      learn.any (fun k => i != k && meets (c.preTable s i) (c.preTable s k))), ERR_PARAM),
   (65536 < slots, ERR_RESOURCE),
   (pops.any (fun p => c.on (Reg.NE_POP_CFG_DENSE s p) && c.on (Reg.NE_POP_CFG_LEARN s p)), ERR_PARAM),
   (c.variant == 3 && ranges.any (fun i => 0x80000 < c.get (Reg.MX_IN_RANGE_BASE_WBASE s i) + c.rangeExtent s i), ERR_RESOURCE),
   ((List.range 8).any (fun i => c.syncType s i == 1 && c.rd (Reg.SYNC_TARGET s i) == 0), ERR_PARAM)]

/-- A cluster with a gang population (R141, R142): its spare, its lanes, what else its cores hold. -/
def Chip.gangChecks (c : Chip) (k : Nat) : List (Bool × Nat) :=
  let cores := (List.range 16).map (fun i => c.pcore (16 * k + i))
  [(!c.on (Reg.DMAP_CLUSTER_STAT_SPARE_FREE k), ERR_RESOURCE), (cores.any (fun s => c.lanes s != 32), ERR_PARAM),
   (cores.any (fun s => (c.validPops s).any (fun p => !c.on (Reg.NE_POP_CFG_DENSE s p) || c.on (Reg.NE_POP_CFG_LEARN s p))), ERR_PARAM)]

/-- The cell table (R30, R343): one primary triple for a cell; a standby on another chip than its primary, which serves no
primary cell; every lane a port or channel feeds has a triple of this chip. -/
def Chip.cellChecks (c : Chip) (cells : List Cell) (lanes : List Nat) : List (Bool × Nat) :=
  let prim := cells.filter (fun x => !x.standby)
  let same : Cell → Cell → Bool := fun x y => x.chip == y.chip && x.replica == y.replica && x.lane == y.lane
  [(prim.any (fun x => prim.any (fun y => x.cell == y.cell && !same x y)), ERR_PARAM),
   (cells.any (fun x => x.standby && prim.any (fun y => same x y || (x.cell == y.cell && x.chip == y.chip))), ERR_PARAM),
   (lanes.any (fun l => !cells.any (fun x => x.lane == l && x.chip == c.chipId)), ERR_PARAM)]

/-- The lanes that ports and emitters feed, as their registers say. -/
def Chip.fedLanes (c : Chip) (ports chans : List Nat) : List Nat :=
  (ports.filter (fun p => c.get (Reg.CL_PORT_CFG_MAP_COUNT p) != 0)).map (fun p => c.get (Reg.CL_PORT_CFG_LANE p)) ++
  chans.map (fun k => c.get (Reg.CAP_CH_RESC2_LANE k))

/-- The checks of a job's configuration as it stands in the chip: its cores, its bindings, gang clusters, its cell table. -/
def Chip.configChecks (c : Chip) (x : Job) : List (Bool × Nat) :=
  let slots := x.cores.map c.pcore
  slots.flatMap c.coreChecks ++
  slots.flatMap (fun s => ((List.range 16).filter (fun p => c.on (Reg.WADI_SPORT_CFG_BOUND s p))).flatMap (fun p => c.bindingChecks s p)) ++
  ((slots.map (· / 32)).eraseDups.filter c.gangCluster).flatMap c.gangChecks ++
  c.cellChecks x.cells (c.fedLanes x.ports x.chans)

/-- What an image names against what the chip has (R17, R367), its partition (R314) and the other jobs. -/
def Chip.nameChecks (c : Chip) (j part : Nat) (l : List Section) : List (Bool × Nat) :=
  let cores := targetsOf l (fun k => 1 ≤ k && k ≤ 4)
  let clusters := (cores.map (· / 16) ++ targetsOf l (· == 5)).eraseDups
  let others := (c.fw.jobs.filter (fun x => x.1 != j && x.2.state != 0)).map (·.2)
  [(cores.any (fun i => !c.seated i), ERR_RESOURCE),
   (cores.any (fun i => c.seated i && !((smGet 0 c.fw.parts part).getLsbD (i / 16))), ERR_PARAM),
   (clusters.any (fun k => c.clusters ≤ k || c.on (Reg.DMAP_CLUSTER_STAT_ROUTER_FAIL k)), ERR_RESOURCE),
   (l.any (fun x => x.kind == 5 && x.words.any (fun w => w.1 % 4 == 2 && (List.range 16).any (fun b =>
      w.2.getLsbD b && !c.seated (16 * x.target + b)))), ERR_RESOURCE),
   (l.any (fun x => x.kind == 2 && c.synSize < x.offset + x.data.length), ERR_RESOURCE),
   ((targetsOf l (· == 7)).any (fun p => c.clPorts ≤ p), ERR_RESOURCE),
   (l.any (fun x => x.kind == 8 && x.words.any (fun w => x.offset + 4 * w.1 == 0x40 && w.2.getLsbD 3 &&
      c.pairs ≤ x.target / 32 * 8 + wbits w.2 2 0)), ERR_RESOURCE),
   ((targetsOf l (· == 11)).any (fun p => c.links_ ≤ p), ERR_RESOURCE),
   ((evrtOf l).any (fun e => !c.seated e.1), ERR_RESOURCE),
   (cores.any (fun i => c.fenced (c.pcore i)), ERR_FENCED),
   (others.any (fun x => x.cores.any cores.contains || x.ports.any (targetsOf l (· == 7)).contains ||
      x.chans.any (targetsOf l (· == 8)).contains), ERR_BUSY)]

/-- What the image at `b` asks of the chip beside its configuration: the names, the features (R307), and that the system's
multi-chip job is the only one (R343). -/
def Chip.jobNames (c : Chip) (o : Origin) (j part b : Nat) : List (Bool × Nat) :=
  let need := c.featureStatus o (c.imageFeatures b)
  let multi := bit (c.imageFeatures b) 7 && c.fw.jobs.any (fun x => x.1 != j && x.2.multi && x.2.state != 0)
  c.nameChecks j part (c.imageSections b) ++ [(need != OK, need), (multi, ERR_BUSY)]

/-- The checks of JOB_LOAD beside those of its arguments (R15, R315, R343, R377): the image at `b`, its configuration on the
chip as its sections would leave it. -/
def Chip.imageChecks (c : Chip) (o : Origin) (j part b len : Nat) : List (Bool × Nat) :=
  if c.imageForm b len = false then [(true, ERR_PARAM)]
  else
    let l := c.imageSections b
    c.jobNames o j part b ++ (l.foldl (fun c x => c.putSection x) c).configChecks (jobOf l part (c.imageFeatures b) b len)

/-- The clusters of a partition (R314). -/
def Chip.partMembers (c : Chip) (p : Nat) : List Nat := (List.range c.clusters).filter (fun k => (smGet 0 c.fw.parts p).getLsbD k)

/-! ## Starting, stopping and unloading (R316) -/

/-- The write of EN or EMIT that JOB_START, JOB_STOP, PAUSE and RESUME make. -/
def Chip.jobPorts (c : Chip) (x : Job) (on : Bool) : Chip :=
  x.ports.foldl (fun c p => c.regWrite (Reg.CL_PORT_CFG p) (wset (c.rd (Reg.CL_PORT_CFG p)) 0 0 on.toNat) whoHcu) c
def Chip.jobEmit (c : Chip) (x : Job) (on : Bool) : Chip :=
  x.chans.foldl (fun c k => c.setEmit k on) c

/-- JOB_START: the HIF_EVRT entries with the ring, the programs under R192, ports, whose edge ports may have joined before (R67), and
emission. -/
def Chip.startJob (c : Chip) (j ring : Nat) : Chip :=
  let x := c.job j
  let c := x.evrt.foldl (fun c e => c.wr (Reg.HIF_EVRT e.1) (BitVec.ofNat 32 (ring + e.2 * 2 ^ 6 + 2 ^ 31))) c
  let c := x.programs.foldl (fun c i => c.runRequest (c.pcore i)) c
  ((c.jobPorts x true).ingestActions.jobEmit x true).setJob j { x with state := 3 }

/-- The first two acts of JOB_STOP: ports and emission off, the cores halted without a report. -/
def Chip.haltJob (c : Chip) (j : Nat) : Chip :=
  let x := c.job j
  x.cores.foldl (fun c i => if c.seated i then c.haltRequest (c.pcore i) false else c) ((c.jobPorts x false).jobEmit x false)

/-- Input and loopback queues of the job's cores are empty. -/
def Chip.jobIdle (c : Chip) (j : Nat) : Bool :=
  (c.job j).cores.all (fun i => (c.core (c.pcore i)).inq.isEmpty && (c.core (c.pcore i)).loopq.isEmpty)

/-- The last act of JOB_STOP: VALID of the job's populations is cleared, the job is LOADED, unless it has ended meanwhile (R35). -/
def Chip.stopDone (c : Chip) (j : Nat) : Chip :=
  let x := c.job j
  let c := x.cores.foldl (fun c i => (List.range 16).foldl (fun c p => c.clr (Reg.NE_POP_CFG_VALID (c.pcore i) p)) c) c
  c.setJob j { c.job j with state := if (c.job j).state = 5 then 5 else 2 }

/-- The job leaves the chip (log 53): its routes, ports, emission and populations go, its context is EMPTY. -/
def Chip.unloadJob (c : Chip) (j : Nat) : Chip :=
  let x := c.job j
  let c := x.evrt.foldl (fun c e => c.wr (Reg.HIF_EVRT e.1) 0) c
  (((c.jobPorts x false).jobEmit x false).stopDone j).setJob j Job.empty

/-- Firmware ends a job under R35. -/
def Chip.endJob (c : Chip) (j : Nat) : Chip := (c.haltJob j).setJob j { c.job j with state := 5 }

/-- The loaded job that holds logical core `i`. -/
def Chip.jobOfCore (c : Chip) (i : Nat) : Option Nat := (c.fw.jobs.find? (fun x => x.2.state != 0 && x.2.cores.contains i)).map (·.1)

end Sys2Proof.Machine
end

