-- ==== Sys2Proof/Machine/Recovery.lean ====
section
/-! DEFINITION. How long operations end (R317, R318), the HCU's watchdog and restart (R294, R416), the profile (R308), and what
firmware does after a fence (R220, R413, R414). -/

namespace Sys2Proof.Machine

/-! ## Ends of long operations (R318) -/

def Op.arg (o : Op) (off n : Nat) : Nat := bytesToNat ((o.args.drop off).take n)

/-- A READ_WEIGHTS with FREEZE reads logical core `i` (R208). -/
def Op.freezes (o : Op) (i : Nat) : Bool := o.code == 0x29 && o.arg 0x18 1 % 2 == 1 && o.arg 2 2 == i

/-- VALID is set again for the populations a WRITE_WEIGHTS made invalid (R316). -/
def Chip.revalidate (c : Chip) (j : Nat) : Chip :=
  let x := c.job j
  (x.valid.foldl (fun c v => c.set (Reg.NE_POP_CFG_VALID (c.pcore (v / 16)) (v % 16))) c).setJob j { x with valid := [] }

/-- What an operation holds is given back as it ends, its job EMPTY when a JOB_LOAD ends without OK (R315, R318). -/
def Chip.opRelease (c : Chip) (o : Op) (status : Nat) : Chip :=
  let c : Chip := { c with fw := { c.fw with ops := c.fw.ops.erase o } }
  if o.code = 0x21 then if status = OK then c else c.setJob (o.arg 0 1) Job.empty
  else if o.code = 0x28 then c.revalidate (o.arg 0 1)
  else if o.freezes (o.arg 2 2) ∧ c.fw.ops.any (·.freezes (o.arg 2 2)) = false then
    c.put (Reg.LRN_CFG_FREEZE (c.pcore (o.arg 2 2))) o.freeze
  else if o.code = 0x51 ∧ status ≠ OK ∧ c.rot.withdraw ≠ 0 ∧ c.rot.old = o.arg 0 2 ∧ 1 ≤ c.rotPhase ∧ c.rotPhase ≤ 3 then c.rotAbandon
  else c

/-- An operation ends with a status. -/
def Chip.opEnd (c : Chip) (o : Op) (status : Nat) : Chip := (c.opRelease o status).complete o.origin o.code status o.res0 o.res1

/-! ## The profile (R308, R309) -/

/-- OFFERED of the running images: every feature, less those of a pair that no entry of the table qualifies. -/
def offeredOf (hcu cl dune step : Nat) : Nat :=
  let t := Config.qualified
  if t.contains (hcu, cl, dune, step) then allFeatures
  else if !t.any (fun e => e.1 == hcu && e.2.2.2 == step) then 0x0A001
  else
    let a := if t.any (fun e => e.1 == hcu && e.2.1 == cl && e.2.2.2 == step) then 0 else 0x300
    let b := if t.any (fun e => e.1 == hcu && e.2.2.1 == dune && e.2.2.2 == step) then 0 else 0x70
    allFeatures - a - b

/-- The profile without FORCE_COMBO, in the status page too. -/
def Chip.setProfile (c : Chip) : Chip :=
  let hcu := c.fw.compat.getD 0 0
  let cl := c.fw.compat.getD 1 0
  let dune := c.fw.compat.getD 2 0
  let step := c.get Reg.FUSE_STEPPING_STEP
  let full := Config.qualified.contains (hcu, cl, dune, step)
  let c : Chip := { c with fw := { c.fw with profile := if full then 0 else 1, offered := offeredOf hcu cl dune step } }
  (c.put Reg.HIF_FWSTATE_RESTRICTED (if full then 0 else 1)).put Reg.HIF_FWSTATE_FORCED 0

/-! ## WAIT_HELLO (R293, R294) -/

def Chip.setFwState (c : Chip) (n : Nat) : Chip := c.put Reg.HIF_FWSTATE_FW_STATE n

/-- Firmware enters WAIT_HELLO: a new epoch, no agreed mask. -/
def Chip.waitHello (c : Chip) : Chip :=
  let c := c.wr Reg.HIF_FWEPOCH (c.rd Reg.HIF_FWEPOCH + 1)
  ({ c with fw := { c.fw with agreed := 0, restarts := 0 } } : Chip).setFwState 2

/-- The host-interface hardware answers every POSTED slot (R290). -/
def Chip.autoReplyAll (c : Chip) (status : Nat) : Chip :=
  (List.range 16).foldl (fun c n => if c.mbxState n = 1 then c.mbxReply n (c.rdMem (mbxMem n 0) 1) (c.rdMem (mbxMem n 1) 1) status [] else c) c

/-! ## The watchdog (R416) -/

/-- RST_HCU_KICK (R416): the period restarts; WATCHDOG_EXPIRY is the period that passes without one. -/
def execRstHcuKick (s : State) : Host.Outcome State Fault Refusal := act id s

/-- What a restart of the HCU interrupts: a Dune run (R252), long operations (R318), exchanges and pauses that wait. Commands
of rings complete once firmware is back; slots are answered by hardware (R290). -/
def Chip.hcuStops (c : Chip) : Chip :=
  let c := (c.setFwState 4).duneEnd PARTIAL
  let ops := c.fw.ops
  let c := ops.foldl (fun c o => c.opRelease o PARTIAL) c
  let waits := ops.map (fun o => (o.origin, o.code)) ++ c.fw.pauses.filterMap (fun p => p.origin.map (fun o => (o, 0x30))) ++
    c.ports.filterMap (fun p => p.2.ctrl.map (fun x => (x.origin, 0x48)))
  let isRing : Origin × Nat → Bool := fun x => match x.1 with
    | .ring _ _ => true
    | _ => false
  let c : Chip := { c with
    fw := { c.fw with broken := (c.fw.broken ++ waits).filter isRing, pauses := [], agreed := 0, nqBase := 0, nqLost := 0, nqSeq := 0 },
    ports := c.ports.map (fun p => (p.1, { p.2 with ctrl := p.2.ctrl.map (fun x => { x with origin := .internal }) })) }
  c.autoReplyAll ERR_NOT_READY

/-- WATCHDOG_EXPIRY (R416): a period without a kick restarts the HCU, or stops it when MAX restarts in a row have passed. -/
def execWatchdogExpiry (s : State) : Host.Outcome State Fault Refusal :=
  act (fun c =>
    if c.get Reg.RST_HCU_WDT_PERIOD = 0 ∨ c.fw.stopped ∨ c.fwState = 0 ∨ c.fwState = 5 then c
    else
      let stop := c.get Reg.RST_HCU_WDT_MAX ≤ c.fw.restarts
      let c := c.hcuStops
      if stop then { c with fw := { c.fw with stopped := true } }
      else { c with fw := { c.fw with restarts := c.fw.restarts + 1 } }) s

/-- HCU_RESTART_DONE (R416): firmware reaches WAIT_HELLO again; the interrupted ring commands complete with PARTIAL, the
restart is reported, and an alignment that came meanwhile has its effect (R338). -/
def execHcuRestartDone (s : State) : Host.Outcome State Fault Refusal :=
  act (fun c =>
    if c.fwState = 4 ∧ c.fw.stopped = false then
      let c := c.waitHello.setProfile
      let l := c.fw.broken
      let c : Chip := { c with fw := { c.fw with broken := [] } }
      let c := l.foldl (fun c x => c.complete x.1 x.2 PARTIAL 0 0) c
      (c.notify 0x000D OK 1 (c.rd Reg.HIF_FWEPOCH).toNat 0).finishReloads.timeActions
    else c) s

/-! ## After a fence (R35, R413, R414) -/

/-- An operation names logical core `i`. -/
def Chip.opNames (c : Chip) (i : Nat) (o : Op) : Bool :=
  ((o.code == 0x28 || o.code == 0x29) && o.arg 2 2 == i) || (o.code == 0x21 && (targetsOf (c.imageSections (o.arg 8 8)) (fun k => 1 ≤ k && k ≤ 4)).contains i)

/-- What a JOB_LOAD ended by a fence of core `i` keeps (R318): the blocks its completed steps wrote to other cores. -/
def Chip.keepBlocks (c : Chip) (o : Op) (i : Nat) : Chip :=
  if o.code = 0x21 then
    (((c.imageSections (o.arg 8 8)).take o.done).filter (fun x => 1 ≤ x.kind && x.kind ≤ 4 && x.target != i)).foldl (fun c x => c.putSection x) c
  else c

/-- Operations that name a fenced core end with ERR_FENCED (R318). -/
def Chip.opsFenced (c : Chip) (i : Nat) : Chip :=
  (c.fw.ops.filter (c.opNames i)).foldl (fun c o => (c.keepBlocks o i).opEnd o ERR_FENCED) c

/-- A DEFECT_REMAP that names a fenced slot ends with ERR_FENCED (R318). -/
def Chip.remapFenced (c : Chip) (s : Nat) : Chip :=
  (c.fw.ops.filter (fun o => o.code == 0x51 && o.arg 0 2 == s)).foldl (fun c o => c.opEnd o ERR_FENCED) c

/-- The slot of cluster `k` that a fenced core may move to: the free spare, or the slot that a rotation step has freed and tests
(chapter 15, fence during TEST; log 162); none while a reset covers it (chapter 17). -/
def Chip.spareFor (c : Chip) (k : Nat) : Option Nat :=
  if c.spareFree k && !c.fenced (c.spareOf k) && !c.rst.slots.contains (c.spareOf k) then some (c.spareOf k)
  else if c.rotPhase == 5 && c.rot.old / 32 == k && !c.testClaimed && !c.fenced c.rot.old && !c.gangCluster k && !c.rst.slots.contains c.rot.old then some c.rot.old
  else none

/-- Slot `sp` takes the place of core `i`: its saved sections, the swap, the start that waits for it. A step that has not reached
its swap gives the spare up (log 162). -/
def Chip.substitute (c : Chip) (i sp : Nat) : Chip :=
  let c := c.rotLoses (· == i / 16)
  let saved : List Section := match c.jobOfCore i with
    | some j => (c.job j).saved.filter (fun x => x.target == i)
    | none => []
  let c := saved.foldl (fun c x => c.putCore sp x) (c.blankSlot sp)
  let c := (c.clr (Reg.DMAP_CLUSTER_STAT_SPARE_FREE (i / 16))).moveCore i (sp % 32)
  ({ c with fw := { c.fw with reloads := c.fw.reloads ++ [i] } } : Chip).finishReloads

/-- No spare (R35): the job ends, a multi-chip job on this chip, its cells re-mapped to their standbys on the chips that live. -/
def Chip.withoutSpare (c : Chip) (i : Nat) (report : Bool) (other : Chip → Chip) : Chip :=
  match c.jobOfCore i with
  | none => if report then other c else c
  | some j =>
    let x := c.job j
    let moved := if x.multi then x.standbys c.chipId (fun k => k != c.chipId && c.alive k) else []
    let c := c.endJob j
    let c := c.setJob j ((c.job j).enable moved)
    if !report then c
    else if x.multi then c.notify 0x0004 ERR_FENCED j c.chipId moved.length
    else c.notify 0x0003 ERR_FENCED j i 0

/-- A substitution that a reset ended (chapter 17, R35): its fence has its report already (R414). -/
def Chip.endSubstitution (c : Chip) (s : Nat) : Chip :=
  match c.logical? s with
  | some i => c.withoutSpare i false id
  | none => c

/-- The follow-up of a fence of slot `s`. -/
def Chip.followFence (c : Chip) (s kind : Nat) (byCmd : Bool) : Chip :=
  let k := s / 32
  let r : Chip × Nat := if byCmd then (c, 6) else c.addDefect s kind
  let c := r.1
  let full := if byCmd then 0 else r.2
  let c := c.remapFenced s
  let c := if r.2 = 6 then c else c.put (Reg.DMAP_CLUSTER_STAT_HEALTHY k) (c.get (Reg.DMAP_CLUSTER_STAT_HEALTHY k) - 1)
  match c.logical? s with
  | none =>
    let c := if s = c.spareOf k then c.clr (Reg.DMAP_CLUSTER_STAT_SPARE_FREE k) else c
    if byCmd then
      let f := c.free
      f.1.notify 0x0002 ERR_FENCED f.2.toNat s 0x7FF
    else c.reportDefect s kind 2 full
  | some i =>
    let c := (c.fwCredits i true false).opsFenced i
    match c.spareFor k with
    | some sp =>
      let c := c.substitute i sp
      if byCmd then c.notify 0x0002 ERR_FENCED i s (c.pcore i) else c.reportDefect s kind 1 full
    | none =>
      let c := c.withoutSpare i (!byCmd) (fun c => c.reportDefect s kind 2 full)
      if byCmd then c.notify 0x0002 ERR_FENCED i s 0x7FF else c

/-- FENCE_SUBSTITUTION (R413): firmware follows up the oldest fence; a swap needs every cluster drained. -/
def execFenceSubstitution (s : State) : Host.Outcome State Fault Refusal :=
  act (fun c => match c.fw.fences with
    | (s, kind, byCmd) :: rest =>
      let d : Chip := { c with fw := { c.fw with fences := rest } }
      if c.fwUp ∧ c.allDrained then (if kind = 0 then d.endSubstitution s else d.followFence s kind byCmd) else c
    | [] => c) s

end Sys2Proof.Machine
end

