-- ==== Sys2Proof/Machine/Services.lean ====
section
/-! DEFINITION. The services of firmware (R304 to R325): the catalogue, the checks before a command is accepted in the order
of R15, and what each service does as it is taken up. -/

namespace Sys2Proof.Machine

/-! ## The catalogue (R313) -/

/-- What the command table says of a command: its code, the argument bytes it defines as (offset, size), M, L, E, and the
features it needs. -/
structure Service where
  code : Nat
  args : List (Nat × Nat)
  mailboxOnly : Bool
  long : Bool
  expert : Bool
  need : Nat
  deriving DecidableEq, Repr

def serviceTable : List Service := [
  ⟨0x01, [(0, 25), (25, 7)], true, false, false, 0⟩,
  ⟨0x02, [(0, 1), (4, 4)], false, false, false, 0⟩,
  ⟨0x03, [(0, 8), (8, 4), (12, 4)], true, true, false, 0⟩,
  ⟨0x10, [(0, 4), (4, 8), (12, 8), (20, 1), (24, 4)], true, false, true, 2 ^ 0⟩,
  ⟨0x11, [(0, 1)], true, false, false, 2 ^ 0⟩,
  ⟨0x20, [(0, 1), (8, 8)], false, false, false, 2 ^ 1⟩,
  ⟨0x21, [(0, 2), (8, 8), (16, 4)], false, true, true, 2 ^ 1⟩,
  ⟨0x22, [(0, 2)], false, false, true, 2 ^ 1⟩,
  ⟨0x23, [(0, 1)], false, false, false, 2 ^ 1⟩,
  ⟨0x24, [(0, 1)], false, true, false, 2 ^ 1⟩,
  ⟨0x28, [(0, 1), (2, 2), (8, 8), (16, 4), (20, 4)], false, true, false, 2 ^ 1⟩,
  ⟨0x29, [(0, 1), (2, 2), (8, 8), (16, 4), (20, 4), (24, 1)], false, true, false, 2 ^ 1⟩,
  ⟨0x30, [(0, 1), (4, 4), (8, 4)], false, false, false, 0⟩,
  ⟨0x31, [(0, 1), (4, 4)], false, false, false, 0⟩,
  ⟨0x38, [(0, 8)], false, false, true, 2 ^ 4⟩,
  ⟨0x39, [], false, false, false, 2 ^ 4⟩,
  ⟨0x40, [(0, 1), (4, 4)], false, false, false, 2 ^ 11⟩,
  ⟨0x41, [(0, 2), (2, 1)], false, false, true, 2 ^ 12⟩,
  ⟨0x48, [(0, 1), (4, 20)], false, false, false, 2 ^ 9⟩,
  ⟨0x50, [(0, 1), (1, 1), (8, 8)], false, true, true, 2 ^ 13⟩,
  ⟨0x51, [(0, 2), (2, 1)], false, true, false, 2 ^ 14⟩,
  ⟨0x58, [], false, false, false, 2 ^ 15⟩,
  ⟨0x59, [(0, 8)], false, true, false, 2 ^ 15⟩,
  ⟨0x60, [(0, 1)], true, false, false, 2 ^ 17⟩]

def serviceOf (code : Nat) : Option Service := serviceTable.find? (·.code == code)

/-! ## What every command must keep to (R310 to R312) -/

/-- A field of the arguments. -/
def argOf (a : List Byte) (off n : Nat) : Nat := bytesToNat ((a.drop off).take n)

def CmdHead.expertForm (h : CmdHead) : Bool := bit h.flags 0

/-- The bytes the command does not define are 0. -/
def argsClean (x : Service) (expert : Bool) (a : List Byte) : Bool :=
  let defined := x.args ++ (if expert then [(0x20, 12)] else [])
  (List.range a.length).all (fun i => a.getD i 0 == 0 || defined.any (fun d => d.1 ≤ i && i < d.1 + d.2))

/-- The blocks no override and no host access writes (R302, R311), by address in the crossbar map: BOOT_, FUSE_, DMAP_, OAS_,
BDP_ with its registers in the core windows. -/
def protectedAt (a : Nat) : Bool :=
  let o := a - 0x2000000000
  let w := (a - winBase) % 0x400000
  (0x2000000000 ≤ a && a < 0x2002000000 && (o / 0x10000 == 0 || o / 0x10000 == 1 || o / 0x10000 == 2 || o / 0x10000 == 5 || o / 0x10000 == 0x11)) ||
  (winBase ≤ a && a < winTop && regsOff + 0x7000 ≤ w && w < regsOff + 0x7800)

/-- The override list of an expert command: address, VALUE and MASK of each entry. -/
def Chip.overrides (c : Chip) (a : List Byte) : List (Nat × Word × Word) :=
  (List.range (argOf a 0x28 4)).map (fun i =>
    let e := argOf a 0x20 8 + 16 * i
    (c.rdMem e 8, BitVec.ofNat 32 (c.rdMem (e + 8) 4), BitVec.ofNat 32 (c.rdMem (e + 12) 4)))

/-- Checks of the expert form (R311). -/
def Chip.expertChecks (c : Chip) (x : Service) (a : List Byte) : List (Bool × Nat) :=
  let n := argOf a 0x28 4
  let counts := 1 ≤ n && n ≤ 1024
  let fits := counts && c.inDram (argOf a 0x20 8) (16 * n)
  [(!x.expert || !counts, ERR_PARAM), (x.expert && counts && !fits, ERR_RESOURCE), (x.expert && fits && (c.overrides a).any (fun e => protectedAt e.1 || 2 ^ 48 ≤ e.1), ERR_PARAM)]

/-- The crossbar's records of an error response (R262), as `x` has them. -/
def Chip.errorsOf (c x : Chip) : Chip :=
  [Reg.XBAR_ERR_INFO, Reg.XBAR_ERR_INFO_HI, Reg.XBAR_ERR_CNT, Reg.XBAR_IRQ_STATUS].foldl (fun c a => c.wr a (x.rd a)) c

/-- Write the overrides in list order; an access that fails ends them with the status R262 gives the service, and leaves the chip
as that access does. -/
def Chip.applyOverrides (c : Chip) : List (Nat × Word × Word) → Except (Chip × Nat) Chip
  | [] => .ok c
  | (a, v, m) :: t =>
    let r := c.busRead whoHcu a 4
    let w := (BitVec.ofNat 32 (bytesToNat r.2.2) &&& ~~~ m) ||| (v &&& m)
    let u := r.1.busWrite whoHcu a (natToBytes 4 w.toNat)
    if r.2.1 ≠ OK then .error (r.1, masterStatus r.2.1)
    else if u.2 ≠ OK then .error (u.1, masterStatus u.2)
    else Chip.applyOverrides u.1 t

/-- The rule of R321 and R21: a retry total below a quarter of the timeout above it, both in µs; an unbounded total (none)
asks for a timeout of 0. -/
def retryFits (total : Option Nat) (timeout : Nat) : Bool :=
  timeout == 0 || (match total with
    | some t => 4 * t < timeout
    | none => false)

/-- T_R of R331 in µs; none where it is unbounded. -/
def Chip.feryoRetry (c : Chip) : Option Nat :=
  if c.get Reg.FER_TIMING_REPLAY_TO = 0 ∨ c.get Reg.FER_TIMING_RETRAIN_TO = 0 then none
  else some (c.get Reg.FER_TIMING_REPLAY_MAX * c.get Reg.FER_TIMING_REPLAY_TO + c.get Reg.FER_TIMING_RETRAIN_TO)

/-- The FER_ settings that R344 and R21 refuse: four retry totals are not below HB_MISS periods. -/
def Chip.ferBad (c : Chip) : Bool :=
  !retryFits c.feryoRetry (c.get Reg.FER_HB_HB_MISS * c.get Reg.FER_HB_HB_PERIOD) && c.get Reg.FER_HB_HB_PERIOD != 0

/-- Commands on a multi-chip job (R321, R343): JOB_LOAD of its image, and what names the job once it is loaded. -/
def Chip.multiCommand (c : Chip) (code : Nat) (a : List Byte) : Bool :=
  if code = 0x21 then bit (c.imageFeatures (argOf a 8 8)) 7
  else (code == 0x22 || code == 0x23 || code == 0x24 || code == 0x28 || code == 0x29) && (c.job (argOf a 0 1)).multi && (c.job (argOf a 0 1)).state != 0

/-- A multi-chip command's settings and TIMEOUT against the Feryo retry total (R321, R344, log 157). -/
def Chip.multiChecks (c : Chip) (code timeout : Nat) (a : List Byte) : List (Bool × Nat) :=
  [(c.multiCommand code a && (c.ferBad || !retryFits c.feryoRetry timeout), ERR_PARAM)]

/-! ## Long operations in progress (R317) -/

def Op.isLong (o : Op) : Bool := match serviceOf o.code with
  | some x => x.long
  | none => false

/-- An operation on job `j`. -/
def Op.onJob (o : Op) (j : Nat) : Bool := (o.code == 0x21 || o.code == 0x23 || o.code == 0x24 || o.code == 0x28 || o.code == 0x29) && o.arg 0 1 == j

def Chip.jobBusy (c : Chip) (j : Nat) : Bool := c.fw.ops.any (·.onJob j)

/-- Take up a long operation, or a command that waits. -/
def Chip.opStart (c : Chip) (o : Origin) (h : CmdHead) (code : Nat) (a : List Byte) (total freeze : Nat) : Chip :=
  let op : Op := { origin := o, code := code, args := a, expert := h.expertForm, done := 0, total := total, paused := false, res0 := 0, res1 := 0,
                   freeze := freeze, stepped := false, moved := 0, found := [] }
  { c with fw := { c.fw with ops := c.fw.ops ++ [op] } }

/-- Steps of 4 KiB. -/
def steps4k (n : Nat) : Nat := max 1 ((n + 4095) / 4096)

/-! ## HELLO (R304, R305, R309) -/

def servesMajor (m : Nat) : Bool := m == 2 || m == 3

/-- The interface minor firmware serves of a major: 1 of major 3; the spec gives none for major 2 (log 7). -/
def minorOf (major : Nat) : Nat := if major = 3 then 1 else (Config.freeWord 0xFFFFFFFF).toNat % 256

def helloBad (c : Chip) (a : List Byte) : Bool :=
  let base := argOf a 0x10 8
  let log2 := argOf a 0x18 1
  a.length != 32 || 2 ≤ argOf a 0x19 1 || argOf a 0x1A 2 != 0 ||
  (base != 0 && (base % 64 != 0 || log2 < 4 || 12 < log2 || !c.inDram base (32 * 2 ^ log2)))

/-- The reply of R305. -/
def Chip.helloReply (c : Chip) : List Byte :=
  natToBytes 16 c.fw.agreed ++ natToBytes 16 c.fw.offered ++ natToBytes 4 c.fw.build ++ natToBytes 1 c.variant ++
  natToBytes 1 (c.get Reg.FUSE_STEPPING_STEP) ++ natToBytes 1 c.fw.profile ++ natToBytes 1 2 ++ natToBytes 2 (c.fw.compat.getD 0 0) ++
  natToBytes 2 (c.fw.compat.getD 1 0) ++ natToBytes 2 (c.fw.compat.getD 2 0) ++ natToBytes 2 0 ++ natToBytes 4 (c.rd Reg.HIF_FWEPOCH).toNat

/-- FORCE_COMBO under the RESTRICTED profile (R309), with the sticky entry: the triple and the stepping. -/
def Chip.force (c : Chip) (hostId : Nat) : Chip :=
  let c := (c.put Reg.HIF_FWSTATE_RESTRICTED 0).put Reg.HIF_FWSTATE_FORCED 1
  let c : Chip := { c with fw := { c.fw with profile := 2, offered := allFeatures } }
  c.logged logHello hostId (c.fw.compat.getD 0 0 + c.fw.compat.getD 1 0 * 2 ^ 16 + c.fw.compat.getD 2 0 * 2 ^ 32 +
    c.get Reg.FUSE_STEPPING_STEP * 2 ^ 48) true

/-- A HELLO that passed its checks. -/
def Chip.hello (c : Chip) (n major minor : Nat) (a : List Byte) : Chip :=
  let c := c.setProfile.logged logHello (argOf a 0x1C 4) 0
  let c := if bit (argOf a 0x19 1) 0 ∧ c.fw.profile = 1 then c.force (argOf a 0x1C 4) else c
  let c : Chip := { c with fw := { c.fw with agreed := c.fw.offered &&& argOf a 0 16, nqBase := argOf a 0x10 8, nqLog2 := argOf a 0x18 1, nqHead := 0 } }
  let c := (c.put Reg.HIF_NQ_TAIL_TAIL 0).setFwState 3
  let c := c.mbxReply n major (min minor (minorOf major)) OK c.helloReply
  c.flushNotices

/-! ## Checks and starts of the services, in the catalogue's order -/

/-- The name QUERY, PAUSE and RESUME give an operation (R318). -/
def Op.named (o : Op) (id : Nat) : Bool := match o.origin with
  | .mailbox n => id == 0x80000000 + n
  | .ring _ tag => id == tag
  | .internal => false

/-- The long operation of an ID. -/
def Chip.opNamed (c : Chip) (id : Nat) : Option Op := c.fw.ops.find? (fun o => o.named id && o.isLong)

def Chip.queryChecks (c : Chip) (a : List Byte) : List (Bool × Nat) :=
  let what := argOf a 0 1
  let id := argOf a 4 4
  [(what == 0 || 4 < what || (what == 1 && 16 ≤ id) || (what == 2 && (c.opNamed id).isNone), ERR_PARAM)]

/-- The results of QUERY. -/
def Chip.queryResult (c : Chip) (a : List Byte) : Nat × Nat :=
  let what := argOf a 0 1
  if what = 1 then ((c.job (argOf a 4 4)).state, 0)
  else if what = 2 then match c.opNamed (argOf a 4 4) with
    | some o => (o.done, o.total)
    | none => (0, 0)
  else if what = 3 then (c.power.cap.average, c.power.cap.stage)
  else (c.fw.nqLost, 0)

/-- Bytes of an event-log entry as LOG_READ writes it (log 31). -/
def logEntryBytes : Nat := 32

def Chip.logReadChecks (c : Chip) (a : List Byte) : List (Bool × Nat) :=
  [(!c.inDram (argOf a 0 8) (logEntryBytes * min (argOf a 12 4) (c.fw.log.length - argOf a 8 4)), ERR_RESOURCE)]

/-- A ring's place and sizes (R287, R295, R301). -/
def Chip.ringForm (c : Chip) (sqLog cqLog vec sq cq count : Nat) : Bool :=
  4 ≤ sqLog && sqLog ≤ 12 && 4 ≤ cqLog && cqLog ≤ 12 && 1 ≤ vec && vec ≤ 63 && sq % 64 == 0 && cq % 64 == 0 && count != 0 &&
  c.inDram sq (64 * 2 ^ sqLog) && c.inDram cq (32 * 2 ^ cqLog)

def Chip.ringExists (c : Chip) (k : Nat) : Bool := k < 64 && c.on (Reg.RING_CFG_EN k)

def Chip.ringCreateChecks (c : Chip) (a : List Byte) : List (Bool × Nat) :=
  [(64 ≤ argOf a 0 1 || 2 ^ 24 ≤ argOf a 24 4 ||
      !c.ringForm (argOf a 1 1) (argOf a 2 1) (argOf a 3 1) (argOf a 4 8) (argOf a 12 8) (argOf a 20 1), ERR_PARAM),
   (c.ringExists (argOf a 0 1), ERR_BUSY)]

/-- A ring pair made (R295): its registers, its indices at 0. -/
def Chip.makeRing (c : Chip) (k sqLog cqLog vec sq cq count holdoff : Nat) : Chip :=
  let c := (c.wr (Reg.RING_SQ_BASE k) (BitVec.ofNat 32 sq)).put (Reg.RING_SQ_BASE_HI_BASE k) (sq / 2 ^ 32)
  let c := (c.wr (Reg.RING_CQ_BASE k) (BitVec.ofNat 32 cq)).put (Reg.RING_CQ_BASE_HI_BASE k) (cq / 2 ^ 32)
  let c := (c.put (Reg.RING_CFG_SQ_LOG2 k) sqLog).put (Reg.RING_CFG_CQ_LOG2 k) cqLog
  let c := (c.put (Reg.RING_CFG_VEC k) vec).set (Reg.RING_CFG_EN k)
  let c := (c.put (Reg.RING_CQ_IRQ_COUNT k) count).put (Reg.RING_CQ_IRQ_HOLDOFF k) holdoff
  (c.wr (Reg.RING_MIRROR k) 0).setRing k Ring.init

/-- What the checks of RING_CREATE say of the registers as overrides leave them. -/
def Chip.ringRecheck (c : Chip) (k : Nat) : List (Bool × Nat) :=
  [(!c.on (Reg.RING_CFG_EN k) || !c.ringForm (c.get (Reg.RING_CFG_SQ_LOG2 k)) (c.get (Reg.RING_CFG_CQ_LOG2 k)) (c.get (Reg.RING_CFG_VEC k)) (c.sqBase k) (c.cqBase k)
      (c.get (Reg.RING_CQ_IRQ_COUNT k)), ERR_PARAM)]

def Chip.ringDestroyChecks (c : Chip) (a : List Byte) : List (Bool × Nat) :=
  let k := argOf a 0 1
  [(!c.ringExists k, ERR_PARAM), ((c.ring k).sqTail != c.sqHead k || !(c.ring k).busy.isEmpty, ERR_BUSY)]

/-- A ring pair removed. -/
def Chip.dropRing (c : Chip) (k : Nat) : Chip :=
  (c.dropRegs (fun a => a == Reg.RING_SQ_BASE k || a == Reg.RING_CQ_BASE k || a == Reg.RING_SQ_BASE_HI k || a == Reg.RING_CQ_BASE_HI k ||
    a == Reg.RING_CFG k || a == Reg.RING_CQ_IRQ k || a == Reg.RING_MIRROR k)).setRing k Ring.init

def Chip.partDefineChecks (c : Chip) (a : List Byte) : List (Bool × Nat) :=
  let p := argOf a 0 1
  let set := argOf a 8 8
  [(16 ≤ p || c.fw.parts.any (fun x => x.1 != p && x.2.toNat &&& set != 0), ERR_PARAM), (2 ^ c.clusters ≤ set, ERR_RESOURCE),
   (c.fw.jobs.any (fun j => j.2.state != 0 && j.2.part == p), ERR_BUSY)]

/-- A partition and its reset mask (R314, R406). -/
def Chip.definePart (c : Chip) (p set : Nat) : Chip :=
  let c : Chip := { c with fw := { c.fw with parts := smSet c.fw.parts p (BitVec.ofNat 64 set) } }
  (c.wr (Reg.RST_PART_MASK_LO p) (BitVec.ofNat 32 set)).wr (Reg.RST_PART_MASK_HI p) (BitVec.ofNat 32 (set / 2 ^ 32))

def Chip.jobLoadChecks (c : Chip) (o : Origin) (a : List Byte) : List (Bool × Nat) :=
  let j := argOf a 0 1
  let p := argOf a 1 1
  let image := argOf a 8 8
  let len := argOf a 16 4
  [(16 ≤ j || 16 ≤ p || len < 0x50 || (c.partMembers p).isEmpty, ERR_PARAM), (!c.inDram image len, ERR_RESOURCE),
   ((c.partMembers p).any (fun k => !c.joined k), ERR_NOT_READY), ((c.job j).state != 0 || c.jobBusy j, ERR_BUSY)] ++
  (if c.inDram image len then c.imageChecks o j p image len else [])

/-- The state a job must be in (R316); a number past the contexts is no job. -/
def Chip.jobChecks (c : Chip) (j : Nat) (states : List Nat) : List (Bool × Nat) :=
  [(16 ≤ j, ERR_PARAM), (!states.contains (c.job j).state, ERR_BUSY)]

/-- JOB_START needs a LOADED job and its ring (R316); a READ_WEIGHTS may run beside it, an operation that takes or rewrites the
job holds it (R292). -/
def Chip.jobStartChecks (c : Chip) (a : List Byte) : List (Bool × Nat) :=
  c.jobChecks (argOf a 0 1) [2] ++
  [(!c.ringExists (argOf a 1 1), ERR_PARAM), (c.fw.ops.any (fun o => o.onJob (argOf a 0 1) && o.code != 0x29), ERR_BUSY)]

def Chip.weightChecks (c : Chip) (a : List Byte) (states : List Nat) (write : Bool) : List (Bool × Nat) :=
  let j := argOf a 0 1
  let i := argOf a 2 2
  let stop := argOf a 16 4 + argOf a 20 4
  let others := c.fw.ops.any (fun o => o.onJob j && o.isLong && (write || o.code != 0x29))
  c.jobChecks j states ++
  [(!(c.job j).cores.contains i && i < 1024 && c.seated i, ERR_PARAM), (1024 ≤ i, ERR_PARAM), (!c.seated i, ERR_RESOURCE), (0x100000 < stop, ERR_PARAM),
   (c.synSize < stop, ERR_RESOURCE), (!c.inDram (argOf a 8 8) (argOf a 20 4), ERR_RESOURCE), (2 ≤ argOf a 24 1, ERR_PARAM),
   (c.fenced (c.pcore i), ERR_FENCED), (others, ERR_BUSY)]

/-- WRITE_WEIGHTS taken up: the core's valid populations become invalid for its time (R157, R316). -/
def Chip.invalidate (c : Chip) (j i : Nat) : Chip :=
  let s := c.pcore i
  let l := c.validPops s
  let c := l.foldl (fun c p => c.clr (Reg.NE_POP_CFG_VALID s p)) c
  c.setJob j { c.job j with valid := l.map (fun p => i * 16 + p) }

/-- READ_WEIGHTS taken up with FREEZE (R208): FREEZE is set; what its end restores. -/
def Chip.freezeCore (c : Chip) (i : Nat) : Chip × Nat :=
  let was := match c.fw.ops.find? (·.freezes i) with
    | some o => o.freeze
    | none => c.get (Reg.LRN_CFG_FREEZE (c.pcore i))
  (c.set (Reg.LRN_CFG_FREEZE (c.pcore i)), was)

/-! ## Pause and resume (R319) -/

/-- Whether the target of PAUSE or RESUME exists. -/
def Chip.pauseTarget (c : Chip) (kind id : Nat) : Bool :=
  if kind = 0 then id < c.clPorts
  else if kind = 1 then id < 16 && (c.job id).state != 0
  else if kind = 2 then c.dune.active
  else kind == 3 && (c.opNamed id).isSome

def Chip.pauseChecks (c : Chip) (a : List Byte) : List (Bool × Nat) :=
  [(!c.pauseTarget (argOf a 0 1) (argOf a 4 4) || (argOf a 0 1 == 0 && 2 ^ 24 ≤ argOf a 8 4), ERR_PARAM)]

/-- The record of a pause, replacing one that lasts. -/
def Chip.pauseNote (c : Chip) (kind id duration : Nat) (o : Option Origin) : Chip :=
  let r : PauseRec := { kind := kind, id := id, origin := o, duration := duration, inEffect := o.isNone }
  { c with fw := { c.fw with pauses := c.fw.pauses.filter (fun x => !(x.inEffect && x.kind == kind && x.id == id)) ++ [r] } }

/-- Operations take steps or none. -/
def Chip.holdOps (c : Chip) (p : Op → Bool) (hold : Bool) : Chip :=
  { c with fw := { c.fw with ops := c.fw.ops.map (fun o => if p o then { o with paused := hold } else o) } }

/-- A job is paused: PAUSED, or LOADING under a pause (R316). Its long operations take no steps (R319). -/
def Chip.jobHeld (c : Chip) (j : Nat) : Bool :=
  (c.job j).state == 4 || ((c.job j).state == 1 && c.fw.pauses.any (fun r => r.kind == 1 && r.id == j && r.inEffect))

/-- An operation that takes no steps (R319): paused itself, or its job is. -/
def Chip.opHeld (c : Chip) (o : Op) : Bool := o.paused || (o.onJob (o.arg 0 1) && c.jobHeld (o.arg 0 1))

/-- A job pauses (R319): its ports, its emission; its operations take no more steps (`opHeld`). -/
def Chip.pauseJob (c : Chip) (j : Nat) : Chip :=
  let x := c.job j
  if x.state = 1 then c else (x.ports.foldl (fun c p => c.portPauseReq p) (c.jobEmit x false)).setJob j { x with state := 4 }

/-- A job goes on. -/
def Chip.resumeJob (c : Chip) (j : Nat) : Chip :=
  let x := c.job j
  let c := if x.state = 1 then c else (x.ports.foldl (fun c p => c.portResume p) (c.jobEmit x true)).setJob j { x with state := 3 }
  c.pauseOver 1 j

/-- PAUSE taken up: at once in effect (RESULT0 = 1), not pausable (RESULT0 = 0), or still to take effect. -/
def Chip.pauseStart (c : Chip) (o : Origin) (kind id duration : Nat) : Chip :=
  let yes : Chip → Chip := fun c => c.complete o 0x30 OK 1 0
  let no := c.complete o 0x30 OK 0 0
  if kind = 0 then
    let d := c.put (Reg.CL_PORT_PAUSE_DURATION id) duration
    if c.portState id = 4 then (d.portPauseReq id).pauseNote 0 id duration (some o)
    else if c.portState id = 5 then yes (d.pauseNote 0 id duration none) else no
  else if kind = 1 then
    if (c.job id).state = 1 ∨ (c.job id).state = 3 then yes ((c.pauseJob id).pauseNote 1 id duration none)
    else if (c.job id).state = 4 then yes (c.pauseNote 1 id duration none) else no
  else if kind = 2 then
    let d := c.wr Reg.DUNE_PAUSE (BitVec.ofNat 32 duration)
    if c.get Reg.DUNE_STAT_STATE = 2 then (d.pauseNote 2 0 duration (some o)).dunePause
    else if c.get Reg.DUNE_STAT_STATE = 3 then yes (d.pauseNote 2 0 duration none) else no
  else yes ((c.holdOps (fun x => x.named id) true).pauseNote 3 id duration none)

/-- A pause ends: by RESUME or by its DURATION. The state it leaves, and whether the target was paused. -/
def Chip.pauseEnd (c : Chip) (kind id : Nat) : Chip × Bool :=
  if kind = 0 then if c.portState id = 5 then (c.portResume id, true) else (c, false)
  else if kind = 1 then
    if c.jobHeld id then (c.resumeJob id, true) else (c, false)
  else if kind = 2 then if c.get Reg.DUNE_STAT_STATE = 3 then (c.duneResume, true) else (c, false)
  else match c.opNamed id with
    | some o => if o.paused then ((c.holdOps (fun x => x.named id) false).pauseOver 3 id, true) else (c, false)
    | none => (c, false)

/-! ## DUNE_RUN (R233 to R238, R246, R249, R250) -/

/-- Dune variables that stand in the regions of this chip at once. -/
def Dune.regionVars (d : Dune) : Nat := if d.mode = 1 then d.blockVars else if d.mode = 2 then d.perChip else d.n

def Dune.regionSize (d : Dune) : Nat := pad32 d.regionVars * d.stride

/-- A region stands at the highest free place of its core's synapse memory (log 57). -/
def Chip.duneBase (c : Chip) (d : Dune) (i : Nat) : Nat := (c.freeSpot i false c.synSize d.regionSize).getD 0

/-- The eligible cores in ascending order, as many as the run needs. -/
def Chip.duneCores (c : Chip) (d : Dune) : List Nat :=
  ((List.range (16 * c.clusters)).filter (c.duneEligible d.regionSize)).take (pad32 d.regionVars / 32)

/-- A temperature is finite and positive. -/
def tempOk (w : Nat) : Bool := match f32 w with
  | some x => 0 < x.1
  | none => false

/-- The fields of the descriptor in their ranges (R235, R246, R249, R250). -/
def Chip.duneForm (c : Chip) (d : Dune) : Bool :=
  2 ≤ d.n && (d.width == 4 || d.width == 8) && d.mode ≤ 2 && 1 ≤ d.chains && d.chains ≤ 32 && d.flags / 16 == 0 && d.init != 3 &&
  d.sweeps ≤ 2 ^ 32 && tempOk d.ts && tempOk d.te && d.field 0x4F 1 == 0 &&
  (d.mode != 1 || (d.blockVars != 0 && d.blockVars % 32 == 0 && d.blockVars ≤ c.duneCapacity d.width && d.blockSweeps != 0 && d.n ≤ 65536)) &&
  (d.mode != 2 || (d.exchange != 0 && 2 ≤ d.chips && d.chips ≤ 16))

/-- Bytes of the coefficients: J and h. -/
def Dune.coefBytes (d : Dune) : Nat × Nat :=
  if d.mode = 2 then (4 * d.perChip * d.n, 4 * d.perChip) else (4 * (d.n * (d.n - 1) / 2), 4 * d.n)

def Chip.duneDesc (c : Chip) (addr : Nat) (o : Origin) : Dune := { Dune.idle with origin := o, desc := c.rdBytes addr 80 }

def Chip.duneChecks (c : Chip) (o : Origin) (timeout : Nat) (a : List Byte) : List (Bool × Nat) :=
  let addr := argOf a 0 8
  let d := c.duneDesc addr o
  let pre := [(timeout != 0, ERR_PARAM), (c.dune.active, ERR_BUSY)]
  if c.inDram addr 80 = false then pre ++ [(true, ERR_RESOURCE)]
  else if c.duneForm d = false then pre ++ [(true, ERR_PARAM)]
  else
    let modeBit := if d.mode = 1 then c.featureStatus o 0x20 else if d.mode = 2 then c.featureStatus o 0x40 else OK
    let big := c.duneCapacity d.width < d.regionVars
    let dram := d.mode == 1 && c.usable < d.coefBytes.1 + d.coefBytes.2 + d.n * d.n * d.stride / 32
    let placed := c.inDram d.jAddr d.coefBytes.1 && c.inDram d.hAddr d.coefBytes.2 && c.inDram d.resAddr (64 + (d.n + 7) / 8) &&
      (d.init != 2 || c.inDram d.initAddr ((d.n + 7) / 8))
    pre ++ [(modeBit != OK, modeBit), (big || dram || !placed, ERR_RESOURCE),
      (d.mode == 2 && !retryFits c.feryoRetry (d.deadline * 1000), ERR_PARAM)] ++
    (if placed = false then [] else [((c.coefWords d).any (fun w => (f32 w).isNone), ERR_PARAM)]) ++
    (if big then [] else [(decide ((c.duneCores d).length < pad32 d.regionVars / 32), ERR_RESOURCE)])

/-- DUNE_RUN accepted: the run is loaded; a multi-chip run waits for the exchange of m (R250). -/
def Chip.duneStart (c : Chip) (o : Origin) (addr : Nat) : Chip :=
  let d := c.duneDesc addr o
  let words := c.coefWords d
  let d : Dune := { d with active := true, cores := c.duneCores d, bases := (c.duneCores d).map (c.duneBase d), grants := c.dune.grants, nonzero := (words.filter (fun w => w % 2 ^ 31 != 0)).length }
  let c := (({ c with dune := d } : Chip).duneState 1).duneDone
  let c := (c.put Reg.DUNE_STAT_ROT (if d.mode = 1 then 1 else 0)).put Reg.DUNE_STAT_MULTI (if d.mode = 2 then 1 else 0)
  if d.mode = 2 then c
  else
    let m := words.foldl maxMag (0, 0)
    if m.1 = 0 then c.duneTrivial else c.duneBegin m

/-! ## The other services -/

def bwChecks (a : List Byte) : List (Bool × Nat) :=
  let n := argOf a 0 1
  [(n == 0 || 4 < n || 255 < argOf a 4 4, ERR_PARAM)]

def Chip.capChecks (c : Chip) (a : List Byte) : List (Bool × Nat) :=
  [(argOf a 0 2 < 60 || c.tdp < argOf a 0 2 || 2 ≤ argOf a 2 1, ERR_PARAM)]

/-- The spare of cluster `k` stands in for a fenced slot (R320, R391, log 80). -/
def Chip.spareDuty (c : Chip) (k : Nat) : Bool := (List.range 17).any (fun s => c.fenced (k * 32 + s)) && (c.logical? (c.spareOf k)).isSome

/-- Clusters that hold no job, no Dune region and no spare duty, outside any rotation step or substitution (R320, stage 3). -/
def Chip.gateable (c : Chip) (k : Nat) : Bool :=
  !c.fw.jobs.any (fun j => j.2.state != 0 && j.2.cores.any (fun i => i / 16 == k)) && !c.dune.cores.any (fun i => i / 16 == k) &&
  !c.spareDuty k && !c.fw.reloads.any (fun i => i / 16 == k) && !(c.rotPhase != 0 && c.rot.old / 32 == k)

/-- Firmware's votes of the clusters that stage 3 gates. -/
def Chip.gateClusters (c : Chip) : Chip := ((List.range c.clusters).filter c.gateable).foldl (fun c k => c.voteDrop k 1) c
def Chip.ungateClusters (c : Chip) : Chip := (List.range c.clusters).foldl (fun c k => c.voteSet k 1) c

def Chip.setCap (c : Chip) (k : Cap) : Chip := { c with power := { c.power with cap := k } }

/-- The cap is set, or cleared with every stage released (R320). -/
def Chip.powerCap (c : Chip) (watts : Nat) (on : Bool) : Chip :=
  let k := c.power.cap
  if on then c.setCap { k with on := true, watts := watts, calm := 0 }
  else
    let c := if 3 ≤ k.stage then c.ungateClusters else c
    let c := c.setCap { Cap.off with samples := k.samples }
    if k.stage = 0 then c else c.throttle 0

def Chip.clControlChecks (c : Chip) (timeout : Nat) (a : List Byte) : List (Bool × Nat) :=
  let p := argOf a 0 1
  [(128 ≤ p || !retryFits (some 32) timeout, ERR_PARAM), (c.clPorts ≤ p, ERR_RESOURCE),
   (p < c.clPorts && c.portState p != 4 && bit c.fw.agreed 9, ERR_NOT_READY), ((c.port p).ctrl.isSome, ERR_BUSY)]

/-- The clusters MEM_TEST covers. -/
def Chip.testClusters (c : Chip) (a : List Byte) : List Nat := if argOf a 0 1 = 0 then List.range c.clusters else [argOf a 1 1]

def Chip.memTestChecks (c : Chip) (a : List Byte) : List (Bool × Nat) :=
  let scope := argOf a 0 1
  let k := argOf a 1 1
  let busy := if scope = 0 then c.dune.active || c.fw.jobs.any (fun j => j.2.state == 3 || j.2.state == 4)
    else c.fw.jobs.any (fun j => j.2.state != 0 && j.2.cores.any (fun i => i / 16 == k)) || c.dune.cores.any (fun i => i / 16 == k)
  [(1 < scope || (scope == 0 && k != 0) || 64 ≤ k, ERR_PARAM),
   ((scope == 1 && c.clusters ≤ k) || !c.inDram (argOf a 8 8) (8 * 17 * (if scope = 0 then c.clusters else 1)), ERR_RESOURCE), (busy || c.fw.ops.any (·.code == 0x50), ERR_BUSY)]

/-- MEM_TEST taken up: the clusters leave the fabric for the test (R362). -/
def Chip.unjoin (c : Chip) (k : Nat) : Chip :=
  let c := c.clr (Reg.RT_CFG_EN k)
  if k < 32 then c.wr Reg.BOOT_JOIN_LO (c.rd Reg.BOOT_JOIN_LO &&& ~~~ (1#32 <<< k))
  else c.wr Reg.BOOT_JOIN_HI (c.rd Reg.BOOT_JOIN_HI &&& ~~~ (1#32 <<< (k - 32)))

def Chip.remapChecks (c : Chip) (timeout : Nat) (a : List Byte) : List (Bool × Nat) :=
  let s := argOf a 0 2
  let act := argOf a 2 1
  let inField := c.fieldList.any (fun e => entryValid e && entryCore e == s)
  [(act == 0 || 2 < act || 2048 ≤ s || 17 ≤ s % 32 || !retryFits (some 6000) timeout, ERR_PARAM), (c.clusters * 32 ≤ s, ERR_RESOURCE),
   (act == 2 && !inField, ERR_PARAM), (act == 1 && 384 ≤ c.workCount && !c.listed s, ERR_RESOURCE)]

/-- Records that TRIP_READ copies: of a copy still running, all it will hold. -/
def Chip.tripHeld (c : Chip) : Nat :=
  match c.trip.copy with
  | some (total, _, _) => total
  | none => if c.on Reg.TRIP_STAT_HELD then 131072 - c.get Reg.TRIP_COPY_FIRST_INDEX else 0

def Chip.tripReadChecks (c : Chip) (a : List Byte) : List (Bool × Nat) := [(!c.inDram (argOf a 0 8) (32 * c.tripHeld), ERR_RESOURCE)]

/-! ## Taking up a command -/

/-- The checks a service makes of its own. -/
def Chip.serviceChecks (c : Chip) (o : Origin) (h : CmdHead) (code : Nat) (a : List Byte) : List (Bool × Nat) :=
  match code with
  | 0x02 => c.queryChecks a
  | 0x03 => c.logReadChecks a
  | 0x10 => c.ringCreateChecks a
  | 0x11 => c.ringDestroyChecks a
  | 0x20 => c.partDefineChecks a
  | 0x21 => c.jobLoadChecks o a
  | 0x22 => c.jobStartChecks a
  | 0x23 => c.jobChecks (argOf a 0 1) [3, 4] ++ [(c.fw.ops.any (fun x => x.code == 0x23 && x.onJob (argOf a 0 1)), ERR_BUSY)]
  | 0x24 => c.jobChecks (argOf a 0 1) [2, 5] ++ [(c.jobBusy (argOf a 0 1), ERR_BUSY)]
  | 0x28 => c.weightChecks a [2] true
  | 0x29 => c.weightChecks a [2, 3, 4, 5] false
  | 0x30 => c.pauseChecks a
  | 0x31 => [(!c.pauseTarget (argOf a 0 1) (argOf a 4 4), ERR_PARAM)]
  | 0x38 => c.duneChecks o h.timeout a
  | 0x40 => bwChecks a
  | 0x41 => c.capChecks a
  | 0x48 => c.clControlChecks h.timeout a
  | 0x50 => c.memTestChecks a
  | 0x51 => c.remapChecks h.timeout a
  | 0x59 => c.tripReadChecks a
  | 0x60 => [(1 < argOf a 0 1, ERR_PARAM)]
  | _ => []

/-- The checks of the catalogue and of the forms (R307, R310, R311, R317). -/
def Chip.commonChecks (c : Chip) (o : Origin) (h : CmdHead) (x : Service) (a : List Byte) : List (Bool × Nat) :=
  let ring := match o with
    | .ring _ _ => true
    | _ => false
  let need := c.featureStatus o (x.need ||| (if h.expertForm then 2 ^ 17 else 0))
  [(4 ≤ h.flags || (!ring && 2 ≤ h.flags) || (x.mailboxOnly && ring) || !argsClean x h.expertForm a, ERR_PARAM), (need != OK, need),
   (x.long && 8 ≤ (c.fw.ops.filter (·.isLong)).length, ERR_BUSY)] ++ c.multiChecks x.code h.timeout a ++ (if h.expertForm then c.expertChecks x a else [])

/-- The checks that an expert command repeats once its overrides are in (R311, R321): those of its service, on the chip with its
basic action done. What it holds itself (its ring, its job, its run) is not held against it. -/
def Chip.recheck (c : Chip) (o : Origin) (code timeout : Nat) (a : List Byte) : List (Bool × Nat) :=
  let j := argOf a 0 1
  c.multiChecks code timeout a ++
  (match code with
  | 0x10 => c.ringRecheck j
  | 0x21 => c.jobNames o j (c.job j).part (argOf a 8 8) ++ c.configChecks (c.job j)
  | 0x22 => [(!c.ringExists (argOf a 1 1), ERR_PARAM)] ++ c.configChecks (c.job j)
  | 0x38 => ({ c with dune := Dune.idle } : Chip).duneChecks o timeout a
  | 0x41 => c.capChecks a
  | 0x50 => (c.memTestChecks a).take 2
  | _ => [])

/-- Every check passes again on `c`, what the overrides make of `x`; they have not broken the FER_ settings (R344). -/
def Chip.recheckOk (c x : Chip) (o : Origin) (code timeout : Nat) (a : List Byte) : Bool :=
  firstRefusal ((c.ferBad && !x.ferBad, ERR_PARAM) :: c.recheck o code timeout a) == OK

/-- The overrides of an expert command on `x`, the chip with its basic action done, then its checks again (R311): with them the
command goes on as `good` says; a refusal leaves nothing of it, a failed access its records and one entry of the event log too
(R262). `c` is the chip without the command. -/
def Chip.override (c x : Chip) (o : Origin) (code timeout : Nat) (a : List Byte) (good : Chip → Chip) : Chip :=
  match x.applyOverrides (x.overrides a) with
  | .ok y => if y.recheckOk x o code timeout a then good y else c.complete o code ERR_PARAM 0 0
  | .error e => (c.errorsOf e.1).faulted o code e.2 0 0

/-- The basic action of a command that ends at its take-up with OK: the state and its results. -/
def Chip.basicAction (c : Chip) (code : Nat) (a : List Byte) : Chip × Nat × Nat :=
  match code with
  | 0x02 => (c, (c.queryResult a).1, (c.queryResult a).2)
  | 0x10 => (c.makeRing (argOf a 0 1) (argOf a 1 1) (argOf a 2 1) (argOf a 3 1) (argOf a 4 8) (argOf a 12 8) (argOf a 20 1) (argOf a 24 4), 0, 0)
  | 0x11 => (c.dropRing (argOf a 0 1), 0, 0)
  | 0x20 => (c.definePart (argOf a 0 1) (argOf a 8 8), 0, 0)
  | 0x22 => (c.startJob (argOf a 0 1) (argOf a 1 1), 0, 0)
  | 0x31 =>
    let r := c.pauseEnd (argOf a 0 1) (argOf a 4 4)
    (r.1, r.2.toNat, 0)
  | 0x39 => (c.duneStop PARTIAL, 0, 0)
  | 0x40 =>
    let c := c.bwResWrite (argOf a 0 1) (BitVec.ofNat 32 (argOf a 4 4))
    (c, c.get Reg.BW_STAT_SUM, 0)
  | 0x41 => (c.powerCap (argOf a 0 2) (argOf a 2 1 == 1), 0, 0)
  | 0x58 => (c.trip_ 4, 0, 0)
  | 0x60 => (c.expCtrlWrite (BitVec.ofNat 32 (argOf a 0 1)), 0, 0)
  | _ => (c, 0, 0)

/-- The expert form of a command that ends at its take-up: its action, the overrides, the checks again; nothing where one fails. -/
def Chip.finishNow (c : Chip) (o : Origin) (h : CmdHead) (code : Nat) (a : List Byte) : Chip :=
  let r := c.basicAction code a
  if h.expertForm = false then r.1.complete o code OK r.2.1 r.2.2
  else c.override r.1 o code h.timeout a (fun x => x.complete o code OK r.2.1 r.2.2)

/-- A command that passed its checks. -/
def Chip.acceptCommand (c : Chip) (o : Origin) (h : CmdHead) (code : Nat) (a : List Byte) : Chip :=
  let j := argOf a 0 1
  let start : Chip → Nat → Nat → Chip := fun c total freeze => c.opStart o h code a total freeze
  match code with
  | 0x03 => start c (steps4k (logEntryBytes * min (argOf a 12 4) (c.fw.log.length - argOf a 8 4))) 0
  | 0x21 => start ((c.pauseOver 1 j).setJob j { Job.empty with state := 1, part := argOf a 1 1 }) (c.rdMem (argOf a 8 8 + 6) 2) 0
  | 0x23 => if (c.haltJob j).jobIdle j then ((c.haltJob j).stopDone j).complete o code OK 0 0 else start (c.haltJob j) 1 0
  | 0x24 => start c 1 0
  | 0x28 => start (c.invalidate j (argOf a 2 2)) (steps4k (argOf a 20 4)) 0
  | 0x29 =>
    if argOf a 24 1 = 1 then
      let r := c.freezeCore (argOf a 2 2)
      start r.1 (steps4k (argOf a 20 4)) r.2
    else start c (steps4k (argOf a 20 4)) 0
  | 0x30 => c.pauseStart o (argOf a 0 1) (argOf a 4 4) (argOf a 8 4)
  | 0x38 =>
    if h.expertForm = false then c.duneStart o (argOf a 0 8) else c.override (c.duneStart o (argOf a 0 8)) o code h.timeout a id
  | 0x40 =>
    if c.bwAdmits j (argOf a 4 4) then c.finishNow o h code a
    else (c.bwResWrite j (BitVec.ofNat 32 (argOf a 4 4))).complete o code ERR_RESOURCE 0 0
  | 0x48 => c.startControl j (BitVec.ofNat 160 (argOf a 4 20)) o
  | 0x50 => start ((c.testClusters a).foldl (fun c k => c.unjoin k) c) (if argOf a 0 1 = 0 then 4 else 3) 0
  | 0x51 => start c 1 0
  | 0x59 => start c (steps4k (32 * c.tripHeld)) 0
  | _ => c.finishNow o h code a

/-- The reply of R291. -/
def Chip.versionReply (c : Chip) (n : Nat) : Chip := c.mbxReply n 1 0 ERR_VERSION [3, 1, 2, 0]

/-- What the host-interface hardware answers without firmware (R290, R356). -/
def Chip.autoStatus (c : Chip) : Nat := if c.fwState = 1 ∧ c.fw.recFailed then ERR_AUTH else ERR_NOT_READY

/-- Where a command reads DRAM as it is taken up: its override list, its image, its descriptor. -/
def takeUpReads (h : CmdHead) (code : Nat) (a : List Byte) : Option Nat :=
  if code = 0x21 ∨ code = 0x38 then some (argOf a (if code = 0x21 then 8 else 0) 8)
  else if h.expertForm then some (argOf a 0x20 8) else none

/-- A command whose take-up meets DRAM that does not serve ends with the error response it gets (R262). -/
def Chip.takeUpFault (c : Chip) (o : Origin) (h : CmdHead) (code : Nat) (a : List Byte) : Option Chip :=
  match takeUpReads h code a with
  | some b =>
    let r := c.busRead whoHcu b 4
    if c.inDram b 4 && r.2.1 != OK then some (r.1.faulted o code (masterStatus r.2.1) 0 0) else none
  | none => none

/-- Firmware takes up a command (R290, R294, R311); `pre` are the checks of the form it came in. -/
def Chip.take (c : Chip) (o : Origin) (h : CmdHead) (code : Nat) (a : List Byte) (pre : List (Bool × Nat)) : Chip :=
  match serviceOf code with
  | none => c.complete o code (firstRefusal ((true, ERR_PARAM) :: pre)) 0 0
  | some x =>
    let a := a ++ List.replicate (48 - a.length) 0
    let st := firstRefusal (pre ++ c.commonChecks o h x a ++ c.serviceChecks o h code a)
    if st ≠ OK then c.complete o code st 0 0
    else match c.takeUpFault o h code a with
      | some x => x
      | none => c.acceptCommand o h code a

/-- HELLO as it is taken up: mailbox-only. -/
def Chip.takeHello (c : Chip) (o : Origin) (h : CmdHead) (a : List Byte) (pre : List (Bool × Nat)) : Chip :=
  match o with
  | .mailbox n => if firstRefusal ((helloBad c a || h.flags != 0, ERR_PARAM) :: pre) = OK then c.hello n h.major h.minor a else c.complete o 1 ERR_PARAM 0 0
  | _ => c.complete o 1 ERR_PARAM 0 0

/-- A slot or ring that exists. -/
def Origin.exists_ (o : Origin) : Bool := match o with
  | .mailbox n => n < 16
  | .ring k _ => k < 64
  | .internal => true

/-- A command `code` reaches its responder (R290, R291, R294). -/
def Chip.respondTo (c : Chip) (o : Origin) (h : CmdHead) (code : Nat) (a : List Byte) (pre : List (Bool × Nat) := []) : Chip :=
  if o.exists_ = false ∨ c.inLookout then c
  else if c.fwState = 2 ∨ c.fwState = 3 then
    match o, servesMajor h.major with
    | .mailbox n, false => c.versionReply n
    | _, _ =>
      if code = 1 then c.takeHello o h a pre
      else if c.fwState = 2 then c.complete o code ERR_NOT_READY 0 0
      else c.take o h code a pre
  else match o with
    | .mailbox n => c.mbxReply n h.major h.minor c.autoStatus []
    | _ => c

/-! ## The commands, one by one -/

/-- HELLO (R304). -/
def execHello (o : Origin) (h : CmdHead) (args : List Byte) (s : State) : Host.Outcome State Fault Refusal := act (·.respondTo o h 0x01 args) s
/-- QUERY (R313). -/
def execQuery (o : Origin) (h : CmdHead) (args : List Byte) (s : State) : Host.Outcome State Fault Refusal := act (·.respondTo o h 0x02 args) s
/-- LOG_READ (R313). -/
def execLogRead (o : Origin) (h : CmdHead) (args : List Byte) (s : State) : Host.Outcome State Fault Refusal := act (·.respondTo o h 0x03 args) s
/-- RING_CREATE (R295, R313). -/
def execRingCreate (o : Origin) (h : CmdHead) (args : List Byte) (s : State) : Host.Outcome State Fault Refusal := act (·.respondTo o h 0x10 args) s
/-- RING_DESTROY (R313). -/
def execRingDestroy (o : Origin) (h : CmdHead) (args : List Byte) (s : State) : Host.Outcome State Fault Refusal := act (·.respondTo o h 0x11 args) s
/-- PART_DEFINE (R314). -/
def execPartDefine (o : Origin) (h : CmdHead) (args : List Byte) (s : State) : Host.Outcome State Fault Refusal := act (·.respondTo o h 0x20 args) s
/-- JOB_LOAD (R315). -/
def execJobLoad (o : Origin) (h : CmdHead) (args : List Byte) (s : State) : Host.Outcome State Fault Refusal := act (·.respondTo o h 0x21 args) s
/-- JOB_START (R316). -/
def execJobStart (o : Origin) (h : CmdHead) (args : List Byte) (s : State) : Host.Outcome State Fault Refusal := act (·.respondTo o h 0x22 args) s
/-- JOB_STOP (R316). -/
def execJobStop (o : Origin) (h : CmdHead) (args : List Byte) (s : State) : Host.Outcome State Fault Refusal := act (·.respondTo o h 0x23 args) s
/-- JOB_UNLOAD (R316). -/
def execJobUnload (o : Origin) (h : CmdHead) (args : List Byte) (s : State) : Host.Outcome State Fault Refusal := act (·.respondTo o h 0x24 args) s
/-- WRITE_WEIGHTS (R316). -/
def execWriteWeights (o : Origin) (h : CmdHead) (args : List Byte) (s : State) : Host.Outcome State Fault Refusal := act (·.respondTo o h 0x28 args) s
/-- READ_WEIGHTS (R208). -/
def execReadWeights (o : Origin) (h : CmdHead) (args : List Byte) (s : State) : Host.Outcome State Fault Refusal := act (·.respondTo o h 0x29 args) s
/-- PAUSE (R319). -/
def execPause (o : Origin) (h : CmdHead) (args : List Byte) (s : State) : Host.Outcome State Fault Refusal := act (·.respondTo o h 0x30 args) s
/-- RESUME (R319). -/
def execResume (o : Origin) (h : CmdHead) (args : List Byte) (s : State) : Host.Outcome State Fault Refusal := act (·.respondTo o h 0x31 args) s
/-- DUNE_RUN (R246). -/
def execDuneRun (o : Origin) (h : CmdHead) (args : List Byte) (s : State) : Host.Outcome State Fault Refusal := act (·.respondTo o h 0x38 args) s
/-- DUNE_STOP (R252). -/
def execDuneStop (o : Origin) (h : CmdHead) (args : List Byte) (s : State) : Host.Outcome State Fault Refusal := act (·.respondTo o h 0x39 args) s
/-- BW_RESERVE (R272). -/
def execBwReserve (o : Origin) (h : CmdHead) (args : List Byte) (s : State) : Host.Outcome State Fault Refusal := act (·.respondTo o h 0x40 args) s
/-- POWER_CAP (R320). -/
def execPowerCap (o : Origin) (h : CmdHead) (args : List Byte) (s : State) : Host.Outcome State Fault Refusal := act (·.respondTo o h 0x41 args) s
/-- CL_CONTROL (R60, R321). -/
def execClControl (o : Origin) (h : CmdHead) (args : List Byte) (s : State) : Host.Outcome State Fault Refusal := act (·.respondTo o h 0x48 args) s
/-- MEM_TEST (R362). -/
def execMemTest (o : Origin) (h : CmdHead) (args : List Byte) (s : State) : Host.Outcome State Fault Refusal := act (·.respondTo o h 0x50 args) s
/-- DEFECT_REMAP (R375). -/
def execDefectRemap (o : Origin) (h : CmdHead) (args : List Byte) (s : State) : Host.Outcome State Fault Refusal := act (·.respondTo o h 0x51 args) s
/-- TRIP_FIRE (R419). -/
def execTripFire (o : Origin) (h : CmdHead) (args : List Byte) (s : State) : Host.Outcome State Fault Refusal := act (·.respondTo o h 0x58 args) s
/-- TRIP_READ (R422). -/
def execTripRead (o : Origin) (h : CmdHead) (args : List Byte) (s : State) : Host.Outcome State Fault Refusal := act (·.respondTo o h 0x59 args) s
/-- EXPERT_WINDOW (R302). -/
def execExpertWindow (o : Origin) (h : CmdHead) (args : List Byte) (s : State) : Host.Outcome State Fault Refusal := act (·.respondTo o h 0x60 args) s

/-- UNKNOWN_COMMAND (R313): a code the catalogue does not hold. -/
def execUnknownCommand (o : Origin) (h : CmdHead) (code : BitVec 16) (args : List Byte) (s : State) : Host.Outcome State Fault Refusal :=
  act (fun c => if code.toNat = 1 ∨ (serviceOf code.toNat).isSome then c else c.respondTo o h code.toNat args) s

end Sys2Proof.Machine
end

