-- ==== Sys2Proof/Machine/LongOps.lean ====
section
/-! DEFINITION. Long operations at work (R317, R318, R362, R375, R422), the limits of commands and pauses (R312, R319, R322), and
the power cap's samples (R320). -/

namespace Sys2Proof.Machine

/-- An operation has taken its step of the round and keeps its place in the turn, which is the order of take-up (R317). -/
def Chip.requeue (c : Chip) (o o' : Op) : Chip := { c with fw := { c.fw with ops := c.fw.ops.replace o { o' with stepped := true } } }

/-- A new round begins. -/
def Chip.newRound (c : Chip) : Chip := { c with fw := { c.fw with ops := c.fw.ops.map (fun o => { o with stepped := false }) } }

/-- The operation whose turn it is among those that may take a step: the first that has not stepped in this round (R317). -/
def Chip.nextOp (c : Chip) : Option Op := c.fw.ops.find? (fun o => o.isLong && !c.opHeld o && !o.stepped)

/-- An operation ends with its results. -/
def Chip.opFinish (c : Chip) (o : Op) (status r0 r1 : Nat) : Chip := (c.opRelease o status).complete o.origin o.code status r0 r1

/-- An operation whose access met an error response ends, with one entry of the event log (R262, R323). -/
def Chip.opFault (c : Chip) (o : Op) (status : Nat) : Chip := (c.logged logService o.code status).opFinish o (masterStatus status) 0 0

/-- A step is done: the next in its turn, or the end with OK. -/
def Chip.opAdvance (c : Chip) (o : Op) (r0 r1 : Nat) : Chip :=
  if o.total ≤ o.done + 1 then c.opFinish o OK r0 r1 else c.requeue o { o with done := o.done + 1, res0 := r0, res1 := r1 }

/-- Bytes that a step of 4 KiB still has to move. -/
def Op.chunk (o : Op) (len : Nat) : Nat := min 4096 (len - 4096 * o.done)

/-! ## One step of each operation -/

/-- LOG_READ: up to 128 entries a step; entries written, next index. -/
def Chip.stepLogRead (c : Chip) (o : Op) : Chip :=
  let first := o.arg 8 4 + 128 * o.done
  let l := (c.fw.log.drop first).take (min 128 (o.arg 12 4 - 128 * o.done))
  let bytes := l.flatMap (fun e => (List.range logEntryBytes).map (fun i => Config.logByte e.code e.subject e.detail i))
  let r := c.busWrite whoHcu (o.arg 0 8 + logEntryBytes * 128 * o.done) bytes
  if r.2 = OK then r.1.opAdvance o (o.res0 + l.length) (o.arg 8 4 + o.res0 + l.length) else r.1.opFault o r.2

/-- The overrides of an expert operation that is done as `x` says, then its checks again; `c` is the chip without it, which a
refusal or a failed access leaves (R262, R311). -/
def Chip.opOverride (c x : Chip) (o : Op) (good : Chip → Chip) : Chip :=
  match x.applyOverrides (x.overrides o.args) with
  | .ok y => if y.recheckOk x o.origin o.code (c.timeoutOf o.origin) o.args then good y else c.opFinish o ERR_PARAM 0 0
  | .error e => (c.errorsOf e.1).opFault o e.2

/-- JOB_LOAD: a step a section; the last writes them all, and an expert form ends with its overrides (R311, R315). -/
def Chip.stepJobLoad (c : Chip) (o : Op) : Chip :=
  if o.done + 1 < o.total then c.requeue o { o with done := o.done + 1 }
  else
    let j := o.arg 0 1
    let x := c.loadImage j (o.arg 1 1) (o.arg 8 8)
    let n := (x.job j).cores.length
    if o.expert = false then x.opFinish o OK n 0 else c.opOverride x o (fun y => y.opFinish o OK n 0)

/-- Where the bytes of a job's core stand for a service (R254): at an offset of its window. -/
def coreWindow (i off : Nat) : Nat := winBase + i * 0x400000 + off

/-- WRITE_WEIGHTS: 4 KiB a step through the crossbar (R262); what it wrote is part of what restores the core (R413). -/
def Chip.stepWriteWeights (c : Chip) (o : Op) : Chip :=
  let j := o.arg 0 1
  let i := o.arg 2 2
  let at_ := 4096 * o.done
  let r := c.moveBytes whoHcu (o.arg 8 8 + at_) (coreWindow i (o.arg 16 4 + at_)) (o.chunk (o.arg 20 4)) 1
  if r.2 ≠ OK then r.1.opFault o r.2 else
  let c := r.1
  let all : Section := { kind := 2, target := i, offset := o.arg 16 4, data := c.rdBytes (slotMem (c.pcore i) (o.arg 16 4)) (o.arg 20 4) }
  let c := if o.done = 0 then c.setJob j { c.job j with extents := (c.job j).extents ++ [(i, false, o.arg 16 4, o.arg 20 4)] } else c
  let c := if o.total ≤ o.done + 1 then c.setJob j { c.job j with saved := (c.job j).saved ++ [all] } else c
  c.opAdvance o 0 0

/-- Where the block of a valid range that byte `a` of slot `s`'s synapse memory lies in begins; `a` itself where it lies in none. -/
def Chip.blockStart (c : Chip) (s a : Nat) : Nat :=
  match (List.range 32).find? (fun i => c.on (Reg.MX_IN_RANGE_CFG_VALID s i) && c.get (Reg.MX_IN_RANGE_BASE_WBASE s i) ≤ a &&
      a < c.get (Reg.MX_IN_RANGE_BASE_WBASE s i) + c.rangeExtent s i) with
  | some i =>
    let b := c.get (Reg.MX_IN_RANGE_BASE_WBASE s i)
    a - (a - b) % sliceSize (c.on (Reg.MX_IN_RANGE_CFG_W8 s i))
  | none => a

/-- Where the step of a READ_WEIGHTS ends, in bytes of the request: after 4 KiB, or before the block that the cut would split
(R208); the last step ends with the request. -/
def Chip.readCut (c : Chip) (s : Nat) (o : Op) : Nat :=
  let stop := 4096 * (o.done + 1)
  if o.arg 20 4 ≤ stop ∨ o.total ≤ o.done + 1 then o.arg 20 4 else max o.moved (c.blockStart s (o.arg 16 4 + stop) - o.arg 16 4)

/-- READ_WEIGHTS: about 4 KiB a step through the crossbar (R262), each block whole in one of them; with FREEZE once the Drift
queue is empty (R208). -/
def Chip.stepReadWeights (c : Chip) (o : Op) : Chip :=
  let s := c.pcore (o.arg 2 2)
  if o.arg 24 1 = 1 ∧ (c.core s).drift ≠ [] then c.requeue o o
  else
    let cut := c.readCut s o
    let r := c.moveBytes whoHcu (coreWindow (o.arg 2 2) (o.arg 16 4 + o.moved)) (o.arg 8 8 + o.moved) (cut - o.moved) 1
    if r.2 ≠ OK then r.1.opFault o r.2
    else if o.total ≤ o.done + 1 then r.1.opFinish o OK 0 0
    else r.1.requeue o { o with done := o.done + 1, moved := cut }

/-- DRAM that the chip-wide test skips (R362). -/
def Chip.testSkips (c : Chip) (dst : Nat) (a : Nat) : Bool :=
  let within : Nat → Nat → Bool := fun b n => b ≤ a && a < b + n
  within dst (8 * 17 * c.clusters) || within c.tripBase 0x2000000 || (c.fw.nqBase != 0 && within c.fw.nqBase (32 * 2 ^ c.fw.nqLog2)) ||
  (List.range 64).any (fun k => c.ringExists k && (within (c.sqBase k) (64 * c.sqSize k) || within (c.cqBase k) (32 * c.cqSize k))) ||
  c.fw.jobs.any (fun j => j.2.state != 0 && within j.2.image.1 j.2.image.2)

/-- The DRAM phase: what it tested holds nothing written (log 14). -/
def Chip.testDram (c : Chip) (keep : Nat → Bool) : Chip := { c with mem := c.mem.filter (fun m => keep m.1 || c.usable ≤ m.1) }

/-- Defects that a phase found: listed, and those found by MEM_TEST written to DST as in the field list. -/
def Chip.testFound (c : Chip) (l : List (Nat × Nat)) (dst : Option Nat) : Chip × Nat :=
  l.foldl (fun (r : Chip × Nat) d =>
    if r.1.listed d.1 then r
    else
      let x := r.1.addDefect d.1 d.2
      let c := if x.2 = 6 then x.1.fence d.1 else x.1
      let c := if x.2 = 0 then c else c.reportDefect d.1 d.2 3 x.2
      let c := match dst with
        | some a => c.wrMem (a + 8 * r.2) 8 (entryOf d.1 d.2 + c.fw.build * 2 ^ 32)
        | none => c
      (c, r.2 + 1)) (c, 0)

/-- Tested clusters are seated by the lists, in the shadow copies (R366), their slots with nothing in them (log 14). -/
def Chip.reseat (c : Chip) (ks : List Nat) : Chip :=
  let c := ks.foldl (fun c k => (List.range 17).foldl (fun c s => c.blankSlot (k * 32 + s)) c) c
  let c : Chip := ks.foldl (fun c k => (List.range 16).foldl (fun c j => c.shadowSeat (k * 16 + j) (seatSlot (fun s => c.listed s || c.fenced s) k j))
    (c.clusterSeats (fun s => c.listed s || c.fenced s) k)) c
  c.swapAll

/-- A cluster joins unless its router failed (R358, R367). -/
def Chip.tryJoin (c : Chip) (k : Nat) : Chip := if c.on (Reg.DMAP_CLUSTER_STAT_ROUTER_FAIL k) then c else (c.set (Reg.RT_CFG_EN k)).join k

/-- The last of a MEM_TEST: the clusters are seated and join again. -/
def Chip.rejoin (c : Chip) (ks : List Nat) : Chip := ks.foldl (fun c k => c.tryJoin k) (c.reseat ks)

/-- MEM_TEST: a step a phase; after the last the clusters join again, by one swap that waits for any in progress. An expert form
acts on what it has found at its end alone, so that a refusal leaves nothing of it (R311, log 158). -/
def Chip.stepMemTest (c : Chip) (o : Op) (bad : List (Nat × Nat)) : Chip :=
  let ks := c.testClusters o.args
  let last := decide (o.total ≤ o.done + 1)
  let bad := bad.filter (fun d => ks.contains (d.1 / 32) && d.1 % 32 < 17)
  if last ∧ c.allDrained = false then c.requeue o o
  else if o.expert ∧ last = false then c.requeue o { o with done := o.done + 1, found := o.found ++ bad }
  else
    let r := c.testFound (o.found ++ bad) (some (o.arg 8 8 + 8 * o.res0))
    let x := if last then r.1.rejoin ks else r.1
    let x := if o.done = 3 then x.testDram (x.testSkips (o.arg 8 8)) else x
    if o.expert then (c.rejoin ks).opOverride x o (fun y => y.opFinish o OK (o.res0 + r.2) 0) else x.opAdvance o (o.res0 + r.2) 0

/-- A slot that DEFECT_REMAP added and that seats a core moves it once the rotation test and the swaps are idle; it ends with
RESULT0 = 1 where no spare is free (R375). -/
def Chip.remapMove (c : Chip) (o : Op) (s : Nat) : Chip :=
  let o' : Op := { o with done := 1 }
  if (c.logical? s).isNone then
    let r := c.free
    r.1.opFinish o OK r.2.toNat 0
  else if c.spareFree (s / 32) = false then c.opFinish o OK 1 0
  else if c.rotPhase = 0 ∧ c.allDrained then (c.rotStart s 7).requeue o o'
  else c.requeue o o'

/-- DEFECT_REMAP (R375). -/
def Chip.stepRemap (c : Chip) (o : Op) : Chip :=
  let s := o.arg 0 2
  if o.arg 2 1 = 2 then (c.writeField (c.fieldList.filter (fun e => !(entryValid e && entryCore e == s)))).opFinish o OK 1 0
  else if 1 ≤ o.done then c.remapMove o s
  else
    let c := if c.listed s then c else (c.addDefect s 7).1
    if (c.logical? s).isNone ∧ c.spareOf (s / 32) = s ∧ c.on (Reg.DMAP_CLUSTER_STAT_SPARE_FREE (s / 32)) then (c.loseSpare (s / 32)).opFinish o OK 0 0
    else c.remapMove o s

/-- TRIP_READ: 128 records a step, oldest first, once no copy runs; OK releases the hold (R421, R422). -/
def Chip.stepTripRead (c : Chip) (o : Op) : Chip :=
  if c.trip.copy.isSome then c.requeue o o
  else
    let n := c.tripHeld
    let k := min 128 (n - 128 * o.done)
    let src := oasisBase + (131072 - n + 128 * o.done) * 32
    let r := c.moveBytes whoHcu src (o.arg 0 8 + 4096 * o.done) (32 * k) 1
    if r.2 ≠ OK then r.1.opFault o r.2 else
    let c := r.1
    if n ≤ 128 * (o.done + 1) then (c.clr Reg.TRIP_STAT_HELD).opFinish o OK n (if n = 0 then 0 else c.get Reg.TRIP_COPY_TRIG_MASK)
    else c.requeue o { o with done := o.done + 1 }

/-- One step of an operation. -/
def Chip.opStep (c : Chip) (o : Op) (bad : List (Nat × Nat)) : Chip :=
  match o.code with
  | 0x03 => c.stepLogRead o
  | 0x21 => c.stepJobLoad o
  | 0x24 => (c.unloadJob (o.arg 0 1)).opFinish o OK 0 0
  | 0x28 => c.stepWriteWeights o
  | 0x29 => c.stepReadWeights o
  | 0x50 => c.stepMemTest o bad
  | 0x51 => c.stepRemap o
  | 0x59 => c.stepTripRead o
  | _ => c

/-- A JOB_STOP that waited for empty queues ends (R316). -/
def Chip.endStops (c : Chip) : Chip :=
  (c.fw.ops.filter (fun o => o.code == 0x23 && c.jobIdle (o.arg 0 1))).foldl (fun c o => (c.stopDone (o.arg 0 1)).opFinish o OK 0 0) c

/-- LONG_OP_STEP (R317): one step of the operation whose turn it is; `bad` are the slots, with their KINDs, that a test phase
finds failing. -/
def execLongOpStep (bad : List (PCore × BitVec 4)) (s : State) : Host.Outcome State Fault Refusal :=
  act (fun c =>
    if c.fwUp = false then c
    else
      let c := c.endStops
      let bad := bad.map (fun d => (d.1.toNat, d.2.toNat))
      match c.nextOp, c.newRound.nextOp with
      | some o, _ => c.opStep o bad
      | none, some o => c.newRound.opStep o bad
      | none, none => c) s

/-! ## Limits of commands (R312, R319, R322) -/

/-- The exchange a command waits for is cancelled with no report (R322). -/
def Chip.cancelExchange (c : Chip) (o : Origin) : Chip :=
  match c.ports.find? (fun p => match p.2.ctrl with
      | some x => x.origin == o
      | none => false) with
  | some p => (c.modPort p.1 (fun q => { q with ctrl := none })).faulted o 0x48 ERR_TIMEOUT 0 0
  | none => c

/-- A PAUSE that still waits is withdrawn; its target pauses all the same where another PAUSE waits for it. -/
def Chip.cancelPause (c : Chip) (o : Origin) : Chip :=
  match c.fw.pauses.find? (fun r => r.origin == some o) with
  | some r =>
    let c : Chip := { c with fw := { c.fw with pauses := c.fw.pauses.erase r } }
    let c : Chip :=
      if c.fw.pauses.any (fun x => x.kind == r.kind && x.id == r.id && !x.inEffect) then c
      else if r.kind = 0 then c.modPort r.id (fun q => { q with pauseReq := false }) else { c with dune := { c.dune with pauseReq := false } }
    c.faulted o 0x30 ERR_TIMEOUT 0 0
  | none => c

/-- COMMAND_TIMEOUT (R312): the TIMEOUT of a command in progress expires; 0 never does (R20). -/
def execCommandTimeout (o : Origin) (s : State) : Host.Outcome State Fault Refusal :=
  act (fun c =>
    if o = .internal ∨ c.timeoutOf o = 0 then c
    else match c.fw.ops.find? (fun x => x.origin == o) with
      | some x => (c.logged logService x.code ERR_TIMEOUT).opEnd x ERR_TIMEOUT
      | none => (c.cancelExchange o).cancelPause o) s

/-- HOST_READ_TIMEOUT (R281): the service whose read of host memory times out fails once. -/
def execHostReadTimeout (o : Origin) (s : State) : Host.Outcome State Fault Refusal :=
  act (fun c => match c.fw.ops.find? (fun x => x.origin == o) with
    | some x => (c.logged logService x.code ERR_TIMEOUT).opEnd x ERR_TIMEOUT
    | none => c) s

/-- PAUSE_EXPIRY (R319): DURATION µs are over for a pause in effect; 0 never expires. -/
def execPauseExpiry (kind : BitVec 8) (id : Word) (s : State) : Host.Outcome State Fault Refusal :=
  act (fun c =>
    let id := if kind.toNat = 2 then 0 else id.toNat
    if c.fw.pauses.any (fun r => r.kind == kind.toNat && r.id == id && r.inEffect && r.duration != 0) then
      (c.pauseEnd kind.toNat id).1
    else c) s

/-! ## The power cap (R320) -/

/-- The next stage, or more of the present one, while the average is above W. -/
def Chip.capTighten (c : Chip) : Chip :=
  let k := c.power.cap
  let enter : Chip → Nat → Chip := fun c n => (c.setCap { c.power.cap with stage := n }).throttle n
  if k.stage = 0 then enter (c.setCap { k with cut := min 5 (c.get Reg.DUNE_SHARE_SHARE) }) 1
  else if k.stage = 1 ∧ k.cut < c.get Reg.DUNE_SHARE_SHARE then c.setCap { k with cut := min (k.cut + 5) (c.get Reg.DUNE_SHARE_SHARE) }
  else if k.stage = 1 then enter (if 1 ≤ c.rotPhase ∧ c.rotPhase ≤ 3 ∧ c.rot.withdraw = 0 then c.rotAbandon else c) 2
  else if k.stage = 2 then enter c.gateClusters 3
  else if k.stage = 3 then enter (c.setCap { k with sixteenths := 15 }) 4
  else c.setCap { k with sixteenths := max 1 (k.sixteenths - 1) }

/-- The last stage is released after 100 calm samples. -/
def Chip.capRelease (c : Chip) : Chip :=
  let k := c.power.cap
  let k : Cap := { k with calm := 0, stage := k.stage - 1, cut := if k.stage = 1 then 0 else k.cut, sixteenths := 16 }
  let c := if c.power.cap.stage = 3 then c.ungateClusters else c
  (c.setCap k).throttle k.stage

/-- POWER_CAP_SAMPLE (R320): package power in W × 16; the average is over the samples of 10 ms. -/
def execPowerCapSample (p : BitVec 16) (s : State) : Host.Outcome State Fault Refusal :=
  act (fun c =>
    if c.fwUp = false then c
    else
      let c := c.setCap { c.power.cap with samples := (p.toNat :: c.power.cap.samples).take 100 }
      let k := c.power.cap
      if k.on = false then c
      else if k.exceeds (16 * k.watts) then (c.setCap { k with calm := 0 }).capTighten
      else if !k.below (16 * 95 * k.watts) then c.setCap { k with calm := 0 }
      else if k.stage = 0 then c
      else if k.calm + 1 < 100 then c.setCap { k with calm := k.calm + 1 }
      else c.capRelease) s

end Sys2Proof.Machine
end

