-- ==== Sys2Proof/Machine/Lookout.lean ====
section
/-! DEFINITION. Lookout (R388 to R398): the request and its checks, entry, the periods with their rules, the wake sources and the
full wake; brown-outs of the Oasis output (R400) and the junction sensors (R404). -/

namespace Sys2Proof.Machine

/-! ## The descriptor (R390, R392, R394, R395) -/

/-- The feature LOOKOUT of R306. -/
def featLookout : Nat := 2 ^ 16

/-- A rule of the descriptor as its four words. -/
abbrev LkoRule := List Word

def LkoRule.w (r : LkoRule) (i : Nat) : Word := r.getD i 0
def LkoRule.valid (r : LkoRule) : Bool := (LkoRule.w r 0).getLsbD 0
def LkoRule.src (r : LkoRule) : Nat := wbits (LkoRule.w r 0) 2 1
def LkoRule.index (r : LkoRule) : Nat := wbits (LkoRule.w r 0) 9 3
def LkoRule.type (r : LkoRule) : Nat := wbits (LkoRule.w r 0) 13 10
def LkoRule.offset (r : LkoRule) : Nat := wbits (LkoRule.w r 0) 21 14
def LkoRule.width (r : LkoRule) : Nat := wbits (LkoRule.w r 0) 25 22 + 1
def LkoRule.signed_ (r : LkoRule) : Bool := (LkoRule.w r 0).getLsbD 26
def LkoRule.cmp (r : LkoRule) : Nat := wbits (LkoRule.w r 0) 29 27
def LkoRule.edge (r : LkoRule) : Nat := wbits (LkoRule.w r 0) 31 30
def LkoRule.thresh (r : LkoRule) : Int := (LkoRule.w r 1).toInt
def LkoRule.run (r : LkoRule) : Nat := wbits (LkoRule.w r 2) 7 0

/-- A rule keeps to its layout. -/
def LkoRule.ok (r : LkoRule) : Bool :=
  wbits (LkoRule.w r 2) 31 8 == 0 && LkoRule.w r 3 == 0 &&
  (!LkoRule.valid r || (LkoRule.cmp r ≤ 5 && (LkoRule.src r < 2 || LkoRule.edge r != 0) && (LkoRule.src r == 0 || LkoRule.index r < 64) &&
    (LkoRule.src r != 0 || (1 ≤ LkoRule.type r && LkoRule.type r ≤ 3 && LkoRule.offset r < 160))))

def Chip.lkoAddr (c : Chip) : Nat := (c.rd Reg.HIF_LKO_ADDR_LO).toNat + c.get Reg.HIF_LKO_ADDR_HI_ADDR * 2 ^ 32

/-- The rules of the descriptor at `a`. -/
def Chip.lkoRules (c : Chip) (a : Nat) : List LkoRule :=
  (List.range (c.rdMem (a + 2) 2)).map (fun i => (List.range 4).map (fun w => BitVec.ofNat 32 (c.rdMem (a + 0x40 + 16 * i + 4 * w) 4)))

/-- Members of a set of `n` bits at an address. -/
def Chip.setAt (c : Chip) (a n : Nat) : List Nat := (List.range n).filter (fun p => bit (c.rdMem (a + p / 8) 1) (p % 8))

/-- The layout of R392 and R394. -/
def Chip.lkoForm (c : Chip) (a : Nat) : Bool :=
  let period := c.rdMem (a + 4) 4
  let window := c.rdMem (a + 8) 4
  a % 64 == 0 && c.inDram a (64 + 16 * c.rdMem (a + 2) 2) && c.rdMem (a + 1) 1 == 0 && c.rdMem (a + 2) 2 ≤ 64 && 1000 ≤ period &&
  period ≤ 10000000 && 50 ≤ window && window ≤ 100000 && window < period && c.rdMem (a + 0x3A) 6 == 0 && (c.lkoRules a).all LkoRule.ok

/-- The declared current in 0.1 mA (R395). -/
def Chip.lkoDeclared (c : Chip) (a : Nat) : Nat :=
  let ports := (c.setAt (a + 0x10) 128).length
  180 + (if ports = 0 then 0 else 100) + 60 * ports + 8 * (c.setAt (a + 0x20) 64).length + 3 * (c.setAt (a + 0x28) 128).length

/-- Ports and pairs that the descriptor names and the variant lacks. -/
def Chip.lkoAbsent (c : Chip) (a : Nat) : Bool :=
  (c.setAt (a + 0x10) 128 ++ c.setAt (a + 0x28) 128).any (fun p => c.clPorts ≤ p) || (c.setAt (a + 0x20) 64).any (fun p => c.pairs ≤ p) ||
  (c.lkoRules a).any (fun r => LkoRule.valid r && (if LkoRule.src r = 0 then c.clPorts else c.pairs) ≤ LkoRule.index r)

/-- The status of a request (R390, in the order of R15). -/
def Chip.lkoStatus (c : Chip) (a : Nat) : Nat :=
  let feat := c.featureStatus (.mailbox 0) featLookout
  let form := c.lkoForm a
  firstRefusal [(feat != OK, feat), (!form, ERR_PARAM), (form && (c.lkoAbsent a || 1200 < c.lkoDeclared a), ERR_RESOURCE)]

/-! ## Full wake (R397, R398) -/

/-- Decay one place of the walk over the time `P` (in ticks of 160 ns) spent in Lookout, from tag `ce` to tag `cw`. -/
def Chip.rebase (c : Chip) (s ce cw span : Nat) (x : Place) : Chip :=
  let since : Nat → Nat := fun tag => min 32767 ((ce + 65536 - tag) % 65536 + span)
  match x with
  | .slot p i =>
    let y := c.readLane s i
    let e := c.decayEntry s p (since y.tag)
    let d := c.popDesc s p
    let y := { y with pot := decayPot y.pot (wbits e 15 0), y1 := decayTrace y.y1 (wbits e 23 16), y2 := decayTrace y.y2 (wbits e 31 24),
                      tag := cw, refr := y.refr && descRefrEn d && descRefrT d == 0 }
    c.writeLane s i y
  | .trace p off =>
    let w := BitVec.ofNat 32 (c.rdMem (slotMem s (stateOff + off)) 4)
    let e := c.decayEntry s p (since (wbits w 31 16))
    c.writeTrace s off (decayTrace (wbits w 7 0) (wbits e 23 16)) (decayTrace (wbits w 15 8) (wbits e 31 24)) cw

/-- Every place of a slot: each slot of every valid event-mode population, each pre-trace entry. -/
def Chip.places (c : Chip) (s : Nat) : List Place :=
  (List.range 16).flatMap (fun p => (List.range (c.scrubSlots s p)).map (fun n => .slot p (c.get (Reg.NE_POP_RANGE_FIRST s p) * c.lanes s + n))) ++
  (List.range 32).flatMap (fun i => (List.range (c.scrubTraces s i)).map (fun n => .trace (c.rangePop s i) (c.traceOff s i 0 0 + 4 * n)))

/-- The rebase walk (R398) of every core whose cluster is powered. -/
def Chip.rebaseAll (c : Chip) (ce span : Nat) : Chip :=
  let slots := ((List.range c.clusters).filter (fun k => c.clusterOn k)).flatMap (fun k => (List.range 16).map (fun j => c.pcore (16 * k + j)))
  slots.foldl (fun c s => (c.places s).foldl (fun c x => c.rebase s ce (tagOf c.time).toNat span x) c) c

/-- The time spent in Lookout is added to the time base (R382); its ticks of 2.5 ns. -/
def Chip.lkoAdvance (c : Chip) : Chip × Nat :=
  let n := c.power.lko.ticks * 781250 + c.power.rem
  ({ c with time := c.time + BitVec.ofNat 48 (n / 64), power := { c.power with rem := n % 64 } }, n / 64)

/-- OAS_WAKE_CAUSE and OAS_WAKE_ALL from the sources that fired (R396). -/
def Chip.wakeNote (c : Chip) (l : List (Nat × Nat)) : Chip × Nat × Nat :=
  let low := l.foldl (fun (m : Nat × Nat) x => if x.1 < m.1 then x else m) (l.headD (0, 0))
  let c := (c.put Reg.OAS_WAKE_CAUSE_SOURCE low.1).put Reg.OAS_WAKE_CAUSE_DETAIL low.2
  (c.wr Reg.OAS_WAKE_ALL ((l.map (·.1)).foldl (fun w k => w ||| (1#32 <<< k)) 0), low)

/-- A full wake (R397) from the sources recorded: what waited for firmware is written, PME is sent unless the host itself woke the
device. -/
def Chip.fullWake (c : Chip) : Chip :=
  let k := c.power.lko
  let r := c.wakeNote k.held
  let c := if r.1.on Reg.CLK_CTRL_PLL_EN then r.1.set Reg.CLK_STAT_LOCK else r.1
  let t := c.lkoAdvance
  let c : Chip := { t.1 with power := { t.1.power with selfRefresh := false, lko := Lookout.none,
                                                       cap := { Cap.off with on := t.1.power.cap.on, watts := t.1.power.cap.watts } } }
  let c := (List.range 70).foldl (fun c d => c.domVoted d) c
  let c := ((c.setFwState 3).put Reg.PWR_STATE_STATE k.before).flushNotices
  let c := if c.trip.waiting = 0 then c else ({ c with trip := { c.trip with waiting := 0 } } : Chip).trip_ c.trip.waiting.toNat
  let c := if 2048 ≤ t.2 / 64 then c.rebaseAll k.tag.toNat (t.2 / 64) else c
  let c := k.jobs.foldl (fun c j => if (c.job j).state = 4 then c.resumeJob j else c) c
  let c := if k.dune then c.duneResume else c
  let c := match c.dune.stop with
    | some st => if c.duneStands then c.duneEnd st else c
    | none => c
  let c := k.runPorts.foldl (fun c p => (c.modPort p (fun q => { q with pauseReq := false })).setPortState p 0) c
  let c := (List.range c.links_).foldl (fun c l => whenLink l [5] (·.linkWake l) c) c
  let c := if c.host.pmeEn && r.2.1 != 4 then c.emit .pme else c
  c.notify 0x000E OK r.2.1 r.2.2 0

/-- The device wakes once it is in Lookout and a source has fired. -/
def Chip.wakeIfDue (c : Chip) : Chip := if c.inLookout ∧ c.power.lko.held ≠ [] then c.fullWake else c

/-- A wake source whose detail the spec does not state (log 7). -/
def Chip.wakeBy (c : Chip) (code : Nat) : Chip :=
  if c.inLookout ∨ c.power.lko.entering then
    let r := c.free
    (r.1.wakeSource code (r.2.toNat % 256)).wakeIfDue
  else c

/-! ## Entry (R390, R391) -/

/-- No signal stands on a port: it is off, waits for one, or lost it. -/
def Chip.portQuiet (c : Chip) (p : Nat) : Bool := c.portState p ≤ 1 || (c.portState p == 6 && c.get (Reg.CL_PORT_STAT_FAULT p) == 1)

/-- A cluster keeps its state for a job, a Dune region or a spare duty; any other goes OFF; an attached one stays (R391, R405). -/
def Chip.lkoCluster (c : Chip) (k : Nat) : Chip :=
  if (c.votes k).getLsbD 31 then c
  else if c.gateable k then (if c.domState k = 0 then c else (c.setDom k 0).domainLost k)
  else if c.domState k = 2 ∨ c.domState k = 3 then c.setDom k 4 else c

/-- Steps 4 to 9 of R391, once no sweep and no rotation step in DRAIN is left to wait for. -/
def Chip.lkoEnter (c : Chip) : Chip :=
  let c := (List.range c.links_).foldl (fun c l => whenLink l [3] (fun c => (c.block l 0x99 (c.fwUp.toNat + 2)).setLinkState l 5) c) c
  let c := (List.range c.clusters).foldl (fun c k => c.lkoCluster k) c
  let c := [65, 68, 69].foldl (fun c d => if c.domState d = 2 ∨ c.domState d = 3 then c.setDom d 4 else c) c
  let c := if (c.votes 64).getLsbD 31 then c else c.setDom 64 4
  let held := (List.range 70).any (fun d => (c.votes d).getLsbD 31)
  let c := if held then c else c.clr Reg.CLK_STAT_LOCK
  let c := (c.setFwState 5).put Reg.PWR_STATE_STATE 2
  let c : Chip := { c with power := { c.power with selfRefresh := true, waiting := c.power.waiting.filter (fun d => c.domState d == 1),
                                                   lko := { c.power.lko with entering := false, tag := tagOf c.time, ticks := 0 } } }
  c.wakeIfDue

/-- Entry goes on when what it waits for is over (R391, steps 2 and 3). -/
def Chip.lkoEntryDue (c : Chip) : Chip :=
  if c.power.lko.entering ∧ c.get Reg.DUNE_STAT_STATE ≠ 2 ∧ c.rotPhase ≠ 4 then c.lkoEnter else c

/-- A request accepted: STATUS and DECL are written, the rules kept, the jobs and the run paused (R390, R391). -/
def Chip.lkoAccept (c : Chip) (a : Nat) : Chip :=
  let rules := c.lkoRules a
  let c := (List.range 64).foldl (fun c i => (List.range 4).foldl (fun c w => c.wr (Reg.OAS_LKO_RULE i w) (LkoRule.w (rules.getD i []) w)) c) c
  let ports := List.range c.clPorts
  let jobs := (c.fw.jobs.filter (fun j => j.2.state == 3)).map (·.1)
  let dune := c.get Reg.DUNE_STAT_STATE == 2
  let k : Lookout :=
    { desc := c.rdBytes a 64, entering := true, held := [], before := c.get Reg.PWR_STATE_STATE, ticks := 0, tag := 0,
      runPorts := ports.filter (fun p => c.portState p == 4 || c.portState p == 5), quiet := ports.filter c.portQuiet, runs := [], jobs := jobs,
      dune := dune }
  let c : Chip := { c with power := { c.power with lko := k } }
  let c := jobs.foldl (fun c j => c.pauseJob j) c
  let c := if dune then c.dunePause else c
  (if 1 ≤ c.rotPhase ∧ c.rotPhase ≤ 3 then c.rotAbandon else c).lkoEntryDue

/-- LOOKOUT_ENTRY (R390): the function enters D3hot. A descriptor outside DRAM has no place for its STATUS. -/
def execLookoutEntry (s : State) : Host.Outcome State Fault Refusal :=
  act (fun c =>
    let a := c.lkoAddr
    if c.power.lko.entering then c.lkoEntryDue
    else if c.fwUp = false ∨ c.inLookout ∨ a = 0 ∨ c.inDram a 64 = false then c
    else
      let st := c.lkoStatus a
      let c := c.wrMem a 1 st
      let c := if st = OK ∨ st = ERR_RESOURCE then c.wrMem (a + 0x38) 2 (c.lkoDeclared a) else c
      if st = OK then c.lkoAccept a else c) s

/-! ## A period (R393, R394) -/

/-- The field of a frame's PAYLOAD (step 1 of R58); none where it extends past bit 159. -/
def LkoRule.field (r : LkoRule) (f : CellFrame) : Option Int :=
  if 160 < LkoRule.offset r + LkoRule.width r then none
  else
    let v := (framePayload f).toNat / 2 ^ LkoRule.offset r % 2 ^ LkoRule.width r
    some (if LkoRule.signed_ r then signed (LkoRule.width r) v else v)

/-- Ticks of the edges that qualify. -/
def LkoRule.ticks (r : LkoRule) (x : LkoPair) : List Nat :=
  (x.edges.filter (fun e => if e.1 then LkoRule.edge r % 2 == 1 else 2 ≤ LkoRule.edge r)).map (·.2)

/-- The shortest interval between successive ticks. -/
def shortest : List Nat → Option Nat
  | a :: b :: t => some (match shortest (b :: t) with
    | some m => min (b - a) m
    | none => b - a)
  | _ => none

/-- The value a rule compares, from the good frames and the pairs of the window. -/
def LkoRule.value (r : LkoRule) (frames : List (Nat × CellFrame)) (pairs : List LkoPair) : Option Int :=
  if LkoRule.src r = 0 then
    match (frames.filter (fun x => x.1 == LkoRule.index r && frameType x.2 == LkoRule.type r)).getLast? with
    | some x => LkoRule.field r x.2
    | none => none
  else match pairs.find? (fun x => x.pair.toNat == LkoRule.index r) with
    | none => none
    | some x =>
      if LkoRule.src r = 1 then some (x.level.toNat : Nat)
      else if LkoRule.src r = 2 then some (min 65535 (LkoRule.ticks r x).length : Nat)
      else (shortest (LkoRule.ticks r x)).map Int.ofNat

/-- CMP of R394. -/
def LkoRule.holds (r : LkoRule) (v : Int) : Bool :=
  let t := LkoRule.thresh r
  match LkoRule.cmp r with
  | 0 => t < v
  | 1 => v < t
  | 2 => v == t
  | 3 => v != t
  | 4 => t ≤ v
  | _ => v ≤ t

def Chip.setRun (c : Chip) (i n : Nat) : Chip := { c with power := { c.power with lko := { c.power.lko with runs := smSet c.power.lko.runs i n } } }

/-- Rule `i` at the end of a window. -/
def Chip.lkoRule (c : Chip) (i : Nat) (frames : List (Nat × CellFrame)) (pairs : List LkoPair) : Chip :=
  let r : LkoRule := (List.range 4).map (fun w => c.rd (Reg.OAS_LKO_RULE i w))
  if LkoRule.valid r = false then c
  else match LkoRule.value r frames pairs with
    | none => (c.bump Reg.OAS_LKO_NODATA_COUNT).setRun i 0
    | some v =>
      if LkoRule.holds r v then
        let n := smGet 0 c.power.lko.runs i + 1
        let c := c.setRun i n
        if LkoRule.run r + 1 ≤ n then c.wakeSource 1 i else c
      else c.setRun i 0

/-- LOOKOUT_PERIOD (R393): what the sampled ports and pairs showed in the window, frames in their order of arrival. -/
def execLookoutPeriod (frames : List (Port × CellFrame)) (pairs : List LkoPair) (s : State) : Host.Outcome State Fault Refusal :=
  act (fun c =>
    if c.inLookout = false then c
    else
      let l := (frames.map (fun x => (x.1.toNat, x.2))).filter (fun x => c.sampledPort x.1)
      let good := l.filter (fun x => frameCrc x.2 = frameCrcOf x.2 && framePver x.2 == 1)
      let c := l.foldl (fun c x => c.rxLookout x.1 x.2) c
      let ps := pairs.filter (fun x => c.sampledPair x.pair.toNat)
      ((List.range 64).foldl (fun c i => c.lkoRule i good ps) c).wakeIfDue) s

/-! ## Wake sources (R396) -/

/-- WAKE_N (R396). -/
def execWakeN (s : State) : Host.Outcome State Fault Refusal := act (whilePins (·.wakeBy 6)) s

/-- LOOKOUT_TIMER (R396): TIMER seconds are over; 0 is no timer. -/
def execLookoutTimer (s : State) : Host.Outcome State Fault Refusal :=
  act (fun c => if bytesToNat ((c.power.lko.desc.drop 12).take 4) = 0 then c else c.wakeBy 5) s

/-- PCIE_WAKE (R396). -/
def execPcieWake (s : State) : Host.Outcome State Fault Refusal := act (·.wakeBy 4) s

/-- LOOKOUT_RAIL_BROWNOUT (R395). -/
def execLookoutRailBrownout (s : State) : Host.Outcome State Fault Refusal := act (·.wakeBy 8) s

/-- ALARM_FRAME (R62): outside Lookout as any frame, in Lookout a wake from a sampled port. -/
def execAlarmFrame (p : Port) (f : CellFrame) (sof : Time) (s : State) : Host.Outcome State Fault Refusal :=
  act (fun c => (c.rxFrame p.toNat f sof).wakeIfDue) s

/-- WAKE_PATTERN (R70). -/
def execWakePattern (p : Port) (s : State) : Host.Outcome State Fault Refusal := act (whilePins fun c => (c.wakePattern p.toNat).wakeIfDue) s

/-- LOOKOUT_SIGNAL_RETURN (R396): on a port of WPORTS that had no signal at entry. -/
def execLookoutSignalReturn (p : Port) (s : State) : Host.Outcome State Fault Refusal :=
  act (whilePins fun c =>
    if c.watchedPort p.toNat ∧ c.power.lko.quiet.contains p.toNat then (c.wakeSource 2 p.toNat).wakeIfDue else c) s

/-- TRAINING_PATTERN (R332): seen on a link in SLEEP. -/
def execTrainingPattern (l : LinkId) (s : State) : Host.Outcome State Fault Refusal :=
  act (whenLink l.toNat [5] (fun c => ((c.linkWake l.toNat).wakeSource 3 l.toNat).wakeIfDue)) s

/-- TRIP_IN (R419, R421): in Lookout the trip waits for the full wake it makes. -/
def execTripIn (s : State) : Host.Outcome State Fault Refusal := act (whilePins fun c => c.tripPin (·.wakeBy 7)) s

/-! ## The Oasis output (R400), the sensors (R404) -/

/-- OASIS_BROWNOUT (R400). -/
def execOasisBrownout (s : State) : Host.Outcome State Fault Refusal :=
  act (fun c =>
    if c.power.supply = 2 then c
    else if c.power.supply = 1 then
      let c := (c.wr Reg.TRIP_COPY_CRC (~~~ c.rd Reg.TRIP_COPY_CRC)).set Reg.OAS_STAT_RET_INVALID
      { c with power := { c.power with crcBad := true } }
    else if c.inLookout then c.wakeBy 8
    else (c.set Reg.OAS_STAT_BROWNOUT).powerEvent 1) s

/-- THERMAL_SAMPLE (R404): the reading of a domain's sensor while the domain is powered. -/
def execThermalSample (d : BitVec 7) (t : BitVec 10) (s : State) : Host.Outcome State Fault Refusal :=
  act (fun c =>
    let d := d.toNat
    if c.domPresent d = false ∨ c.domState d < 2 ∨ c.power.supply ≠ 0 then c
    else if 620 ≤ t.toNat then c.chipReset THERMAL
    else
      let hot := c.get Reg.PWR_THERM_CFG_DERATE < t.toNat
      let c := ((c.put (Reg.PWR_TEMP_T d) t.toNat).thermStat).thermal d t.toNat
      if hot && c.inLookout then c.wakeBy 9 else c) s

end Sys2Proof.Machine
end

