-- ==== Sys2Proof/Machine/Boot.lean ====
section
/-! DEFINITION. Reset sources and release (R347 to R350), secure boot and recovery (R353 to R356), the start of firmware, tests
and joining (R357 to R361), autostart (R359). -/

namespace Sys2Proof.Machine

/-! ## Reset sources (R347, R450) -/

/-- Registers of the debug port's lock and unlock state, which fall with power-good (R435). -/
def inBdp (a : Nat) : Bool := 0x110000 ≤ a && a < 0x120000

/-- The debug port as power-good leaves it (R435): locked, or scope 1 open, by FUSE_DBG. -/
def Chip.lockReset (c : Chip) : Chip :=
  let locked := c.on Reg.FUSE_DBG_LOCK
  let c : Chip := { c.dropRegs inBdp with tap := Tap.init }
  (c.put Reg.BDP_STAT_LOCKED locked.toNat).put Reg.BDP_STAT_SCOPE (if locked then 0 else 1)

/-- POWER_GOOD_RISE (R347, R389): the main supply stands; VBAT is read in steps of 2 mV for the charger (R401). -/
def execPowerGoodRise (vbat : BitVec 12) (s : State) : Host.Outcome State Fault Refusal :=
  act (fun c =>
    let c : Chip := { c with power := { c.power with supply := 0, good := true } }
    ((c.lockReset.chipReset POR).clr Reg.OAS_STAT_ON_VBAT).chargeStart vbat.toNat) s

/-- SYS_RST_N (R347), while the main supply stands. -/
def execSysRstN (s : State) : Host.Outcome State Fault Refusal := act (fun c => if c.power.good then c.chipReset PIN else c) s

/-- VDD_CORE_BROWNOUT (R347). -/
def execVddCoreBrownout (s : State) : Host.Outcome State Fault Refusal := act (fun c => if c.power.good then c.chipReset BROWNOUT else c) s

/-- PWR_GOOD_FALL (R450, R435): every domain but the Oasis domain is held in reset; an unlock ends. -/
def execPwrGoodFall (s : State) : Host.Outcome State Fault Refusal :=
  act (fun c =>
    let c := c.cleared.factorySeats.lockReset
    { c with power := { c.power with good := false } }) s

/-! ## Release (R348 to R350) -/

/-- XBAR_STAT.SLICE by SLICE_SEL (R348). -/
def sliceMask (sel : Nat) : Nat := if sel = 0 then 0x00 else if sel = 1 then 0x03 else if sel = 2 then 0x27 else 0x3F

/-- A variant code of R3. -/
def variantOk (v : Nat) : Bool := 1 ≤ v && v ≤ 3

/-- RESET_RELEASE (R348, R350): the straps MODE, SLICE, CHIP_ID, AUTO in [1:0], [3:2], [7:4], [8]; the boot ROM starts, or stops
at a reserved variant code. -/
def execResetRelease (straps : BitVec 9) (s : State) : Host.Outcome State Fault Refusal :=
  act (fun c =>
    if c.power.inReset = false ∨ c.power.good = false then c
    else
      let c : Chip := { c with power := { c.power with inReset := false } }
      let c := c.wr Reg.BOOT_CFG (straps.setWidth 32)
      let c := c.put Reg.XBAR_STAT_SLICE (sliceMask (straps.toNat / 4 % 4))
      let c := (c.put Reg.HIF_FWSTATE_VARIANT c.variant).put Reg.HIF_FWSTATE_STEPPING (c.get Reg.FUSE_STEPPING_STEP)
      let c := (c.wr (Reg.PWR_VOTE 64) 1).setDom 64 2
      if variantOk c.variant then
        (((c.wr (Reg.PWR_VOTE 66) 1).setDom 66 2).put Reg.BOOT_STAT_PHASE 1).setFwState 1
      else (c.put Reg.BOOT_STAT_PHASE 15).put Reg.BOOT_STAT_ERR 1) s

/-! ## Secure boot (R353, R354) -/

/-- Where slot A and slot B of the flash begin, and the size of a slot (R352). -/
def slotBase (n : Nat) : Nat := flashBase + 0x100000 + n * 0x800000
def slotSize : Nat := 0x800000

/-- A section entry of a bundle's header (R353): TYPE, COMPAT, OFFSET, LEN. -/
structure BundleSection where
  type : Nat
  compat : Nat
  offset : Nat
  len : Nat
  deriving DecidableEq, Repr

def Chip.bundleSections (c : Chip) (b : Nat) : List BundleSection :=
  (List.range 3).map (fun i =>
    let e := b + 0x20 + 16 * i
    { type := c.rdMem e 2, compat := c.rdMem (e + 2) 2, offset := c.rdMem (e + 4) 4, len := c.rdMem (e + 8) 4 })

/-- Check 1 of R354: the header and the section table, with every section inside the slot. -/
def Chip.bundleForm (c : Chip) (b size : Nat) : Bool :=
  let l := c.bundleSections b
  c.rdMem b 4 == 0x4E424457 && c.rdMem (b + 4) 2 == 1 && c.rdMem (b + 6) 2 == 3 && (List.range 3).all (fun i => c.rdMem (b + 0x2C + 16 * i) 4 == 0) &&
  [1, 2, 3].all (fun t => l.any (fun x => x.type == t)) && l.all (fun x => x.offset + x.len ≤ size) &&
  l.all (fun x => x.type != 1 || x.len ≤ 0x200000) && c.rdMem (b + 0xC) 1 ≤ 64 && c.rdMem (b + 0xD) 1 < 4

/-- Blown bits of FUSE_SVN. -/
def Chip.svnCount (c : Chip) : Nat :=
  ((List.range 32).filter (fun i => (c.rd Reg.FUSE_SVN_LO).getLsbD i)).length + ((List.range 32).filter (fun i => (c.rd Reg.FUSE_SVN_HI).getLsbD i)).length

/-- FUSE_PKHASH of a key slot as bytes, the lowest first (R4). -/
def Chip.keyHash (c : Chip) (k : Nat) : List Byte := (List.range 12).flatMap (fun w => natToBytes 4 (c.rd (Reg.FUSE_PKHASH k w)).toNat)

/-- The four checks of R354 on the bundle at `b`. -/
def Chip.bundlePasses (c : Chip) (b size : Nat) : Bool :=
  let key := c.rdMem (b + 0xD) 1
  let pub := c.rdBytes (b + 0x100) 96
  let signed := c.rdBytes b 0x160 ++ (c.bundleSections b).flatMap (fun x => c.rdBytes (b + x.offset) x.len)
  c.bundleForm b size && !bit (c.get Reg.FUSE_KEYREVOKE_REVOKED) key && Config.sha384 pub == c.keyHash key &&
  c.svnCount ≤ c.rdMem (b + 0xC) 1 && Config.ecdsaOk pub (Config.sha384 signed) (c.rdBytes (b + 0x160) 96)

/-! ## Firmware starts -/

/-- COMPAT of a section type. -/
def compatOf (l : List BundleSection) (t : Nat) : Nat := ((l.find? (fun x => x.type == t)).map (·.compat)).getD 0

/-- What a brown-out in RETAIN spoilt is treated as absent (R400): the event log, and what DMAP_WORK alone holds. -/
def Chip.dropSpoilt (c : Chip) : Chip :=
  if c.power.crcBad then
    let c := (c.dropRegs (fun a => 0x21000 ≤ a && a < 0x22000)).put Reg.DMAP_STAT_WCOUNT 0
    { c with fw := { c.fw with log := [] }, power := { c.power with crcBad := false } }
  else c

/-- The bundle at `b` boots: its images are loaded, firmware powers the present domains and starts the PLL (R308, R363, R380). -/
def Chip.bootBundle (c : Chip) (b : Nat) : Chip :=
  let l := c.bundleSections b
  let hcu := (l.filter (fun x => x.type == 1)).flatMap (fun x => c.rdBytes (b + x.offset) x.len)
  let goal := if bit (c.rdMem (b + 0xE) 1) 0 then some (c.rdMem (b + 0xC) 1) else none
  let c : Chip := { c with fw := { c.fw with build := c.rdMem (b + 8) 4, compat := [compatOf l 1, compatOf l 2, compatOf l 3], svnGoal := goal } }
  let c := (c.wrBytes (hcuMem 0) hcu).put Reg.BOOT_STAT_PHASE 2
  let c := (List.range 70).foldl (fun c d => c.voteSet d 1) c
  let c := c.dropSpoilt.buildWork.setProfile
  (c.set Reg.CLK_CTRL_PLL_EN).put Reg.BOOT_STAT_PHASE 3

/-- RECOVERY (R356). -/
def Chip.enterRecovery (c : Chip) : Chip := (c.put Reg.BOOT_STAT_PHASE 8).wr Reg.HIF_FWEPOCH 0xFFFFFFFF#32

/-- The flash is read in 8D-8D-8D mode (R279). -/
def Chip.octal (c : Chip) : Chip := (c.set Reg.BOOT_XSPI_STAT_OCTAL).put Reg.BOOT_XSPI_STAT_MHZ 200

/-- Slot `n` lies within the fitted device (R279) and passes. -/
def Chip.slotPasses (c : Chip) (n : Nat) : Bool := slotBase n + slotSize ≤ flashBase + Config.flashDensity && c.bundlePasses (slotBase n) slotSize

/-- SECURE_BOOT (R354, R356): slot A, then slot B; neither, or MODE = 2, leads to RECOVERY. -/
def execSecureBoot (s : State) : Host.Outcome State Fault Refusal :=
  act (fun c =>
    if c.get Reg.BOOT_STAT_PHASE ≠ 1 then c
    else if c.get Reg.BOOT_CFG_MODE = 2 then c.enterRecovery
    else
      let c := c.octal
      if c.slotPasses 0 then c.bootBundle (slotBase 0)
      else
        let c := c.set Reg.BOOT_STAT_FAIL_A
        if c.slotPasses 1 then (c.set Reg.BOOT_STAT_SLOT).bootBundle (slotBase 1)
        else ((c.set Reg.BOOT_STAT_FAIL_B).put Reg.BOOT_STAT_ERR (if Config.flashDensity = 0 then 2 else 3)).enterRecovery) s

/-- A write of GO to BOOT_REC_GO (R356): the staged bundle boots or is rejected. -/
def Chip.recoveryGo (c : Chip) : Chip :=
  if c.get Reg.BOOT_STAT_PHASE ≠ 8 then c
  else if c.bundlePasses (hcuMem 0) 0x200000 then ({ c with fw := { c.fw with recFailed := false } } : Chip).bootBundle (hcuMem 0)
  else { c with fw := { c.fw with recFailed := true } }

/-- BOOT_REC_GO (R356). -/
def execBootRecGo (go : Bool) (s : State) : Host.Outcome State Fault Refusal := act (fun c => if go then c.recoveryGo else c) s

/-! ## DRAM, WAIT_HELLO (R269, R357, R417, R422) -/

/-- The check of the sandglass's frozen copy at every boot (R422). For a copy of fewer than 131,072 records, the block no longer
holds whether it was cut short. -/
def Chip.tripCheck (c : Chip) : Chip :=
  let first := c.get Reg.TRIP_COPY_FIRST_INDEX
  if c.copyCrc first = c.rd Reg.TRIP_COPY_CRC then
    let r := c.free
    (r.1.set Reg.TRIP_STAT_HELD).put Reg.TRIP_STAT_COMPLETE (if first = 0 then 1 else r.2.toNat % 2)
  else c.clr Reg.TRIP_STAT_HELD

/-- The sandglass's window and reservation (R417). -/
def Chip.tripPlace (c : Chip) : Chip :=
  if c.usable < 0x2000000 then c
  else
    let base := (c.usable - 0x2000000) / 0x2000000 * 0x2000000
    let c := (c.wr Reg.TRIP_WIN_BASE_LO (BitVec.ofNat 32 base)).put Reg.TRIP_WIN_BASE_HI_BASE (base / 2 ^ 32)
    (c.bwResWrite 0 8).tripEnWrite true

/-- Firmware reaches WAIT_HELLO for the first time (R355, R357): the SVN advances, the seats follow the lists (R366), the
sandglass records. -/
def Chip.firstWait (c : Chip) : Chip :=
  let c := c.waitHello.put Reg.BOOT_STAT_PHASE 5
  let c := match c.fw.svnGoal with
    | some n => ({ c with fw := { c.fw with svnGoal := none } } : Chip).fuseProg n
    | none => c
  let c := c.put Reg.FER_CFG_CHIP_ID (c.get Reg.BOOT_CFG_CHIP_ID)
  let c := c.workSeats
  let c := if c.allDrained && c.seatsDiffer then c.swapAll else c
  c.tripCheck.tripPlace.joinActions

/-- The training store (R352): 64 KiB of the flash; what a training stores there is its own (log 87). -/
def trainStore : Nat := flashBase + 0x10000
def Chip.storeTraining (c : Chip) : Chip :=
  ({ c with fresh := c.fresh + 1 } : Chip).wrBytes trainStore ((List.range 0x10000).map (Config.openByte c.fresh))

/-- The start is a fast one: MODE 0, or a bundle that recovery staged (log 163). -/
def Chip.fastStart (c : Chip) : Bool := c.get Reg.BOOT_CFG_MODE % 2 == 0

/-- DRAM_TRAINING (R269, R352): which channels trained, and whether a fast start fell back to full training; a full one is
stored. -/
def execDramTraining (ok : BitVec 2) (fellBack : Bool) (s : State) : Host.Outcome State Fault Refusal :=
  act (fun c =>
    if c.get Reg.BOOT_STAT_PHASE ≠ 4 then c
    else
      let c := (List.range c.drams).foldl (fun c ch =>
        if ok.getLsbD ch then c.set (Reg.DDR_STAT_TRAINED ch) else (c.clr (Reg.DDR_STAT_TRAINED ch)).set (Reg.DDR_IRQ_STATUS_TRAIN_FAIL ch)) c
      let c := if fellBack && c.fastStart then c.set Reg.BOOT_STAT_TRAIN_FULL else c
      let c := if fellBack || !c.fastStart then c.storeTraining else c
      c.bwRecompute.firstWait) s

/-! ## Tests and joining (R357, R358, R361, R366, R367) -/

/-- The seat of logical core `i` in the current map: by its own cluster's store once that has joined, by the lists before. -/
def Chip.currentSeat (c : Chip) (i : Nat) : Nat :=
  if c.joined (i / 16) then c.activeSlot (i / 16) i else seatSlot (fun s => c.listed s || c.fenced s) (i / 16) (i % 16)

/-- Cluster `k`'s map store holds the current map, under the current epoch. -/
def Chip.loadMap (c : Chip) (k : Nat) : Chip :=
  let c := (List.range (16 * c.clusters)).foldl (fun c i =>
    let v := c.currentSeat i
    (c.put (Reg.NI_MAP_ACTIVE_SLOT k i) v).put (Reg.NI_MAP_SHADOW_SLOT k i) v) c
  match (List.range c.clusters).find? c.joined with
  | some j => c.put (Reg.NI_MAP_STAT_EPOCH k) (c.get (Reg.NI_MAP_STAT_EPOCH j))
  | none => c

/-- The other clusters learn the seats of cluster `k` where they differ, by one swap. -/
def Chip.announceSeats (c : Chip) (k : Nat) : Chip :=
  let js := (List.range c.clusters).filter (fun j => c.joined j && j != k)
  let differs := (List.range 16).any (fun j => js.any (fun r => c.activeSlot r (16 * k + j) != c.activeSlot k (16 * k + j)))
  if differs then ((List.range 16).foldl (fun c j => c.shadowSeat (16 * k + j) (c.activeSlot k (16 * k + j))) c).swapAll else c

/-- The image of the autostart region (R352). -/
def autoBase : Nat := flashBase + 0x1100000

/-- The autostart job is still to come (R359). -/
def Chip.autoDue (c : Chip) : Bool := c.on Reg.BOOT_CFG_AUTO && !c.fw.autoDone && c.rdMem autoBase 4 == 0x4A424457

/-- A cluster is through with its test: it has joined or its router has failed. -/
def Chip.through (c : Chip) (k : Nat) : Bool := c.joined k || c.on (Reg.DMAP_CLUSTER_STAT_ROUTER_FAIL k)

/-- DONE (R357), with the ms of chip time since the chip reset. -/
def Chip.bootDone (c : Chip) : Chip :=
  if c.get Reg.BOOT_STAT_PHASE = 6 ∧ (List.range c.clusters).all c.through ∧ c.autoDue = false then
    (c.put Reg.BOOT_STAT_PHASE 7).put Reg.BOOT_STAT_DONE_MS (min 65535 (c.time.toNat / 400000))
  else c

/-- What a cluster's test found: its router, and slots that are listed. -/
def Chip.clusterFound (c : Chip) (k : Nat) (routerOk : Bool) (bad : List (Nat × Nat)) : Chip :=
  let c := if routerOk then c else c.set (Reg.DMAP_CLUSTER_STAT_ROUTER_FAIL k)
  (c.testFound bad none).1

/-- A tested cluster's cores are seated in its own store. -/
def Chip.clusterSeated (c : Chip) (k : Nat) : Chip := (c.clusterSeats (fun s => c.listed s || c.fenced s) k).loadMap k

/-- QUICK_TEST (R357): of a fast start, and of a cluster that was powered again later; slots already listed are skipped. -/
def execQuickTest (k : Cluster) (routerOk : Bool) (bad : List (BitVec 5 × BitVec 4)) (s : State) : Host.Outcome State Fault Refusal :=
  act (fun c =>
    let k := k.toNat
    let ph := c.get Reg.BOOT_STAT_PHASE
    if k < c.clusters ∧ c.clusterOn k ∧ c.through k = false ∧ c.allDrained ∧ ((c.fastStart ∧ (ph = 5 ∨ ph = 6)) ∨ ph = 7) then
      let c := (c.clusterFound k routerOk ((bad.map (fun d => (k * 32 + d.1.toNat, d.2.toNat))).filter (fun d => d.1 % 32 < 17))).clusterSeated k
      let c := if routerOk then (c.announceSeats k).tryJoin k else c
      ((if ph = 5 then c.put Reg.BOOT_STAT_PHASE 6 else c).joinActions).bootDone
    else c) s

/-- FULL_START (R361): every phase has ended; routers that failed, and slots with their KINDs. DRAM holds nothing written. -/
def execFullStart (routers : List Cluster) (bad : List (PCore × BitVec 4)) (s : State) : Host.Outcome State Fault Refusal :=
  act (fun c =>
    if c.get Reg.BOOT_STAT_PHASE = 5 ∧ c.fastStart = false ∧ c.allDrained then
      let ks := (List.range c.clusters).filter c.clusterOn
      let bad := (bad.map (fun d => (d.1.toNat, d.2.toNat))).filter (fun d => d.1 % 32 < 17)
      let c := c.testDram (fun _ => false)
      let failed : Nat → Bool := fun k => routers.any (fun r => r.toNat == k)
      let c := ks.foldl (fun c k => c.clusterFound k (!failed k) (bad.filter (fun d => d.1 / 32 == k))) c
      let c := ks.foldl (fun c k => c.clusterSeated k) c
      let c := ks.foldl (fun c k => if failed k then c else c.tryJoin k) c
      ((c.put Reg.BOOT_STAT_PHASE 6).joinActions).bootDone
    else c) s

/-! ## Autostart (R359) -/

/-- The clusters an image uses. -/
def imageClusters (l : List Section) : List Nat :=
  ((targetsOf l (fun k => 1 ≤ k && k ≤ 4)).map (· / 16) ++ targetsOf l (· == 5)).eraseDups

/-- The partition of a set of clusters. -/
def clusterSet (l : List Nat) : Nat := l.foldl (fun n k => n ||| 2 ^ k) 0

/-- A cluster that will not keep autostart waiting: it has joined, or never joins. -/
def Chip.settled (c : Chip) (k : Nat) : Bool := c.clusters ≤ k || c.through k

/-- The statuses an autostart can fail with (R15, R315, R352): the ring fields, the region's 8 MiB, a cluster that did not join,
what the host made before, the image. -/
def Chip.autoChecks (c : Chip) (ks : List Nat) (len : Nat) : List (Bool × Nat) :=
  let b := autoBase
  let form := c.ringForm (c.rdMem (b + 0x20) 1) (c.rdMem (b + 0x21) 1) (c.rdMem (b + 0x22) 1) (c.rdMem (b + 0x24) 8) (c.rdMem (b + 0x2C) 8) 1
  [(!form || 0x800000 < len, ERR_PARAM), (ks.any (fun k => k < c.clusters && !c.joined k), ERR_NOT_READY),
   (c.ringExists 0 || (c.job 0).state != 0, ERR_BUSY)] ++
  if len ≤ 0x800000 then (c.definePart 0 (clusterSet ks)).imageChecks .internal 0 0 b len else []

/-- The autostart job is loaded and started with ring 0 and partition 0 (R359). -/
def Chip.autoStart (c : Chip) (ks : List Nat) : Chip :=
  let b := autoBase
  let c := (c.definePart 0 (clusterSet ks)).makeRing 0 (c.rdMem (b + 0x20) 1) (c.rdMem (b + 0x21) 1) (c.rdMem (b + 0x22) 1) (c.rdMem (b + 0x24) 8)
    (c.rdMem (b + 0x2C) 8) 1 0
  (c.loadImage 0 0 b).startJob 0 0

/-- AUTOSTART (R359): ring 0, partition 0 and job 0, or one event-log entry with the status, once each cluster of the image has
joined or will not (log 88). -/
def execAutostart (s : State) : Host.Outcome State Fault Refusal :=
  act (fun c =>
    let len := c.rdMem (autoBase + 0x18) 4
    let ks := imageClusters (c.imageSections autoBase)
    if c.autoDue = false ∨ c.get Reg.BOOT_STAT_PHASE ≠ 6 ∨ (len ≤ 0x800000 ∧ c.imageForm autoBase len ∧ ks.any (fun k => !c.settled k)) then c
    else
      let st := firstRefusal (c.autoChecks ks len)
      let c : Chip := { c with fw := { c.fw with autoDone := true } }
      (if st = OK then c.autoStart ks else c.logged logAutostart st 0).bootDone) s

end Sys2Proof.Machine
end

