-- ==== Sys2Proof/Machine/Debug.lean ====
section
/-! DEFINITION. The Bentohorn debug port (R431 to R444): its test access port, the unlock, attach, and the debugging of cores. -/

namespace Sys2Proof.Machine

/-! ## The test access port (R431 to R434) -/

/-- An instruction is selected; EXTEST, CLAMP and HIGHZ give the pins to boundary scan (R434). The TAP answers from power-good. -/
def Chip.select (c : Chip) (code : Nat) : Chip :=
  let c : Chip := { c with tap := { c.tap with ir := BitVec.ofNat 8 code } }
  c.put Reg.BDP_STAT_EXTEST (if code = 0x00 ∨ code = 0x03 ∨ code = 0x04 then 1 else 0)

/-- An instruction of the TAP, while power is good. -/
def tapDo (code : Nat) (f : Chip → Chip) (s : State) : Host.Outcome State Fault Refusal :=
  act (fun c => if c.power.good then f (c.select code) else c) s

/-- The bypass register: one bit, captured 0. -/
def Chip.bypass (c : Chip) : Chip := c.emit (.tdo 0 1)

/-- An instruction that needs unlock (R432): bypass while none is open. -/
def tapOpen (code : Nat) (f : Chip → Chip) (s : State) : Host.Outcome State Fault Refusal :=
  tapDo code (fun c => if c.get Reg.BDP_STAT_SCOPE = 0 then c.bypass else f c) s

/-- Bits as a number, the first the lowest. -/
def bitsNat : List Bool → Nat
  | [] => 0
  | b :: t => b.toNat + 2 * bitsNat t

/-- The boundary-scan register: what it captured is shifted out, what was shifted in stays. -/
def Chip.scan (c : Chip) (captured loaded : List Bool) : Chip :=
  ({ c with tap := { c.tap with bsr := loaded } } : Chip).emit (.tdo (bitsNat captured) captured.length)

/-- TAP_RESET (R431). -/
def execTapReset (s : State) : Host.Outcome State Fault Refusal := tapDo 0x02 id s
/-- EXTEST (R432, R434). -/
def execExtest (captured loaded : List Bool) (s : State) : Host.Outcome State Fault Refusal := tapDo 0x00 (·.scan captured loaded) s
/-- SAMPLE_PRELOAD (R432). -/
def execSamplePreload (captured loaded : List Bool) (s : State) : Host.Outcome State Fault Refusal := tapDo 0x01 (·.scan captured loaded) s
/-- CLAMP (R434). -/
def execClamp (s : State) : Host.Outcome State Fault Refusal := tapDo 0x03 Chip.bypass s
/-- HIGHZ (R434). -/
def execHighz (s : State) : Host.Outcome State Fault Refusal := tapDo 0x04 Chip.bypass s
/-- BYPASS (R432): its own code, and every code with no instruction. -/
def execBypass (s : State) : Host.Outcome State Fault Refusal := tapDo 0xFF Chip.bypass s

/-- The part number (R280, R433). -/
def Chip.partNumber (c : Chip) : Nat := 0x0A0F + c.variant

/-- The identification code (R433). -/
def Chip.idcode (c : Chip) : Nat := 1 + 0x45A * 2 + c.partNumber * 2 ^ 12 + c.get Reg.FUSE_STEPPING_STEP % 16 * 2 ^ 28

/-- IDCODE (R433). -/
def execIdcode (s : State) : Host.Outcome State Fault Refusal := tapDo 0x02 (fun c => c.emit (.tdo c.idcode 32)) s

/-! ## Unlock (R435, R436) -/

/-- A challenge with its scope byte set. -/
def withScope (ch : BitVec 256) (scope : Byte) : BitVec 256 := (ch &&& ~~~ (0xFF#256 <<< 192)) ||| (scope.setWidth 256 <<< 192)

/-- A fresh challenge: 16 random bytes, the serial, the scope asked for last. -/
def Chip.challenge (c : Chip) : BitVec 256 :=
  withScope (((Config.challenge c.fresh).setWidth 128).setWidth 256 ||| (Config.chipSerial.setWidth 256 <<< 128)) c.tap.scopeAsked

/-- UNLOCK_CHAL (R435). -/
def execUnlockChal (s : State) : Host.Outcome State Fault Refusal :=
  tapDo 0x10 (fun c =>
    let ch := c.challenge
    ({ c with fresh := c.fresh + 1, tap := { c.tap with challenge := some ch } } : Chip).emit (.tdo ch.toNat 256)) s

/-- FUSE_DBGKEY as bytes. -/
def Chip.debugHash (c : Chip) : List Byte := (List.range 12).flatMap (fun w => natToBytes 4 (c.rd (Reg.FUSE_DBGKEY w)).toNat)

/-- A response is verified (R435). -/
def Chip.unlockOk (c : Chip) (ch : BitVec 256) (scope : Byte) (sig : List Byte) : Bool :=
  (scope == 1#8 || scope == 2#8) && sig.length == 96 &&
  Config.ecdsaOk (Config.debugKey scope.toNat c.debugHash) (Config.sha384 (natToBytes 32 (withScope ch scope).toNat)) sig

/-- Firmware records an unlock or a failure in the event log (R435). -/
def Chip.unlockLog (c : Chip) (scope : Byte) (ok : Bool) : Chip := if c.fwRuns then c.logged logUnlock scope.toNat ok.toNat else c

/-- A response that fails. -/
def Chip.unlockFails (c : Chip) (scope : Byte) : Chip :=
  (({ c with tap := { c.tap with status := ERR_AUTH } } : Chip).bump Reg.BDP_STAT_FAILS).unlockLog scope false

/-- UNLOCK_RESP (R435, R436). -/
def execUnlockResp (scope : Byte) (sig : List Byte) (s : State) : Host.Outcome State Fault Refusal :=
  tapDo 0x11 (fun c =>
    if 3 ≤ c.get Reg.BDP_STAT_FAILS then { c with tap := { c.tap with status := ERR_AUTH } }
    else
      let asked := c.tap.challenge
      let c : Chip := { c with tap := { c.tap with challenge := none, scopeAsked := scope } }
      match asked with
      | none => c.unlockFails scope
      | some ch =>
        if c.unlockOk ch scope sig then
          let c : Chip := { c with tap := { c.tap with status := OK } }
          ((c.put Reg.BDP_STAT_SCOPE scope.toNat).clr Reg.BDP_STAT_LOCKED).unlockLog scope true
        else c.unlockFails scope) s

/-- UNLOCK_STAT (R436). -/
def execUnlockStat (s : State) : Host.Outcome State Fault Refusal :=
  tapDo 0x12 (fun c => c.emit (.tdo (c.tap.status % 16 + c.get Reg.BDP_STAT_SCOPE * 16 + c.get Reg.BDP_STAT_FAILS * 64) 8)) s

/-! ## Attach (R437) -/

/-- BDP_ATTACH's bit of a domain. -/
def attachBit (d : Nat) : Reg.Fld :=
  ⟨if d < 32 then Reg.BDP_ATTACH_LO else if d < 64 then Reg.BDP_ATTACH_MID else Reg.BDP_ATTACH_HI, d % 32, d % 32⟩

/-- A domain is attached: its vote bit 31 is set. -/
def Chip.attach (c : Chip) (d : Nat) : Chip := if c.domPresent d then (c.set (attachBit d)).voteSet d 0x80000000#32 else c

/-- A debug-halted core goes on at its PC (R438). -/
def Chip.debugResume (c : Chip) (s : Nat) (step : Bool) : Chip :=
  if c.dhalted s then
    let c := (c.clr (Reg.BDP_CORE_STAT_DHALT s)).clr (Reg.BDP_CORE_STAT_BPHIT s)
    (c.modCore s (fun k => { k with stepping := step })).setSeqState s 1
  else c

/-- DBG_EN and the breakpoints are cleared; a debug-halted core resumes. -/
def Chip.debugOff (c : Chip) (s : Nat) : Chip :=
  let c := (c.debugResume s false).clr (Reg.BDP_CORE_STAT_DBG_EN s)
  let c := c.modCore s (fun k => { k with dbgSkip := false, stepping := false })
  (List.range 4).foldl (fun c i => (c.wr (Reg.BDP_BRK_CFG s i) 0).wr (Reg.BDP_BRK_ADDR s i) 0) c

/-- A domain is detached: the debugging of a cluster's cores ends, its vote goes. -/
def Chip.detach (c : Chip) (d : Nat) : Chip :=
  if c.domPresent d ∧ c.on (attachBit d) then
    let c := if d < 64 then (List.range 17).foldl (fun c s => c.debugOff (d * 32 + s)) c else c
    (c.clr (attachBit d)).voteDrop d 0x80000000#32
  else c

/-- ATTACH (R437). -/
def execAttach (v : BitVec 70) (s : State) : Host.Outcome State Fault Refusal :=
  tapOpen 0x31 (fun c => (List.range 70).foldl (fun c d => if v.getLsbD d then c.attach d else c.detach d) c) s

/-! ## Cores (R438 to R442) -/

/-- CORE_SEL (R438). -/
def execCoreSel (i : CoreId) (s : State) : Host.Outcome State Fault Refusal :=
  tapOpen 0x20 (fun c => { c with tap := { c.tap with core := i } }) s

/-- The slot of the selected core, once its cluster has joined (R360). -/
def Chip.tapSlot (c : Chip) : Option Nat :=
  let i := c.tap.core.toNat
  if c.seated i ∧ c.joined (i / 16) then some (c.pcore i) else none

/-- A command to the selected core. -/
def coreCmd (f : Chip → Nat → Chip) (s : State) : Host.Outcome State Fault Refusal :=
  tapOpen 0x21 (fun c => match c.tapSlot with
    | some p => f c p
    | none => c) s

/-- A command that a core with DBG_EN = 0 ignores. -/
def coreCmdEn (f : Chip → Nat → Chip) (s : State) : Host.Outcome State Fault Refusal :=
  coreCmd (fun c p => if c.on (Reg.BDP_CORE_STAT_DBG_EN p) then f c p else c) s

/-- CORE_CMD_ENABLE (R438). -/
def execCoreCmdEnable (s : State) : Host.Outcome State Fault Refusal := coreCmd (fun c p => (c.set (Reg.BDP_CORE_STAT_DBG_EN p)).attach (p / 32)) s
/-- CORE_CMD_DISABLE (R438). -/
def execCoreCmdDisable (s : State) : Host.Outcome State Fault Refusal := coreCmdEn (fun c p => c.debugOff p) s
/-- CORE_CMD_HALT (R438): the machine stands at an instruction boundary between commands; a waiting instruction ends (R186). -/
def execCoreCmdHalt (s : State) : Host.Outcome State Fault Refusal :=
  coreCmdEn (fun c p => if c.seqLive p then (c.modCore p (fun k => { k with stepping := false, holdReq := false, dbgSkip := false })).debugHalt p else c) s
/-- CORE_CMD_RUN (R438). -/
def execCoreCmdRun (s : State) : Host.Outcome State Fault Refusal := coreCmdEn (fun c p => c.debugResume p false) s
/-- CORE_CMD_STEP (R440): the instruction at PC runs; its end halts again. -/
def execCoreCmdStep (s : State) : Host.Outcome State Fault Refusal := coreCmdEn (fun c p => c.debugResume p true) s

/-- The CORE_STAT data register (R439). -/
def Chip.coreStatWord (c : Chip) (p : Nat) : Nat :=
  c.seqState p + c.get (Reg.CORE_STAT_HCAUSE p) * 2 ^ 2 + c.get (Reg.BDP_CORE_STAT_DBG_EN p) * 2 ^ 5 + c.get (Reg.BDP_CORE_STAT_BPHIT p) * 2 ^ 6 +
  c.get (Reg.CORE_STAT_INEXC p) * 2 ^ 10 + c.get (Reg.CORE_STAT_HOLD p) * 2 ^ 11 + c.pc p / 4 * 4 * 2 ^ 16

/-- TAP_CORE_STAT (R439). -/
def execTapCoreStat (s : State) : Host.Outcome State Fault Refusal :=
  tapOpen 0x22 (fun c => match c.tapSlot with
    | some p => c.emit (.tdo (c.coreStatWord p) 32)
    | none => c.emit (.tdo 0 32)) s

/-- PC and the general registers of a core, by REG. -/
def Chip.dbgRead (c : Chip) (p r : Nat) : Nat := if r = 0 then c.pc p else (c.greg p r).toNat
def Chip.dbgWrite (c : Chip) (p r : Nat) (v : Word) : Chip := if r = 0 then c.writePc p v else c.setReg p r v

/-- CORE_REG (R442). -/
def execCoreReg (reg : BitVec 5) (write : Bool) (data : Word) (s : State) : Host.Outcome State Fault Refusal :=
  tapOpen 0x23 (fun c =>
    let show_ : Nat → Nat → Nat := fun d res => reg.toNat + write.toNat * 2 ^ 5 + d * 2 ^ 6 + res * 2 ^ 38
    match c.tapSlot with
    | some p =>
      if c.dhalted p = false then c.emit (.tdo (show_ data.toNat 1) 40)
      else if write then (c.dbgWrite p reg.toNat data).emit (.tdo (show_ data.toNat 0) 40)
      else c.emit (.tdo (show_ (c.dbgRead p reg.toNat) 0) 40)
    | none => c.emit (.tdo (show_ data.toNat 1) 40)) s

/-- BRKPT (R441). -/
def execBrkpt (v : BitVec 36) (s : State) : Host.Outcome State Fault Refusal :=
  tapOpen 0x24 (fun c => match c.tapSlot with
    | some p =>
      let i := v.toNat % 4
      let c := (c.put (Reg.BDP_BRK_CFG_TYPE p i) (v.toNat / 2 ^ 2)).put (Reg.BDP_BRK_CFG_IGN p i) (v.toNat / 2 ^ 27)
      c.put (Reg.BDP_BRK_ADDR_ADDR p i) (v.toNat / 2 ^ 5)
    | none => c) s

/-! ## MEM (R443) -/

/-- The statuses MEM tells apart. -/
def memStatus (st : Nat) : Nat := if st = OK ∨ st = ERR_FENCED ∨ st = ERR_NOT_READY then st else ERR_RESOURCE

/-- MEM (R443): with GO, one access through port 12; the register shows the data and STATUS of the last. -/
def execMem (addr : BitVec 48) (size : BitVec 2) (write go : Bool) (data : DWord) (s : State) : Host.Outcome State Fault Refusal :=
  tapOpen 0x30 (fun c =>
    let n := 2 ^ size.toNat
    let c : Chip :=
      if go = false then c
      else if write then
        let r := c.busWrite whoDebug addr.toNat (natToBytes n data.toNat)
        { r.1 with tap := { r.1.tap with memStatus := BitVec.ofNat 8 (memStatus r.2) } }
      else
        let r := c.busRead whoDebug addr.toNat n
        { r.1 with tap := { r.1.tap with data := BitVec.ofNat 64 (bytesToNat r.2.2), memStatus := BitVec.ofNat 8 (memStatus r.2.1) } }
    c.emit (.tdo (addr.toNat + size.toNat * 2 ^ 48 + write.toNat * 2 ^ 50 + go.toNat * 2 ^ 51 + c.tap.data.toNat * 2 ^ 52 + c.tap.memStatus.toNat * 2 ^ 116) 128)) s

/-- SYSRESET (R434): a chip reset with cause DEBUG; the unlock and the TAP survive it. -/
def execSysreset (s : State) : Host.Outcome State Fault Refusal := tapOpen 0x3F (fun c => c.chipReset DEBUG) s

end Sys2Proof.Machine
end

