-- ==== Sys2Proof/Machine/HostIf.lean ====
section
/-! DEFINITION. The host link (R280 to R302): mailbox slots and doorbells, rings, output events into completion rings, the
BARs with their protections, function-level reset; and writes to registers with no row of their own (R6). -/

namespace Sys2Proof.Machine

/-! ## Lookout, failed accesses -/

/-- A TLP to the function wakes the device (R396). -/
def Chip.tlp (c : Chip) : Chip := if c.inLookout then c.wakeBy 4 else c

/-- A failed inbound access is counted with its offset (R282). -/
def Chip.hifError (c : Chip) (off : Nat) : Chip := (c.bump Reg.HIF_ERR_CNT_COUNT).wr Reg.HIF_ERR_ADDR (BitVec.ofNat 32 off)

/-- The host's master port (R257, R281). -/
def whoHost : Nat := 1

/-! ## Mailboxes (R288 to R290) -/

/-- Slot `n` moves from one state to another, or the bit is counted (R289). -/
def Chip.slotMove (c : Chip) (n from_ into : Nat) : Chip := if c.mbxState n = from_ then c.setMbxState n into else c.bump Reg.MBX_VIOL_COUNT

/-- The slots a doorbell names, in turn. -/
def Chip.slotBits (c : Chip) (v : Nat) (from_ into : Nat) : Chip :=
  (List.range 16).foldl (fun c n => if bit v n then c.slotMove n from_ into else c) c

def Chip.mbxPost (c : Chip) (v : Nat) : Chip := c.tlp.slotBits v 0 1
def Chip.mbxRelease (c : Chip) (v : Nat) : Chip := c.tlp.slotBits v 2 0

/-- MBX_DB (R289). -/
def execMbxDb (post : BitVec 16) (s : State) : Host.Outcome State Fault Refusal := act (·.mbxPost post.toNat) s

/-- MBX_RELEASE (R289). -/
def execMbxRelease (free : BitVec 16) (s : State) : Host.Outcome State Fault Refusal := act (·.mbxRelease free.toNat) s

/-- The request in a slot (R288): its header, its command code, its payload, the checks of its form (R290). REPLY is the
responder's. -/
def Chip.slotHead (c : Chip) (n : Nat) : CmdHead :=
  let f := c.rdMem (mbxMem n 9) 1
  { major := c.rdMem (mbxMem n 0) 1, minor := c.rdMem (mbxMem n 1) 1, flags := f - f / 2 % 2 * 2, timeout := c.rdMem (mbxMem n 0xC) 4 }

def Chip.slotLen (c : Chip) (n : Nat) : Nat := c.rdMem (mbxMem n 4) 2

def Chip.slotForm (c : Chip) (n : Nat) : List (Bool × Nat) :=
  [(240 < c.slotLen n || c.rdMem (mbxMem n 0xA) 2 != 0 || 4 ≤ (c.slotHead n).flags, ERR_PARAM)]

/-- A command of this origin has been taken up and is to complete later (R290, R313, R318, R319). -/
def Chip.awaits (c : Chip) (o : Origin) : Bool :=
  c.fw.ops.any (·.origin == o) || c.fw.broken.any (·.1 == o) || c.fw.pauses.any (·.origin == some o) || (c.dune.active && c.dune.origin == o) ||
    c.ports.any (fun p => match p.2.ctrl with
      | some x => x.origin == o
      | none => false)

/-- MAILBOX_TAKE_UP (R290): the responder takes a POSTED slot whose command it has not taken yet. -/
def execMailboxTakeUp (slot : BitVec 4) (s : State) : Host.Outcome State Fault Refusal :=
  act (fun c =>
    let n := slot.toNat
    if c.mbxState n = 1 ∧ c.awaits (.mailbox n) = false then
      c.respondTo (.mailbox n) (c.slotHead n) (c.rdMem (mbxMem n 6) 2) (c.rdBytes (mbxMem n 0x10) (min 240 (c.slotLen n))) (c.slotForm n)
    else c) s

/-- The host's head of the notification queue (R324), under the index rule of R296: a head that would leave more records than
the queue has places is ignored. -/
def Chip.nqDoorbell (c : Chip) (head : Nat) : Chip :=
  let c := c.tlp
  if c.fw.nqBase = 0 ∨ 2 ^ c.fw.nqLog2 < (c.get Reg.HIF_NQ_TAIL_TAIL + 0x10000 - head) % 0x10000 then c
  else { c with fw := { c.fw with nqHead := head } }

/-- MBX_NQ_DB (R324). -/
def execMbxNqDb (head : BitVec 16) (s : State) : Host.Outcome State Fault Refusal := act (·.nqDoorbell head.toNat) s

/-! ## Rings (R295 to R301) -/

/-- An SQ tail doorbell (R295, R296). -/
def Chip.sqDoorbell (c : Chip) (k tail : Nat) : Chip :=
  let c := c.tlp
  if c.ringExists k = false ∨ c.sqSize k < (tail + 0x10000 - c.sqHead k) % 0x10000 then c.bump (Reg.RING_DB_ERR_SQ k)
  else c.setRing k { c.ring k with sqTail := tail }

/-- A CQ head doorbell. -/
def Chip.cqDoorbell (c : Chip) (k head : Nat) : Chip :=
  let c := c.tlp
  if c.ringExists k = false ∨ c.cqSize k < (c.cqTail k + 0x10000 - head) % 0x10000 then c.bump (Reg.RING_DB_ERR_CQ k)
  else c.setRing k { c.ring k with cqHead := head }

/-- RING_SQ_DB (R296). -/
def execRingSqDb (k : BitVec 6) (tail : BitVec 16) (s : State) : Host.Outcome State Fault Refusal := act (·.sqDoorbell k.toNat tail.toNat) s

/-- RING_CQ_DB (R296). -/
def execRingCqDb (k : BitVec 6) (head : BitVec 16) (s : State) : Host.Outcome State Fault Refusal := act (·.cqDoorbell k.toNat head.toNat) s

/-- Where submission entry `i` of ring `k` stands (R296). -/
def Chip.sqEntry (c : Chip) (k i : Nat) : Nat := c.sqBase k + i % c.sqSize k * 64

/-- SQ_ENTRY_TAKE_UP (R297, R298): the next entry of a ring, with an entry of the CQ reserved for its completion. -/
def execSqEntryTakeUp (ring : BitVec 6) (s : State) : Host.Outcome State Fault Refusal :=
  act (fun c =>
    let k := ring.toNat
    let r := c.ring k
    let i := c.sqHead k
    let e := c.sqEntry k i
    let flags := c.rdMem (e + 2) 1
    if c.fwUp = false ∨ c.ringExists k = false ∨ i = r.sqTail ∨ c.cqFree k = false ∨ (bit flags 1 ∧ r.busy ≠ []) then c
    else
      let tag := c.rdMem (e + 4) 4
      let timeout := c.rdMem (e + 8) 4
      let c := (c.setRing k { r with reserved := r.reserved + 1, busy := r.busy ++ [(i, tag, timeout)] }).put (Reg.RING_MIRROR_SQ_HEAD k) (i + 1)
      c.respondTo (.ring k tag) { major := 3, minor := 1, flags := flags, timeout := timeout } (c.rdMem e 2) (c.rdBytes (e + 0x10) 48)
        [(c.rdMem (e + 3) 1 != 0 || c.rdMem (e + 12) 4 != 0, ERR_PARAM)]) s

/-- CQ_HOLDOFF_EXPIRY (R301): HOLDOFF µs since the oldest unsignalled entry; 0 never fires. -/
def execCqHoldoffExpiry (ring : BitVec 6) (s : State) : Host.Outcome State Fault Refusal :=
  act (fun c =>
    let k := ring.toNat
    let r := c.ring k
    if c.ringExists k ∧ c.get (Reg.RING_CQ_IRQ_HOLDOFF k) ≠ 0 ∧ r.unsignalled ≠ 0 then
      (c.setRing k { r with unsignalled := 0 }).msix (c.get (Reg.RING_CFG_VEC k))
    else c) s

/-- An output event waits at the bridge. -/
def isOutputEvent : Nat × Flit → Bool
  | (_, .event _ _) => true
  | _ => false

/-- The bridge routes an event by its source core (R29, R300); the sandglass records it with its ring, or 0xFFFF (R418). -/
def Chip.outputEvent (c : Chip) (edge : Nat) (e : DWord) : Chip :=
  let src := dbits e 63 54
  if c.on (Reg.HIF_EVRT_VALID src) = false then ((c.recEvent 1 edge 0xFFFF e).bump Reg.HIF_EV_NOROUTE_COUNT).tallyChip 0x85
  else
    let k := c.get (Reg.HIF_EVRT_RING src)
    let c := c.recEvent 1 edge k e
    if c.ringExists k && c.cqFree k then
      (c.tallyChip 0x84).cqPush k 2 0 (evKey e).toNat
        ((evPay e).toNat + evLane e * 2 ^ 8 + c.get (Reg.HIF_EVRT_REPLICA src) * 2 ^ 16 + c.get Reg.HIF_CHIP_ID * 2 ^ 24)
        (evTag e).toNat c.time.toNat
    else ((c.bump (Reg.RING_CQ_DROP_COUNT k)).setRing k { c.ring k with drops := (c.ring k).drops + 1 }).tallyChip 0x85

/-- BRIDGE_OUTPUT_EVENT (R300): the oldest output event at the bridge. -/
def execBridgeOutputEvent (s : State) : Host.Outcome State Fault Refusal :=
  act (fun c => match splitFirst isOutputEvent c.bridge.inbox with
    | some ((edge, .event e _), rest) => ({ c with bridge := { c.bridge with inbox := rest } } : Chip).outputEvent edge e
    | _ => c) s

/-! ## BAR2 and the expert window (R282, R285, R286, R302) -/

/-- The expert window is open. -/
def Chip.expertOpen (c : Chip) : Bool := bit c.fw.agreed 17 && c.on Reg.HIF_EXP_STAT_OPEN

/-- A denied access is counted; a read shows zeros. -/
def Chip.denied (c : Chip) (n : Nat) (w : Option (List Byte)) : Chip :=
  let c := c.bump Reg.HIF_EXP_DENY_COUNT
  match w with
  | none => c.emit (.readData (List.replicate n 0) false)
  | some _ => c

/-- AER logs a Completer Abort (R282). -/
def Chip.aerLog (c : Chip) : Chip := { c with host := { c.host with aer := true } }

/-- An access that is served; `off` is its offset in its BAR. -/
def Chip.hostServe (c : Chip) (off a n : Nat) (w : Option (List Byte)) : Chip :=
  match w with
  | none =>
    let r := c.busRead whoHost a n
    if r.2.1 = OK then r.1.emit (.readData r.2.2 false) else (r.1.aerLog.hifError off).emit (.readData [] true)
  | some bs =>
    let r := c.busWrite whoHost a bs
    if r.2 = OK then r.1 else r.1.hifError off

/-- An access to register space through a window of the host. -/
def Chip.expertAccess (c : Chip) (off a n : Nat) (w : Option (List Byte)) : Chip :=
  if c.expertOpen = false ∨ (w.isSome ∧ protectedAt a) then c.denied n w else c.hostServe off a n w

/-- EXPERT_WINDOW_ACCESS (R302): `n` bytes at an offset of the window; a write brings its bytes. -/
def execExpertWindowAccess (off : BitVec 24) (n : BitVec 13) (w : Option (List Byte)) (s : State) : Host.Outcome State Fault Refusal :=
  act (fun c =>
    let c := c.tlp
    c.expertAccess (0x1000000 + off.toNat) (0x2000000000 + c.get Reg.HIF_EXP_SEL_PAGE * 0x1000000 + off.toNat) n.toNat w) s

/-- BAR2_ACCESS (R285, R286, R356): `n` bytes at an offset of BAR2; a write brings its bytes. -/
def execBar2Access (off : BitVec 32) (n : BitVec 13) (w : Option (List Byte)) (s : State) : Host.Outcome State Fault Refusal :=
  act (fun c =>
    let c := c.tlp
    let o := off.toNat
    let a := c.get Reg.HIF_BAR2_SEL_SEL * 2 ^ 32 + o
    if c.get Reg.BOOT_STAT_PHASE = 8 ∧ o < 0x200000 then
      match w with
      | none => c.emit (.readData (c.rdBytes (hcuMem o) n.toNat) false)
      | some bs => c.wrBytes (hcuMem o) (bs.take (0x200000 - o))
    else if 0x2000000000 ≤ a ∧ a < 0x2002000000 then c.expertAccess o a n.toNat w
    else if w.isSome ∧ ((oasisBase ≤ a ∧ a < oasisBase + 0x400000) ∨ (flashBase ≤ a ∧ a < flashBase + 0x20000000)) then c.denied n.toNat w
    else c.hostServe o a n.toNat w) s

/-! ## Function-level reset -/

/-- Registers of the HIF_, MBX_ and RING_ blocks; the status page keeps what firmware shows there (R293). -/
def inHostBlocks (a : Nat) : Bool :=
  (0xC0000 ≤ a && a < 0xF0000) || (0x2000000 ≤ a && a < 0x3000000 && a != Reg.HIF_MAGIC && a != Reg.HIF_FWSTATE && a != Reg.HIF_FWEPOCH)

/-- FUNCTION_LEVEL_RESET (R318 and the crossing of chapter 12): an FLR, or the link down. What AER has logged is sticky, as PCI
Express defines it (log 156). -/
def execFunctionLevelReset (s : State) : Host.Outcome State Fault Refusal :=
  act (fun c =>
    let c := c.fw.ops.foldl (fun c o => c.opRelease o PARTIAL) c
    let c := { c.dropRegs inHostBlocks with host := { HostSt.init with aer := c.host.aer }, mem := c.mem.clear (msixMem 0) 0x400 }
    { c with
      fw := { c.fw with nqBase := 0, broken := [], pauses := c.fw.pauses.map (fun p => { p with origin := none }) },
      dune := { c.dune with origin := .internal },
      ports := c.ports.map (fun p => (p.1, { p.2 with ctrl := p.2.ctrl.map (fun x => { x with origin := .internal }) })) }) s

/-! ## Writes to BAR0 and to registers with no row of their own (R6, R282, R284) -/

/-- A vector's control word: a message that waited is sent once its mask is clear (R287). -/
def Chip.msixWrite (c : Chip) (o : Nat) (v : Word) : Chip :=
  let c := c.wrMem (msixMem o) 4 (if o % 16 = 12 then v ^^^ 1#32 else v).toNat
  let n := o / 16
  if o % 16 = 12 ∧ v.getLsbD 0 = false ∧ c.host.msixPend.getLsbD n then
    ({ c with host := { c.host with msixPend := c.host.msixPend &&& ~~~ (1#64 <<< n) } } : Chip).msix n
  else c

/-- The function mask: messages that waited are sent once neither mask holds them (R287). -/
def Chip.setFnMask (c : Chip) (on : Bool) : Chip :=
  let c : Chip := { c with host := { c.host with fnMask := on } }
  (List.range 64).foldl (fun c n =>
    if c.host.msixPend.getLsbD n && !c.msixMasked n then
      ({ c with host := { c.host with msixPend := c.host.msixPend &&& ~~~ (1#64 <<< n) } } : Chip).msix n
    else c) c

/-- The model's numbers of the registers of configuration space (log 156): MSI-X Message Control, Device Control 2, Power
Management Control, AER Uncorrectable Error Status, and the identity of R280. -/
def cfgBase : Nat := 0x3000000

/-- A write to configuration space (R280, R281, R287): the function mask in bit 14, the completion timeout, D0 or D3hot
and PME_En, a Completer Abort cleared by writing 1 to its bit. -/
def Chip.configWrite (c : Chip) (o : Nat) (v : Word) : Chip :=
  let c := c.tlp
  if o = 0 then c.setFnMask (v.getLsbD 14)
  else if o = 4 then { c with host := { c.host with devctl2 := v.setWidth 16 } }
  else if o = 8 then
    let pm := if wbits v 1 0 = 0 ∨ wbits v 1 0 = 3 then wbits v 1 0 else c.host.pm
    { c with host := { c.host with pm := pm, pmeEn := v.getLsbD 8 } }
  else if o = 12 ∧ v.getLsbD 15 then { c with host := { c.host with aer := false } }
  else c

/-- What a word of configuration space shows (R280): besides the four above, vendor identifier and Device ID of the variant, class
code 0x12_0000. -/
def Chip.configWord (c : Chip) (o : Nat) : Word :=
  if o = 0 then wset 63#32 14 14 c.host.fnMask.toNat
  else if o = 4 then c.host.devctl2.setWidth 32
  else if o = 8 then wset (BitVec.ofNat 32 c.host.pm) 8 8 c.host.pmeEn.toNat
  else if o = 12 then wset 0 15 15 c.host.aer.toNat
  else if o = 16 then BitVec.ofNat 32 (Config.vendorId.toNat + c.partNumber * 2 ^ 16)
  else if o = 20 then BitVec.ofNat 32 (0x120000 * 2 ^ 8)
  else 0

/-- The completion timeout of reads of host memory in ms (R281): 50 where Device Control 2 programs none, else what PCI Express
defines for its ranges (the longer bound of each). -/
def Chip.hostTimeout (c : Chip) : Nat :=
  match c.host.devctl2.toNat % 16 with
  | 1 => 1
  | 2 => 10
  | 5 => 55
  | 6 => 210
  | 9 => 900
  | 10 => 3500
  | 13 => 13000
  | 14 => 64000
  | _ => 50

/-- The word of BAR0 at `o` as the host sees it (R284, R289, R293): the status page shows variant and stepping from the fuses and
RING_CQ_DROP of each ring; the MSI-X table and the pending bits follow its registers; reserved offsets and the doorbells read 0. -/
def Chip.bar0Word (c : Chip) (o : Nat) : Word :=
  if o < 0x1000 then BitVec.ofNat 32 (c.rdMem (mbxMem 0 o) 4)
  else if o < 0x2000 then 0
  else if o = 0x2004 then wset (wset (c.rd Reg.HIF_FWSTATE) 11 8 c.variant) 19 12 (c.get Reg.FUSE_STEPPING_STEP)
  else if 0x2100 ≤ o ∧ o < 0x2300 ∧ o % 8 = 4 then c.rd (Reg.RING_CQ_DROP ((o - 0x2100) / 8))
  else if 0x4000 ≤ o ∧ o < 0x4400 then
    let w := BitVec.ofNat 32 (c.rdMem (msixMem (o - 0x4000)) 4)
    if o % 16 = 12 then w ^^^ 1#32 else w
  else if o = 0x5000 then c.host.msixPend.extractLsb' 0 32
  else if o = 0x5004 then c.host.msixPend.extractLsb' 32 32
  else if (Reg.row? (0x2000000 + o)).isSome then c.rd (0x2000000 + o)
  else 0

/-- The doorbell page. -/
def Chip.doorbellWrite (c : Chip) (o : Nat) (v : Word) : Chip :=
  let x := wbits v 15 0
  if o = 0x1000 then c.mbxPost x
  else if o = 0x1004 then c.mbxRelease x
  else if o = 0x1008 then c.nqDoorbell x
  else if 0x1100 ≤ o ∧ o < 0x1300 then (if o % 8 = 0 then c.sqDoorbell ((o - 0x1100) / 8) x else c.cqDoorbell ((o - 0x1100) / 8) x)
  else c.hifError o

/-- The host writes a word at BAR0 offset `o`. -/
def Chip.bar0Write (c : Chip) (o : Nat) (v : Word) : Chip :=
  let c := c.tlp
  if o < 0x1000 then
    if c.mbxState (o / 0x100) = 1 then c.bump Reg.MBX_VIOL_COUNT else c.wrMem (mbxMem 0 o) 4 v.toNat
  else if o < 0x2000 then c.doorbellWrite o v
  else if o = 0x3040 then (if v.getLsbD 0 then c.recoveryGo else c)
  else if 0x4000 ≤ o ∧ o < 0x4400 then c.msixWrite (o - 0x4000) v
  else if 0x5000 ≤ o ∧ o < 0x5008 then c
  else if (Reg.row? (0x2000000 + o)).isSome then c.typedWrite (0x2000000 + o) v
  else c.hifError o

/-- REGISTER_WRITE (R6): master `who` writes a word to the register that the model's map numbers `a`: registers of BAR0 by the
host, configuration space (log 156), core registers in an open core window, chip registers of units the variant has. Any other write
is an error response to the master (R18, R255, R475). -/
def execRegisterWrite (who : BitVec 4) (a v : Word) (s : State) : Host.Outcome State Fault Refusal :=
  act (fun c =>
    let a := a.toNat
    let who := who.toNat
    if 0x2000000 ≤ a ∧ a < 0x3000000 then (if a % 4 = 0 then c.bar0Write (a - 0x2000000) v else c)
    else if cfgBase ≤ a ∧ a < cfgBase + 16 ∧ a % 4 = 0 then c.configWrite (a - cfgBase) v
    else if 0x10000000 ≤ a then
      let slot := (a - 0x10000000) / 0x10000
      if slot = bridgeSlot then c.coreRegWrite slot (a % 0x10000) v who
      else
        let at_ := c.slotWindow slot (regsOff + a % 0x10000)
        (c.slotServe slot who at_ 4 (fun c =>
          if a % 4 = 0 then served (c.coreRegWrite slot (a % 0x10000) v who) else c.busError who 5 at_ 4 ERR_RESOURCE)).1
    else (c.busOne who (0x2000000000 + a) 4 (some (natToBytes 4 v.toNat))).1) s

end Sys2Proof.Machine
end

