-- ==== Sys2Proof/Machine/Tick.lean ====
section
/-! DEFINITION. What the passing of time alone does, on an empty queue (log 16): the chip time base (R23, R382) with its slew
(R338), OAS_RTC (R399), the counters of clock cycles (CORE_CYCLE, the sources CYCLES and TICKS of R427), prescaler phases
(R74), the landing of what TMR_CH_CMD asked for (R76), and the entry to and the wake from Lookout that only waited (R391, R396). Everything else that comes with time is a
row of the table. -/

namespace Sys2Proof.Machine

/-- OAS_RTC counts one tick (R399): 48 bits in two registers. -/
def Chip.rtcTick (c : Chip) : Chip :=
  let n := c.get Reg.OAS_RTC_LO_TICKS + c.get Reg.OAS_RTC_HI_TICKS * 2 ^ 32 + 1
  (c.put Reg.OAS_RTC_LO_TICKS n).put Reg.OAS_RTC_HI_TICKS (n / 2 ^ 32)

/-- OAS_RTC over `d` units of 2.5 ns: one tick of 32.768 kHz is 390625 / 32 of them. -/
def Chip.rtcPass (c : Chip) (d : Nat) : Chip :=
  let p := c.power.rtcPhase + 32 * d
  let c : Chip := { c with power := { c.power with rtcPhase := p % 390625 } }
  if p < 390625 then c else c.rtcTick

/-- Whole cycles that fall between chip time `t` and `t + d`, of a clock with `n` / 64 cycles to 2.5 ns. -/
def cyclesIn (n t d : Nat) : Nat := (t + d) * n / 64 - t * n / 64

/-- The switch of domain `d` stands on its PLL clocks (R380). -/
def Chip.pllSel (c : Chip) (d : Nat) : Bool :=
  c.get ⟨if d < 32 then Reg.CLK_SEL_LO else if d < 64 then Reg.CLK_SEL_MID else Reg.CLK_SEL_HI, d % 32, d % 32⟩ == 1

/-- The sixteenths of its CCLK that a cluster runs (R320, R404: the smaller fraction applies). -/
def Chip.sixteenths (c : Chip) (k : Nat) : Nat := min c.power.cap.sixteenths (if c.power.derated.contains k then 8 else 16)

/-- CCLK and NCLK of a cluster, HCLK of what is not gated, in 64ths of a cycle to 2.5 ns (R378, R379). -/
def Chip.cclk (c : Chip) (k : Nat) : Nat := (if c.pllSel k then 12 else 1) * c.sixteenths k
def Chip.nclk (c : Chip) (k : Nat) : Nat := if c.pllSel k then 256 else 16
def Chip.hclk (c : Chip) : Nat := if c.on Reg.CLK_STAT_LOCK then 128 else 16

/-- A counter with a source that time alone drives (R427): CYCLES of its own clock, TICKS of the time base, and the cycles through
which a state `during` names lasts. -/
def Chip.pmonTick (c : Chip) (b clk t d : Nat) (during : Nat → Bool) (chipNo : Option Nat) : Chip :=
  if c.pmonOn b 1 then c.pmonAdd b (cyclesIn clk t d) chipNo
  else if c.pmonOn b 2 then c.pmonAdd b d chipNo
  else if c.on (Reg.PMON_CFG_EN b) ∧ during (c.get (Reg.PMON_CFG_SRC b)) then c.pmonAdd b (cyclesIn clk t d) chipNo
  else c

/-- The states of slot `s` whose cycles a counter counts (R427): MX_BUSY, MX_DUNE, SEQ_STALL, INQ_FULL. -/
def Chip.coreDuring (c : Chip) (s src : Nat) : Bool :=
  let k := c.core s
  (src == 0x1B && !k.slice && (k.mx.isSome || k.group.isSome || !k.banks.isEmpty)) || (src == 0x1C && k.slice) ||
    (src == 0x21 && c.seqState s == 2) || (src == 0x26 && !k.inRoom)

/-- The state of router `k` whose cycles a counter counts: OUT_WAIT. -/
def Chip.routerDuring (c : Chip) (k src : Nat) : Bool := src == 0x44 && c.outWaits k

/-- CORE_CYCLE counts CCLK cycles in RUNNING and WAITING (R158). -/
def Chip.coreCycleTick (c : Chip) (s t d : Nat) : Chip :=
  if c.seqState s = 1 ∨ c.seqState s = 2 then
    c.put (Reg.CORE_CYCLE_COUNT s) (c.get (Reg.CORE_CYCLE_COUNT s) + cyclesIn (c.cclk (s / 32)) t d)
  else c

/-- The prescaler phase of a running channel goes up to DIV_M1, where TIMER_STEP is due (R74). DEDUCED (log 134): it counts the
cycles of the clock that drives the block, one a tick also without PLL lock. -/
def Chip.phaseTick (c : Chip) (k : Nat) : Chip :=
  if c.on (Reg.TMR_CH_STAT_RUN k) ∧ c.unitHeld 69 = false then
    c.modChan k (fun x => { x with phase := BitVec.ofNat 16 (min (x.phase.toNat + 1) (c.get (Reg.TMR_CH_DIV_DIV_M1 k))) })
  else c

/-- What `d` units of 2.5 ns from chip time `t` do to the register at `a`. -/
def Chip.regTick (c : Chip) (t d a : Nat) : Chip :=
  let o := a % 0x10000
  let k := (a - 0x10000000) / 0x10000
  if 0x10000000 ≤ a then
    if c.clusterOn (k / 32) = false then c
    else if o = 4 then c.coreCycleTick k t d
    else if 0x7800 ≤ o ∧ o < 0x7880 ∧ o % 0x20 = 0 then c.pmonTick a (c.cclk (k / 32)) t d (c.coreDuring k) none
    else c
  else if 0x1000000 ≤ a ∧ a < 0x1400000 then
    let r := (a - 0x1000000) / 0x10000
    if 0x100 ≤ o ∧ o < 0x180 ∧ o % 0x20 = 0 ∧ c.clusterOn r = true then c.pmonTick a (c.nclk r) t d (c.routerDuring r) none else c
  else if 0x151000 ≤ a ∧ a < 0x153000 ∧ a % 0x20 = 0x14 then c.phaseTick ((a - 0x151000) / 0x20)
  else if 0x100100 ≤ a ∧ a < 0x100500 ∧ a % 0x20 = 0 then c.pmonTick a c.hclk t d (fun _ => false) (some ((a - 0x100100) / 0x20))
  else c

/-- How far the time base goes in one tick of its clock, slewed by at most one tick in 1000 towards the time master, and never
back (R338). -/
def Chip.timeTick (c : Chip) (d : Nat) : Chip :=
  let g := c.sync.gap + d
  if c.sync.slew = 0 ∨ g < 1000 then
    { c with time := c.time + BitVec.ofNat 48 d, sync := { c.sync with gap := min g 1000 } }
  else if 0 < c.sync.slew then
    { c with time := c.time + BitVec.ofNat 48 (d + 1), sync := { c.sync with slew := c.sync.slew - 1, gap := 0 } }
  else
    { c with time := c.time + BitVec.ofNat 48 (d - 1), sync := { c.sync with slew := c.sync.slew + 1, gap := 0 } }

/-- One tick of the block (log 16): none without a supply; one of the 32.768 kHz crystal where nothing else runs, in RETAIN,
in a chip reset and in Lookout; else one of the time base, TCLK where the PLL is locked and FCLK, four units, where it is not. -/
def Chip.tick (c : Chip) : Chip :=
  if c.power.supply = 2 then c
  else if c.power.supply = 1 ∨ c.power.inReset = true then c.rtcTick
  else if c.inLookout then
    ({ c.rtcTick with power := { c.rtcTick.power with lko := { c.power.lko with ticks := c.power.lko.ticks + 1 } } } : Chip).wakeIfDue
  else
    let d := c.tickUnit
    let c := c.regs.foldl (fun x r => x.regTick c.time.toNat d r.1) c
    let c := (c.timeTick d).rtcPass d
    (whileRuns 69 (fun c => c.chans.foldl (fun c k => c.landCmds k.1) c) c).lkoEntryDue

end Sys2Proof.Machine
end

