-- ==== Sys2Proof/Machine/Dispatch.lean ====
section
/-! DEFINITION. The meaning of each command: one arm for each constructor of Instr, in Syntax.lean's order. -/

namespace Sys2Proof.Machine

/-- The effect of a command on everything but the queue. -/
def exec (i : Instr) (s : State) : Host.Outcome State Fault Refusal :=
  match i with
  | .powerGoodRise vbat => Sys2Proof.Machine.execPowerGoodRise vbat s
  | .resetRelease straps => Sys2Proof.Machine.execResetRelease straps s
  | .bootRecGo go => Sys2Proof.Machine.execBootRecGo go s
  | .dramTraining ok fellBack => Sys2Proof.Machine.execDramTraining ok fellBack s
  | .quickTest k routerOk bad => Sys2Proof.Machine.execQuickTest k routerOk bad s
  | .fullStart routers bad => Sys2Proof.Machine.execFullStart routers bad s
  | .refclkLoss refLost => Sys2Proof.Machine.execRefclkLoss refLost s
  | .pwrVoteSet d v => Sys2Proof.Machine.execPwrVoteSet d v s
  | .pwrVoteClr d v => Sys2Proof.Machine.execPwrVoteClr d v s
  | .domainRampDone d => Sys2Proof.Machine.execDomainRampDone d s
  | .domainHystExpiry d => Sys2Proof.Machine.execDomainHystExpiry d s
  | .lookoutPeriod frames pairs => Sys2Proof.Machine.execLookoutPeriod frames pairs s
  | .mainSupplyLoss vbat => Sys2Proof.Machine.execMainSupplyLoss vbat s
  | .batteryProbe vbat => Sys2Proof.Machine.execBatteryProbe vbat s
  | .thermalSample d t => Sys2Proof.Machine.execThermalSample d t s
  | .clPortBringup p => Sys2Proof.Machine.execClPortBringup p s
  | .clockRecoveryLock p => Sys2Proof.Machine.execClockRecoveryLock p s
  | .signalTimeout p => Sys2Proof.Machine.execSignalTimeout p s
  | .alignDone p reversed => Sys2Proof.Machine.execAlignDone p reversed s
  | .alignTimeout p => Sys2Proof.Machine.execAlignTimeout p s
  | .idRequestRetry p => Sys2Proof.Machine.execIdRequestRetry p s
  | .idReply p f sof => Sys2Proof.Machine.execIdReply p f sof s
  | .portRearm p => Sys2Proof.Machine.execPortRearm p s
  | .clPortCmdRebring p => Sys2Proof.Machine.execClPortCmdRebring p s
  | .telemetryFrame p f sof => Sys2Proof.Machine.execTelemetryFrame p f sof s
  | .edgeFrame p f sof => Sys2Proof.Machine.execEdgeFrame p f sof s
  | .alarmFrame p f sof => Sys2Proof.Machine.execAlarmFrame p f sof s
  | .ackFrame p f sof => Sys2Proof.Machine.execAckFrame p f sof s
  | .wakeFrame p f sof => Sys2Proof.Machine.execWakeFrame p f sof s
  | .engineSlot slot => Sys2Proof.Machine.execEngineSlot slot s
  | .controlRetry p => Sys2Proof.Machine.execControlRetry p s
  | .controlExchangeFail p => Sys2Proof.Machine.execControlExchangeFail p s
  | .clPortCmdPause p => Sys2Proof.Machine.execClPortCmdPause p s
  | .portPauseEffect p => Sys2Proof.Machine.execPortPauseEffect p s
  | .clPauseExpiry p => Sys2Proof.Machine.execClPauseExpiry p s
  | .clPortCmdResume p => Sys2Proof.Machine.execClPortCmdResume p s
  | .wakePattern p => Sys2Proof.Machine.execWakePattern p s
  | .clWiringFault p kind => Sys2Proof.Machine.execClWiringFault p kind s
  | .timerStep k => Sys2Proof.Machine.execTimerStep k s
  | .linkAction k => Sys2Proof.Machine.execLinkAction k s
  | .tmrChCmdStart k => Sys2Proof.Machine.execTmrChCmdStart k s
  | .tmrChCmdStop k => Sys2Proof.Machine.execTmrChCmdStop k s
  | .tmrChCmdReset k => Sys2Proof.Machine.execTmrChCmdReset k s
  | .tmrChCfgWrite k v => Sys2Proof.Machine.execTmrChCfgWrite k v s
  | .capture k rising => Sys2Proof.Machine.execCapture k rising s
  | .capChValCountRead k => Sys2Proof.Machine.execCapChValCountRead k s
  | .capChCmdPop k => Sys2Proof.Machine.execCapChCmdPop k s
  | .capChCfgWrite k v => Sys2Proof.Machine.execCapChCfgWrite k v s
  | .pairFault n kind => Sys2Proof.Machine.execPairFault n kind s
  | .pairFaultRelease n level => Sys2Proof.Machine.execPairFaultRelease n level s
  | .capPairEnable n => Sys2Proof.Machine.execCapPairEnable n s
  | .polarityCheckEnd n o => Sys2Proof.Machine.execPolarityCheckEnd n o s
  | .eventHop k input => Sys2Proof.Machine.execEventHop k input s
  | .packetHop k input cls => Sys2Proof.Machine.execPacketHop k input cls s
  | .eventDeliver k port => Sys2Proof.Machine.execEventDeliver k port s
  | .packetDeliver k port cls => Sys2Proof.Machine.execPacketDeliver k port cls s
  | .memrspArrive core => Sys2Proof.Machine.execMemrspArrive core s
  | .requestTimeout core tag => Sys2Proof.Machine.execRequestTimeout core tag s
  | .niMapCtrlSwap k epoch => Sys2Proof.Machine.execNiMapCtrlSwap k epoch s
  | .niMapBcastSwap epoch => Sys2Proof.Machine.execNiMapBcastSwap epoch s
  | .mapDrainDone k => Sys2Proof.Machine.execMapDrainDone k s
  | .groupForm core => Sys2Proof.Machine.execGroupForm core s
  | .neuronPass core => Sys2Proof.Machine.execNeuronPass core s
  | .emitTimeout core => Sys2Proof.Machine.execEmitTimeout core s
  | .outputQueueInject core => Sys2Proof.Machine.execOutputQueueInject core s
  | .scrubTouch core => Sys2Proof.Machine.execScrubTouch core s
  | .denseWriteback core => Sys2Proof.Machine.execDenseWriteback core s
  | .add j d a b => Sys2Proof.Machine.execAdd j d a b s
  | .sub j d a b => Sys2Proof.Machine.execSub j d a b s
  | .and j d a b => Sys2Proof.Machine.execAnd j d a b s
  | .or j d a b => Sys2Proof.Machine.execOr j d a b s
  | .xor j d a b => Sys2Proof.Machine.execXor j d a b s
  | .sll j d a b => Sys2Proof.Machine.execSll j d a b s
  | .srl j d a b => Sys2Proof.Machine.execSrl j d a b s
  | .sra j d a b => Sys2Proof.Machine.execSra j d a b s
  | .slt j d a b => Sys2Proof.Machine.execSlt j d a b s
  | .sltu j d a b => Sys2Proof.Machine.execSltu j d a b s
  | .mul j d a b => Sys2Proof.Machine.execMul j d a b s
  | .mulh j d a b => Sys2Proof.Machine.execMulh j d a b s
  | .mulhu j d a b => Sys2Proof.Machine.execMulhu j d a b s
  | .min j d a b => Sys2Proof.Machine.execMin j d a b s
  | .max j d a b => Sys2Proof.Machine.execMax j d a b s
  | .addi j d a imm => Sys2Proof.Machine.execAddi j d a imm s
  | .andi j d a imm => Sys2Proof.Machine.execAndi j d a imm s
  | .ori j d a imm => Sys2Proof.Machine.execOri j d a imm s
  | .xori j d a imm => Sys2Proof.Machine.execXori j d a imm s
  | .shifti j d a imm => Sys2Proof.Machine.execShifti j d a imm s
  | .slti j d a imm => Sys2Proof.Machine.execSlti j d a imm s
  | .lui j d a imm => Sys2Proof.Machine.execLui j d a imm s
  | .time j d a imm => Sys2Proof.Machine.execTime j d a imm s
  | .lb j d a imm => Sys2Proof.Machine.execLb j d a imm s
  | .lbu j d a imm => Sys2Proof.Machine.execLbu j d a imm s
  | .lh j d a imm => Sys2Proof.Machine.execLh j d a imm s
  | .lhu j d a imm => Sys2Proof.Machine.execLhu j d a imm s
  | .lw j d a imm => Sys2Proof.Machine.execLw j d a imm s
  | .sb j d a imm => Sys2Proof.Machine.execSb j d a imm s
  | .sh j d a imm => Sys2Proof.Machine.execSh j d a imm s
  | .sw j d a imm => Sys2Proof.Machine.execSw j d a imm s
  | .beq j d a imm => Sys2Proof.Machine.execBeq j d a imm s
  | .bne j d a imm => Sys2Proof.Machine.execBne j d a imm s
  | .blt j d a imm => Sys2Proof.Machine.execBlt j d a imm s
  | .bge j d a imm => Sys2Proof.Machine.execBge j d a imm s
  | .bltu j d a imm => Sys2Proof.Machine.execBltu j d a imm s
  | .bgeu j d a imm => Sys2Proof.Machine.execBgeu j d a imm s
  | .jal j d a imm => Sys2Proof.Machine.execJal j d a imm s
  | .jalr j d a imm => Sys2Proof.Machine.execJalr j d a imm s
  | .rld j d a b f => Sys2Proof.Machine.execRld j d a b f s
  | .rst j d a b f => Sys2Proof.Machine.execRst j d a b f s
  | .mfence j rest => Sys2Proof.Machine.execMfence j rest s
  | .send j d a b f => Sys2Proof.Machine.execSend j d a b f s
  | .trysend j d a b f => Sys2Proof.Machine.execTrysend j d a b f s
  | .recv j d a b f => Sys2Proof.Machine.execRecv j d a b f s
  | .warm j d a b f => Sys2Proof.Machine.execWarm j d a b f s
  | .sop j d a b f => Sys2Proof.Machine.execSop j d a b f s
  | .swait j d a b f => Sys2Proof.Machine.execSwait j d a b f s
  | .wfe j d a b f => Sys2Proof.Machine.execWfe j d a b f s
  | .mxpass j d a b f => Sys2Proof.Machine.execMxpass j d a b f s
  | .mxwait j rest => Sys2Proof.Machine.execMxwait j rest s
  | .evsend j d a b f => Sys2Proof.Machine.execEvsend j d a b f s
  | .nehold j d a b f => Sys2Proof.Machine.execNehold j d a b f s
  | .neholdRelease j d a b f => Sys2Proof.Machine.execNeholdRelease j d a b f s
  | .halt j d a imm => Sys2Proof.Machine.execHalt j d a imm s
  | .eret j rest => Sys2Proof.Machine.execEret j rest s
  | .brk j d a imm => Sys2Proof.Machine.execBrk j d a imm s
  | .exceptionEntry j => Sys2Proof.Machine.execExceptionEntry j s
  | .coreCtrlRun core => Sys2Proof.Machine.execCoreCtrlRun core s
  | .coreCtrlHalt core => Sys2Proof.Machine.execCoreCtrlHalt core s
  | .driftEntry core => Sys2Proof.Machine.execDriftEntry core s
  | .rQueueWord core => Sys2Proof.Machine.execRQueueWord core s
  | .wadiTupleArrive core => Sys2Proof.Machine.execWadiTupleArrive core s
  | .wcredit core => Sys2Proof.Machine.execWcredit core s
  | .syncPacket core => Sys2Proof.Machine.execSyncPacket core s
  | .syncValueWrite core j v => Sys2Proof.Machine.execSyncValueWrite core j v s
  | .syncAddWrite core j v => Sys2Proof.Machine.execSyncAddWrite core j v s
  | .syncArriveWrite core j v => Sys2Proof.Machine.execSyncArriveWrite core j v s
  | .syncAlarmWrite core j v => Sys2Proof.Machine.execSyncAlarmWrite core j v s
  | .syncAlarmExpiry core j => Sys2Proof.Machine.execSyncAlarmExpiry core j s
  | .wadiSportCfgWrite core port v => Sys2Proof.Machine.execWadiSportCfgWrite core port v s
  | .duneRun o h args => Sys2Proof.Machine.execDuneRun o h args s
  | .duneStop o h args => Sys2Proof.Machine.execDuneStop o h args s
  | .duneSliceStart j => Sys2Proof.Machine.execDuneSliceStart j s
  | .duneSliceEnd j => Sys2Proof.Machine.execDuneSliceEnd j s
  | .duneExchange msg => Sys2Proof.Machine.execDuneExchange msg s
  | .crossbarAccess port a n w => Sys2Proof.Machine.execCrossbarAccess port a n w s
  | .xbarDmaCommit e => Sys2Proof.Machine.execXbarDmaCommit e s
  | .dmaDescriptor e => Sys2Proof.Machine.execDmaDescriptor e s
  | .xbarDmaCtrlAbort e => Sys2Proof.Machine.execXbarDmaCtrlAbort e s
  | .ddrTrackPass ch => Sys2Proof.Machine.execDdrTrackPass ch s
  | .ddrRefreshChange ch mr4 doubled => Sys2Proof.Machine.execDdrRefreshChange ch mr4 doubled s
  | .ddrSetpointSwitch ch hot => Sys2Proof.Machine.execDdrSetpointSwitch ch hot s
  | .bwResWrite n v => Sys2Proof.Machine.execBwResWrite n v s
  | .bufPoolAlloc p port => Sys2Proof.Machine.execBufPoolAlloc p port s
  | .bufPoolWalloc p port => Sys2Proof.Machine.execBufPoolWalloc p port s
  | .bufFree h => Sys2Proof.Machine.execBufFree h s
  | .waiterTimeout p port => Sys2Proof.Machine.execWaiterTimeout p port s
  | .bufPoolCfgWrite p v => Sys2Proof.Machine.execBufPoolCfgWrite p v s
  | .mbxDb post => Sys2Proof.Machine.execMbxDb post s
  | .mbxRelease free => Sys2Proof.Machine.execMbxRelease free s
  | .mailboxTakeUp slot => Sys2Proof.Machine.execMailboxTakeUp slot s
  | .ringSqDb k tail => Sys2Proof.Machine.execRingSqDb k tail s
  | .ringCqDb k head => Sys2Proof.Machine.execRingCqDb k head s
  | .sqEntryTakeUp ring => Sys2Proof.Machine.execSqEntryTakeUp ring s
  | .cqHoldoffExpiry ring => Sys2Proof.Machine.execCqHoldoffExpiry ring s
  | .bar2Access off n w => Sys2Proof.Machine.execBar2Access off n w s
  | .expertWindowAccess off n w => Sys2Proof.Machine.execExpertWindowAccess off n w s
  | .hostReadTimeout o => Sys2Proof.Machine.execHostReadTimeout o s
  | .mbxNqDb head => Sys2Proof.Machine.execMbxNqDb head s
  | .hello o h args => Sys2Proof.Machine.execHello o h args s
  | .query o h args => Sys2Proof.Machine.execQuery o h args s
  | .logRead o h args => Sys2Proof.Machine.execLogRead o h args s
  | .ringCreate o h args => Sys2Proof.Machine.execRingCreate o h args s
  | .ringDestroy o h args => Sys2Proof.Machine.execRingDestroy o h args s
  | .partDefine o h args => Sys2Proof.Machine.execPartDefine o h args s
  | .jobLoad o h args => Sys2Proof.Machine.execJobLoad o h args s
  | .jobStart o h args => Sys2Proof.Machine.execJobStart o h args s
  | .jobStop o h args => Sys2Proof.Machine.execJobStop o h args s
  | .jobUnload o h args => Sys2Proof.Machine.execJobUnload o h args s
  | .writeWeights o h args => Sys2Proof.Machine.execWriteWeights o h args s
  | .readWeights o h args => Sys2Proof.Machine.execReadWeights o h args s
  | .pause o h args => Sys2Proof.Machine.execPause o h args s
  | .resume o h args => Sys2Proof.Machine.execResume o h args s
  | .pauseExpiry kind id => Sys2Proof.Machine.execPauseExpiry kind id s
  | .bwReserve o h args => Sys2Proof.Machine.execBwReserve o h args s
  | .powerCap o h args => Sys2Proof.Machine.execPowerCap o h args s
  | .clControl o h args => Sys2Proof.Machine.execClControl o h args s
  | .memTest o h args => Sys2Proof.Machine.execMemTest o h args s
  | .defectRemap o h args => Sys2Proof.Machine.execDefectRemap o h args s
  | .tripFire o h args => Sys2Proof.Machine.execTripFire o h args s
  | .tripRead o h args => Sys2Proof.Machine.execTripRead o h args s
  | .expertWindow o h args => Sys2Proof.Machine.execExpertWindow o h args s
  | .unknownCommand o h code args => Sys2Proof.Machine.execUnknownCommand o h code args s
  | .longOpStep bad => Sys2Proof.Machine.execLongOpStep bad s
  | .commandTimeout o => Sys2Proof.Machine.execCommandTimeout o s
  | .powerCapSample p => Sys2Proof.Machine.execPowerCapSample p s
  | .trainDone l lanes => Sys2Proof.Machine.execTrainDone l lanes s
  | .trainTimeout l => Sys2Proof.Machine.execTrainTimeout l s
  | .initBlock l b => Sys2Proof.Machine.execInitBlock l b s
  | .feryoFrame l seq flits crc => Sys2Proof.Machine.execFeryoFrame l seq flits crc s
  | .feryoAck l seq => Sys2Proof.Machine.execFeryoAck l seq s
  | .feryoNak l seq => Sys2Proof.Machine.execFeryoNak l seq s
  | .replayTimeout l => Sys2Proof.Machine.execReplayTimeout l s
  | .retrainTimeout l => Sys2Proof.Machine.execRetrainTimeout l s
  | .creditBlock l payload => Sys2Proof.Machine.execCreditBlock l payload s
  | .feryoSyncReceive l t => Sys2Proof.Machine.execFeryoSyncReceive l t s
  | .hbReceive l up sleep => Sys2Proof.Machine.execHbReceive l up sleep s
  | .hbMiss peer ports chans => Sys2Proof.Machine.execHbMiss peer ports chans s
  | .trainingPattern l => Sys2Proof.Machine.execTrainingPattern l s
  | .ferLinkCmdRebring l => Sys2Proof.Machine.execFerLinkCmdRebring l s
  | .ferXferCommit l => Sys2Proof.Machine.execFerXferCommit l s
  | .ferXferDone l => Sys2Proof.Machine.execFerXferDone l s
  | .rotationStep k => Sys2Proof.Machine.execRotationStep k s
  | .precopyRound dirty => Sys2Proof.Machine.execPrecopyRound dirty s
  | .rotationSlotTest pass kind => Sys2Proof.Machine.execRotationSlotTest pass kind s
  | .rstReq v => Sys2Proof.Machine.execRstReq v s
  | .sramUncorrectable p bonded => Sys2Proof.Machine.execSramUncorrectable p bonded s
  | .rstFenceCmd v => Sys2Proof.Machine.execRstFenceCmd v s
  | .pmonOverflow id => Sys2Proof.Machine.execPmonOverflow id s
  | .pmonClr id => Sys2Proof.Machine.execPmonClr id s
  | .pmonCntLoRead id => Sys2Proof.Machine.execPmonCntLoRead id s
  | .pmonSnapLoRead id => Sys2Proof.Machine.execPmonSnapLoRead id s
  | .extest captured loaded => Sys2Proof.Machine.execExtest captured loaded s
  | .samplePreload captured loaded => Sys2Proof.Machine.execSamplePreload captured loaded s
  | .unlockResp scope sig => Sys2Proof.Machine.execUnlockResp scope sig s
  | .coreSel j => Sys2Proof.Machine.execCoreSel j s
  | .coreReg reg write data => Sys2Proof.Machine.execCoreReg reg write data s
  | .brkpt v => Sys2Proof.Machine.execBrkpt v s
  | .mem addr size write go data => Sys2Proof.Machine.execMem addr size write go data s
  | .attach v => Sys2Proof.Machine.execAttach v s
  | .registerWrite who a v => Sys2Proof.Machine.execRegisterWrite who a v s
  | .lookoutSignalReturn p => Sys2Proof.Machine.execLookoutSignalReturn p s
  | .unknownControlBlock l kind => Sys2Proof.Machine.execUnknownControlBlock l kind s
  | .sysRstN => Sys2Proof.Machine.execSysRstN s
  | .vddCoreBrownout => Sys2Proof.Machine.execVddCoreBrownout s
  | .secureBoot => Sys2Proof.Machine.execSecureBoot s
  | .pllLock => Sys2Proof.Machine.execPllLock s
  | .autostart => Sys2Proof.Machine.execAutostart s
  | .lookoutEntry => Sys2Proof.Machine.execLookoutEntry s
  | .wakeN => Sys2Proof.Machine.execWakeN s
  | .lookoutTimer => Sys2Proof.Machine.execLookoutTimer s
  | .pcieWake => Sys2Proof.Machine.execPcieWake s
  | .lookoutRailBrownout => Sys2Proof.Machine.execLookoutRailBrownout s
  | .vbatLow => Sys2Proof.Machine.execVbatLow s
  | .oasisBrownout => Sys2Proof.Machine.execOasisBrownout s
  | .prechargeTimeout => Sys2Proof.Machine.execPrechargeTimeout s
  | .chargeTerminate => Sys2Proof.Machine.execChargeTerminate s
  | .chargeResume => Sys2Proof.Machine.execChargeResume s
  | .cellRemoved => Sys2Proof.Machine.execCellRemoved s
  | .cellReversed => Sys2Proof.Machine.execCellReversed s
  | .cellReversedClear => Sys2Proof.Machine.execCellReversedClear s
  | .syncFrameSend => Sys2Proof.Machine.execSyncFrameSend s
  | .drainLate => Sys2Proof.Machine.execDrainLate s
  | .duneSweepBoundary => Sys2Proof.Machine.execDuneSweepBoundary s
  | .duneDeadline => Sys2Proof.Machine.execDuneDeadline s
  | .duneCmdPause => Sys2Proof.Machine.execDuneCmdPause s
  | .duneCmdResume => Sys2Proof.Machine.execDuneCmdResume s
  | .duneCmdAbort => Sys2Proof.Machine.execDuneCmdAbort s
  | .dunePauseExpiry => Sys2Proof.Machine.execDunePauseExpiry s
  | .bridgeOutputEvent => Sys2Proof.Machine.execBridgeOutputEvent s
  | .functionLevelReset => Sys2Proof.Machine.execFunctionLevelReset s
  | .feryoSyncSend => Sys2Proof.Machine.execFeryoSyncSend s
  | .hbSend => Sys2Proof.Machine.execHbSend s
  | .feryoPostedWrite => Sys2Proof.Machine.execFeryoPostedWrite s
  | .rotationQuiesce => Sys2Proof.Machine.execRotationQuiesce s
  | .rotationFreeze => Sys2Proof.Machine.execRotationFreeze s
  | .rotationAbandon => Sys2Proof.Machine.execRotationAbandon s
  | .resetDrainDone => Sys2Proof.Machine.execResetDrainDone s
  | .drainTimeout => Sys2Proof.Machine.execDrainTimeout s
  | .absorbEnd => Sys2Proof.Machine.execAbsorbEnd s
  | .fenceSubstitution => Sys2Proof.Machine.execFenceSubstitution s
  | .rstHcuKick => Sys2Proof.Machine.execRstHcuKick s
  | .watchdogExpiry => Sys2Proof.Machine.execWatchdogExpiry s
  | .sandglassRecord => Sys2Proof.Machine.execSandglassRecord s
  | .tripIn => Sys2Proof.Machine.execTripIn s
  | .tripCtrlFire => Sys2Proof.Machine.execTripCtrlFire s
  | .tripCopyChunk => Sys2Proof.Machine.execTripCopyChunk s
  | .tripCopyDone => Sys2Proof.Machine.execTripCopyDone s
  | .tripCtrlRelease => Sys2Proof.Machine.execTripCtrlRelease s
  | .pmonCtrlArm => Sys2Proof.Machine.execPmonCtrlArm s
  | .snapshot => Sys2Proof.Machine.execSnapshot s
  | .tapReset => Sys2Proof.Machine.execTapReset s
  | .idcode => Sys2Proof.Machine.execIdcode s
  | .clamp => Sys2Proof.Machine.execClamp s
  | .highz => Sys2Proof.Machine.execHighz s
  | .bypass => Sys2Proof.Machine.execBypass s
  | .unlockChal => Sys2Proof.Machine.execUnlockChal s
  | .unlockStat => Sys2Proof.Machine.execUnlockStat s
  | .coreCmdEnable => Sys2Proof.Machine.execCoreCmdEnable s
  | .coreCmdDisable => Sys2Proof.Machine.execCoreCmdDisable s
  | .coreCmdHalt => Sys2Proof.Machine.execCoreCmdHalt s
  | .coreCmdRun => Sys2Proof.Machine.execCoreCmdRun s
  | .coreCmdStep => Sys2Proof.Machine.execCoreCmdStep s
  | .tapCoreStat => Sys2Proof.Machine.execTapCoreStat s
  | .sysreset => Sys2Proof.Machine.execSysreset s
  | .pwrGoodFall => Sys2Proof.Machine.execPwrGoodFall s
  | .refclkReturn => Sys2Proof.Machine.execRefclkReturn s
  | .hcuRestartDone => Sys2Proof.Machine.execHcuRestartDone s
  | .prechargeComplete => Sys2Proof.Machine.execPrechargeComplete s
  | .cvLimitReached => Sys2Proof.Machine.execCvLimitReached s

end Sys2Proof.Machine
end

