-- ==== Sys2Proof/WellFormed.lean ====
section
/-! DEFINITION. Which commands name things the block can have at all: a slot of a cluster, a power domain, a crossbar master, an
origin of a service, as many bytes as a length says. The meanings do not rest on it: they give every command an outcome. -/

namespace Sys2Proof

open Sys2Proof.Machine

/-- A physical core names slots 0 to 16 of its cluster (R10). -/
def PCore.wf (s : PCore) : Bool := s.toNat % 32 < 17

/-- A power domain (R383). -/
def domainWf (d : BitVec 7) : Bool := d.toNat < 70

/-- A crossbar master (R257). -/
def masterWf (p : BitVec 4) : Bool := p.toNat < 14

/-- One of the 16 mailbox slots (R289), one of the 64 rings with a TAG of 32 bits (R297). -/
def Origin.wf : Origin → Bool
  | .mailbox n => n < 16
  | .ring k tag => k < 64 && tag < 2 ^ 32
  | .internal => true

/-- The fields of the two headers at their widths (R288, R297). -/
def CmdHead.wf (h : CmdHead) : Bool := h.major < 2 ^ 8 && h.minor < 2 ^ 8 && h.flags < 2 ^ 16 && h.timeout < 2 ^ 32

/-- The 48 argument bytes of a service (R310). -/
def argsWf (args : List Byte) : Bool := args.length == 48

/-- The payload of a request (R288): HELLO lays out its own 32 bytes (R304), and a command that is not in the catalogue none. -/
def payloadWf (args : List Byte) : Bool := args.length ≤ 240

/-- Data written are as many bytes as the access says, and an access has bytes. -/
def dataWf (n : Nat) (w : Option (List Byte)) : Bool :=
  0 < n && match w with
    | some l => l.length == n
    | none => true

/-- The core of an event counter (R424). -/
def PmonId.wf : PmonId → Bool
  | .core s _ => PCore.wf s
  | .router _ _ => true
  | .chip _ => true

/-- A command is well formed. -/
def Instr.wf (i : Instr) : Bool :=
  match i with
  | .powerGoodRise _ => true
  | .resetRelease _ => true
  | .bootRecGo _ => true
  | .dramTraining _ _ => true
  | .quickTest _ _ bad => bad.all (fun p => p.1.toNat < 17)
  | .fullStart _ bad => bad.all (fun p => PCore.wf p.1)
  | .refclkLoss _ => true
  | .pwrVoteSet d _ => domainWf d
  | .pwrVoteClr d _ => domainWf d
  | .domainRampDone d => domainWf d
  | .domainHystExpiry d => domainWf d
  | .lookoutPeriod _ _ => true
  | .mainSupplyLoss _ => true
  | .batteryProbe _ => true
  | .thermalSample d _ => domainWf d
  | .clPortBringup _ => true
  | .clockRecoveryLock _ => true
  | .signalTimeout _ => true
  | .alignDone _ _ => true
  | .alignTimeout _ => true
  | .idRequestRetry _ => true
  | .idReply _ _ _ => true
  | .portRearm _ => true
  | .clPortCmdRebring _ => true
  | .telemetryFrame _ _ _ => true
  | .edgeFrame _ _ _ => true
  | .alarmFrame _ _ _ => true
  | .ackFrame _ _ _ => true
  | .wakeFrame _ _ _ => true
  | .engineSlot _ => true
  | .controlRetry _ => true
  | .controlExchangeFail _ => true
  | .clPortCmdPause _ => true
  | .portPauseEffect _ => true
  | .clPauseExpiry _ => true
  | .clPortCmdResume _ => true
  | .wakePattern _ => true
  | .clWiringFault _ _ => true
  | .timerStep _ => true
  | .linkAction _ => true
  | .tmrChCmdStart _ => true
  | .tmrChCmdStop _ => true
  | .tmrChCmdReset _ => true
  | .tmrChCfgWrite _ _ => true
  | .capture _ _ => true
  | .capChValCountRead _ => true
  | .capChCmdPop _ => true
  | .capChCfgWrite _ _ => true
  | .pairFault _ _ => true
  | .pairFaultRelease _ _ => true
  | .capPairEnable _ => true
  | .polarityCheckEnd _ _ => true
  | .eventHop _ _ => true
  | .packetHop _ _ _ => true
  | .eventDeliver _ _ => true
  | .packetDeliver _ _ _ => true
  | .memrspArrive core => PCore.wf core
  | .requestTimeout core _ => PCore.wf core
  | .niMapCtrlSwap _ _ => true
  | .niMapBcastSwap _ => true
  | .mapDrainDone _ => true
  | .groupForm core => PCore.wf core
  | .neuronPass core => PCore.wf core
  | .emitTimeout core => PCore.wf core
  | .outputQueueInject core => PCore.wf core
  | .scrubTouch core => PCore.wf core
  | .denseWriteback core => PCore.wf core
  | .add _ _ _ _ => true
  | .sub _ _ _ _ => true
  | .and _ _ _ _ => true
  | .or _ _ _ _ => true
  | .xor _ _ _ _ => true
  | .sll _ _ _ _ => true
  | .srl _ _ _ _ => true
  | .sra _ _ _ _ => true
  | .slt _ _ _ _ => true
  | .sltu _ _ _ _ => true
  | .mul _ _ _ _ => true
  | .mulh _ _ _ _ => true
  | .mulhu _ _ _ _ => true
  | .min _ _ _ _ => true
  | .max _ _ _ _ => true
  | .addi _ _ _ _ => true
  | .andi _ _ _ _ => true
  | .ori _ _ _ _ => true
  | .xori _ _ _ _ => true
  | .shifti _ _ _ _ => true
  | .slti _ _ _ _ => true
  | .lui _ _ _ _ => true
  | .time _ _ _ _ => true
  | .lb _ _ _ _ => true
  | .lbu _ _ _ _ => true
  | .lh _ _ _ _ => true
  | .lhu _ _ _ _ => true
  | .lw _ _ _ _ => true
  | .sb _ _ _ _ => true
  | .sh _ _ _ _ => true
  | .sw _ _ _ _ => true
  | .beq _ _ _ _ => true
  | .bne _ _ _ _ => true
  | .blt _ _ _ _ => true
  | .bge _ _ _ _ => true
  | .bltu _ _ _ _ => true
  | .bgeu _ _ _ _ => true
  | .jal _ _ _ _ => true
  | .jalr _ _ _ _ => true
  | .rld _ _ _ _ _ => true
  | .rst _ _ _ _ _ => true
  | .mfence _ _ => true
  | .send _ _ _ _ _ => true
  | .trysend _ _ _ _ _ => true
  | .recv _ _ _ _ _ => true
  | .warm _ _ _ _ _ => true
  | .sop _ _ _ _ _ => true
  | .swait _ _ _ _ _ => true
  | .wfe _ _ _ _ _ => true
  | .mxpass _ _ _ _ _ => true
  | .mxwait _ _ => true
  | .evsend _ _ _ _ _ => true
  | .nehold _ _ _ _ _ => true
  | .neholdRelease _ _ _ _ _ => true
  | .halt _ _ _ _ => true
  | .eret _ _ => true
  | .brk _ _ _ _ => true
  | .exceptionEntry _ => true
  | .coreCtrlRun core => PCore.wf core
  | .coreCtrlHalt core => PCore.wf core
  | .driftEntry core => PCore.wf core
  | .rQueueWord core => PCore.wf core
  | .wadiTupleArrive core => PCore.wf core
  | .wcredit core => PCore.wf core
  | .syncPacket core => PCore.wf core
  | .syncValueWrite core _ _ => PCore.wf core
  | .syncAddWrite core _ _ => PCore.wf core
  | .syncArriveWrite core _ _ => PCore.wf core
  | .syncAlarmWrite core _ _ => PCore.wf core
  | .syncAlarmExpiry core _ => PCore.wf core
  | .wadiSportCfgWrite core _ _ => PCore.wf core
  | .duneRun o h args => Origin.wf o && CmdHead.wf h && argsWf args
  | .duneStop o h args => Origin.wf o && CmdHead.wf h && argsWf args
  | .duneSliceStart _ => true
  | .duneSliceEnd _ => true
  | .duneExchange _ => true
  | .crossbarAccess port _ n w => masterWf port && dataWf n.toNat w
  | .xbarDmaCommit _ => true
  | .dmaDescriptor _ => true
  | .xbarDmaCtrlAbort _ => true
  | .ddrTrackPass _ => true
  | .ddrRefreshChange _ _ _ => true
  | .ddrSetpointSwitch _ _ => true
  | .bwResWrite _ _ => true
  | .bufPoolAlloc _ port => masterWf port
  | .bufPoolWalloc _ port => masterWf port
  | .bufFree _ => true
  | .waiterTimeout _ port => masterWf port
  | .bufPoolCfgWrite _ _ => true
  | .mbxDb _ => true
  | .mbxRelease _ => true
  | .mailboxTakeUp _ => true
  | .ringSqDb _ _ => true
  | .ringCqDb _ _ => true
  | .sqEntryTakeUp _ => true
  | .cqHoldoffExpiry _ => true
  | .bar2Access _ n w => dataWf n.toNat w
  | .expertWindowAccess _ n w => dataWf n.toNat w
  | .hostReadTimeout o => Origin.wf o
  | .mbxNqDb _ => true
  | .hello o h args => Origin.wf o && CmdHead.wf h && payloadWf args
  | .query o h args => Origin.wf o && CmdHead.wf h && argsWf args
  | .logRead o h args => Origin.wf o && CmdHead.wf h && argsWf args
  | .ringCreate o h args => Origin.wf o && CmdHead.wf h && argsWf args
  | .ringDestroy o h args => Origin.wf o && CmdHead.wf h && argsWf args
  | .partDefine o h args => Origin.wf o && CmdHead.wf h && argsWf args
  | .jobLoad o h args => Origin.wf o && CmdHead.wf h && argsWf args
  | .jobStart o h args => Origin.wf o && CmdHead.wf h && argsWf args
  | .jobStop o h args => Origin.wf o && CmdHead.wf h && argsWf args
  | .jobUnload o h args => Origin.wf o && CmdHead.wf h && argsWf args
  | .writeWeights o h args => Origin.wf o && CmdHead.wf h && argsWf args
  | .readWeights o h args => Origin.wf o && CmdHead.wf h && argsWf args
  | .pause o h args => Origin.wf o && CmdHead.wf h && argsWf args
  | .resume o h args => Origin.wf o && CmdHead.wf h && argsWf args
  | .pauseExpiry _ _ => true
  | .bwReserve o h args => Origin.wf o && CmdHead.wf h && argsWf args
  | .powerCap o h args => Origin.wf o && CmdHead.wf h && argsWf args
  | .clControl o h args => Origin.wf o && CmdHead.wf h && argsWf args
  | .memTest o h args => Origin.wf o && CmdHead.wf h && argsWf args
  | .defectRemap o h args => Origin.wf o && CmdHead.wf h && argsWf args
  | .tripFire o h args => Origin.wf o && CmdHead.wf h && argsWf args
  | .tripRead o h args => Origin.wf o && CmdHead.wf h && argsWf args
  | .expertWindow o h args => Origin.wf o && CmdHead.wf h && argsWf args
  | .unknownCommand o h _ args => Origin.wf o && CmdHead.wf h && payloadWf args
  | .longOpStep bad => bad.all (fun p => PCore.wf p.1)
  | .commandTimeout o => Origin.wf o
  | .powerCapSample _ => true
  | .trainDone _ _ => true
  | .trainTimeout _ => true
  | .initBlock _ _ => true
  | .feryoFrame _ _ _ _ => true
  | .feryoAck _ _ => true
  | .feryoNak _ _ => true
  | .replayTimeout _ => true
  | .retrainTimeout _ => true
  | .creditBlock _ _ => true
  | .feryoSyncReceive _ _ => true
  | .hbReceive _ _ _ => true
  | .hbMiss _ _ _ => true
  | .trainingPattern _ => true
  | .ferLinkCmdRebring _ => true
  | .ferXferCommit _ => true
  | .ferXferDone _ => true
  | .rotationStep _ => true
  | .precopyRound _ => true
  | .rotationSlotTest _ _ => true
  | .rstReq _ => true
  | .sramUncorrectable p _ => PCore.wf p
  | .rstFenceCmd _ => true
  | .pmonOverflow id => PmonId.wf id
  | .pmonClr id => PmonId.wf id
  | .pmonCntLoRead id => PmonId.wf id
  | .pmonSnapLoRead id => PmonId.wf id
  | .extest _ _ => true
  | .samplePreload _ _ => true
  | .unlockResp _ sig => sig.length == 96
  | .coreSel _ => true
  | .coreReg _ _ _ => true
  | .brkpt _ => true
  | .mem _ _ _ _ _ => true
  | .attach _ => true
  | .registerWrite _ _ _ => true
  | .lookoutSignalReturn _ => true
  | .unknownControlBlock _ _ => true
  | .sysRstN => true
  | .vddCoreBrownout => true
  | .secureBoot => true
  | .pllLock => true
  | .autostart => true
  | .lookoutEntry => true
  | .wakeN => true
  | .lookoutTimer => true
  | .pcieWake => true
  | .lookoutRailBrownout => true
  | .vbatLow => true
  | .oasisBrownout => true
  | .prechargeTimeout => true
  | .chargeTerminate => true
  | .chargeResume => true
  | .cellRemoved => true
  | .cellReversed => true
  | .cellReversedClear => true
  | .syncFrameSend => true
  | .drainLate => true
  | .duneSweepBoundary => true
  | .duneDeadline => true
  | .duneCmdPause => true
  | .duneCmdResume => true
  | .duneCmdAbort => true
  | .dunePauseExpiry => true
  | .bridgeOutputEvent => true
  | .functionLevelReset => true
  | .feryoSyncSend => true
  | .hbSend => true
  | .feryoPostedWrite => true
  | .rotationQuiesce => true
  | .rotationFreeze => true
  | .rotationAbandon => true
  | .resetDrainDone => true
  | .drainTimeout => true
  | .absorbEnd => true
  | .fenceSubstitution => true
  | .rstHcuKick => true
  | .watchdogExpiry => true
  | .sandglassRecord => true
  | .tripIn => true
  | .tripCtrlFire => true
  | .tripCopyChunk => true
  | .tripCopyDone => true
  | .tripCtrlRelease => true
  | .pmonCtrlArm => true
  | .snapshot => true
  | .tapReset => true
  | .idcode => true
  | .clamp => true
  | .highz => true
  | .bypass => true
  | .unlockChal => true
  | .unlockStat => true
  | .coreCmdEnable => true
  | .coreCmdDisable => true
  | .coreCmdHalt => true
  | .coreCmdRun => true
  | .coreCmdStep => true
  | .tapCoreStat => true
  | .sysreset => true
  | .pwrGoodFall => true
  | .refclkReturn => true
  | .hcuRestartDone => true
  | .prechargeComplete => true
  | .cvLimitReached => true

end Sys2Proof
end

