-- ==== Sys2Proof/Safety.lean ====
section
/-! DEFINITION. The terms statements are written in: safe steps and runs, the invariants of the state, what of the block a
command leaves as it stands, and when a core issues an instruction. -/

namespace Sys2Proof.Machine

/-- The block neither faults nor refuses here. -/
def StepSafe (s : State) : Prop := ∃ t, step s = .next t

/-- `n` steps from `s` are safe. -/
def RunSafe : Nat → State → Prop
  | 0, _ => True
  | n + 1, s => ∃ t, step s = .next t ∧ RunSafe n t

/-- Memory stands in its canonical form. -/
abbrev State.MemoryWf (s : State) : Prop := s.chip.mem.wf

/-- The store of registers stands in its canonical form: addresses strictly rising, no register listed at its reset word. -/
abbrev State.RegsWf (s : State) : Prop :=
  s.chip.regs.Pairwise (fun x y => x.1 < y.1) ∧ ∀ r ∈ s.chip.regs, r.2 ≠ regReset r.1

/-- Every command that waits is well formed. -/
abbrev State.QueueWf (s : State) : Prop := ∀ c ∈ s.pending, Sys2Proof.Instr.wf c = true

/-- The command runs and leaves the block as `d`, the queue as it stands. -/
abbrev Leaves (i : Instr) (s : State) (d : Chip) : Prop := exec i s = .next { s with chip := d }

/-! ## What stays -/

/-- Every register but those of `P` reads as before. -/
def RegsKept (c d : Chip) (P : Nat → Prop) : Prop := ∀ a, ¬ P a → d.rd a = c.rd a

/-- Every byte of memory outside the `n` bytes from `a` on reads as before. -/
def MemKept (c d : Chip) (a n : Nat) : Prop := ∀ x, x < a ∨ a + n ≤ x → d.mem.read x = c.mem.read x

/-- Only registers differ, and of these only those of `P`. -/
def OnlyRegs (c d : Chip) (P : Nat → Prop) : Prop := { d with regs := c.regs } = c ∧ RegsKept c d P

/-! ## A core's sequencer -/

/-- Logical core `i` issues the word `w` now: it is seated, its sequencer can issue, nothing is due at the boundary, no
breakpoint matches, no register of `w` waits for a response (R158, R168, R188, R192, R441). -/
abbrev Issues (c : Chip) (i : Nat) (w : Word) : Prop :=
  c.seated i = true ∧ c.seqRuns (c.pcore i) = true ∧ c.boundaryDue (c.pcore i) = false ∧ c.brkMask (c.pcore i) w = 0 ∧
  (regsUsed w).any (c.core (c.pcore i)).pendingReg = false

/-- Addresses of the event counters of slot `p` (R424). -/
def PmonOf (p a : Nat) : Prop := Reg.coreBase p + 0x7800 ≤ a ∧ a < Reg.coreBase p + 0x7880

/-- The registers that every completed instruction of slot `p` may change: CORE_PC, CORE_STAT, the event counters. -/
def RunRegs (p a : Nat) : Prop := a = Reg.CORE_PC p ∨ a = Reg.CORE_STAT p ∨ PmonOf p a

/-- An instruction has completed on slot `p` with control at `pc`, while no STEP of the debugger is under way: the sequencer
runs on, and CORE_STAT above STATE reads as before. -/
def Completed (c d : Chip) (p pc : Nat) : Prop :=
  d.pc p = pc ∧ d.seqState p = 1 ∧ wbits (d.rd (Reg.CORE_STAT p)) 31 2 = wbits (c.rd (Reg.CORE_STAT p)) 31 2

/-- PC + 4, as CORE_PC holds it. -/
def pcPlus4 (c : Chip) (p : Nat) : Nat := (c.pc p + 4) % 2 ^ 16

/-- Control after an instruction that passes it on in sequence: PC + 4, or, past 0xFFFC, the overrun of R166. -/
def seqPc (c : Chip) (p : Nat) : Nat := if c.pc p = 0xFFFC then 0xFFFC else pcPlus4 c p

/-- Of the records of slots only that of `p` differs, in its registers, in the marks of breakpoints and of the overrun. -/
def OnlyGregs (c d : Chip) (p : Nat) (past : Bool) : Prop :=
  (∀ q, q ≠ p → d.core q = c.core q) ∧ (d.core p).overrun = ((c.core p).overrun || past) ∧
  { d.core p with g := (c.core p).g, overrun := (c.core p).overrun, dbgSkip := (c.core p).dbgSkip } = c.core p

/-- The instruction completes on slot `p` with control at `pc`, `c1` being the block with the instruction's own effect: beyond
that effect only CORE_PC, CORE_STAT.STATE and the event counters of the slot differ, and the marks of a breakpoint passed over and
of the overrun of R166. -/
def CompletesAs (ins : Instr) (s : State) (p : Nat) (c1 : Chip) (pc : Nat) (past : Bool) : Prop :=
  ∃ t, Leaves ins s t ∧ Completed c1 t p pc ∧ RegsKept c1 t (RunRegs p) ∧ (∀ q, q ≠ p → t.core q = c1.core q) ∧
    t.core p = { c1.core p with dbgSkip := false, overrun := (c1.core p).overrun || past } ∧
    { t with regs := c1.regs, cores := c1.cores } = c1

/-- The instruction completes with the effect `c1` and passes control on in sequence. -/
def InSequence (ins : Instr) (s : State) (p : Nat) (c1 : Chip) : Prop :=
  CompletesAs ins s p c1 (seqPc s.chip p) (s.chip.pc p == 0xFFFC)

/-- The registers an exception writes (R188). -/
def TrapRegs (p a : Nat) : Prop :=
  a = Reg.CORE_PC p ∨ a = Reg.CORE_STAT p ∨ a = Reg.CORE_EPC p ∨ a = Reg.CORE_CAUSE p ∨ a = Reg.CORE_EINFO p

/-- The block `t` is `c` with an exception of slot `p` taken (R188): what the exception registers hold, where control stands;
no register of a program, no byte of memory and no other core differs. -/
def Trapped (c t : Chip) (p cause : Nat) (info : Word) (status : Nat) : Prop :=
  t.get (Reg.CORE_EPC_EPC p) = c.pc p / 4 * 4 ∧ t.get (Reg.CORE_CAUSE_CAUSE p) = cause ∧ t.get (Reg.CORE_CAUSE_STATUS p) = status ∧
  t.rd (Reg.CORE_EINFO p) = info ∧ t.get (Reg.CORE_STAT_INEXC p) = 1 ∧ t.pc p = c.get (Reg.CORE_EVEC_VEC p) ∧ t.seqState p = 1 ∧
  RegsKept c t (TrapRegs p) ∧ (∀ q, q ≠ p → t.core q = c.core q) ∧ { t.core p with dbgSkip := (c.core p).dbgSkip } = c.core p ∧
  { t with regs := c.regs, cores := c.cores } = c

/-- The core takes exceptions (R189): EXC_EN is 1, none is being handled, no STEP of the debugger is under way. -/
abbrev TakesExceptions (c : Chip) (p : Nat) : Prop :=
  c.on (Reg.CORE_CFG_EXC_EN p) = true ∧ c.get (Reg.CORE_STAT_INEXC p) = 0 ∧ (c.core p).stepping = false

/-- The instruction raises an exception, which the core takes. -/
def Traps (ins : Instr) (s : State) (p cause : Nat) (info : Word) (status : Nat) : Prop :=
  ∃ t, Leaves ins s t ∧ Trapped s.chip t p cause info status

/-- The instruction stalls: the core waits, and nothing but its STATE differs (R115, R158). -/
def Waits (ins : Instr) (s : State) (p : Nat) : Prop :=
  ∃ t, Leaves ins s t ∧ t.seqState p = 2 ∧ OnlyRegs s.chip t (· = Reg.CORE_STAT p)

/-- Logical core `i` issues `w`, and no STEP of the debugger is under way. -/
abbrev Free (c : Chip) (i : Nat) (w : Word) : Prop := Issues c i w ∧ (c.core (c.pcore i)).stepping = false

/-- The bytes from `a` on lie in the memories a core's program may load from (R160). -/
abbrev InSlotMemory (c : Chip) (a n : Nat) : Prop :=
  a + n ≤ c.synSize ∨ (0x100000 ≤ a ∧ a + n ≤ 0x180000) ∨ (0x180000 ≤ a ∧ a + n ≤ 0x190000)


/-- Of all router buffers only that of `input` and class `cls` at cluster `k` differs: a packet that `P` describes stands behind what
it held. -/
def PacketEnters (c t : Chip) (k input cls : Nat) (P : Packet → Prop) : Prop :=
  (∃ pk, P pk ∧ t.buf k input cls = c.buf k input cls ++ [.packet pk]) ∧
  ∀ k' input' cls', input' < 32 → cls' < 8 → cls < 8 → (k' ≠ k ∨ input' ≠ input ∨ cls' ≠ cls) →
    t.buf k' input' cls' = c.buf k' input' cls'

/-- An input takes the next packet of a class at once: nothing waits before it and a buffer is free (R102, R115). -/
abbrev OpenInput (c : Chip) (k input cls : Nat) : Prop := c.waiting k input cls = [] ∧ c.room k input cls = true

/-- No router buffer differs. -/
def BufsKept (c t : Chip) : Prop := ∀ k input cls, t.buf k input cls = c.buf k input cls

/-- A counter field after `n` more, saturating at its maximum (R425 apart, every counter of the registers does). -/
def counted (c : Chip) (f : Reg.Fld) (n : Nat) : Nat := min (c.get f + n) (2 ^ (f.hi + 1 - f.lo) - 1)

/-- An access has ended in an error response (R18, R262): its address, master and target are kept, it is counted, XBAR_IRQ_STATUS.ERR
is set; no memory and no core differs. -/
def BusRefused (c t : Chip) (who target a : Nat) : Prop :=
  t.rd Reg.XBAR_ERR_INFO = BitVec.ofNat 32 a ∧ t.get Reg.XBAR_ERR_INFO_HI_ADDR_HI = a / 2 ^ 32 % 2 ^ 16 ∧
  t.get Reg.XBAR_ERR_INFO_HI_MASTER = who % 16 ∧ t.get Reg.XBAR_ERR_INFO_HI_TARGET = target ∧
  t.get Reg.XBAR_ERR_CNT_COUNT = counted c Reg.XBAR_ERR_CNT_COUNT 1 ∧ t.get Reg.XBAR_IRQ_STATUS_ERR = 1 ∧ t.mem = c.mem ∧ t.cores = c.cores

/-- Firmware's access to core register `off` of slot `p` ends in an error response. -/
def SlotRefused (ins : Instr) (s : State) (p off : Nat) : Prop :=
  ∃ t, Leaves ins s t ∧ BusRefused s.chip t whoHcu 5 (s.chip.slotWindow p (regsOff + off))

end Sys2Proof.Machine
end

