-- ==== Sys2Proof/Certificates/Slice0/Obligations.lean ====
section
/-! DEFINITION. The statements for the provers, chapter by chapter of the spec, over the terms of Safety.lean. A definition whose
name ends in `Hold` or `Complete` is a part of the statement that names it. -/

open Sys2Proof Sys2Proof.Machine

/-! ## The queue, time, and what every step keeps -/

/-- A step takes the command at the front of the queue and runs it with the queue's rest. -/
def Obligations.StepTakesFront : Prop :=
  ∀ (s : State) (c : Instr) (rest : List Instr), s.pending = c :: rest → step s = exec c { s with pending := rest }

/-- A command leaves the queue as it stands, and a queue of well-formed commands runs to its end and on without a fault or a refusal: the only stops name
a crossbar master that no chip has. -/
def Obligations.WellFormedQueuesRun : Prop :=
  (∀ (i : Instr) (s t : State), exec i s = .next t → t.pending = s.pending) ∧ ∀ (s : State) (n : Nat), s.QueueWf → RunSafe n s

/-- Every step keeps memory and the store of registers in their canonical forms, and a well-formed queue well formed. -/
def Obligations.StoresStayCanonical : Prop :=
  ∀ s t : State, step s = .next t → s.MemoryWf → s.RegsWf → t.MemoryWf ∧ t.RegsWf ∧ (s.QueueWf → t.QueueWf)

/-- At reset both stores stand in their canonical forms, every register holds its reset word, no byte of memory is listed, no command waits and every
core map seats logical core `i` of its cluster in slot `i` (R7, R117).
Rests on the model's choices of log 2, 3, 5. -/
def Obligations.ResetState : Prop :=
  State.reset.MemoryWf ∧ State.reset.RegsWf ∧ State.reset.QueueWf ∧ State.reset.pending = [] ∧ (∀ a, State.reset.chip.rd a = regReset a) ∧
  (∀ a, State.reset.chip.mem.read a = 0) ∧ State.reset.chip.rd Reg.HIF_MAGIC = 0x52415455#32 ∧
  (∀ k i : Nat, k < 64 → i < 1024 → State.reset.chip.activeSlot k i = i % 16)

/-- The count of OAS_RTC (R399). -/
def rtcCount (c : Chip) : Nat := c.get Reg.OAS_RTC_LO_TICKS + c.get Reg.OAS_RTC_HI_TICKS * 2 ^ 32

/-- On an empty queue one tick passes (the model's choice, log 16): nothing without a supply; OAS_RTC alone counts in RETAIN and in a chip reset (R399);
else chip time goes on by one tick, by four units of 2.5 ns while the PLL is not locked (R382), and no byte of memory changes. -/
def Obligations.TicksOnEmptyQueue : Prop :=
  ∀ s : State,
    let c := s.chip
    s.pending = [] →
    (c.power.supply = 2 → step s = .next s) ∧
    (c.power.supply ≠ 2 → (c.power.supply = 1 ∨ c.power.inReset = true) → ∃ t, step s = .next { s with chip := t } ∧
      rtcCount t = (rtcCount c + 1) % 2 ^ 48 ∧ OnlyRegs c t (fun a => a = Reg.OAS_RTC_LO ∨ a = Reg.OAS_RTC_HI)) ∧
    (c.power.supply ≠ 2 → c.power.supply ≠ 1 → c.power.inReset = false → c.inLookout = false → c.power.lko.entering = false → c.sync.slew = 0 →
      ∃ t, step s = .next { s with chip := t } ∧ t.time = c.time + (if c.get Reg.CLK_STAT_LOCK = 1 then 1 else 4) ∧ t.mem = c.mem ∧
        t.cores = c.cores ∧ t.fw = c.fw ∧ t.out = c.out)

/-! ## The program of a core (R158 to R183) -/

/-- The register-register instructions of R163: FUNCT and result. -/
def aluRows : List ((CoreId → BitVec 5 → BitVec 5 → BitVec 5 → Instr) × BitVec 11 × (Word → Word → Word)) :=
  [(.add, 0, fun x y => x + y), (.sub, 1, fun x y => x - y), (.and, 2, fun x y => x &&& y), (.or, 3, fun x y => x ||| y),
   (.xor, 4, fun x y => x ^^^ y), (.sll, 5, fun x y => x <<< (y.toNat % 32)), (.srl, 6, fun x y => x >>> (y.toNat % 32)),
   (.sra, 7, fun x y => x.sshiftRight (y.toNat % 32)), (.slt, 8, fun x y => if x.toInt < y.toInt then 1 else 0),
   (.sltu, 9, fun x y => if x.toNat < y.toNat then 1 else 0), (.mul, 10, fun x y => BitVec.ofNat 32 (x.toNat * y.toNat)),
   (.mulh, 11, fun x y => BitVec.ofInt 32 ((x.toInt * y.toInt) / 2 ^ 32)),
   (.mulhu, 12, fun x y => BitVec.ofNat 32 (x.toNat * y.toNat / 2 ^ 32)),
   (.min, 13, fun x y => if x.toInt < y.toInt then x else y), (.max, 14, fun x y => if x.toInt < y.toInt then y else x)]

/-- R163: every register-register instruction writes its result to gD, discarded for g0, and completes; no other register of the
program, no byte of memory, no other core differs. -/
def Obligations.RegisterInstructions : Prop :=
  ∀ row ∈ aluRows, ∀ (s : State) (i : CoreId) (d a b : BitVec 5),
    let p := s.chip.pcore i.toNat
    Free s.chip i.toNat (rWord 0x00 d a b row.2.1) →
    ∃ t, Leaves (row.1 i d a b) s t ∧
      t.greg p d.toNat = (if d.toNat = 0 then 0 else row.2.2 (s.chip.greg p a.toNat) (s.chip.greg p b.toNat)) ∧
      (∀ r, r ≠ d.toNat → t.greg p r = s.chip.greg p r) ∧
      OnlyGregs s.chip t p (s.chip.pc p == 0xFFFC) ∧ Completed s.chip t p (seqPc s.chip p) ∧ RegsKept s.chip t (RunRegs p) ∧
      { t with regs := s.chip.regs, cores := s.chip.cores } = s.chip

/-- The immediate instructions of R164 that take every operand: OP and result. -/
def immRows : List ((CoreId → BitVec 5 → BitVec 5 → BitVec 16 → Instr) × Nat × (Word → BitVec 16 → Word)) :=
  [(.addi, 0x01, fun x m => x + m.signExtend 32), (.andi, 0x02, fun x m => x &&& m.setWidth 32),
   (.ori, 0x03, fun x m => x ||| m.setWidth 32), (.xori, 0x04, fun x m => x ^^^ m.setWidth 32),
   (.slti, 0x06, fun x m => if x.toInt < m.toInt then 1 else 0)]

/-- R164: the immediate instructions, SHIFTI by its selector, LUI and TIME among them, write gD and complete; a field that must
be 0 and is not, or a selector the table does not define, raises ILLEGAL with the word in CORE_EINFO. -/
def ImmediateInstructionsHold : Prop :=
  ∀ (s : State) (i : CoreId) (d a : BitVec 5) (m : BitVec 16),
    let p := s.chip.pcore i.toNat
    let x := s.chip.greg p a.toNat
    let bad := fun (ins : Instr) (op : Nat) => TakesExceptions s.chip p → Traps ins s p ILLEGAL (iWord op d a m) 0
    (∀ row ∈ immRows, Free s.chip i.toNat (iWord row.2.1 d a m) →
      InSequence (row.1 i d a m) s p (s.chip.setReg p d.toNat (row.2.2 x m))) ∧
    (Free s.chip i.toNat (iWord 0x05 d a m) →
      let n := m.toNat % 32
      let ok := fun (sel : Nat) (v : Word) => m.toNat / 32 = sel → InSequence (.shifti i d a m) s p (s.chip.setReg p d.toNat v)
      ok 0 (x <<< n) ∧ ok 1 (x >>> n) ∧ ok 2 (x.sshiftRight n) ∧ (3 ≤ m.toNat / 32 → bad (.shifti i d a m) 0x05)) ∧
    (Free s.chip i.toNat (iWord 0x07 d a m) →
      (a = 0 → InSequence (.lui i d a m) s p (s.chip.setReg p d.toNat (m ++ 0#16))) ∧ (a ≠ 0 → bad (.lui i d a m) 0x07)) ∧
    (Free s.chip i.toNat (iWord 0x1B d a m) →
      (a = 0 → m = 0 → InSequence (.time i d a m) s p
        ((s.chip.modCore p (fun k => { k with timeHi := s.chip.time.extractLsb' 32 16 })).setReg p d.toNat
          (s.chip.time.extractLsb' 0 32))) ∧
      (a = 0 → m = 1 → InSequence (.time i d a m) s p
        (s.chip.setReg p d.toNat ((s.chip.core p).timeHi.setWidth 32))) ∧
      (a ≠ 0 ∨ 2 ≤ m.toNat → bad (.time i d a m) 0x1B))

/-- The loads of R165: OP, bytes, how the value fills the word. -/
def loadRows : List ((CoreId → BitVec 5 → BitVec 5 → BitVec 16 → Instr) × Nat × Nat × (Nat → Word)) :=
  [(.lb, 0x08, 1, fun v => (BitVec.ofNat 8 v).signExtend 32), (.lbu, 0x09, 1, fun v => BitVec.ofNat 32 v),
   (.lh, 0x0A, 2, fun v => (BitVec.ofNat 16 v).signExtend 32), (.lhu, 0x0B, 2, fun v => BitVec.ofNat 32 v),
   (.lw, 0x0C, 4, fun v => BitVec.ofNat 32 v)]

/-- The stores of R165: OP, bytes. -/
def storeRows : List ((CoreId → BitVec 5 → BitVec 5 → BitVec 16 → Instr) × Nat × Nat) :=
  [(.sb, 0x0D, 1), (.sh, 0x0E, 2), (.sw, 0x0F, 4)]

/-- The address of a local access (R165). -/
def localAddr (c : Chip) (p : Nat) (a : BitVec 5) (m : BitVec 16) : Nat := (c.greg p a.toNat + m.signExtend 32).toNat

/-- R165 with R160 and R4: an aligned load from a memory of the slot puts the little-endian value, extended as its row says, into
gD and completes. -/
def LocalLoadsHold : Prop :=
  ∀ row ∈ loadRows, ∀ (s : State) (i : CoreId) (d a : BitVec 5) (m : BitVec 16),
    let p := s.chip.pcore i.toNat
    let x := localAddr s.chip p a m
    Free s.chip i.toNat (iWord row.2.1 d a m) → x % row.2.2.1 = 0 → InSlotMemory s.chip x row.2.2.1 →
    InSequence (row.1 i d a m) s p (s.chip.setReg p d.toNat (row.2.2.2 (s.chip.mem.readNat (slotMem p x) row.2.2.1)))

/-- R165 with R160 and R4: an aligned store into synapse or state memory writes the low bytes of gD there, little-endian, and
completes; every other byte of memory reads as before. -/
def LocalStoresHold : Prop :=
  ∀ row ∈ storeRows, ∀ (s : State) (i : CoreId) (d a : BitVec 5) (m : BitVec 16),
    let p := s.chip.pcore i.toNat
    let x := localAddr s.chip p a m
    let n := row.2.2
    Free s.chip i.toNat (iWord row.2.1 d a m) → x % n = 0 → InSlotMemory s.chip x n → x < 0x180000 →
    InSequence (row.1 i d a m) s p (s.chip.wrMem (slotMem p x) n (s.chip.greg p d.toNat).toNat) ∧
    ∃ t, Leaves (row.1 i d a m) s t ∧ t.mem.readNat (slotMem p x) n = (s.chip.greg p d.toNat).toNat % 256 ^ n ∧
      MemKept s.chip t (slotMem p x) n

/-- R160: a local access that is not aligned raises MISALIGN; one that is aligned and falls in no region, a store to program
memory, and a byte or halfword access to the core registers raise ACCESS. CORE_EINFO holds the address, gD and memory stand. -/
def LocalAccessRefusedHold : Prop :=
  ∀ (s : State) (i : CoreId) (d a : BitVec 5) (m : BitVec 16),
    let p := s.chip.pcore i.toNat
    let x := localAddr s.chip p a m
    let judge := fun (ins : Instr) (n : Nat) (store : Bool) =>
      (x % n ≠ 0 → Traps ins s p MISALIGN (BitVec.ofNat 32 x) 0) ∧
      (x % n = 0 → ¬ InSlotMemory s.chip x n ∨ (store = true ∧ 0x180000 ≤ x) → n ≠ 4 ∨ x < 0x1F0000 ∨ 0x200000 ≤ x →
        Traps ins s p ACCESS (BitVec.ofNat 32 x) 0)
    TakesExceptions s.chip p →
    (∀ row ∈ loadRows, Free s.chip i.toNat (iWord row.2.1 d a m) → judge (row.1 i d a m) row.2.2.1 false) ∧
    (∀ row ∈ storeRows, Free s.chip i.toNat (iWord row.2.1 d a m) → judge (row.1 i d a m) row.2.2 true)

/-- R165, R160, R4: loads and stores of local memory, and where they are refused.
Rests on the model's choices of log 5, 19. -/
def Obligations.LocalAccesses : Prop := LocalLoadsHold ∧ LocalStoresHold ∧ LocalAccessRefusedHold

/-- The branches of R166: OP and condition on gD and gA. -/
def branchRows : List ((CoreId → BitVec 5 → BitVec 5 → BitVec 16 → Instr) × Nat × (Word → Word → Bool)) :=
  [(.beq, 0x10, fun x y => decide (x = y)), (.bne, 0x11, fun x y => decide (x ≠ y)), (.blt, 0x12, fun x y => decide (x.toInt < y.toInt)),
   (.bge, 0x13, fun x y => decide (y.toInt ≤ x.toInt)), (.bltu, 0x14, fun x y => decide (x.toNat < y.toNat)),
   (.bgeu, 0x15, fun x y => decide (y.toNat ≤ x.toNat))]

/-- Control passes to `t` with the effect `c1`, or the instruction raises ACCESS at itself with the target in CORE_EINFO (R166). -/
def GoesTo (ins : Instr) (s : State) (p : Nat) (c1 : Chip) (t : Word) : Prop :=
  (t.toNat < 0x10000 → CompletesAs ins s p c1 t.toNat false) ∧
  (0x10000 ≤ t.toNat → TakesExceptions s.chip p → Traps ins s p ACCESS t 0)

/-- R166: a branch whose comparison holds goes to PC + 4 + sext(IMM) × 4, one whose comparison does not passes control on; JAL
and JALR go to their targets with PC + 4 in gD; a target at or above 0x1_0000 raises ACCESS with gD as it stood. -/
def ControlFlowHold : Prop :=
  ∀ (s : State) (i : CoreId) (d a : BitVec 5) (m : BitVec 16),
    let p := s.chip.pcore i.toNat
    let rel : Word := BitVec.ofInt 32 ((s.chip.pc p : Int) + 4 + m.toInt * 4)
    let linked := s.chip.setReg p d.toNat (BitVec.ofNat 32 (s.chip.pc p + 4))
    (∀ row ∈ branchRows, Free s.chip i.toNat (iWord row.2.1 d a m) →
      (row.2.2 (s.chip.greg p d.toNat) (s.chip.greg p a.toNat) = true → GoesTo (row.1 i d a m) s p s.chip rel) ∧
      (row.2.2 (s.chip.greg p d.toNat) (s.chip.greg p a.toNat) = false → InSequence (row.1 i d a m) s p s.chip)) ∧
    (Free s.chip i.toNat (iWord 0x16 d a m) →
      (a = 0 → GoesTo (.jal i d a m) s p linked rel) ∧
      (a ≠ 0 → TakesExceptions s.chip p → Traps (.jal i d a m) s p ILLEGAL (iWord 0x16 d a m) 0)) ∧
    (Free s.chip i.toNat (iWord 0x17 d a m) →
      GoesTo (.jalr i d a m) s p linked (BitVec.ofNat 32 (localAddr s.chip p a m / 4 * 4)))

/-- R164, R166: the immediate instructions; branches and jumps.
Rests on the model's choices of log 19. -/
def Obligations.ImmediatesAndControlFlow : Prop := ImmediateInstructionsHold ∧ ControlFlowHold

/-! ## The instructions that reach beyond the registers (R167 to R183) -/

/-- The 48-bit address {gB[15:0], gA} of RLD and RST (R167). -/
def remoteAddr (c : Chip) (p : Nat) (a b : BitVec 5) : BitVec 48 := (c.greg p b.toNat).extractLsb' 0 16 ++ c.greg p a.toNat

/-- R167, R168 with R115: with a free tag, an aligned address, a legal path and room in the router, RLD and RST complete at once; their request
enters the core's own router as one class-3 packet and stands under the lowest free tag with what its response needs. -/
def RemoteRequestsHold : Prop :=
  ∀ (load : Bool) (s : State) (i : CoreId) (d a b : BitVec 5) (f : BitVec 11) (tag : Nat),
    let p := s.chip.pcore i.toNat
    let ins : Instr := if load then .rld i d a b f else .rst i d a b f
    let x := remoteAddr s.chip p a b
    let sel := f.toNat % 4
    Free s.chip i.toNat (rWord (if load then 0x18 else 0x19) d a b f) → f.toNat < 8 → sel ≠ 3 → (s.chip.greg p b.toNat).toNat < 2 ^ 16 →
    x.toNat % 2 ^ sel = 0 → (s.chip.core p).freeTag = some tag →
    pathCheck s.chip (i.toNat / 16) (routeTo i.toNat (winCore x.toNat)) = OK → s.chip.room (i.toNat / 16) (i.toNat % 16) 3 = true →
    ∃ c1, InSequence ins s p c1 ∧
      c1.core p = { s.chip.core p with reqs := (s.chip.core p).reqs ++
        [Request.mk tag load d.toNat (2 ^ sel) (f.toNat / 4 == 1) x (s.chip.get (Reg.NI_CFG_REQ_TO p)) false] } ∧
      (∀ q, q ≠ p → c1.core q = s.chip.core q) ∧ RegsKept s.chip c1 (fun y => y = Reg.NI_STAT p ∨ PmonOf p y) ∧
      PacketEnters s.chip c1 (i.toNat / 16) (i.toNat % 16) 3 (fun pk => pk.cls = 3 ∧ pk.tag = tag ∧ pk.src = i.toNat ∧
        pk.op = (if load then 0 else 1) + sel * 2 ∧ pk.data = s.chip.greg p a.toNat ∧ pk.flit 2 = BitVec.ofNat 64 (x.toNat / 2 ^ 32)) ∧
      { c1 with regs := s.chip.regs, cores := s.chip.cores, routers := s.chip.routers } = s.chip

/-- R167, R115: where RLD and RST do not issue. A size of 3, a FUNCT bit that must be 0 and gB[31:16] ≠ 0 raise ILLEGAL, an unaligned
address raises MISALIGN with address [31:0] in CORE_EINFO; with no tag free the core waits. -/
def RemoteRequestsRefusedHold : Prop :=
  ∀ (load : Bool) (s : State) (i : CoreId) (d a b : BitVec 5) (f : BitVec 11),
    let p := s.chip.pcore i.toNat
    let ins : Instr := if load then .rld i d a b f else .rst i d a b f
    let w := rWord (if load then 0x18 else 0x19) d a b f
    Free s.chip i.toNat w →
    (f.toNat % 4 = 3 ∨ 8 ≤ f.toNat → TakesExceptions s.chip p → Traps ins s p ILLEGAL w 0) ∧
    (f.toNat % 4 ≠ 3 → f.toNat < 8 →
      ((s.chip.core p).freeTag = none → Waits ins s p) ∧
      ((s.chip.core p).freeTag ≠ none → TakesExceptions s.chip p →
        (2 ^ 16 ≤ (s.chip.greg p b.toNat).toNat → Traps ins s p ILLEGAL w 0) ∧
        ((s.chip.greg p b.toNat).toNat < 2 ^ 16 → (remoteAddr s.chip p a b).toNat % 2 ^ (f.toNat % 4) ≠ 0 →
          Traps ins s p MISALIGN (s.chip.greg p a.toNat) 0)))

/-- R167, R168, R115: requests to remote memory, sent or refused.
Rests on the model's choices of log 19, 125. -/
def Obligations.RemoteAccesses : Prop := RemoteRequestsHold ∧ RemoteRequestsRefusedHold

/-- What a remote access that fails leaves (R168): 0 in gD for a load, status and address in CORE_MEMERR and CORE_EINFO, and the MEMERR
that is due when CORE_CFG.MEMERR_EXC is 1. -/
def RemoteFailed (c t : Chip) (p : Nat) (q : Request) (st : Nat) : Prop :=
  (q.load = true → t.greg p q.reg = 0) ∧ (∀ r, r ≠ q.reg ∨ q.load = false → t.greg p r = c.greg p r) ∧
  t.get (Reg.CORE_MEMERR_STATUS p) = st ∧ t.get (Reg.CORE_MEMERR_ADDR_HI p) = q.addr.toNat / 2 ^ 32 ∧
  t.get (Reg.CORE_MEMERR_COUNT p) = counted c (Reg.CORE_MEMERR_COUNT p) 1 ∧ t.rd (Reg.CORE_EINFO p) = q.addr.extractLsb' 0 32 ∧
  (t.core p).due = (c.core p).due ++ (if c.on (Reg.CORE_CFG_MEMERR_EXC p) then [(st, q.addr)] else [])

/-- R168, R116: MEMRSP_ARRIVE takes the oldest delivered response and ends the request of its tag: a good load writes the bytes at the address into
gD, extended as FUNCT[2] said; a bad status fails it; a response for a tag kept after a timeout only counts as late. REQUEST_TIMEOUT fails a
request with ERR_TIMEOUT, counts, and keeps the tag. -/
def RequestsEndHold : Prop :=
  ∀ (s : State) (slot : PCore) (q : Request),
    let p := slot.toNat
    let k := s.chip.core p
    q ∈ k.reqs → (∀ x ∈ k.reqs, x.tag = q.tag → x = q) → q.reg < 32 →
    (∀ pk rest, splitFirst (fun x => x.cls == 4) k.arrived = some (pk, rest) → pk.tag = q.tag →
      ∃ t, Leaves (.memrspArrive slot) s t ∧ (t.core p).reqs = k.reqs.filter (fun x => x.tag != q.tag) ∧ (t.core p).arrived = rest ∧
        (q.late = true → t.greg p = s.chip.greg p ∧ OnlyRegs s.chip { t with cores := s.chip.cores } (· = Reg.NI_TIMEOUT_CNT p) ∧
          t.get (Reg.NI_TIMEOUT_CNT_NI_LATE_RSP p) = counted s.chip (Reg.NI_TIMEOUT_CNT_NI_LATE_RSP p) 1) ∧
        (q.late = false → pk.op = OK → (∀ a, t.rd a = s.chip.rd a) ∧ (t.core p).due = k.due ∧
          (q.load = true → q.reg ≠ 0 → t.greg p q.reg =
            (let v := ((pk.flit 2).toNat + (pk.flit 3).toNat * 2 ^ 64) / 2 ^ (8 * (q.addr.toNat % 16)) % 2 ^ (8 * q.size)
             if q.signed then BitVec.ofInt 32 (signed (8 * q.size) v) else BitVec.ofNat 32 v)) ∧
          (∀ r, r ≠ q.reg ∨ q.load = false → t.greg p r = s.chip.greg p r)) ∧
        (q.late = false → pk.op ≠ OK → RemoteFailed s.chip t p q pk.op)) ∧
    (∀ tag : BitVec 4, tag.toNat = q.tag → q.late = false → q.limit ≠ 0 →
      ∃ t, Leaves (.requestTimeout slot tag) s t ∧ RemoteFailed s.chip t p q ERR_TIMEOUT ∧
        (t.core p).reqs = k.reqs.map (fun x => if x.tag = q.tag then { x with late := true } else x) ∧
        t.get (Reg.NI_TIMEOUT_CNT_COUNT p) = counted s.chip (Reg.NI_TIMEOUT_CNT_COUNT p) 1)

/-- R169, R172, R178, R180: MFENCE and MXWAIT complete when nothing they wait for is under way and wait otherwise; WARM opens the queues its mask
names; NEHOLD sets the hold once no pass runs and releases it. -/
def FencesAndHoldsHold : Prop :=
  ∀ (s : State) (i : CoreId) (f : BitVec 11),
    let p := s.chip.pcore i.toNat
    let k := s.chip.core p
    (Free s.chip i.toNat ((0x1A#6) ++ (0#26)) →
      (k.outstanding = false → InSequence (.mfence i 0) s p s.chip) ∧ (k.outstanding = true → Waits (.mfence i 0) s p)) ∧
    (Free s.chip i.toNat ((0x29#6) ++ (0#26)) →
      (s.chip.mxBusy p i.toNat = false → InSequence (.mxwait i 0) s p s.chip) ∧ (s.chip.mxBusy p i.toNat = true → Waits (.mxwait i 0) s p)) ∧
    (f.toNat < 16 → Free s.chip i.toNat (rWord 0x22 0 0 0 f) →
      ∃ c1, InSequence (.warm i 0 0 0 f) s p c1 ∧ OnlyRegs s.chip c1 (fun a => ∃ q, q < 4 ∧ a = Reg.WADI_Q_STAT p q) ∧
        ∀ q, q < 4 → c1.get (Reg.WADI_Q_STAT_STATE p q) = if bit f.toNat q then 1 else s.chip.get (Reg.WADI_Q_STAT_STATE p q)) ∧
    (f.toNat ≤ 1 → Free s.chip i.toNat (rWord 0x2B 0 0 0 1) →
      (k.pass = none → ∃ c1, InSequence (.nehold i 0 0 0 f) s p c1 ∧ c1.get (Reg.CORE_STAT_HOLD p) = 1 ∧
        OnlyRegs (s.chip.setCore p { k with holdReq := false }) c1 (· = Reg.CORE_STAT p)) ∧
      (k.pass ≠ none → ∃ t, Leaves (.nehold i 0 0 0 f) s t ∧ t.seqState p = 2 ∧ (t.core p).holdReq = true ∧
        t.get (Reg.CORE_STAT_HOLD p) = s.chip.get (Reg.CORE_STAT_HOLD p))) ∧
    (f.toNat ≤ 1 → Free s.chip i.toNat (rWord 0x2B 0 0 0 0) →
      ∃ c1, InSequence (.neholdRelease i 0 0 0 f) s p c1 ∧ c1.get (Reg.CORE_STAT_HOLD p) = 0 ∧
        OnlyRegs (s.chip.setCore p { k with holdReq := false }) c1 (· = Reg.CORE_STAT p))

/-- R168, R116, R169, R172, R178, R180: how requests end; MFENCE, MXWAIT, WARM and NEHOLD.
Rests on the model's choices of log 18, 19. -/
def Obligations.RequestsAndFences : Prop := RequestsEndHold ∧ FencesAndHoldsHold

/-- The core of slot `p` has halted with this HCAUSE (R181): HALTED, no hold, no debug halt, its queues drained; firmware has logged it. -/
def Halted (c t : Chip) (p hcause : Nat) : Prop :=
  t.seqState p = 0 ∧ t.get (Reg.CORE_STAT_HCAUSE p) = hcause ∧ t.get (Reg.CORE_STAT_HOLD p) = 0 ∧ t.get (Reg.BDP_CORE_STAT_DHALT p) = 0 ∧
  (∀ q, q < 4 → (t.core p).queue q = [] ∧ t.get (Reg.WADI_Q_STAT_STATE p q) = 0) ∧ t.greg p = c.greg p ∧
  ∃ e, t.fw.log = c.fw.log ++ [e] ∧ e.code = 0x0001 ∧ e.subject = c.logicalOf p

/-- R181, R182, R183, R438: HALT without outstanding requests halts with HALT_CODE = IMM and HCAUSE 0, and waits for them otherwise; ERET returns
to CORE_EPC with INEXC cleared, or is ILLEGAL when no exception is being handled; BRK raises BREAK, or halts for debug under DBG_EN = 1, the
queues as they stand. -/
def HaltReturnBreakHold : Prop :=
  ∀ (s : State) (i : CoreId) (d a : BitVec 5) (m : BitVec 16),
    let p := s.chip.pcore i.toNat
    let k := s.chip.core p
    (Free s.chip i.toNat (iWord 0x30 d a m) →
      (k.outstanding = false → ∃ t, Leaves (.halt i d a m) s t ∧ Halted s.chip t p 0 ∧ t.get (Reg.CORE_STAT_HALT_CODE p) = m.toNat) ∧
      (k.outstanding = true → Waits (.halt i d a m) s p)) ∧
    (Free s.chip i.toNat ((0x31#6) ++ (0#26)) →
      (s.chip.get (Reg.CORE_STAT_INEXC p) = 1 →
        CompletesAs (.eret i 0) s p (s.chip.put (Reg.CORE_STAT_INEXC p) 0) (s.chip.get (Reg.CORE_EPC_EPC p) / 4 * 4) false) ∧
      (TakesExceptions s.chip p → Traps (.eret i 0) s p ILLEGAL ((0x31#6) ++ (0#26)) 0)) ∧
    (Free s.chip i.toNat (iWord 0x32 d a m) →
      (s.chip.get (Reg.BDP_CORE_STAT_DBG_EN p) = 0 → TakesExceptions s.chip p → Traps (.brk i d a m) s p BREAK (m.setWidth 32) 0) ∧
      (s.chip.get (Reg.BDP_CORE_STAT_DBG_EN p) = 1 → ∃ t, Leaves (.brk i d a m) s t ∧ t.seqState p = 0 ∧
        t.get (Reg.CORE_STAT_HCAUSE p) = 4 ∧ t.get (Reg.BDP_CORE_STAT_DHALT p) = 1 ∧ t.pc p = s.chip.pc p ∧
        { t with regs := s.chip.regs } = s.chip.setCore p { k with stepping := false } ∧
        RegsKept s.chip t (fun x => x = Reg.CORE_STAT p ∨ x = Reg.BDP_CORE_STAT p)))

/-- R189: an exception that the core does not take records itself as R188 says and halts the core: HCAUSE 1 while EXC_EN is 0, HCAUSE 2 while
another is being handled. Said of BREAK, which every operand of BRK raises while DBG_EN is 0. -/
def ExceptionNotTakenHold : Prop :=
  ∀ (s : State) (i : CoreId) (d a : BitVec 5) (m : BitVec 16),
    let p := s.chip.pcore i.toNat
    Free s.chip i.toNat (iWord 0x32 d a m) → s.chip.get (Reg.BDP_CORE_STAT_DBG_EN p) = 0 → (s.chip.core p).outstanding = false →
    s.chip.get (Reg.CORE_CFG_EXC_EN p) = 0 ∨ s.chip.get (Reg.CORE_STAT_INEXC p) = 1 →
    ∃ t, Leaves (.brk i d a m) s t ∧ Halted s.chip t p (if s.chip.get (Reg.CORE_CFG_EXC_EN p) = 0 then 1 else 2) ∧
      t.get (Reg.CORE_EPC_EPC p) = s.chip.pc p / 4 * 4 ∧ t.get (Reg.CORE_CAUSE_CAUSE p) = BREAK ∧
      t.rd (Reg.CORE_EINFO p) = m.setWidth 32 ∧ t.pc p = s.chip.pc p

/-- R166, R168, R188: what is due when nothing else is in the way is taken before the next instruction, by EXCEPTION_ENTRY or by the instruction
itself, which then has no effect: the overrun past 0xFFFC raises ACCESS at 0xFFFC with 0x0001_0000 in CORE_EINFO, a failed access raises MEMERR
with its status and address. -/
def DueBeforeTheNextHold : Prop :=
  ∀ (s : State) (i : CoreId) (ins : Instr) (d a b : BitVec 5),
    let p := s.chip.pcore i.toNat
    let k := s.chip.core p
    ins = .exceptionEntry i ∨ ins = .add i d a b →
    s.chip.seated i.toNat = true → s.chip.seqRuns p = true → s.chip.seqState p = 1 → k.haltDue = none → TakesExceptions s.chip p →
    (k.due = [] → k.overrun = true → s.chip.pc p = 0xFFFC →
      ∃ t, Leaves ins s t ∧ Trapped (s.chip.setCore p { k with overrun := false }) t p ACCESS 0x10000 0) ∧
    (∀ st x rest, k.due = (st, x) :: rest → st < 256 →
      ∃ t, Leaves ins s t ∧ Trapped (s.chip.setCore p { k with due := rest }) t p MEMERR (x.extractLsb' 0 32) st)

/-- R162, R188: EXCEPTION_ENTRY on a word whose OP the tables do not define raises ILLEGAL with the word in CORE_EINFO. -/
def UndefinedWordsHold : Prop :=
  ∀ (s : State) (i : CoreId),
    let p := s.chip.pcore i.toNat
    let w := s.chip.fetched p
    Free s.chip i.toNat w → TakesExceptions s.chip p →
    (0x1C ≤ fOp w ∧ fOp w < 0x20) ∨ (0x26 ≤ fOp w ∧ fOp w < 0x28) ∨ (0x2C ≤ fOp w ∧ fOp w < 0x30) ∨ 0x33 ≤ fOp w ∨
      (fOp w = 0 ∧ 15 ≤ fF w) →
    Traps (.exceptionEntry i) s p ILLEGAL w 0

/-- R189, R188, R166, R168, R162: exceptions that halt the core instead, those due before the next instruction, undefined words.
Rests on the model's choices of log 20, 41. -/
def Obligations.ExceptionsAtBoundaries : Prop := ExceptionNotTakenHold ∧ DueBeforeTheNextHold ∧ UndefinedWordsHold

/-- R192, R186: RUN starts a halted core at CORE_PC with its registers as they stand, and is ignored while the core runs or is halted for debug;
HALT halts a running or waiting core, and one halted for debug, with HCAUSE 3. A slot that answers no access (R18, R121) answers neither. -/
def RunAndHaltRequestsHold : Prop :=
  ∀ (s : State) (slot : PCore),
    let p := slot.toNat
    (s.chip.windowOpen p = false → SlotRefused (.coreCtrlRun slot) s p 0 ∧ SlotRefused (.coreCtrlHalt slot) s p 0) ∧
    (s.chip.windowOpen p = true →
    (s.chip.seqState p = 0 → s.chip.dhalted p = false →
      ∃ t, Leaves (.coreCtrlRun slot) s t ∧ t.seqState p = 1 ∧ t.pc p = s.chip.pc p ∧ OnlyRegs s.chip t (· = Reg.CORE_STAT p)) ∧
    (s.chip.seqState p ≠ 0 ∨ s.chip.dhalted p = true → Leaves (.coreCtrlRun slot) s s.chip) ∧
    (s.chip.seqLive p = true ∨ s.chip.dhalted p = true → ∃ t, Leaves (.coreCtrlHalt slot) s t ∧ Halted s.chip t p 3) ∧
    (s.chip.seqLive p = false → s.chip.dhalted p = false → Leaves (.coreCtrlHalt slot) s s.chip))

/-- R181, R182, R183, R438, R192, R186: HALT, ERET and BRK; requests to run and to halt.
Rests on the model's choices of log 19, 143. -/
def Obligations.HaltAndRun : Prop := HaltReturnBreakHold ∧ RunAndHaltRequestsHold

/-! ## Wadis, sync objects, the matrix unit and events from a program (R170 to R179) -/

/-- A status code in gD, nothing else. -/
def statusIn (c : Chip) (p : Nat) (d : BitVec 5) (st : Nat) : Chip := c.setReg p d.toNat (BitVec.ofNat 32 st)

/-- R170, R212: SEND and TRYSEND. An unbound port and a tuple longer than CREDITS answer ERR_PARAM, an orphaned port ERR_FENCED; without the
credits SEND waits and TRYSEND answers ERR_BUSY; with them, a legal path and room, the tuple's packet enters the core's router, CRED falls by
the words and gD receives OK. -/
def SendTuplesHold : Prop :=
  ∀ (try_ : Bool) (s : State) (i : CoreId) (d a : BitVec 5) (port : Nat) (n : Nat),
    let p := s.chip.pcore i.toNat
    let f : BitVec 11 := BitVec.ofNat 11 (port + (n - 1) * 16 + (if try_ then 64 else 0))
    let ins : Instr := if try_ then .trysend i d a 0 f else .send i d a 0 f
    let cred := s.chip.get (Reg.WADI_SPORT_STAT_CRED p port)
    port < 16 → 1 ≤ n → n ≤ 4 → a.toNat + n ≤ 32 → Free s.chip i.toNat (rWord 0x20 d a 0 f) →
    (s.chip.get (Reg.WADI_SPORT_CFG_BOUND p port) = 0 → InSequence ins s p (statusIn s.chip p d ERR_PARAM)) ∧
    (s.chip.get (Reg.WADI_SPORT_CFG_BOUND p port) = 1 →
      (s.chip.get (Reg.WADI_SPORT_STAT_ORPHAN p port) = 1 → s.chip.get (Reg.CORE_CFG_ORPHAN_EXC p) = 0 →
        InSequence ins s p (statusIn s.chip p d ERR_FENCED)) ∧
      (s.chip.get (Reg.WADI_SPORT_STAT_ORPHAN p port) = 0 →
        (s.chip.get (Reg.WADI_SPORT_CFG_CREDITS p port) < n → InSequence ins s p (statusIn s.chip p d ERR_PARAM)) ∧
        (n ≤ s.chip.get (Reg.WADI_SPORT_CFG_CREDITS p port) → cred < n →
          if try_ then InSequence ins s p (statusIn s.chip p d ERR_BUSY) else Waits ins s p) ∧
        (n ≤ s.chip.get (Reg.WADI_SPORT_CFG_CREDITS p port) → n ≤ cred →
          pathCheck s.chip (i.toNat / 16) (s.chip.sportRoute p port) = OK → s.chip.room (i.toNat / 16) (i.toNat % 16) 1 = true →
          ∃ c1, InSequence ins s p c1 ∧ c1.get (Reg.WADI_SPORT_STAT_CRED p port) = cred - n ∧
            c1.core p = (s.chip.core p).setReg d.toNat 0 ∧ (∀ q, q ≠ p → c1.core q = s.chip.core q) ∧
            RegsKept s.chip c1 (fun y => y = Reg.WADI_SPORT_STAT p port ∨ y = Reg.NI_STAT p ∨ PmonOf p y) ∧
            PacketEnters s.chip c1 (i.toNat / 16) (i.toNat % 16) 1 (fun pk => pk.cls = 1 ∧ pk.src = i.toNat ∧
              pk.wadiData = (List.range n).map (fun j => s.chip.greg p (a.toNat + j))))))

/-- R171, R215: RECV from an open queue with a tuple at its head that fits writes the words to the run of registers and status, length and port to
gA, removes the tuple and returns its credits; a longer tuple stays and answers ERR_PARAM; an empty queue waits, or answers ERR_BUSY under
FUNCT[4]; a closed queue answers ERR_NOT_READY. -/
def ReceiveTuplesHold : Prop :=
  ∀ (s : State) (i : CoreId) (d a : BitVec 5) (q n : Nat) (nowait : Bool),
    let p := s.chip.pcore i.toNat
    let f : BitVec 11 := BitVec.ofNat 11 (q + (n - 1) * 4 + (if nowait then 16 else 0))
    q < 4 → 1 ≤ n → n ≤ 4 → d.toNat + n ≤ 32 → (a.toNat < d.toNat ∨ d.toNat + n ≤ a.toNat) → Free s.chip i.toNat (rWord 0x21 d a 0 f) →
    s.chip.isRQueue p q = false →
    (s.chip.queueOpen p q = false → InSequence (.recv i d a 0 f) s p (statusIn s.chip p a ERR_NOT_READY)) ∧
    (s.chip.queueOpen p q = true →
      ((s.chip.core p).queue q = [] →
        if nowait then InSequence (.recv i d a 0 f) s p (statusIn s.chip p a ERR_BUSY) else Waits (.recv i d a 0 f) s p) ∧
      (∀ t rest, (s.chip.core p).queue q = t :: rest →
        (n < t.words.length → InSequence (.recv i d a 0 f) s p (statusIn s.chip p a (ERR_PARAM + t.words.length * 256 + t.port * 4096))) ∧
        (t.words.length ≤ n → OpenInput s.chip (p / 32) 21 5 → ∃ c1, InSequence (.recv i d a 0 f) s p c1 ∧ (c1.core p).queue q = rest ∧
          (∀ j (h : j < t.words.length), d.toNat + j ≠ 0 → c1.greg p (d.toNat + j) = t.words[j]) ∧
          (a.toNat ≠ 0 → c1.greg p a.toNat = BitVec.ofNat 32 (t.words.length * 256 + t.port * 4096)) ∧
          (∀ r, r ≠ a.toNat → (r < d.toNat ∨ d.toNat + t.words.length ≤ r) → c1.greg p r = s.chip.greg p r) ∧
          (∀ q', q' < 4 → q' ≠ q → (c1.core p).queue q' = (s.chip.core p).queue q') ∧ RegsKept s.chip c1 (PmonOf p) ∧
          PacketEnters s.chip c1 (p / 32) 21 5 (fun pk => pk.cls = 5 ∧ pk.src = s.chip.logicalOf p ∧ pk.op = 0x21 ∧
            wbits pk.data 3 0 = t.port % 16 ∧ wbits pk.data 9 4 = t.words.length ∧ wbits pk.data 10 10 = 0))))

/-- R170, R212, R171, R215: SEND and RECV.
Rests on the model's choices of log 19, 125. -/
def Obligations.TupleInstructions : Prop := SendTuplesHold ∧ ReceiveTuplesHold

/-- The three operations of R224 on a value, a FLAG's ARRIVE apart: ADD, SET, ARRIVE. -/
def syncNext (ty op v x : Nat) : Nat := (if op = 0 then v + x else if op = 1 then x else if ty = 2 then 1 else v + 1) % 2 ^ 32

/-- R173, R174, R224, R225: SOP on an object of the core itself applies the operation at once and answers OK; SWAIT on a satisfied object returns
its value and consumes it, with 0 in gA, and otherwise waits; WFE returns the ready sources of its mask, or waits while there is none; an empty mask is
ILLEGAL, and a mask with a reserved bit is once a source is ready. -/
def SyncInstructionsHold : Prop :=
  ∀ (s : State) (i : CoreId) (d a b : BitVec 5) (f : BitVec 11) (j : Nat),
    let p := s.chip.pcore i.toNat
    let m := s.chip.greg p a.toNat
    j < 8 →
    (f.toNat < 3 → m = BitVec.ofNat 32 (i.toNat * 8 + j) → s.chip.syncType p j ≠ 1 → Free s.chip i.toNat (rWord 0x23 d a b f) →
      ∃ c1, InSequence (.sop i d a b f) s p c1 ∧
        c1.syncValue p j = syncNext (s.chip.syncType p j) f.toNat (s.chip.syncValue p j) (s.chip.greg p b.toNat).toNat ∧
        c1.core p = (s.chip.core p).setReg d.toNat 0 ∧ RegsKept s.chip c1 (fun y => y = Reg.SYNC_VALUE p j ∨ PmonOf p y)) ∧
    (Free s.chip i.toNat (rWord 0x24 d a 0 (BitVec.ofNat 11 j)) →
      (s.chip.satisfied p j = true → InSequence (.swait i d a 0 (BitVec.ofNat 11 j)) s p
        (((s.chip.consume p j).setReg p d.toNat (s.chip.rd (Reg.SYNC_VALUE p j))).setReg p a.toNat 0)) ∧
      (s.chip.satisfied p j = false → Waits (.swait i d a 0 (BitVec.ofNat 11 j)) s p)) ∧
    (Free s.chip i.toNat (rWord 0x25 d a b f) →
      let r := m &&& BitVec.ofNat 32 (s.chip.readyMask p i.toNat)
      (m = 0 ∨ (r ≠ 0 ∧ 2 ^ 13 ≤ m.toNat) → TakesExceptions s.chip p → Traps (.wfe i d a b f) s p ILLEGAL (rWord 0x25 d a b f) 0) ∧
      (m ≠ 0 → r = 0 → Waits (.wfe i d a b f) s p) ∧
      (m.toNat < 2 ^ 13 → r ≠ 0 → InSequence (.wfe i d a b f) s p (s.chip.setReg p d.toNat r)))

/-- R32, R131, R176, R177, R179: MXPASS while a pass runs or both banks are in use waits, and so it does while a Dune slice holds the matrix unit, which
then grants no further slice before it; with operands that fail R177 it raises MXCFG; a dense pass it may start stands in the core's
matrix unit with its population and block, no lane written back yet. EVSEND with room puts its event, with the tag of the chip time, into
the queues FUNCT names, and without room waits. -/
def PassesAndEventsHold : Prop :=
  ∀ (s : State) (i : CoreId) (d a b : BitVec 5) (dest : Nat),
    let p := s.chip.pcore i.toNat
    let k := s.chip.core p
    let ga := s.chip.greg p a.toNat
    let gb := s.chip.greg p b.toNat
    let gd := s.chip.greg p d.toNat
    let args : MxArgs := MxArgs.mk (wbits ga 4 0) (wbits ga 13 5) (wbits ga 31 16) (wbits gb 15 0) (wbits gd 18 0) false
    (Free s.chip i.toNat (rWord 0x28 d a b 0) →
      (k.slice = false → s.chip.mxStalls p i.toNat = true → Waits (.mxpass i d a b 0) s p) ∧
      (k.slice = true → ∃ t, Leaves (.mxpass i d a b 0) s t ∧ t.core p = { k with mxWait := some (s.chip.pc p) } ∧ t.seqState p = 2 ∧
        t.matrixIdle p = false ∧ t.mem = s.chip.mem) ∧
      (s.chip.mxStalls p i.toNat = false → k.slice = false → wbits ga 15 14 = 0 → gb.toNat < 2 ^ 16 → gd.toNat < 2 ^ 19 →
        (s.chip.mxOk p i.toNat args = false → TakesExceptions s.chip p → Traps (.mxpass i d a b 0) s p MXCFG (rWord 0x28 d a b 0) 0) ∧
        (s.chip.mxOk p i.toNat args = true → ∃ c1 m, InSequence (.mxpass i d a b 0) s p c1 ∧
          c1.core p = { k with mx := some m } ∧ m.gang = false ∧ m.pop = s.chip.rangePop p args.range ∧ m.block = args.block ∧
          m.lane = 0 ∧ m.next = 0 ∧ m.heldEv = none ∧ m.owner = i.toNat ∧ m.desc = s.chip.popDesc p m.pop ∧ m.acc.length = s.chip.lanes p ∧
          c1.mem = s.chip.mem))) ∧
    (1 ≤ dest → dest ≤ 3 → Free s.chip i.toNat (rWord 0x2A 0 a b (BitVec.ofNat 11 dest)) →
      let ins : Instr := .evsend i 0 a b (BitVec.ofNat 11 dest)
      let ev := mkEvent ga (gb.extractLsb' 0 8) (wbits gb 12 8) (tagOf s.chip.time)
      (k.emitRoom dest = false → Waits ins s p) ∧
      (k.emitRoom dest = true → gb.toNat < 2 ^ 13 → wbits gb 12 8 < s.chip.lanes p →
        ∃ c1, InSequence ins s p c1 ∧ (c1.core p).outq = k.outq ++ (if dest % 2 = 1 then [ev] else []) ∧
          (c1.core p).loopq.map (·.ev) = k.loopq.map (·.ev) ++ (if 2 ≤ dest then [ev] else []) ∧
          { c1.core p with outq := k.outq, loopq := k.loopq, age := k.age } = k ∧ RegsKept s.chip c1 (PmonOf p)))

/-- R173, R174, R224, R225, R176, R177, R179, R32, R131: SOP, SWAIT and WFE; MXPASS and EVSEND.
Rests on the model's choices of log 19, 40. -/
def Obligations.SyncAndPassInstructions : Prop := SyncInstructionsHold ∧ PassesAndEventsHold

/-! ## The fabric (R94 to R122) -/

/-- The buffer of class `cls` at `input` of cluster `k` has lost its head; what waited for the space may have entered behind. -/
def HeadLeft (c t : Chip) (k input cls : Nat) : Prop := ∃ more, t.buf k input cls = (c.buf k input cls).tail ++ more

/-- R103, R105, R106: an event that finds its multicast entry, the entry naming one output that is neither removed nor taken, leaves by it: into the
delivery stage of a core port, or into the neighbour's buffer; its own buffer is free again. -/
def EventHopsHold : Prop :=
  ∀ (s : State) (k : Cluster) (input : BitVec 5) (e : DWord) (n o : Nat),
    let c := s.chip
    let kk := k.toNat
    let ii := input.toNat
    c.routerOn kk = true → (c.buf kk ii 0).head? = some (.event e none) → c.lookup kk (evKey e) = some n →
    (c.mcast kk n 2).toNat % 2 ^ 21 = 2 ^ o → c.removed kk ii o = false →
    (o < 16 → c.staged kk o 0 = none → c.frozenPort (kk * 16 + o) = false →
      ∃ t, Leaves (.eventHop k input) s t ∧ t.staged kk o 0 = some { flit := .event e none, slot := none } ∧ HeadLeft c t kk ii 0 ∧
        t.cores = c.cores ∧ t.mem = c.mem) ∧
    (∀ k', 16 ≤ o → o ≤ 19 → neighbour c kk (o - 16) = some k' → c.room k' (arriveOn (o - 16)) 0 = true →
      ∃ t, Leaves (.eventHop k input) s t ∧ t.buf k' (arriveOn (o - 16)) 0 = c.buf k' (arriveOn (o - 16)) 0 ++ [.event e none] ∧
        HeadLeft c t kk ii 0 ∧ t.cores = c.cores ∧ t.mem = c.mem)

/-- R107: an event without a matching entry is discarded, counted in RT_MISS_CNT, its key kept in RT_MISS_LAST and RT_IRQ_STATUS.MISS set. -/
def EventMissesHold : Prop :=
  ∀ (s : State) (k : Cluster) (input : BitVec 5) (e : DWord),
    let c := s.chip
    let kk := k.toNat
    c.routerOn kk = true → (c.buf kk input.toNat 0).head? = some (.event e none) → c.lookup kk (evKey e) = none →
    ∃ t, Leaves (.eventHop k input) s t ∧ t.get (Reg.RT_MISS_CNT_COUNT kk) = counted c (Reg.RT_MISS_CNT_COUNT kk) 1 ∧
      t.rd (Reg.RT_MISS_LAST kk) = evKey e ∧ t.get (Reg.RT_IRQ_STATUS_MISS kk) = 1 ∧ HeadLeft c t kk input.toNat 0 ∧
      t.cores = c.cores ∧ t.mem = c.mem

/-- R97, R477: a packet with a LOCAL hop goes to the stage of the core port of its destination, one with a mesh hop to the neighbour's buffer, the hop
consumed; END and 6 are bad hops: counted, and the packet is gone. -/
def PacketHopsHold : Prop :=
  ∀ (s : State) (k : Cluster) (input : BitVec 5) (cls : BitVec 3) (p : Packet),
    let c := s.chip
    let kk := k.toNat
    let ii := input.toNat
    let h := hop p.route 0
    c.routerOn kk = true → (c.buf kk ii cls.toNat).head? = some (.packet p) → p.cls = cls.toNat →
    (h = 4 → c.staged kk (p.dst % 16) cls.toNat = none → c.frozenPort (kk * 16 + p.dst % 16) = false →
      ∃ t, Leaves (.packetHop k input cls) s t ∧ t.staged kk (p.dst % 16) cls.toNat = some { flit := .packet p.shift, slot := none } ∧
        HeadLeft c t kk ii cls.toNat ∧ t.cores = c.cores ∧ t.mem = c.mem) ∧
    (∀ k', h < 4 → edgeExit kk h = false → neighbour c kk h = some k' → c.room k' (arriveOn h) cls.toNat = true →
      ∃ t, Leaves (.packetHop k input cls) s t ∧
        t.buf k' (arriveOn h) cls.toNat = c.buf k' (arriveOn h) cls.toNat ++ [.packet p.shift] ∧
        HeadLeft c t kk ii cls.toNat ∧ t.cores = c.cores ∧ t.mem = c.mem) ∧
    (6 ≤ h → ∃ t, Leaves (.packetHop k input cls) s t ∧ t.get (Reg.RT_BADHOP_CNT_COUNT kk) = counted c (Reg.RT_BADHOP_CNT_COUNT kk) 1 ∧
      t.get (Reg.RT_IRQ_STATUS_BADHOP kk) = 1 ∧ HeadLeft c t kk ii cls.toNat ∧ t.cores = c.cores ∧ t.mem = c.mem)

/-- R117, R121, R127: the event in a core port's stage enters the input queue of the slot that its cluster's active map gives, with the next age, or
is absorbed and counted where that slot is fenced. -/
def EventDeliveryHold : Prop :=
  ∀ (s : State) (k : Cluster) (port : BitVec 4) (e : DWord) (left : Option (BitVec 21)),
    let c := s.chip
    let kk := k.toNat
    let sl := c.activeSlot kk (kk * 16 + port.toNat)
    let p := kk * 32 + sl
    c.routerOn kk = true → c.frozenPort (kk * 16 + port.toNat) = false →
    c.staged kk port.toNat 0 = some { flit := .event e left, slot := none } → sl < 17 → c.absorbing p = false → c.seats p = true →
    (c.fenced p = false → (c.core p).inq.length < 64 →
      ∃ t, Leaves (.eventDeliver k port) s t ∧ t.staged kk port.toNat 0 = none ∧
        t.core p = { c.core p with inq := (c.core p).inq ++ [{ ev := e, age := (c.core p).age, served := [] }], age := (c.core p).age + 1 } ∧
        (∀ q, q ≠ p → t.core q = c.core q) ∧ t.mem = c.mem ∧ RegsKept c t (PmonOf p)) ∧
    (c.fenced p = true → ∃ t, Leaves (.eventDeliver k port) s t ∧ t.staged kk port.toNat 0 = none ∧ t.cores = c.cores ∧
      t.get (Reg.NI_ABSORB_CNT_COUNT kk) = counted c (Reg.NI_ABSORB_CNT_COUNT kk) 1)

/-- R103, R105, R106, R107, R117, R121, R127: an event from hop to hop, unmatched, and at its cores.
Rests on the model's choices of log 13, 36, 141. -/
def Obligations.EventRouting : Prop := EventHopsHold ∧ EventMissesHold ∧ EventDeliveryHold

/-- R117, R478: a packet stamped with the active epoch for a slot that takes it, well formed and no request, waits at the core for its step; a
malformed one is counted and discarded. -/
def PacketDeliveryHold : Prop :=
  ∀ (s : State) (k : Cluster) (port : BitVec 4) (cls : BitVec 3) (p : Packet) (sl : Option Nat),
    let c := s.chip
    let kk := k.toNat
    let q := kk * 32 + p.dslot
    c.routerOn kk = true → c.frozenPort (kk * 16 + port.toNat) = false → c.staged kk port.toNat cls.toNat = some { flit := .packet p, slot := sl } →
    p.epoch = c.get (Reg.NI_MAP_STAT_EPOCH kk) → p.dslot < 17 → c.fenced q = false → c.absorbing q = false → c.seats q = true →
    c.swapping kk = false → p.cls ≠ 3 →
    (p.malformed = false → ∃ t, Leaves (.packetDeliver k port cls) s t ∧ t.staged kk port.toNat cls.toNat = none ∧
      t.core q = { c.core q with arrived := (c.core q).arrived ++ [p] } ∧ (∀ x, x ≠ q → t.core x = c.core x) ∧
      (∀ a, t.rd a = c.rd a) ∧ t.mem = c.mem) ∧
    (p.malformed = true → ∃ t, Leaves (.packetDeliver k port cls) s t ∧ t.staged kk port.toNat cls.toNat = none ∧
      t.get (Reg.NI_BAD_PKT_COUNT q) = counted c (Reg.NI_BAD_PKT_COUNT q) 1 ∧ t.cores = c.cores ∧ t.mem = c.mem ∧
      RegsKept c t (· = Reg.NI_BAD_PKT q))

/-- R97, R477, R117, R478: a packet from hop to hop and at its slot.
Rests on the model's choices of log 13, 140. -/
def Obligations.PacketRouting : Prop := PacketHopsHold ∧ PacketDeliveryHold

/-- The active map of cluster `k` is the shadow that stood there, under a new epoch, the old one still draining (R118). -/
def Swapped (c t : Chip) (k epoch : Nat) : Prop :=
  (∀ i, i < 1024 → t.activeSlot k i = c.get (Reg.NI_MAP_SHADOW_SLOT k i)) ∧ t.get (Reg.NI_MAP_STAT_EPOCH k) = epoch ∧
  t.get (Reg.NI_MAP_STAT_PREV_EPOCH k) = c.get (Reg.NI_MAP_STAT_EPOCH k) ∧ t.get (Reg.NI_MAP_STAT_DRAINED k) = 0

/-- R118, R119: a swap makes the shadow map active in one cluster or in every present one, unless a cluster it names still drains, which notes
SWAP_REJ; the end of a drain makes the shadow equal to the active copy; DRAIN_LATE marks every cluster that still drains and makes one report.
Rests on the model's choices of log 18. -/
def Obligations.MapSwaps : Prop :=
  ∀ (s : State) (k : Cluster) (epoch : BitVec 4),
    let c := s.chip
    let kk := k.toNat
    s.RegsWf →
    (kk < c.clusters →
      (c.swapping kk = false → ∃ t, Leaves (.niMapCtrlSwap k epoch) s t ∧ Swapped c t kk epoch.toNat ∧ t.cores = c.cores ∧ t.mem = c.mem) ∧
      (c.swapping kk = true → ∃ t, Leaves (.niMapCtrlSwap k epoch) s t ∧ t.get (Reg.NI_MAP_STAT_SWAP_REJ kk) = 1 ∧
        OnlyRegs c t (· = Reg.NI_MAP_STAT kk))) ∧
    ((∀ j, j < c.clusters → c.swapping j = false) → ∃ t, Leaves (.niMapBcastSwap epoch) s t ∧
      (∀ j, j < c.clusters → Swapped c t j epoch.toNat) ∧ t.cores = c.cores ∧ t.mem = c.mem) ∧
    (kk < c.clusters → c.swapping kk = true → ∃ t, Leaves (.niMapBcastSwap epoch) s t ∧ (∀ j, j < c.clusters → t.get (Reg.NI_MAP_STAT_SWAP_REJ j) = 1) ∧
      OnlyRegs c t (fun a => ∃ j, j < c.clusters ∧ a = Reg.NI_MAP_STAT j)) ∧
    (kk < c.clusters → c.swapping kk = true → c.oldPackets kk = false → c.rotPhase ≠ 4 → c.fw.reloads = [] →
      ∃ t, Leaves (.mapDrainDone k) s t ∧ (∀ i, i < 1024 → t.get (Reg.NI_MAP_SHADOW_SLOT kk i) = c.activeSlot kk i) ∧
        (∀ i, i < 1024 → t.activeSlot kk i = c.activeSlot kk i) ∧ t.get (Reg.NI_MAP_STAT_DRAINED kk) = 1 ∧ t.cores = c.cores ∧ t.mem = c.mem) ∧
    (kk < c.clusters → c.swapping kk = true → c.get (Reg.NI_MAP_STAT_DRAIN_LATE kk) = 0 →
      ∃ t j e, Leaves .drainLate s t ∧ (∀ x, x < c.clusters → c.swapping x = true → t.get (Reg.NI_MAP_STAT_DRAIN_LATE x) = 1) ∧
        t.fw.log = c.fw.log ++ [e] ∧ e.code = 0x0008 ∧ e.subject = j ∧ c.swapping j = true ∧ ∀ x, x < j → c.swapping x = true →
          c.get (Reg.NI_MAP_STAT_DRAIN_LATE x) = 1)

/-! ## Wadis and sync objects from the outside (R209 to R230) -/

/-- The oldest packet of class `cls` delivered to slot `p` and waiting for its step is `pk`. -/
abbrev FirstArrived (c : Chip) (p cls : Nat) (pk : Packet) (rest : List Packet) : Prop :=
  splitFirst (fun x => x.cls == cls) (c.core p).arrived = some (pk, rest)

/-- The router of cluster `k` has been given the WCREDIT for a tuple of `pk` (R214): its port, its words, ORPHAN. -/
def CreditGoes (c t : Chip) (k : Nat) (pk : Packet) (orphan : Nat) : Prop :=
  PacketEnters c t k 21 5 (fun x => x.cls = 5 ∧ x.op = 0x21 ∧ wbits x.data 3 0 = pk.wadiPort ∧ wbits x.data 9 4 = pk.tuple.words.length ∧
    wbits x.data 10 10 = orphan ∧ wbits x.data 11 11 = 0)

/-- R213, R218, R214: a tuple for an open queue with room stands behind what the queue holds; one that an open queue has no room for sets OVF and is counted
in DISCARD.OVF, one for a closed queue in DISCARD.DRAINED, and both return their credits, the latter with ORPHAN. -/
def TuplesArriveHold : Prop :=
  ∀ (s : State) (slot : PCore) (pk : Packet) (rest : List Packet),
    let c := s.chip
    let p := slot.toNat
    let q := pk.wadiQueue
    FirstArrived c p 1 pk rest → c.swapping (p / 32) = false →
    (c.queueOpen p q = true → wordsOf ((c.core p).queue q) + pk.tuple.words.length ≤ 32 →
      ∃ t, Leaves (.wadiTupleArrive slot) s t ∧ t.core p = ({ c.core p with arrived := rest } : Core).setQueue q ((c.core p).queue q ++ [pk.tuple]) ∧
        (∀ x, x ≠ p → t.core x = c.core x) ∧ (∀ a, t.rd a = c.rd a) ∧ t.mem = c.mem) ∧
    (c.queueOpen p q = true → 32 < wordsOf ((c.core p).queue q) + pk.tuple.words.length →
      ∃ t, Leaves (.wadiTupleArrive slot) s t ∧ t.core p = { c.core p with arrived := rest } ∧ t.get (Reg.WADI_Q_STAT_OVF p q) = 1 ∧
        t.get (Reg.WADI_Q_DISCARD_OVF p q) = counted c (Reg.WADI_Q_DISCARD_OVF p q) pk.tuple.words.length ∧
        (OpenInput c (p / 32) 21 5 → CreditGoes c t (p / 32) pk 0)) ∧
    (c.queueOpen p q = false → ∃ t, Leaves (.wadiTupleArrive slot) s t ∧ t.core p = { c.core p with arrived := rest } ∧
      t.get (Reg.WADI_Q_DISCARD_DRAINED p q) = counted c (Reg.WADI_Q_DISCARD_DRAINED p q) pk.tuple.words.length ∧
      (OpenInput c (p / 32) 21 5 → CreditGoes c t (p / 32) pk 1))

/-- R214, R219: a WCREDIT for a bound port adds its count to CRED, never past CREDITS; RELOAD fills it; ORPHAN marks the port. At an unbound port it
does nothing but leave. The bridge's own ports (R222) take theirs from what has reached the bridge. -/
def CreditsReturnHold : Prop :=
  ∀ (s : State) (slot : PCore) (pk : Packet) (rest : List Packet),
    let c := s.chip
    let p := slot.toNat
    let port := pk.data.toNat % 16
    let cap := c.get (Reg.WADI_SPORT_CFG_CREDITS p port)
    let credited := fun (t : Chip) =>
      t.get (Reg.WADI_SPORT_STAT_CRED p port) =
        (if bit pk.data.toNat 11 then cap else min cap (c.get (Reg.WADI_SPORT_STAT_CRED p port) + pk.data.toNat / 16 % 64)) ∧
      t.get (Reg.WADI_SPORT_STAT_ORPHAN p port) = (if bit pk.data.toNat 10 then 1 else c.get (Reg.WADI_SPORT_STAT_ORPHAN p port)) ∧
      RegsKept c t (· = Reg.WADI_SPORT_STAT p port) ∧ t.mem = c.mem
    (p ≠ 2047 → FirstArrived c p 5 pk rest → ∃ t, Leaves (.wcredit slot) s t ∧ t.core p = { c.core p with arrived := rest } ∧
      (∀ x, x ≠ p → t.core x = c.core x) ∧
      (c.get (Reg.WADI_SPORT_CFG_BOUND p port) = 1 → credited t) ∧
      (c.get (Reg.WADI_SPORT_CFG_BOUND p port) = 0 → ∀ a, t.rd a = c.rd a)) ∧
    (∀ e, p = 2047 → c.bridge.inbox.head? = some (e, .packet pk) → pk.cls = 5 → pk.op = 0x21 → c.get (Reg.WADI_SPORT_CFG_BOUND p port) = 1 →
      ∃ t, Leaves (.wcredit slot) s t ∧ t.bridge.inbox = c.bridge.inbox.tail ∧ credited t)

/-- R210, R211, R17, R110, R219: firmware's write to WADI_SPORT_CFG binds the port as written, fills CRED to CREDITS and clears ORPHAN; under
WADI_CTRL.LOCK it does nothing, and neither does one that binds the port over a path R110 refuses, over a Feryo link, to a core that no slot seats or beyond
the 32 words of the queue. A slot that answers no access gives an error response. -/
def PortBindingHold : Prop :=
  ∀ (s : State) (slot : PCore) (port : BitVec 4) (v : Word),
    let c := s.chip
    let p := slot.toNat
    let n := port.toNat
    let reached := p = bridgeSlot ∨ c.windowOpen p = true
    let bad := fun (b : Bool) (st : Nat) => b = true ∧ st ≠ OK
    (p ≠ bridgeSlot → c.windowOpen p = false → SlotRefused (.wadiSportCfgWrite slot port v) s p (0x5100 + 16 * n)) ∧
    (reached → c.get (Reg.WADI_CTRL_LOCK p) = 1 → Leaves (.wadiSportCfgWrite slot port v) s c) ∧
    (reached → c.get (Reg.WADI_CTRL_LOCK p) = 0 →
      (v.getLsbD 18 = false ∨ ∀ x ∈ (c.sportCfgWrite p n v).bindingChecks p n, ¬ bad x.1 x.2) → ∃ t, Leaves (.wadiSportCfgWrite slot port v) s t ∧
      t.rd (Reg.WADI_SPORT_CFG p n) = v &&& 0x7FFFF#32 ∧ t.get (Reg.WADI_SPORT_STAT_CRED p n) = wbits v 17 12 ∧
      t.get (Reg.WADI_SPORT_STAT_ORPHAN p n) = 0 ∧
      OnlyRegs c t (fun a => a = Reg.WADI_SPORT_CFG p n ∨ a = Reg.WADI_SPORT_STAT p n)) ∧
    (reached → v.getLsbD 18 = true →
      (c.seated (wbits v 11 0 / 4) = false ∨ 32 < wbits v 17 12 ∨
        (p ≠ bridgeSlot ∧ pathCheck c (p / 32) (c.sportPath p n) ∈ [PATH_ILLEGAL, ERR_PARAM, ERR_RESOURCE])) → Leaves (.wadiSportCfgWrite slot port v) s c)

/-- R213, R218, R214, R219, R222, R210, R211, R17, R18, R110: tuples arrive, credits return, ports are bound.
Rests on the model's choices of log 142, 143, 144. -/
def Obligations.TupleQueues : Prop := TuplesArriveHold ∧ CreditsReturnHold ∧ PortBindingHold

/-- Sync object `j` of slot `p` after an operation (R224): the new value, and for a BARRIER that it completes VALUE 0, GEN one more, SAT set, BAR_OVR
where SAT was still set. Nothing but the object's VALUE and STAT differs. -/
def SyncDone (c t : Chip) (p j op x : Nat) : Prop :=
  let v := syncNext (c.syncType p j) op (c.syncValue p j) x
  let full := c.syncType p j = 1 ∧ c.syncTarget p j ≠ 0 ∧ c.syncTarget p j ≤ v
  (full → t.syncValue p j = 0 ∧ t.get (Reg.SYNC_STAT_GEN p j) = (c.get (Reg.SYNC_STAT_GEN p j) + 1) % 2 ^ 16 ∧ t.get (Reg.SYNC_STAT_SAT p j) = 1 ∧
    t.get (Reg.SYNC_STAT_BAR_OVR p j) = (if c.get (Reg.SYNC_STAT_SAT p j) = 1 then 1 else c.get (Reg.SYNC_STAT_BAR_OVR p j))) ∧
  (¬ full → t.syncValue p j = v ∧ t.rd (Reg.SYNC_STAT p j) = c.rd (Reg.SYNC_STAT p j)) ∧
  RegsKept c t (fun a => a = Reg.SYNC_VALUE p j ∨ a = Reg.SYNC_STAT p j ∨ a = Reg.SYNC_ALARM p j)

/-- R224, R226, R227, R230, R18, R121: SET, ADD and ARRIVE by a register write, ARRIVE by an armed alarm that expires, and the operation a class-2 packet carries,
each applied to the object; a write to a slot that answers no access is an error response.
Rests on the model's choices of log 40, 143. -/
def Obligations.SyncOperations : Prop :=
  ∀ (s : State) (slot : PCore) (j : BitVec 3) (v : Word),
    let c := s.chip
    let p := slot.toNat
    let jj := j.toNat
    (c.windowOpen p = true →
      (∃ t, Leaves (.syncValueWrite slot j v) s t ∧ SyncDone c t p jj 1 v.toNat ∧ { t with regs := c.regs } = c) ∧
      (∃ t, Leaves (.syncAddWrite slot j v) s t ∧ SyncDone c t p jj 0 v.toNat ∧ { t with regs := c.regs } = c) ∧
      (v.getLsbD 0 = true → ∃ t, Leaves (.syncArriveWrite slot j v) s t ∧ SyncDone c t p jj 2 0 ∧ { t with regs := c.regs } = c) ∧
      (v.getLsbD 0 = false → Leaves (.syncArriveWrite slot j v) s c) ∧
      (∃ t, Leaves (.syncAlarmWrite slot j v) s t ∧ t.get (Reg.SYNC_ALARM_ALARM p jj) = v.toNat % 2 ^ 24 ∧
        t.get (Reg.SYNC_ALARM_ARMED p jj) = (if v.toNat % 2 ^ 24 = 0 then 0 else 1) ∧ OnlyRegs c t (· = Reg.SYNC_ALARM p jj))) ∧
    (c.windowOpen p = false → SlotRefused (.syncValueWrite slot j v) s p (syncOff jj 4) ∧ SlotRefused (.syncAddWrite slot j v) s p (syncOff jj 0x10) ∧
      SlotRefused (.syncArriveWrite slot j v) s p (syncOff jj 0x14) ∧ SlotRefused (.syncAlarmWrite slot j v) s p (syncOff jj 0x18)) ∧
    (c.get (Reg.SYNC_ALARM_ARMED p jj) = 1 → ∃ t, Leaves (.syncAlarmExpiry slot j) s t ∧ SyncDone c t p jj 2 0 ∧
      t.get (Reg.SYNC_ALARM_ARMED p jj) = 0 ∧ { t with regs := c.regs } = c) ∧
    (∀ pk rest, FirstArrived c p 2 pk rest → c.swapping (p / 32) = false → pk.op / 8 % 4 < 3 →
      ∃ t, Leaves (.syncPacket slot) s t ∧ SyncDone c t p (pk.op % 8) (pk.op / 8 % 4) pk.data.toNat ∧
        t.core p = { c.core p with arrived := rest } ∧ t.mem = c.mem)

/-! ## Event mode (R124 to R138) and dense passes (R139) -/

/-- R130, R131: with a free bank, GROUP_FORM reads the next slice of the group in progress into a bank with the group's lanes; after the group's last
block no group is in progress. -/
def RankOneUpdatesHold : Prop :=
  ∀ (s : State) (slot : PCore) (g : Group),
    let c := s.chip
    let p := slot.toNat
    let k := c.core p
    c.engineOn p = true → k.group = some g → k.usedBanks < 2 → k.slice = false → c.frozenSlot p = false →
    c.get (Reg.CORE_STAT_HOLD p) = 0 →
    let at_ := sliceAddr g.base g.row g.blocks g.block g.w8
    let bs := c.mem.readBytes (slotMem p at_) (sliceSize g.w8)
    let good := at_ + sliceSize g.w8 ≤ c.synSize ∧ bit (bytesToNat (bs.take 2)) 15 = g.w8
    ∃ t b, Leaves (.groupForm slot) s t ∧ (t.core p).banks = k.banks ++ [b] ∧ b.pop = g.pop ∧ b.range = g.range ∧ b.row = g.row ∧ b.block = g.block ∧
      b.items = g.items ∧ (good → b.weights = sliceWeights bs g.w8) ∧ (¬ good → b.weights = List.replicate 32 0 ∧
        t.get (Reg.MX_FMT_ERR_COUNT p) = counted c (Reg.MX_FMT_ERR_COUNT p) 1 ∧ t.get (Reg.MX_STAT_FMT_ERR p) = 1) ∧
      (t.core p).group = (if g.block + 1 < g.blocks then some { g with block := g.block + 1 } else none) ∧ t.mem = c.mem ∧
      (∀ x, x ≠ p → t.core x = c.core x)

/-- R133, R135 on one neuron-lane whose tag is the event's, no refractory interval running, no microprogram: the product of weight and payload enters
POT with saturation; below the threshold that is all; at or above it the neuron fires: the event carries the key of R94 and the rescaled excess,
POT keeps the excess or 0 by the reset mode, both post-traces rise and REFR is set where a refractory interval is enabled. Nothing is written
back before what the touch emits has been placed (R161); then the lane is; and while Drift enqueues are stopped none enters the queue (R207). -/
def NeuronTouchesHold : Prop :=
  ∀ (c : Chip) (p j : Nat) (ps : Pass),
    let i := neuronOf ps.desc ps.block j * c.lanes p + ps.item.lane
    let x := c.readLane p i
    let q := toQ16 (ps.weights.getD j 0 * ps.item.pay.toInt)
    let pot := sat32 (x.pot + q.1)
    let theta := descTheta ps.desc
    let r := c.touch p ps j
    let h := c.placeHeld p ps
    r.chip.mem = c.mem ∧
    (∀ b, ps.heldEv = none → ps.heldDrift = [] → ps.heldLane = some b → h.1.mem = (c.writeLane p b.1 b.2).mem ∧ h.2.free = true) ∧
    (∀ e, ps.heldEv = some e → (c.core p).emitRoom (descCfg ps.desc 5 4) = false → h = (c, ps)) ∧
    (c.driftOpen p = false → (h.1.core p).drift = (c.core p).drift) ∧
    (x.refr = false → x.tag = ps.item.tag.toNat → descCfg ps.desc 13 7 = 0 → 0 < theta.toInt →
    (pot.1 < theta.toInt → r.ev = none ∧ r.post = none ∧ r.learn = some (x.y1, x.y2) ∧
      r.back = some (i, { x with pot := pot.1, sat := q.2 || pot.2 })) ∧
    (theta.toInt ≤ pot.1 →
      let pay := rescale (pot.1 - theta.toInt) (descM ps.desc) (descS ps.desc)
      let y1 := min 255 (x.y1 + wbits (ps.desc.getD 5 0) 7 0)
      let y2 := min 255 (x.y2 + wbits (ps.desc.getD 5 0) 15 8)
      r.ev = some (mkEvent (emitKey (c.logicalOf p) (neuronOf ps.desc ps.block j) (descUser ps.desc)) pay ps.item.lane ps.item.tag) ∧
      let rest := if descCfg ps.desc 1 1 = 1 then 0 else pot.1 - theta.toInt
      r.back = some (i, Lane.mk rest x.tag y1 y2 (descRefrEn ps.desc) (q.2 || pot.2) x.user)))

/-- R130, R131, R133, R135, R94, R161, R207: what a group adds to its targets and how a neuron is touched.
Rests on the model's choices of log 146, 149. -/
def Obligations.EventEngine : Prop := RankOneUpdatesHold ∧ NeuronTouchesHold

/-- R131, R133, R137, R138, R139: the commands of the neuron engine and of the output queue. NEURON_PASS takes the next lane of the oldest bank, which is
in use until its last pass ends; EMIT_TIMEOUT
discards the event a stalled pass holds and counts it; OUTPUT_QUEUE_INJECT moves the oldest event into the router; SCRUB_TOUCH visits the next place,
decaying a lane that is at least 8,192 ticks old; DENSE_WRITEBACK ends a pass whose last output lies beyond COUNT. -/
def EngineCommandsHold : Prop :=
  ∀ (s : State) (slot : PCore),
    let c := s.chip
    let p := slot.toNat
    let k := c.core p
    (∀ b bs it its, c.engineOn p = true → k.pass = none → k.banks = b :: bs → b.items = it :: its → c.held p = false → k.denseNext = false →
      c.frozenSlot p = false → ∃ t, Leaves (.neuronPass slot) s t ∧
        (t.core p).banks = (if (t.core p).pass = none ∧ its.isEmpty then bs else { b with items := its } :: bs) ∧ t.greg p = c.greg p ∧
        (descCount (c.popDesc p b.pop) = 0 → descCfg (c.popDesc p b.pop) 6 6 = 0 → (t.core p).pass = none ∧ t.mem = c.mem)) ∧
    (∀ ps e, k.pass = some ps → ps.heldEv = some e → c.get (Reg.NE_CFG_EMIT_TO p) ≠ 0 → ∃ t, Leaves (.emitTimeout slot) s t ∧
      (t.core p).pass = some { ps with heldEv := none } ∧ t.get (Reg.NE_EMIT_DROP_COUNT p) = counted c (Reg.NE_EMIT_DROP_COUNT p) 1 ∧
      RegsKept c t (fun a => a = Reg.NE_EMIT_DROP p ∨ PmonOf p a) ∧ t.mem = c.mem) ∧
    (∀ i e es, c.engineOn p = true → c.logical? p = some i → k.outq = e :: es → c.room (i / 16) (i % 16) 0 = true →
      ∃ t, Leaves (.outputQueueInject slot) s t ∧ t.core p = { k with outq := es } ∧
        t.buf (i / 16) (i % 16) 0 = c.buf (i / 16) (i % 16) 0 ++ [.event e none] ∧ (∀ a, t.rd a = c.rd a) ∧ t.mem = c.mem) ∧
    (∀ pop i, c.engineOn p = true → c.get (Reg.NE_CFG_SCRUB_EN p) = 1 → c.held p = false → k.pass = none → k.mx = none → c.frozenSlot p = false →
      c.placeAt p k.scrub (List.range 16) = some (.slot pop i) → ∃ t, Leaves (.scrubTouch slot) s t ∧ (t.core p).scrub = k.scrub + 1 ∧
        (let x := c.readLane p i
         let d := ((tagOf c.time).toNat + 65536 - x.tag) % 65536
         (d < 8192 → t.mem = c.mem) ∧
         (8192 ≤ d → d < 32768 → x.refr = false →
           t.mem = (c.writeLane p i (c.decayLane p pop (tagOf c.time).toNat x).1).mem))) ∧
    (∀ m, c.engineOn p = true → k.pass = none → k.mx = some m → m.heldEv = none → m.ahead = false → m.lane + 1 = c.lanes p → m.next = 31 →
      descCount m.desc ≤ 32 * m.block + 31 → ∃ t, Leaves (.denseWriteback slot) s t ∧ t.core p = { k with mx := none } ∧
        t.mem = c.mem ∧ (∀ a, t.rd a = c.rd a))

/-- R139, R151: the write-back of one neuron-lane without a microprogram sets POT to the accumulated value in Q16.16 and TAG to the time's, and emits
where EMIT names a queue and the payload is not suppressed. -/
def DenseLanesHold : Prop :=
  ∀ (c : Chip) (p lane j : Nat) (m : MxPass) (d : List Word),
    let n := neuronOf d m.block j
    let i := n * c.lanes p + lane
    let v := toQ16 ((m.acc.getD lane []).getD j 0)
    let pay := rescale v.1 (descM d) (descS d)
    descCfg d 13 7 = 0 →
    let r := c.denseLane p m d lane j
    r.1.mem = (c.writeLane p i { c.readLane p i with pot := v.1, sat := v.2, tag := (tagOf c.time).toNat }).mem ∧
    r.2 = (if (descCfg d 3 3 = 1 ∧ pay = 0) ∨ descCfg d 5 4 = 0 then none
      else some (mkEvent (emitKey (c.logicalOf p) n (descUser d)) pay lane (tagOf c.time)))

/-- R131, R133, R137, R138, R139, R151: the engine's commands, and a lane of a dense pass.
Rests on the model's choices of log 18, 38, 147, 148. -/
def Obligations.EngineAndDense : Prop := EngineCommandsHold ∧ DenseLanesHold

/-! ## Learning (R193 to R206) -/

/-- R199, R201: one code evaluated advances the generator by a step and adds D plus a random part below one unit, floored, clamped to the code's width;
a clamp is counted. -/
def StochasticRoundingHold : Prop :=
  ∀ (c : Chip) (p pop tagBit : Nat) (f : Factors) (code : Int),
    let l := lfsrStep (c.rd (Reg.LRN_SEED p))
    let sh := 16 + c.get (Reg.LRN_POP_CFG_CEXP p pop)
    let v := code + Int.fdiv (c.driftSum p pop tagBit f code + (l.toNat % 2 ^ sh : Nat)) (2 ^ sh : Nat)
    let hi : Int := if f.w8 then 127 else 7
    let lo : Int := if f.w8 then -128 else -8
    let r := c.evalCode p pop tagBit f code
    r.1.rd (Reg.LRN_SEED p) = l ∧ r.2 = max lo (min hi v) ∧ r.1.mem = c.mem ∧ r.1.cores = c.cores ∧
    r.1.get (Reg.LRN_SAT_CNT_COUNT p) = (if v < lo ∨ hi < v then counted c (Reg.LRN_SAT_CNT_COUNT p) 1 else c.get (Reg.LRN_SAT_CNT_COUNT p)) ∧
    RegsKept c r.1 (fun a => a = Reg.LRN_SEED p ∨ a = Reg.LRN_SAT_CNT p ∨ PmonOf p a)

/-- R202 to R206: DRIFT_ENTRY takes the next entry of the Drift queue unless a Dune slice holds the matrix unit; an entry whose slice fails its check
changes no code and is counted. R_QUEUE_WORD writes the third factor of the lane its word names, or of every lane, and its tuple leaves; a word with a
lane of LANES or more is counted as an error. -/
def LearningCommandsHold : Prop :=
  ∀ (s : State) (slot : PCore),
    let c := s.chip
    let p := slot.toNat
    let k := c.core p
    c.engineOn p = true →
    (∀ d ds, k.drift = d :: ds → k.slice = true → Leaves (.driftEntry slot) s c) ∧
    (∀ pop i row b lane x1 x2 pay outs ds, k.drift = .pre pop i row b lane x1 x2 pay outs :: ds → k.slice = false →
      ∃ t, Leaves (.driftEntry slot) s t ∧ t.core p = { k with drift := ds } ∧ (∀ x, x ≠ p → t.core x = c.core x) ∧
        (c.sliceBad p (c.driftAddr p i pop row b) (c.rangeW8 p i) = true → t.mem = c.mem ∧
          t.get (Reg.MX_FMT_ERR_COUNT p) = counted c (Reg.MX_FMT_ERR_COUNT p) 1 ∧ t.get (Reg.MX_STAT_FMT_ERR p) = 1)) ∧
    (∀ w tup rest, c.get (Reg.LRN_CFG_RQ_EN p) = 1 → (k.queue (c.get (Reg.LRN_CFG_RQ p))) = tup :: rest → tup.words = [w] → c.rot.taken = false →
      ∃ t, Leaves (.rQueueWord slot) s t ∧ (t.core p).queue (c.get (Reg.LRN_CFG_RQ p)) = rest ∧ t.mem = c.mem ∧
        (wbits w 31 14 = 0 → wbits w 13 13 = 0 → wbits w 12 8 < c.lanes p → t.get (Reg.LRN_R_R p (wbits w 12 8)) = wbits w 7 0 ∧
          ∀ l, l < 32 → l ≠ wbits w 12 8 → t.get (Reg.LRN_R_R p l) = c.get (Reg.LRN_R_R p l)) ∧
        (wbits w 31 14 = 0 → wbits w 13 13 = 1 → ∀ l, l < 32 → t.get (Reg.LRN_R_R p l) = wbits w 7 0) ∧
        (wbits w 31 14 = 0 → wbits w 13 13 = 0 → c.lanes p ≤ wbits w 12 8 →
          t.get (Reg.LRN_ERR_CNT_RQ p) = counted c (Reg.LRN_ERR_CNT_RQ p) 1 ∧ ∀ l, l < 32 → t.get (Reg.LRN_R_R p l) = c.get (Reg.LRN_R_R p l)))

/-- R199, R201, R202 to R206: rounding, and the commands of the Drift unit. -/
def Obligations.Learning : Prop := StochasticRoundingHold ∧ LearningCommandsHold

/-! ## Cell links (R37 to R72) -/

/-- The port stands in FAULT with `code` and has made its one report (R44, R72): no exchange is open. -/
def PortFaulted (c t : Chip) (p code : Nat) : Prop :=
  t.portState p = 6 ∧ t.get (Reg.CL_PORT_STAT_FAULT p) = code ∧ (t.port p).ctrl = none ∧ (t.port p).reported = true ∧
  ((c.port p).reported = false → t.get Reg.CL_IRQ_STATUS_FAULT = 1 ∧
    ∃ l e, t.fw.log = l ++ [e] ∧ e.code = 0x0005 ∧ e.subject = p ∧ e.detail = code) ∧
  ∀ q, q ≠ p → t.port q = c.port q

/-- The frame the port has sent last is `f`, and it has sent nothing else. -/
def SentFrame (c t : Chip) (p : Nat) (f : CellFrame) : Prop := t.out = c.out ++ [.cellFrame p f]

/-- R44 to R46, R66: the states of bring-up. An enabled port's turn takes it to SIGNAL; a recovered clock to ALIGN; 64 idle pairs to IDENT, where its ID
request leaves under a nonce of its own; a timeout in SIGNAL or ALIGN to FAULT code 1; REARM_PERIOD and REBRING bring a port in FAULT back. -/
def PortBringUpHold : Prop :=
  ∀ (s : State) (p : Port),
    let c := s.chip
    let n := p.toNat
    let stat := fun (t : Chip) (st : Nat) => t.portState n = st ∧ OnlyRegs c t (· = Reg.CL_PORT_STAT n)
    let signal := fun (t : Chip) => t.portState n = 1 ∧ t.get (Reg.CL_PORT_STAT_FAULT n) = 0 ∧ (t.port n).nonce = none ∧ (t.port n).attempts = 0 ∧
      (t.port n).rxSeq = none ∧ RegsKept c t (· = Reg.CL_PORT_STAT n) ∧ t.mem = c.mem ∧ t.cores = c.cores
    n < c.clPorts → c.unitHeld 68 = false →
    (c.portState n = 0 → c.get Reg.CL_CTRL_ENABLE = 1 → c.get (Reg.CL_PORT_CFG_EN n) = 1 → ∃ t, Leaves (.clPortBringup p) s t ∧ signal t) ∧
    (c.portState n = 1 → (∃ t, Leaves (.clockRecoveryLock p) s t ∧ stat t 2) ∧ (∃ t, Leaves (.signalTimeout p) s t ∧ PortFaulted c t n 1)) ∧
    (c.portState n = 2 → (∃ t, Leaves (.alignTimeout p) s t ∧ PortFaulted c t n 1) ∧
      ((c.port n).nonce = none → ∃ t, Leaves (.alignDone p false) s t ∧ t.portState n = 3 ∧ t.fresh = c.fresh + 1 ∧
        (t.port n).nonce = some (Config.nonce c.fresh) ∧ (t.port n).reqTime = c.time ∧ (t.port n).attempts = 1 ∧
        SentFrame c t n (mkFrame 7 false (c.port n).txSeq c.time (idPayload n (Config.nonce c.fresh)))) ∧
      (c.get (Reg.CL_PORT_CFG_POL_AUTO n) = 0 → ∃ t, Leaves (.alignDone p true) s t ∧ PortFaulted c t n 4) ∧
      (c.get (Reg.CL_PORT_CFG_POL_AUTO n) = 1 → ∃ t, Leaves (.alignDone p true) s t ∧ t.portState n = 3 ∧
        t.get (Reg.CL_PORT_STAT_RX_INVERTED n) = 1)) ∧
    (c.portState n = 6 → (∃ t, Leaves (.clPortCmdRebring p) s t ∧ signal t) ∧
      (c.get Reg.CL_CFG_REARM_PERIOD ≠ 0 → c.get (Reg.CL_PORT_STAT_FAULT n) ≠ 5 → ∃ t, Leaves (.portRearm p) s t ∧ signal t) ∧
      (c.get Reg.CL_CFG_REARM_PERIOD = 0 ∨ c.get (Reg.CL_PORT_STAT_FAULT n) = 5 → Leaves (.portRearm p) s c))

/-- R46 to R50: identification. A request without an answer is repeated with DUP under its own SEQ, the third silence turns the transmitter round where
TXPOL_AUTO allows and the sixth is FAULT code 6. The port's own reply gives DELAY = (elapsed − turnaround) / 2 and the peer's serial number, and RUN,
or FAULT code 7 above 200 ticks; a reply that answers another port's nonce holds both ports in FAULT code 5. -/
def IdentificationHold : Prop :=
  ∀ (s : State) (p : Port) (f : CellFrame) (sof : Time),
    let c := s.chip
    let n := p.toNat
    let x := c.port n
    let pl := framePayload f
    n < c.clPorts → c.portState n = 3 → c.unitHeld 68 = false →
    (∀ nonce, x.nonce = some nonce → x.attempts ≠ 3 → x.attempts < 6 → ∃ t, Leaves (.idRequestRetry p) s t ∧
      t.port n = { x with reqTime := c.time, attempts := x.attempts + 1 } ∧ SentFrame c t n (mkFrame 7 true x.idSeq c.time (idPayload n nonce)) ∧
      (∀ a, t.rd a = c.rd a)) ∧
    (∀ nonce, x.nonce = some nonce → x.attempts = 3 → c.get (Reg.CL_PORT_CFG_TXPOL_AUTO n) = 1 → ∃ t, Leaves (.idRequestRetry p) s t ∧
      t.get (Reg.CL_PORT_STAT_TX_INVERTED n) = 1 - c.get (Reg.CL_PORT_STAT_TX_INVERTED n) ∧ (t.port n).attempts = 4) ∧
    (6 ≤ x.attempts → ∃ t, Leaves (.idRequestRetry p) s t ∧ PortFaulted c t n 6) ∧
    (c.pinsIdle = false → frameCrc f = frameCrcOf f → frameType f = 7 → framePver f = 1 →
      (pl.toNat % 256 = n → x.nonce = some (pl.extractLsb' 8 16) →
        let d := (((sof - x.reqTime).toNat : Int) - (pl.extractLsb' 80 16).toNat) / 2
        ∃ t, Leaves (.idReply p f sof) s t ∧ t.get (Reg.CL_PORT_DELAY_DELAY n) = (BitVec.ofInt 16 d).toNat ∧
          t.rd (Reg.CL_PORT_PEERID n) = pl.extractLsb' 48 32 ∧ (d ≤ 200 → t.portState n = 4 ∧ (t.port n).nonce = none) ∧
          (200 < d → t.portState n = 6 ∧ t.get (Reg.CL_PORT_STAT_FAULT n) = 7)) ∧
      (∀ m, pl.toNat % 256 = m → m ≠ n → m < c.clPorts → (c.port m).nonce = some (pl.extractLsb' 8 16) →
        ∃ t, Leaves (.idReply p f sof) s t ∧ t.portState n = 6 ∧ t.portState m = 6 ∧ t.get (Reg.CL_PORT_STAT_FAULT n) = 5 ∧
          t.get (Reg.CL_PORT_STAT_FAULT m) = 5 ∧ t.get (Reg.CL_PORT_STAT_PEER_PORT n) = m ∧ t.get (Reg.CL_PORT_STAT_PEER_PORT m) = n ∧
          t.get Reg.CL_IRQ_STATUS_CROSSED = 1))

/-- R44 to R46, R66, R46 to R50: a port from signal to RUN, and the exchange of IDs.
Rests on the model's choices of log 18, 23, 24, 25, 132. -/
def Obligations.PortsJoin : Prop := PortBringUpHold ∧ IdentificationHold

/-- The commands that bring a received frame of a port. -/
abbrev frameCmds (p : Port) (f : CellFrame) (sof : Time) : List Instr :=
  [.telemetryFrame p f sof, .edgeFrame p f sof, .alarmFrame p f sof, .ackFrame p f sof, .wakeFrame p f sof, .idReply p f sof]

/-- A frame that reaches a port and passes its checks (R41), the port not being sampled by Lookout. -/
abbrev GoodFrame (c : Chip) (n : Nat) (f : CellFrame) (type : Nat) : Prop :=
  n < c.clPorts ∧ c.pinsIdle = false ∧ c.unitHeld 68 = false ∧ c.portHears n = true ∧ frameCrc f = frameCrcOf f ∧ framePver f = 1 ∧ frameType f = type

/-- R41: a frame with a wrong CRC is discarded and counted in RXERR.CRC, one of an undefined type or version in RXERR.OTHER; a port whose alignment
is not done hears nothing. -/
def FrameChecksHold : Prop :=
  ∀ (s : State) (p : Port) (f : CellFrame) (sof : Time), ∀ ins ∈ frameCmds p f sof,
    let c := s.chip
    let n := p.toNat
    n < c.clPorts → c.pinsIdle = false → c.unitHeld 68 = false →
    (c.portHears n = false → Leaves ins s c) ∧
    (c.portHears n = true → frameCrc f ≠ frameCrcOf f → ∃ t, Leaves ins s t ∧ OnlyRegs c t (· = Reg.CL_PORT_RXERR n) ∧
      t.get (Reg.CL_PORT_RXERR_CRC n) = counted c (Reg.CL_PORT_RXERR_CRC n) 1 ∧ t.get (Reg.CL_PORT_RXERR_OTHER n) = c.get (Reg.CL_PORT_RXERR_OTHER n)) ∧
    (c.portHears n = true → frameCrc f = frameCrcOf f → frameType f = 0 ∨ 8 < frameType f ∨ framePver f ≠ 1 → ∃ t, Leaves ins s t ∧
      OnlyRegs c t (· = Reg.CL_PORT_RXERR n) ∧ t.get (Reg.CL_PORT_RXERR_OTHER n) = counted c (Reg.CL_PORT_RXERR_OTHER n) 1 ∧
      t.get (Reg.CL_PORT_RXERR_CRC n) = c.get (Reg.CL_PORT_RXERR_CRC n))

/-- R55, R65, R68: a good TELEMETRY or EDGE frame of a port in RUN with a mapping set enters the ingest FIFO with its time of arrival, or is counted
where the FIFO holds 16; in PAUSED it is counted in PDROP. The SEQs between the data frame before and this one that no other frame carried are counted in SEQGAP. -/
def DataFramesHold : Prop :=
  ∀ (s : State) (p : Port) (f : CellFrame) (sof : Time) (ins : Instr),
    let c := s.chip
    let n := p.toNat
    (ins = .telemetryFrame p f sof ∧ GoodFrame c n f 1) ∨ (ins = .edgeFrame p f sof ∧ GoodFrame c n f 2) →
    ∃ t, Leaves ins s t ∧
      (c.portState n = 4 → c.get (Reg.CL_PORT_CFG_MAP_COUNT n) ≠ 0 → (c.port n).fifo.length < 16 → (t.port n).fifo = (c.port n).fifo ++ [(f, sof)]) ∧
      (c.portState n = 4 → c.get (Reg.CL_PORT_CFG_MAP_COUNT n) ≠ 0 → 16 ≤ (c.port n).fifo.length → (t.port n).fifo = (c.port n).fifo ∧
        t.get (Reg.CL_PORT_DROP_COUNT n) = counted c (Reg.CL_PORT_DROP_COUNT n) 1 ∧ t.get Reg.CL_IRQ_STATUS_DROP = 1) ∧
      (c.portState n = 5 → (t.port n).fifo = (c.port n).fifo ∧ t.get (Reg.CL_PORT_PDROP_COUNT n) = counted c (Reg.CL_PORT_PDROP_COUNT n) 1) ∧
      (∀ last, (c.port n).rxSeq = some last → frameDup f = false →
        t.get (Reg.CL_PORT_SEQGAP_COUNT n) = counted c (Reg.CL_PORT_SEQGAP_COUNT n) (missingSeqs last (frameSeq f) (c.port n).heard)) ∧
      (frameDup f = false → (t.port n).rxSeq = some (frameSeq f)) ∧ (∀ q, q ≠ n → t.port q = c.port q) ∧ t.portState n = c.portState n

/-- R41, R55, R65, R68: the checks of a frame; DATA frames.
Rests on the model's choices of log 22, 26. -/
def Obligations.FramesArrive : Prop := FrameChecksHold ∧ DataFramesHold

/-- R42, R60 to R63: every good ALARM is acknowledged; one with a new SEQ is reported with its code and SEQ and counted. An ACK that names the open
exchange ends it, any other is counted in RXERR.OTHER. A WAKE frame's cause goes out as it came.
Rests on the model's choices of log 9, 131. -/
def Obligations.ControlFrames : Prop :=
  ∀ (s : State) (p : Port) (f : CellFrame) (sof : Time),
    let c := s.chip
    let n := p.toNat
    let x := c.port n
    let pl := (framePayload f).toNat
    (GoodFrame c n f 3 → ∃ t, Leaves (.alarmFrame p f sof) s t ∧ SentFrame c t n (mkFrame 5 false x.txSeq c.time (ackPayload 3 (frameSeq f))) ∧
      (frameSeq f ∉ x.alarms → frameSeq f ∈ (t.port n).alarms ∧ t.get Reg.CL_IRQ_STATUS_ALARM = 1 ∧
        t.get (Reg.CL_PORT_ALARM_CODE n) = pl % 256 ∧ t.get (Reg.CL_PORT_ALARM_SEQ n) = (frameSeq f).toNat ∧
        t.get (Reg.CL_PORT_ALARM_COUNT n) = counted c (Reg.CL_PORT_ALARM_COUNT n) 1) ∧
      (frameSeq f ∈ x.alarms → t.rd (Reg.CL_PORT_ALARM n) = c.rd (Reg.CL_PORT_ALARM n))) ∧
    (GoodFrame c n f 5 →
      (∀ e, x.ctrl = some e → pl % 256 = 4 → pl / 256 % 256 = e.seq.toNat → ∃ t, Leaves (.ackFrame p f sof) s t ∧ (t.port n).ctrl = none ∧
        t.rd (Reg.CL_PORT_RXERR n) = c.rd (Reg.CL_PORT_RXERR n) ∧
        (∀ m, e.origin = .mailbox m → m < 16 → t.mbxState m = 2 ∧ t.mem.read (mbxMem m 8) = 0 ∧
          t.mem.readNat (mbxMem m 0x10) 4 = pl / 65536 % 256)) ∧
      (x.ctrl = none → ∃ t, Leaves (.ackFrame p f sof) s t ∧ t.get (Reg.CL_PORT_RXERR_OTHER n) = counted c (Reg.CL_PORT_RXERR_OTHER n) 1)) ∧
    (GoodFrame c n f 8 → ∃ t, Leaves (.wakeFrame p f sof) s t ∧ t.out = c.out ++ [.wakeCause n ((framePayload f).setWidth 8)] ∧
      t.portState n = c.portState n)

/-- R54, R57, R58: a port's share of its slot. A port with no walk takes the oldest frame of its FIFO while INGEST_EN is 1; with one valid mapping entry
for telemetry, whose field lies in the payload, the event of the entry enters the edge port's buffer: key of the entry, payload the rescaled
difference of field and offset, lane of the port, tag of the frame. -/
def MappedTelemetryHold : Prop :=
  ∀ (s : State) (slot : BitVec 4) (n : Nat) (f : CellFrame) (sof : Time) (rest : List (CellFrame × Time)),
    let c := s.chip
    let x := c.port n
    let m := c.get (Reg.CL_PORT_CFG_MAP_BASE n)
    let w1 := c.mapWord m 1
    let w2 := c.mapWord m 2
    let width := wbits w2 11 8 + 1
    let field := (framePayload f).toNat / 2 ^ wbits w2 7 0 % 2 ^ width
    let v : Int := (if wbits w2 12 12 = 1 then signed width field else (field : Int)) - signed 16 (wbits w1 15 0)
    let tag := if frameUnsync f then tagOf sof else tagOf (frameTime f)
    n < c.clPorts → c.unitHeld 68 = false → n % 16 = slot.toNat → x.walk = none → x.fifo = (f, sof) :: rest → c.get Reg.CL_CTRL_INGEST_EN = 1 →
    (∃ t, Leaves (.engineSlot slot) s t ∧ (t.port n).fifo = rest) ∧
    (c.get (Reg.CL_PORT_CFG_MAP_COUNT n) = 1 → wbits w2 15 15 = 1 → wbits w2 19 16 = 1 → frameType f = 1 → wbits w2 7 0 + width ≤ 160 →
      smGet [] c.bridge.injCap (n / 16) = [] → c.room (n / 16) 19 0 = true →
      ∃ t, Leaves (.engineSlot slot) s t ∧ (t.port n).walk = none ∧ t.buf (n / 16) 19 0 = c.buf (n / 16) 19 0 ++
        [.event (mkEvent (c.mapWord m 0) (rescale v (wbits w1 31 16) (wbits (c.mapWord m 3) 4 0)) (c.get (Reg.CL_PORT_CFG_LANE n)) tag) none])

/-- R51: SYNC_FRAME_SEND sends one SYNC frame on every port in RUN or PAUSED, in port order, with the port's DELAY, the chip's count and the port's
number, and advances the count. -/
def SyncFramesHold : Prop :=
  ∀ (s : State),
    let c := s.chip
    let ports := (List.range c.clPorts).filter (fun p => c.portState p == 4 || c.portState p == 5)
    c.unitHeld 68 = false → ∃ t, Leaves .syncFrameSend s t ∧ t.syncCount = c.syncCount + 1 ∧
      t.out = c.out ++ ports.map (fun p => .cellFrame p (mkFrame 6 false (c.port p).txSeq c.time
        (BitVec.ofNat 160 (c.get (Reg.CL_PORT_DELAY_DELAY p) + c.syncCount.toNat * 2 ^ 16 + p * 2 ^ 48)))) ∧
      (∀ p ∈ ports, (t.port p).txSeq = (c.port p).txSeq + 1) ∧ (∀ a, t.rd a = c.rd a) ∧ t.mem = c.mem ∧ t.cores = c.cores

/-- R54, R57, R58, R51: mapped fields become events; SYNC frames.
Rests on the model's choices of log 9, 27, 28. -/
def Obligations.TelemetryAndSync : Prop := MappedTelemetryHold ∧ SyncFramesHold

/-- R60, R68 to R71: exchanges, pauses and faults of a port. A silent exchange is repeated with DUP up to three times and then fails with CTRL_FAIL; a pause
asked for in RUN takes effect in PAUSED, lasts until its DURATION, 0 being without end, or until RESUME; the wake pattern sets WAKE and names the
first port; a wiring condition on a live port is its FAULT, a window of 0 never expiring.
Rests on the model's choices of log 18, 29, 56. -/
def Obligations.PortExchangesAndPauses : Prop :=
  ∀ (s : State) (p : Port),
    let c := s.chip
    let n := p.toNat
    let x := c.port n
    (∀ e, x.ctrl = some e → e.retries < 3 → c.unitHeld 68 = false → ∃ t, Leaves (.controlRetry p) s t ∧ t.port n = { x with ctrl := some { e with retries := e.retries + 1 } } ∧
      SentFrame c t n (mkFrame 4 true e.seq c.time e.payload) ∧ (∀ a, t.rd a = c.rd a)) ∧
    (∀ e, x.ctrl = some e → e.retries = 3 → c.unitHeld 68 = false → ∃ t, Leaves (.controlExchangeFail p) s t ∧ (t.port n).ctrl = none ∧ t.get Reg.CL_IRQ_STATUS_CTRL_FAIL = 1 ∧
      (∀ m, e.origin = .mailbox m → m < 16 → t.mbxState m = 2 ∧ t.mem.read (mbxMem m 8) = BitVec.ofNat 8 ERR_TIMEOUT)) ∧
    (n < c.clPorts →
      (c.portState n = 4 → ∃ t, Leaves (.clPortCmdPause p) s t ∧ t.port n = { x with pauseReq := true } ∧ (∀ a, t.rd a = c.rd a)) ∧
      (c.portState n = 4 → x.pauseReq = true → c.unitHeld 68 = false → ∃ t, Leaves (.portPauseEffect p) s t ∧ t.portState n = 5 ∧ (t.port n).pauseReq = false) ∧
      (c.portState n = 5 → (∃ t, Leaves (.clPortCmdResume p) s t ∧ t.portState n = 4) ∧
        (c.get (Reg.CL_PORT_PAUSE_DURATION n) ≠ 0 → c.unitHeld 68 = false → ∃ t, Leaves (.clPauseExpiry p) s t ∧ t.portState n = 4) ∧
        (c.get (Reg.CL_PORT_PAUSE_DURATION n) = 0 → Leaves (.clPauseExpiry p) s c)) ∧
      (c.inLookout = false → c.pinsIdle = false → ∃ t, Leaves (.wakePattern p) s t ∧ t.get Reg.CL_IRQ_STATUS_WAKE = 1 ∧ t.get Reg.CL_WAKE_PORT_VALID = 1 ∧
        t.get Reg.CL_WAKE_PORT_PORT = (if c.get Reg.CL_WAKE_PORT_VALID = 1 then c.get Reg.CL_WAKE_PORT_PORT else n) ∧
        RegsKept c t (fun a => a = Reg.CL_IRQ_STATUS ∨ a = Reg.CL_WAKE_PORT)) ∧
      (1 ≤ c.portState n → c.portState n ≤ 5 → c.unitHeld 68 = false → c.pinsIdle = false →
        (c.get Reg.CL_CFG_LOS_WIN ≠ 0 → ∃ t, Leaves (.clWiringFault p .los) s t ∧ PortFaulted c t n 1) ∧
        (c.get Reg.CL_CFG_LOS_WIN = 0 → Leaves (.clWiringFault p .los) s c) ∧
        (c.get Reg.CL_CFG_SHORT_WIN ≠ 0 → ∃ t, Leaves (.clWiringFault p .short) s t ∧ PortFaulted c t n 2) ∧
        (∃ t, Leaves (.clWiringFault p .commonMode) s t ∧ PortFaulted c t n 3)))

/-! ## Timers and capture (R73 to R92) -/

/-- What lands on channel `k` in one tick (R77): STOP wins over START, also over one that lands in the tick of a STOP; RESET acts besides. No other
channel and no other register differs. -/
def Landed (c t : Chip) (k : Nat) (acts : List Action) : Prop :=
  let x := c.chan k
  let y := t.chan k
  t.get (Reg.TMR_CH_STAT_RUN k) = (if .stop ∈ acts then 0 else if .start ∈ acts ∧ x.stopTick ≠ some c.time then 1 else c.get (Reg.TMR_CH_STAT_RUN k)) ∧
  t.get (Reg.TMR_CH_COUNT_COUNT k) = (if .reset ∈ acts then 0 else c.get (Reg.TMR_CH_COUNT_COUNT k)) ∧
  (.reset ∈ acts → y.phase = 0 ∧ y.selfReset = false ∧ y.resetTick = some c.time) ∧
  (.reset ∉ acts → y.phase = x.phase ∧ y.selfReset = x.selfReset ∧ y.resetTick = x.resetTick) ∧
  y.edges = x.edges ∧ y.stamps = x.stamps ∧ y.queue = x.queue ∧
  (∀ j, j ≠ k → t.chan j = c.chan j) ∧ { t with regs := c.regs, chans := c.chans } = c ∧
  RegsKept c t (fun a => a = Reg.TMR_CH_STAT k ∨ a = Reg.TMR_CH_COUNT k)

/-- R386, R391: while the chip is in Lookout, or their domain in RET, the clocks of cell links, timers and capture stand: what these clocks and the lines do
there changes nothing; nor do the lines and pins while boundary scan owns them (R434). -/
def StandstillHold : Prop :=
  ∀ (s : State) (p : Port) (k : Chan) (n : Pair) (slot : BitVec 4) (e : Bool) (f : CellFrame) (sof : Time),
    let c := s.chip
    (c.unitHeld 68 = true → ∀ i ∈ [Instr.clPortBringup p, .clockRecoveryLock p, .signalTimeout p, .alignTimeout p, .alignDone p e, .idRequestRetry p,
      .portRearm p, .syncFrameSend, .controlRetry p, .controlExchangeFail p, .portPauseEffect p, .clPauseExpiry p, .clWiringFault p .los,
      .clWiringFault p .short, .clWiringFault p .commonMode, .engineSlot slot], Leaves i s c) ∧
    (c.unitHeld 69 = true → ∀ i ∈ [Instr.timerStep k, .linkAction k, .capture k e, .pairFault n .open_, .pairFault n .short, .pairFault n .cmLow,
      .pairFault n .cmHigh, .pairFaultRelease n e, .polarityCheckEnd n .steadyIdle, .polarityCheckEnd n .steadyOpposite], Leaves i s c) ∧
    (c.pinsIdle = true → ∀ i ∈ frameCmds p f sof ++ [Instr.wakePattern p, .clWiringFault p .los, .clWiringFault p .short, .clWiringFault p .commonMode, .capture k e,
      .pairFault n .open_, .pairFault n .short, .pairFault n .cmLow, .pairFault n .cmHigh, .tripIn, .wakeN], Leaves i s c)

/-- R76, R77: a write of TMR_CH_CMD leaves its action for the next tick, in which all of them land together; the link actions of earlier ticks land
together at LINK_ACTION, those of this tick not yet. -/
def TimerActionsHold : Prop :=
  ∀ (s : State) (k : Chan),
    let c := s.chip
    let n := k.toNat
    let x := c.chan n
    let waits := fun (i : Instr) (a : Action) => ∃ t, Leaves i s t ∧ t.chan n = { x with cmds := x.cmds ++ [a] } ∧
      (∀ j, j ≠ n → t.chan j = c.chan j) ∧ { t with chans := c.chans } = c
    waits (.tmrChCmdStart k) .start ∧ waits (.tmrChCmdStop k) .stop ∧ waits (.tmrChCmdReset k) .reset ∧
    (c.unitHeld 69 = false → ∃ t, Leaves (.linkAction k) s t ∧ Landed c t n ((x.due.filter (fun a => a.2 != c.time)).map (·.1)) ∧
      (t.chan n).due = x.due.filter (fun a => a.2 == c.time) ∧ (t.chan n).cmds = x.cmds) ∧
    (s.pending = [] → c.power.supply = 0 → c.power.inReset = false → c.unitHeld 69 = false → c.power.lko.entering = false → c.sync.slew = 0 →
      x.stopTick ≠ some (c.time + BitVec.ofNat 48 c.tickUnit) → x.cmds ≠ [] → ∃ t, step s = .next { s with chip := t } ∧
        t.get (Reg.TMR_CH_STAT_RUN n) = (if .stop ∈ x.cmds then 0 else if .start ∈ x.cmds then 1 else c.get (Reg.TMR_CH_STAT_RUN n)) ∧
        (.reset ∈ x.cmds → t.get (Reg.TMR_CH_COUNT_COUNT n) = 0 ∧ (t.chan n).phase = 0) ∧ (t.chan n).cmds = [])

/-- R74 to R76: a running counter advances by one, wraps to 0 past its maximum and sets OVFF, restarts from 0 where a match asked for it, sets MATCHF
when it reaches a MATCH that is not 0, stops when that trigger's self action is STOP, and hands the trigger's link action to the linked channel. The step of a self RESET keeps the host's write of that tick from the counter. -/
def TimerCountsHold : Prop :=
  ∀ (s : State) (k : Chan),
    let c := s.chip
    let n := k.toNat
    let x := c.chan n
    let old := c.get (Reg.TMR_CH_COUNT_COUNT n)
    let new := if selfResets x c.time then 0 else (old + 1) % 2 ^ 32
    let hit := c.get (Reg.TMR_CH_MATCH_MATCH n) ≠ 0 ∧ new = c.get (Reg.TMR_CH_MATCH_MATCH n)
    let past := old = 2 ^ 32 - 1
    let link := c.get (Reg.TMR_CH_CFG_LINK n)
    c.unitHeld 69 = false → c.get (Reg.TMR_CH_STAT_RUN n) = 1 → x.resetTick ≠ some c.time →
    ∃ t, Leaves (.timerStep k) s t ∧ t.get (Reg.TMR_CH_COUNT_COUNT n) = new ∧ (t.chan n).phase = 0 ∧
      t.get (Reg.TMR_CH_STAT_MATCHF n) = (if hit then 1 else c.get (Reg.TMR_CH_STAT_MATCHF n)) ∧
      t.get (Reg.TMR_CH_STAT_OVFF n) = (if past then 1 else c.get (Reg.TMR_CH_STAT_OVFF n)) ∧
      t.get (Reg.TMR_CH_STAT_RUN n) = (if (hit ∧ c.get (Reg.TMR_CH_CFG_M_SELF n) = 3) ∨ (past ∧ c.get (Reg.TMR_CH_CFG_O_SELF n) = 3) then 0 else 1) ∧
      (t.chan n).selfReset = decide (hit ∧ c.get (Reg.TMR_CH_CFG_M_SELF n) = 1) ∧
      (link ≠ n → (t.chan link).due = (c.chan link).due ++
        (if hit then actionOf (c.get (Reg.TMR_CH_CFG_M_LINK n)) else if past then actionOf (c.get (Reg.TMR_CH_CFG_O_LINK n)) else []).map (·, c.time)) ∧
      (selfResets x c.time = true → (t.chan n).resetTick = some c.time) ∧
      (∀ j, j ≠ n → j ≠ link → t.chan j = c.chan j) ∧ { t with regs := c.regs, chans := c.chans } = c ∧
      RegsKept c t (fun a => a = Reg.TMR_CH_STAT n ∨ a = Reg.TMR_CH_COUNT n)

/-- R76, R77, R74 to R76, R386, R391, R434: what a timer does at a match and how it counts.
Rests on the model's choices of log 16, 30, 93, 134, 164. -/
def Obligations.Timers : Prop := TimerActionsHold ∧ TimerCountsHold ∧ StandstillHold

/-- An edge of direction `rising` on channel `k` is one it captures (R78, R79): its mode, source, filter, pair and EDGE allow it. -/
abbrev Captures (c : Chip) (k : Nat) (rising : Bool) : Prop :=
  let pair := c.srcPair k
  c.unitHeld 69 = false ∧ c.pinsIdle = false ∧ pair < c.pairs ∧ c.get (Reg.CAP_CH_CFG_SRC_EN k) = 1 ∧ c.get (Reg.CAP_CH_CFG_FLEN k) ≠ 0 ∧ c.get (Reg.CAP_PAIR_CFG_EN pair) = 1 ∧
  c.get (Reg.CAP_PAIR_STAT_FAULT pair) = 0 ∧ bit (c.get (Reg.CAP_CH_CFG_EDGE k)) (if rising then 0 else 1) = true

/-- R78 to R83: a single capture, on the edge that completes the prescaler, keeps the COUNT and the chip time of the cycle in which the new level was
first sampled, FLEN + 2 cycles before it latches, and sets NEW, and OVW where NEW stood; a
queued one stands behind what the queue holds, or sets QOVF and is counted where it holds eight; either is the newest STAMP. An edge with FLEN 0 only sets
CFG_ERR. Reading CAP_CH_VAL_COUNT shows COUNT and holds the STAMP of the same capture; POP discards the oldest entry; a write of TMR_CH_CFG empties what
was captured.
Rests on the model's choices of log 34, 124. -/
def Obligations.EdgeCaptures : Prop :=
  ∀ (s : State) (k : Chan) (rising : Bool) (v : Word),
    let c := s.chip
    let n := k.toNat
    let x := c.chan n
    let age := c.tickUnit * (c.get (Reg.CAP_CH_CFG_FLEN n) + 2)
    let count := c.countAt n age
    let stamp : Word := (c.time - BitVec.ofNat 48 age).setWidth 32
    let mode := c.get (Reg.TMR_CH_CFG_MODE n)
    (Captures c n rising → c.get (Reg.CAP_CH_CFG_EMIT n) = 0 →
      (mode = 1 → (x.edges + 1) % (c.get (Reg.CAP_CH_CFG_EPRE n) + 1) = 0 → ∃ t, Leaves (.capture k rising) s t ∧
        t.rd (Reg.CAP_CH_VAL_COUNT n) = count ∧ t.rd (capStamp n) = stamp ∧ t.get (Reg.CAP_CH_STAT_NEW n) = 1 ∧
        t.get (Reg.CAP_CH_STAT_OVW n) = (if c.get (Reg.CAP_CH_STAT_NEW n) = 1 then 1 else c.get (Reg.CAP_CH_STAT_OVW n)) ∧
        t.chan n = { x with edges := 0, stamps := ((stamp, c.time) :: x.stamps).take 2 } ∧
        t.get (Reg.CAP_PAIR_STAT_LEVEL (c.srcPair n)) = rising.toNat) ∧
      (mode = 1 → (x.edges + 1) % (c.get (Reg.CAP_CH_CFG_EPRE n) + 1) ≠ 0 → ∃ t, Leaves (.capture k rising) s t ∧
        t.chan n = { x with edges := x.edges + 1 } ∧ t.rd (Reg.CAP_CH_VAL_COUNT n) = c.rd (Reg.CAP_CH_VAL_COUNT n)) ∧
      (mode = 2 → x.queue.length < 8 → ∃ t, Leaves (.capture k rising) s t ∧
        (t.chan n).queue = x.queue ++ [{ count := count, stamp := stamp, rising := rising }]) ∧
      (mode = 2 → 8 ≤ x.queue.length → ∃ t, Leaves (.capture k rising) s t ∧ (t.chan n).queue = x.queue ∧
        t.get (Reg.CAP_CH_STAT_QOVF n) = 1 ∧ t.get (Reg.CAP_CH_QDROP_COUNT n) = counted c (Reg.CAP_CH_QDROP_COUNT n) 1)) ∧
    (c.unitHeld 69 = false → c.pinsIdle = false → c.srcPair n < c.pairs → c.get (Reg.CAP_CH_CFG_SRC_EN n) = 1 → c.get (Reg.CAP_CH_CFG_FLEN n) = 0 → mode = 1 ∨ mode = 2 →
      ∃ t, Leaves (.capture k rising) s t ∧ t.get (Reg.CAP_CH_STAT_CFG_ERR n) = 1 ∧ OnlyRegs c t (· = Reg.CAP_CH_STAT n)) ∧
    (∃ t, Leaves (.capChValCountRead k) s t ∧ t.rd (Reg.CAP_CH_VAL_STAMP n) = c.rd (capStamp n) ∧
      t.out = c.out ++ [.readData (natToBytes 4 (c.rd (Reg.CAP_CH_VAL_COUNT n)).toNat) false] ∧
      RegsKept c t (· = Reg.CAP_CH_VAL_STAMP n)) ∧
    (∃ t, Leaves (.capChCmdPop k) s t ∧ t.chan n = { x with queue := x.queue.tail } ∧ (∀ j, j ≠ n → t.chan j = c.chan j) ∧
      { t with chans := c.chans } = c) ∧
    (∃ t, Leaves (.tmrChCfgWrite k v) s t ∧ t.rd (Reg.TMR_CH_CFG n) = v &&& 0xFFFFF#32 ∧ t.chan n = { x with edges := 0, stamps := [], queue := [] } ∧
      t.get (Reg.CAP_CH_STAT_CFG_ERR n) = (if c.get (Reg.CAP_CH_CFG_FLEN n) = 0 ∧ (wbits v 1 0 = 1 ∨ wbits v 1 0 = 2) then 1 else 0) ∧
      RegsKept c t (fun a => a = Reg.TMR_CH_CFG n ∨ a = Reg.CAP_CH_STAT n))

/-- R84 to R87: a capture of a channel that emits, with EMODE 2, hands its edge port an event: key of the channel, payload the rescaled difference of COUNT
and SUB, lane of the channel, tag of the capture's time. -/
def CaptureEventsHold : Prop :=
  ∀ (s : State) (k : Chan) (rising : Bool),
    let c := s.chip
    let n := k.toNat
    let age := c.tickUnit * (c.get (Reg.CAP_CH_CFG_FLEN n) + 2)
    let count := c.countAt n age
    let pay := rescale ((count.toNat : Int) - signed 16 (c.get (Reg.CAP_CH_RESC_SUB n))) (c.get (Reg.CAP_CH_RESC_M n)) (c.get (Reg.CAP_CH_RESC2_S n))
    Captures c n rising → c.get (Reg.TMR_CH_CFG_MODE n) = 2 → c.get (Reg.CAP_CH_CFG_EMIT n) = 1 → c.get Reg.CAP_CTRL_EMIT_EN = 1 →
    c.get (Reg.CAP_CH_CFG_EMODE n) = 2 → smGet [] c.bridge.injCap (n / 32) = [] → c.room (n / 32) 19 0 = true →
    ∃ t, Leaves (.capture k rising) s t ∧ t.buf (n / 32) 19 0 = c.buf (n / 32) 19 0 ++
      [.event (mkEvent (c.rd (Reg.CAP_CH_KEY n)) pay (c.get (Reg.CAP_CH_RESC2_LANE n)) (tagOf (c.time - BitVec.ofNat 48 age))) none]

/-- R73, R78, R86, R474: a write of CAP_CH_CFG is stored, but EMIT is refused, with EMIT_REJ and EMIT_LIMIT, where four other channels of the group emit. -/
def CaptureConfigurationHold : Prop :=
  ∀ (s : State) (k : Chan) (v : Word),
    let c := s.chip
    let n := k.toNat
    8 * (n / 32) < c.pairs →
    (v.getLsbD 18 = false ∨ c.emitters n < 4 → ∃ t, Leaves (.capChCfgWrite k v) s t ∧ t.rd (Reg.CAP_CH_CFG n) = v &&& 0x1FFFFFFF#32 ∧
      t.get (Reg.CAP_CH_STAT_EMIT_REJ n) = 0 ∧ OnlyRegs c t (fun a => a = Reg.CAP_CH_CFG n ∨ a = Reg.CAP_CH_STAT n)) ∧
    (v.getLsbD 18 = true → 4 ≤ c.emitters n → ∃ t, Leaves (.capChCfgWrite k v) s t ∧
      t.rd (Reg.CAP_CH_CFG n) = v &&& 0x1FFBFFFF#32 ∧ t.get (Reg.CAP_CH_STAT_EMIT_REJ n) = 1 ∧ t.get Reg.CAP_IRQ_STATUS_EMIT_LIMIT = 1 ∧
      OnlyRegs c t (fun a => a = Reg.CAP_CH_CFG n ∨ a = Reg.CAP_CH_STAT n ∨ a = Reg.CAP_IRQ_STATUS))

/-- The pair stands in fault `code` (R88, R89): its level held at IDLE, counted, reported once. -/
def PairFaulted (c t : Chip) (n code : Nat) : Prop :=
  t.get (Reg.CAP_PAIR_STAT_FAULT n) = code ∧ t.get (Reg.CAP_PAIR_STAT_LEVEL n) = c.get (Reg.CAP_PAIR_CFG_IDLE n) ∧
  t.get (Reg.CAP_PAIR_FCNT_COUNT n) = counted c (Reg.CAP_PAIR_FCNT_COUNT n) 1 ∧ t.get Reg.CAP_IRQ_STATUS_FAULT = 1 ∧
  ∃ e, t.fw.log = c.fw.log ++ [e] ∧ e.code = 0x0006 ∧ e.subject = n ∧ e.detail = code

/-- R88 to R90: line faults of an enabled pair and their release, the start of the polarity check and its outcomes. -/
def CapturePairsHold : Prop :=
  ∀ (s : State) (p : Pair) (level : Bool),
    let c := s.chip
    let n := p.toNat
    n < c.pairs → c.unitHeld 69 = false → c.pinsIdle = false →
    (c.get (Reg.CAP_PAIR_CFG_EN n) = 1 → c.get (Reg.CAP_PAIR_STAT_FAULT n) = 0 →
      (∃ t, Leaves (.pairFault p .cmLow) s t ∧ PairFaulted c t n 3) ∧ (∃ t, Leaves (.pairFault p .cmHigh) s t ∧ PairFaulted c t n 4) ∧
      (c.get Reg.CAP_CFG_OPEN_WIN ≠ 0 → ∃ t, Leaves (.pairFault p .open_) s t ∧ PairFaulted c t n 1) ∧
      (c.get Reg.CAP_CFG_SHORT_WIN ≠ 0 → ∃ t, Leaves (.pairFault p .short) s t ∧ PairFaulted c t n 2) ∧
      (c.get (Reg.CAP_PAIR_STAT_CHECKED n) = 0 → c.get Reg.CAP_CFG_IDLE_WIN ≠ 0 →
        (∃ t, Leaves (.polarityCheckEnd p .steadyIdle) s t ∧ t.get (Reg.CAP_PAIR_STAT_CHECKED n) = 1 ∧ OnlyRegs c t (· = Reg.CAP_PAIR_STAT n)) ∧
        (c.get (Reg.CAP_PAIR_CFG_POL_AUTO n) = 1 → ∃ t, Leaves (.polarityCheckEnd p .steadyOpposite) s t ∧
          t.get (Reg.CAP_PAIR_STAT_CHECKED n) = 1 ∧ t.get (Reg.CAP_PAIR_STAT_INVERTED n) = 1 ∧ OnlyRegs c t (· = Reg.CAP_PAIR_STAT n)) ∧
        (c.get (Reg.CAP_PAIR_CFG_POL_AUTO n) = 0 → ∃ t, Leaves (.polarityCheckEnd p .steadyOpposite) s t ∧ PairFaulted c t n 5) ∧
        Leaves (.polarityCheckEnd p .edge) s c)) ∧
    (c.get (Reg.CAP_PAIR_CFG_EN n) = 1 → c.get (Reg.CAP_PAIR_STAT_FAULT n) ≠ 0 → c.get (Reg.CAP_PAIR_STAT_FAULT n) ≠ 3 →
      ∃ t, Leaves (.pairFault p .cmLow) s t ∧ t.get (Reg.CAP_PAIR_STAT_FAULT n) = 3 ∧ OnlyRegs c t (· = Reg.CAP_PAIR_STAT n)) ∧
    (c.get (Reg.CAP_PAIR_STAT_FAULT n) ≠ 0 → ∃ t, Leaves (.pairFaultRelease p level) s t ∧ t.get (Reg.CAP_PAIR_STAT_FAULT n) = 0 ∧
      t.get (Reg.CAP_PAIR_STAT_LEVEL n) = level.toNat ∧ OnlyRegs c t (· = Reg.CAP_PAIR_STAT n)) ∧
    (c.get (Reg.CAP_PAIR_CFG_EN n) = 0 → ∃ t, Leaves (.capPairEnable p) s t ∧ t.get (Reg.CAP_PAIR_CFG_EN n) = 1 ∧
      t.get (Reg.CAP_PAIR_STAT_CHECKED n) = 0 ∧ t.get (Reg.CAP_PAIR_STAT_INVERTED n) = 0 ∧
      OnlyRegs c t (fun a => a = Reg.CAP_PAIR_CFG n ∨ a = Reg.CAP_PAIR_STAT n))

/-- R84 to R87, R73, R78, R86, R474, R88 to R90: capture events, configuration and pairs.
Rests on the model's choices of log 35, 124, 136, 138, 139. -/
def Obligations.Captures : Prop := CaptureEventsHold ∧ CaptureConfigurationHold ∧ CapturePairsHold

/-! ## Buffers, the crossbar, DRAM (R254 to R278) -/

/-- A buffer of pool `p` is handed out (R275): it was free, and its handle is what the command's read shows. -/
def Granted (c t : Chip) (p m : Nat) : Prop :=
  ∃ i, i < c.get (Reg.BUF_POOL_CFG_COUNT p) ∧ i ∉ (c.pool p).taken ∧ t.pool p = { c.pool p with taken := i :: (c.pool p).taken } ∧
    t.out = c.out ++ [.readData (natToBytes 4 (handleOf p i)) false] ∧ t.get (Reg.BUF_POOL_STAT_PTR p) = (m + 1) % 14 ∧
    t.get (Reg.BUF_POOL_STAT_FREE p) = c.get (Reg.BUF_POOL_CFG_COUNT p) - ((c.pool p).taken.length + 1) ∧
    (∀ q, q ≠ p → t.pool q = c.pool q) ∧ t.mem = c.mem ∧ RegsKept c t (· = Reg.BUF_POOL_STAT p)

/-- The block with a word shown as read data, and nothing else changed. -/
def Shows (c : Chip) (w : Word) : Chip := { c with out := c.out ++ [.readData (natToBytes 4 w.toNat) false] }

/-- A grant posted to master `m` (R278). -/
def Posted (t : Chip) (m h : Nat) (late : Bool) : Prop :=
  t.get (Reg.BUF_GRANT_HANDLE m) = h ∧ t.get (Reg.BUF_GRANT_TIMEOUT m) = late.toNat ∧ t.get (Reg.BUF_GRANT_VALID m) = 1

/-- R276 to R278: a master reads BUF_POOL_ALLOC or BUF_POOL_WALLOC and gets a free buffer when the pool is on, nobody waits and a buffer is free; otherwise
ALLOC shows EMPTY, WALLOC joins the waiters and shows QUEUED, a ninth waiter is counted in WOVF. There are fourteen masters (R257): the others stop. A waiter whose
time has passed leaves with TIMEOUT. -/
def BufferAllocationHold : Prop :=
  ∀ (s : State) (p : BitVec 2) (m : BitVec 4),
    let c := s.chip
    let x := c.pool p.toNat
    let grants := c.poolOn p.toNat = true ∧ x.waiters = [] ∧ x.taken.length < c.get (Reg.BUF_POOL_CFG_COUNT p.toNat)
    (14 ≤ m.toNat → exec (.bufPoolAlloc p m) s = .fault (.noSuchUnit "BUF_POOL_ALLOC") ∧
      exec (.bufPoolWalloc p m) s = .fault (.noSuchUnit "BUF_POOL_WALLOC")) ∧
    (m.toNat < 14 → grants →
      (∃ t, Leaves (.bufPoolAlloc p m) s t ∧ Granted c t p.toNat m.toNat) ∧ (∃ t, Leaves (.bufPoolWalloc p m) s t ∧ Granted c t p.toNat m.toNat)) ∧
    (m.toNat < 14 → ¬ grants → Leaves (.bufPoolAlloc p m) s (Shows c 0x40000000#32)) ∧
    (m.toNat < 14 → c.poolOn p.toNat = false → Leaves (.bufPoolWalloc p m) s (Shows c 0x40000000#32)) ∧
    (m.toNat < 14 → c.poolOn p.toNat = true → m.toNat ∈ x.waiters → Leaves (.bufPoolWalloc p m) s (Shows c 0x80000000#32)) ∧
    (m.toNat < 14 → c.poolOn p.toNat = true → m.toNat ∉ x.waiters → ¬ grants →
      (x.waiters.length < 8 → ∃ t, Leaves (.bufPoolWalloc p m) s t ∧ t.pool p.toNat = { x with waiters := x.waiters ++ [m.toNat] } ∧
        t.out = c.out ++ [.readData (natToBytes 4 0x80000000) false] ∧ t.mem = c.mem ∧ RegsKept c t (· = Reg.BUF_POOL_STAT p.toNat)) ∧
      (8 ≤ x.waiters.length → ∃ t, Leaves (.bufPoolWalloc p m) s t ∧ t.pools = c.pools ∧ t.get Reg.BUF_ERR_WOVF = counted c Reg.BUF_ERR_WOVF 1 ∧
        t.out = c.out ++ [.readData (natToBytes 4 0x40000000) false] ∧ t.mem = c.mem ∧ RegsKept c t (· = Reg.BUF_ERR))) ∧
    (c.get (Reg.BUF_POOL_WAIT_TO_TO p.toNat) ≠ 0 → m.toNat ∈ x.waiters → ∃ t, Leaves (.waiterTimeout p m) s t ∧
      t.pool p.toNat = { x with waiters := x.waiters.erase m.toNat } ∧ Posted t m.toNat 0 true ∧ t.mem = c.mem ∧
      RegsKept c t (fun a => a = Reg.BUF_POOL_STAT p.toNat ∨ a = Reg.BUF_GRANT m.toNat)) ∧
    ((c.get (Reg.BUF_POOL_WAIT_TO_TO p.toNat) = 0 ∨ m.toNat ∉ x.waiters) → Leaves (.waiterTimeout p m) s c)

/-- R275, R276, R278: a freed buffer is free, or goes to the oldest waiter at once; a handle that names no buffer handed out is counted. A pool's configuration is
written while EN is 0, reserved values leaving their field, and setting EN frees every buffer; clearing EN ends every wait with TIMEOUT. -/
def BufferPoolsHold : Prop :=
  ∀ (s : State) (h : BitVec 18) (p : BitVec 2) (v : Word),
    let c := s.chip
    let q := h.toNat / 65536
    let i := h.toNat % 65536
    let x := c.pool q
    let out := i < c.get (Reg.BUF_POOL_CFG_COUNT q) ∧ i ∈ x.taken
    let y := c.pool p.toNat
    (out → x.waiters = [] → ∃ t, Leaves (.bufFree h) s t ∧ t.pool q = { x with taken := x.taken.erase i } ∧ t.mem = c.mem ∧
      RegsKept c t (· = Reg.BUF_POOL_STAT q)) ∧
    (∀ m rest, out → x.waiters = m :: rest → m < 14 → x.taken.length ≤ c.get (Reg.BUF_POOL_CFG_COUNT q) → ∃ t j, Leaves (.bufFree h) s t ∧
      j < c.get (Reg.BUF_POOL_CFG_COUNT q) ∧ j ∉ x.taken.erase i ∧ t.pool q = { taken := j :: x.taken.erase i, waiters := rest } ∧
      Posted t m (handleOf q j) false ∧ bit (t.get Reg.BUF_IRQ_STATUS_GRANT) m = true ∧ t.mem = c.mem ∧
      RegsKept c t (fun a => a = Reg.BUF_POOL_STAT q ∨ a = Reg.BUF_GRANT m ∨ a = Reg.BUF_IRQ_STATUS)) ∧
    (¬ out → ∃ t, Leaves (.bufFree h) s t ∧ t.get Reg.BUF_ERR_DFREE = counted c Reg.BUF_ERR_DFREE 1 ∧ OnlyRegs c t (· = Reg.BUF_ERR)) ∧
    (c.poolOn p.toNat = true → bit v.toNat 22 = true → Leaves (.bufPoolCfgWrite p v) s c) ∧
    (c.poolOn p.toNat = true → bit v.toNat 22 = false → (∀ m ∈ y.waiters, m < 14) → ∃ t, Leaves (.bufPoolCfgWrite p v) s t ∧
      t.poolOn p.toNat = false ∧ t.pool p.toNat = { y with waiters := [] } ∧ (∀ m ∈ y.waiters, Posted t m 0 true) ∧ t.mem = c.mem) ∧
    (c.poolOn p.toNat = false → ∃ t, Leaves (.bufPoolCfgWrite p v) s t ∧
      t.get (Reg.BUF_POOL_CFG_SIZE_LOG2 p.toNat) = (if 6 ≤ wbits v 4 0 ∧ wbits v 4 0 ≤ 16 then wbits v 4 0 else c.get (Reg.BUF_POOL_CFG_SIZE_LOG2 p.toNat)) ∧
      t.get (Reg.BUF_POOL_CFG_COUNT p.toNat) = (if wbits v 21 5 ≤ 65536 then wbits v 21 5 else c.get (Reg.BUF_POOL_CFG_COUNT p.toNat)) ∧
      t.poolOn p.toNat = bit v.toNat 22 ∧ t.pool p.toNat = (if bit v.toNat 22 then { taken := [], waiters := [] } else y) ∧
      (∀ r, r ≠ p.toNat → t.pool r = c.pool r) ∧ t.mem = c.mem ∧
      RegsKept c t (fun a => a = Reg.BUF_POOL_CFG p.toNat ∨ a = Reg.BUF_POOL_STAT p.toNat))

/-- R276 to R278, R257, R275, R276, R278: buffers allocated, freed and returned.
Rests on the model's choices of log 49, 119. -/
def Obligations.Buffers : Prop := BufferAllocationHold ∧ BufferPoolsHold

/-- Registers of the chip's event counters. -/
def PmonChipRegs (a : Nat) : Prop := a = Reg.PMON_IRQ_STATUS ∨ (0x100100 ≤ a ∧ a < 0x100500)

/-- The crossbar reaches DRAM (R268, R383, R390). -/
abbrev DramServes (c : Chip) : Prop := c.power.selfRefresh = false ∧ c.dramPhy = true

/-- R254, R255, R257, R261, R262, R475: a master's read of DRAM shows the bytes there, its write stores them and no others and is answered; an access that no target serves, or one of
registers off a word, shows zeros and an error, and is recorded with its address, master and target; there are fourteen masters. The bridge's own accesses are the requests of cores, oldest first. -/
def CrossbarAccessesHold : Prop :=
  ∀ (s : State) (m : BitVec 4) (a : BitVec 48) (n : BitVec 14) (w : Option (List Byte)) (bs : List Byte),
    let c := s.chip
    let one := fun k : Nat => 0 < k ∧ a.toNat % 64 + k ≤ 64
    (14 ≤ m.toNat → exec (.crossbarAccess m a n w) s = .fault (.noSuchUnit "CROSSBAR_ACCESS")) ∧
    (m.toNat < 13 → one n.toNat → DramServes c → a.toNat < winBase → a.toNat + n.toNat ≤ c.usable → ∃ t, Leaves (.crossbarAccess m a n none) s t ∧
      t.out = c.out ++ [.readData (c.rdBytes a.toNat n.toNat) false] ∧ t.mem = c.mem ∧ t.cores = c.cores ∧ RegsKept c t PmonChipRegs) ∧
    (m.toNat < 13 → one bs.length → DramServes c → a.toNat < winBase → a.toNat + bs.length ≤ c.usable → ∃ t,
      Leaves (.crossbarAccess m a n (some bs)) s t ∧ t.out = c.out ++ [.readData [] false] ∧ t.rdBytes a.toNat bs.length = bs ∧ MemKept c t a.toNat bs.length ∧
      t.cores = c.cores ∧ RegsKept c t PmonChipRegs) ∧
    (m.toNat < 13 → one n.toNat → 0x2002000000 ≤ a.toNat → a.toNat < oasisBase → ∃ t, Leaves (.crossbarAccess m a n none) s t ∧
      t.out = c.out ++ [.readData (List.replicate n.toNat 0) true] ∧ t.rd Reg.XBAR_ERR_INFO = BitVec.ofNat 32 a.toNat ∧
      t.get Reg.XBAR_ERR_INFO_HI_ADDR_HI = a.toNat / 2 ^ 32 ∧ t.get Reg.XBAR_ERR_INFO_HI_MASTER = m.toNat ∧
      t.get Reg.XBAR_ERR_CNT_COUNT = counted c Reg.XBAR_ERR_CNT_COUNT 1 ∧ t.get Reg.XBAR_IRQ_STATUS_ERR = 1 ∧ t.mem = c.mem ∧ t.cores = c.cores) ∧
    (m.toNat < 13 → 0x2000000000 ≤ a.toNat → a.toNat < 0x2001000000 → (a.toNat % 4 ≠ 0 ∨ n.toNat % 4 ≠ 0) →
      ∃ t, Leaves (.crossbarAccess m a n none) s t ∧ BusRefused c t m.toNat 4 a.toNat ∧ t.out = c.out ++ [.readData (List.replicate n.toNat 0) true]) ∧
    (splitFirst isCoreRequest c.bridge.inbox = none → Leaves (.crossbarAccess 13#4 a n w) s c) ∧
    (∀ e p rest, splitFirst isCoreRequest c.bridge.inbox = some ((e, .packet p), rest) → p.op % 2 = 1 → DramServes c → p.memAddr < winBase →
      0 < p.memData.length → p.memAddr % 64 + p.memData.length ≤ 64 → p.memAddr + p.memData.length ≤ c.usable →
      OpenInput c (cx (p.src / 16)) 19 4 → ∃ t, Leaves (.crossbarAccess 13#4 a n w) s t ∧ t.bridge.inbox = rest ∧ t.rdBytes p.memAddr p.memData.length = p.memData ∧
        MemKept c t p.memAddr p.memData.length ∧ t.cores = c.cores ∧
        PacketEnters c t (cx (p.src / 16)) 19 4 (fun k => k.cls = 4 ∧ k.body.head? = some (mkFlit1 0x3FF p.src p.tag OK 0)))

/-- Length, source and destination of a transfer descriptor of R263. -/
def dmaLen (ws : List Word) : Nat := wordsNat ws 4 1
def dmaSrc (ws : List Word) : Nat := wordsNat ws 0 2
def dmaDst (ws : List Word) : Nat := wordsNat ws 2 2

/-- R263 to R265: a read of XBAR_DMA_COMMIT queues the staged descriptor and shows its status; the oldest descriptor of an engine, a copy or a fill between ranges of
DRAM that do not meet, is carried out and counted, its TAG kept; ABORT discards the queue. -/
def DmaTransfersHold : Prop :=
  ∀ (s : State) (e : BitVec 3),
    let c := s.chip
    let q := smGet [] c.dma e.toNat
    let ws := (List.range 8).map (fun i => c.rd (Reg.XBAR_DMA_D e.toNat i))
    (dmaValid ws = true → q.length < 256 → ∃ t, Leaves (.xbarDmaCommit e) s t ∧ smGet [] t.dma e.toNat = q ++ [ws] ∧
      t.out = c.out ++ [.readData [0, 0, 0, 0] false] ∧ t.regs = c.regs ∧ t.mem = c.mem) ∧
    (dmaValid ws = false → Leaves (.xbarDmaCommit e) s (Shows c 4#32)) ∧
    (dmaValid ws = true → 256 ≤ q.length → Leaves (.xbarDmaCommit e) s (Shows c 5#32)) ∧
    (q = [] → Leaves (.dmaDescriptor e) s c) ∧
    (∀ d rest, q = d :: rest → dmaValid d = true → DramServes c → dmaDst d + dmaLen d ≤ c.usable → c.usable ≤ winBase →
      let fill := bit (wbits (d.getD 5 0) 15 8) 1
      (fill = false → dmaSrc d + dmaLen d ≤ c.usable ∧ (dmaSrc d + dmaLen d ≤ dmaDst d ∨ dmaDst d + dmaLen d ≤ dmaSrc d)) →
      ∃ t, Leaves (.dmaDescriptor e) s t ∧ smGet [] t.dma e.toNat = rest ∧ t.rd (Reg.XBAR_DMA_DONE e.toNat) = c.rd (Reg.XBAR_DMA_DONE e.toNat) + 1 ∧
        t.rd (Reg.XBAR_DMA_LASTTAG e.toNat) = d.getD 7 0 ∧ MemKept c t (dmaDst d) (dmaLen d) ∧
        (∀ i, i < dmaLen d → t.mem.read (dmaDst d + i) =
          if fill then BitVec.ofNat 8 ((d.getD 6 0).toNat / 2 ^ (8 * (i % 4))) else c.mem.read (dmaSrc d + i)) ∧
        t.cores = c.cores ∧ RegsKept c t (fun a => PmonChipRegs a ∨ a = Reg.XBAR_DMA_DONE e.toNat ∨ a = Reg.XBAR_DMA_LASTTAG e.toNat)) ∧
    Leaves (.xbarDmaCtrlAbort e) s { c with dma := smSet c.dma e.toNat [] }

/-- R254, R255, R257, R261, R262, R475, R263 to R265: accesses over the crossbar, and the DMA engines.
Rests on the model's choices of log 1, 49. -/
def Obligations.CrossbarTransfers : Prop := CrossbarAccessesHold ∧ DmaTransfersHold

/-- A snapshot of every event counter (R429): the counters of the chip and of the clusters that are ON stand in theirs, marked valid; a cluster that is not ON has none. -/
def Snapped (c t : Chip) : Prop :=
  let held := fun b => t.rd (Reg.PMON_SNAP_LO b) = c.rd (Reg.PMON_CNT_LO b) ∧ t.rd (snapHigh b) = c.rd (cntHigh b) ∧ t.get (Reg.PMON_CFG_SNAP_VALID b) = 1 ∧
    t.pmonCount b = c.pmonCount b
  (∀ n, n < 32 → held (Reg.pmonChip n)) ∧
  (∀ k n, k < c.clusters → n < 4 → c.clusterOn k = true → held (Reg.pmonRouter k n)) ∧
  (∀ k p n, k < c.clusters → p < 17 → n < 4 → c.clusterOn k = true → held (Reg.pmonCore (k * 32 + p) n)) ∧
  (∀ k n, k < c.clusters → n < 4 → c.clusterOn k = false → t.get (Reg.PMON_CFG_SNAP_VALID (Reg.pmonRouter k n)) = 0) ∧
  t.mem = c.mem ∧ t.cores = c.cores

/-- R425, R426, R429: an enabled counter that passes its end goes to 0 and sets OVF, a chip counter with IRQ its bit of PMON_IRQ_STATUS; CLR zeroes it; a read of a low
word shows it and holds the high word, and one of a fused cluster or of a slot that answers no access is an error response (R18); ARM waits for T, or takes the snapshot at once, late, where T has passed; at T the snapshot is taken. -/
def EventCountersHold : Prop :=
  ∀ (s : State) (id : PmonId),
    let c := s.chip
    let b := (pmonBase id).1
    let reached := match id with
      | .chip _ => True
      | .router k _ => k.toNat < c.clusters
      | .core p _ => c.windowOpen p.toNat = true
    (c.get (Reg.PMON_CFG_EN b) = 1 → ∃ t, Leaves (.pmonOverflow id) s t ∧ t.pmonCount b = 0 ∧ t.get (Reg.PMON_CFG_OVF b) = 1 ∧
      (∀ n, id = .chip n → c.get (Reg.PMON_CFG_IRQ b) = 1 → (t.rd Reg.PMON_IRQ_STATUS).getLsbD n.toNat = true) ∧
      OnlyRegs c t (fun a => a = Reg.PMON_CFG b ∨ a = Reg.PMON_CNT_LO b ∨ a = cntHigh b ∨ a = Reg.PMON_IRQ_STATUS)) ∧
    (c.get (Reg.PMON_CFG_EN b) = 0 → Leaves (.pmonOverflow id) s c) ∧
    (reached → ∃ t, Leaves (.pmonClr id) s t ∧ t.pmonCount b = 0 ∧ OnlyRegs c t (fun a => a = Reg.PMON_CNT_LO b ∨ a = cntHigh b)) ∧
    (reached → ∃ t, Leaves (.pmonCntLoRead id) s t ∧ t.out = c.out ++ [.readData (natToBytes 4 (c.rd (Reg.PMON_CNT_LO b)).toNat) false] ∧
      t.rd (Reg.PMON_CNT_HI b) = c.rd (cntHigh b) ∧ OnlyRegs { c with out := t.out } t (· = Reg.PMON_CNT_HI b)) ∧
    (reached → ∃ t, Leaves (.pmonSnapLoRead id) s t ∧ t.out = c.out ++ [.readData (natToBytes 4 (c.rd (Reg.PMON_SNAP_LO b)).toNat) false] ∧
      t.rd (Reg.PMON_SNAP_HI b) = c.rd (snapHigh b) ∧ OnlyRegs { c with out := t.out } t (· = Reg.PMON_SNAP_HI b)) ∧
    (∀ k n, id = .router k n → c.clusters ≤ k.toNat → (∃ t, Leaves (.pmonClr id) s t ∧ BusRefused c t whoHcu 4 (0x2000000000 + b)) ∧
      (∃ t, Leaves (.pmonCntLoRead id) s t ∧ t.out = c.out ++ [.readData [0, 0, 0, 0] true] ∧ BusRefused c t whoHcu 4 (0x2000000000 + b + 4)) ∧
      ∃ t, Leaves (.pmonSnapLoRead id) s t ∧ t.out = c.out ++ [.readData [0, 0, 0, 0] true] ∧ BusRefused c t whoHcu 4 (0x2000000000 + b + 12)) ∧
    (∀ p n, id = .core p n → c.windowOpen p.toNat = false → SlotRefused (.pmonClr id) s p.toNat (0x7800 + 0x20 * n.toNat) ∧
      (∃ t, Leaves (.pmonCntLoRead id) s t ∧ t.out = c.out ++ [.readData [0, 0, 0, 0] true]) ∧
      ∃ t, Leaves (.pmonSnapLoRead id) s t ∧ t.out = c.out ++ [.readData [0, 0, 0, 0] true]) ∧
    (c.time.toNat ≤ c.snapTime → ∃ t, Leaves .pmonCtrlArm s t ∧ t.get Reg.PMON_STAT_PENDING = 1 ∧ OnlyRegs c t (· = Reg.PMON_STAT)) ∧
    (c.snapTime < c.time.toNat → ∃ t, Leaves .pmonCtrlArm s t ∧ Snapped c t ∧ t.get Reg.PMON_STAT_SNAP_LATE = 1 ∧ t.get Reg.PMON_STAT_PENDING = 0) ∧
    (c.get Reg.PMON_STAT_PENDING = 1 → ∃ t, Leaves .snapshot s t ∧ Snapped c t ∧ t.get Reg.PMON_STAT_PENDING = 0) ∧
    (c.get Reg.PMON_STAT_PENDING = 0 → Leaves .snapshot s c)

/-- D and C follow the channels (R270), and what is reserved fits C or everything but TRIP that holds a reservation is shed, in the order of the classes (R274). -/
def BandwidthFits (c t : Chip) : Prop :=
  t.get Reg.BW_DELIV_D = t.deliverable ∧ t.get Reg.BW_DELIV_C = capOf t.deliverable ∧ t.isShed 0 = c.isShed 0 ∧
  (t.deliverable < c.get Reg.BW_DELIV_D → t.resSum ≤ capOf t.deliverable ∨ ∀ n, 1 ≤ n → n < 5 → t.resOf n ≠ 0 → t.isShed n = true) ∧
  (∀ n m, 1 ≤ m → m < n → n < 5 → t.isShed n = true → c.isShed n = false → t.resOf m ≠ 0 → t.isShed m = true) ∧
  (c.get Reg.BW_DELIV_D ≤ t.deliverable → ∀ n, t.isShed n = c.isShed n) ∧ ∀ n, t.resOf n = c.resOf n

/-- R269 to R274: a reservation is admitted while the sum stays within C, 0 always, and ends a shedding; one that is not sets ADMIT_ERR. A change of the refresh rate
or of the set point changes what the channels deliver, and sheds what no longer fits. A tracking pass leaves nothing behind. -/
def BandwidthHold : Prop :=
  ∀ (s : State) (n : BitVec 3) (v : Word) (ch : BitVec 1) (mr4 : BitVec 3) (on : Bool),
    let c := s.chip
    let k := ch.toNat
    let r := wbits v 7 0
    let fsp := on || c.power.ddrRequest
    (n.toNat < 5 → (r = 0 ∨ c.resSum n.toNat + r ≤ c.get Reg.BW_DELIV_C) → ∃ t, Leaves (.bwResWrite n v) s t ∧
      t.get (Reg.BW_RES_GBPS n.toNat) = r ∧ t.get (Reg.BW_RES_SHED n.toNat) = 0 ∧ t.get Reg.BW_STAT_SUM = t.resSum % 256 ∧
      OnlyRegs c t (fun a => a = Reg.BW_RES n.toNat ∨ a = Reg.BW_STAT)) ∧
    (n.toNat < 5 → r ≠ 0 → c.get Reg.BW_DELIV_C < c.resSum n.toNat + r → ∃ t, Leaves (.bwResWrite n v) s t ∧ t.get Reg.BW_STAT_ADMIT_ERR = 1 ∧
      OnlyRegs c t (· = Reg.BW_STAT)) ∧
    (5 ≤ n.toNat → Leaves (.bwResWrite n v) s c) ∧
    Leaves (.ddrTrackPass ch) s c ∧
    (k < c.drams → c.on (Reg.DDR_STAT_REFX2 k) ≠ on → ∃ t, Leaves (.ddrRefreshChange ch mr4 on) s t ∧ t.get (Reg.DDR_STAT_MR4 k) = mr4.toNat ∧
      t.on (Reg.DDR_STAT_REFX2 k) = on ∧ t.get (Reg.DDR_IRQ_STATUS_REFX2 k) = 1 ∧ BandwidthFits c t ∧ t.cores = c.cores) ∧
    (k < c.drams → c.on (Reg.DDR_STAT_REFX2 k) = on → ∃ t, Leaves (.ddrRefreshChange ch mr4 on) s t ∧ t.get (Reg.DDR_STAT_MR4 k) = mr4.toNat ∧
      t.on (Reg.DDR_STAT_REFX2 k) = on ∧ OnlyRegs c t (· = Reg.DDR_STAT k)) ∧
    (k < c.drams → c.on (Reg.DDR_STAT_FSP k) ≠ fsp → ∃ t, Leaves (.ddrSetpointSwitch ch on) s t ∧ t.on (Reg.DDR_STAT_FSP k) = fsp ∧
      t.get (Reg.DDR_IRQ_STATUS_DERATE k) = 1 ∧ BandwidthFits c t ∧ t.cores = c.cores) ∧
    (k < c.drams → c.on (Reg.DDR_STAT_FSP k) = fsp → Leaves (.ddrSetpointSwitch ch on) s c)

/-- R425, R426, R429, R18, R269 to R274: event counters; DRAM's bandwidth.
Rests on the model's choices of log 118, 120, 121, 143. -/
def Obligations.CountersAndBandwidth : Prop := EventCountersHold ∧ BandwidthHold

/-! ## The Dune engine (R232 to R253) -/

/-- A sweep of a run on one chip can take place now (R243, R245): the run is active and not waiting, and every participating core holds a slice. -/
abbrev Sweeps (c : Chip) : Prop :=
  c.dune.active = true ∧ c.get Reg.DUNE_STAT_STATE = 2 ∧ c.dune.waiting = false ∧ c.allSliced = true

/-- The run has ended with `status` (R252): the record's first byte is in memory, no slice is held, DONE is set, and one completion ends the command. -/
def DuneEnded (c t : Chip) (status : Nat) : Prop :=
  t.dune = { Dune.idle with grants := c.dune.grants } ∧ t.get Reg.DUNE_STAT_STATE = 0 ∧ t.get Reg.DUNE_STAT_LAST = status ∧ t.get Reg.DUNE_IRQ_STATUS_DONE = 1 ∧
  (∀ i ∈ c.dune.cores, (t.core (c.pcore i)).slice = false) ∧
  (c.dune.origin = .internal → t.mem.read c.dune.resAddr = BitVec.ofNat 8 status ∧ ∀ x, x < c.dune.resAddr → t.mem.read x = c.mem.read x) ∧
  (∀ n, n < 16 → c.dune.origin = .mailbox n → t.mbxState n = 2 ∧ t.mem.read (mbxMem n 8) = BitVec.ofNat 8 status)

/-- R243, R252: at the boundary of a sweep the spins and fields stand as the visits of R239 leave them, the count goes on, and the best state is of the least energy seen, an
equal one later leaving it as it stands; the last sweep, a stop asked for or a pause asked for takes effect here. In any other state there is no boundary. -/
def DuneSweepsHold : Prop :=
  ∀ s : State,
    let c := s.chip
    let d := c.sweep c.dune (c.dune.done + 1)
    (¬ Sweeps c → Leaves .duneSweepBoundary s c) ∧
    (Sweeps c → c.dune.mode = 0 → 0 < c.dune.chains → c.dune.stop = none → c.dune.done + 1 < c.dune.sweeps →
      ∃ t b, Leaves .duneSweepBoundary s t ∧ t.dune.done = c.dune.done + 1 ∧ t.dune.spins = d.spins ∧ t.dune.fields = d.fields ∧ t.dune.rng = d.rng ∧
        t.dune.best = some b ∧ (∀ ch, ch < c.dune.chains → b.energy ≤ c.duneEnergy d ch) ∧
        (∀ old, c.dune.best = some old → b.energy ≤ old.energy ∧ ((∀ ch, ch < c.dune.chains → old.energy ≤ c.duneEnergy d ch) → b = old)) ∧
        (c.dune.best = none → ∃ ch, ch < c.dune.chains ∧ b.energy = c.duneEnergy d ch ∧ b.chain = ch) ∧
        (c.dune.pauseReq = false → t.get Reg.DUNE_STAT_STATE = 2 ∧ t.cores = c.cores ∧ t.mem = c.mem ∧ t.fw = c.fw) ∧
        (c.dune.pauseReq = true → t.get Reg.DUNE_STAT_STATE = 3 ∧ t.dune.pauseReq = false ∧ t.get Reg.DUNE_IRQ_STATUS_PAUSED = 1 ∧
          ∀ i ∈ c.dune.cores, (t.core (c.pcore i)).slice = false)) ∧
    (Sweeps c → c.dune.mode = 0 → 0 < c.dune.chains → c.fw.pauses = [] → c.fwUp = true →
      (∀ st, c.dune.stop = some st → st < 256 → ∃ t, Leaves .duneSweepBoundary s t ∧ DuneEnded c t st) ∧
      (c.dune.stop = none → c.dune.sweeps ≤ c.dune.done + 1 → ∃ t, Leaves .duneSweepBoundary s t ∧ DuneEnded c t OK))

/-- R245, R250 to R252: a pause is asked for while a run sweeps, and RESUME or the expiry of its time ends it; ABORT and the deadline end the run at its next boundary,
at once where it stands at one; a slice starts on an idle participating core within its share; the peers' spins let a chip that waits go on, and a peer whose descriptor
differs refuses the run. -/
def DuneCommandsHold : Prop :=
  ∀ (s : State) (i : CoreId) (msg : DuneMsg),
    let c := s.chip
    let st := c.get Reg.DUNE_STAT_STATE
    let k := i.toNat
    let p := c.pcore k
    let starts := st = 2 ∧ c.dune.waiting = false ∧ k ∈ c.dune.cores ∧ c.engineOn p = true ∧ c.matrixIdle p = true ∧ c.gangCluster (p / 32) = false ∧ c.rotStops p = false ∧
      c.granted k < c.share * 50 / 100
    let resumed := fun t : Chip => t.get Reg.DUNE_STAT_STATE = 2 ∧ t.dune = c.dune ∧ t.fw = c.fw ∧ t.cores = c.cores ∧
      t.mem = c.mem ∧ RegsKept c t (· = Reg.DUNE_STAT)
    (st = 2 → c.dune.waiting = false → Leaves .duneCmdPause s { c with dune := { c.dune with pauseReq := true } }) ∧
    (st = 2 → c.dune.waiting = true → c.fw.pauses = [] → ∃ t, Leaves .duneCmdPause s t ∧ t.get Reg.DUNE_STAT_STATE = 3 ∧
      t.get Reg.DUNE_IRQ_STATUS_PAUSED = 1 ∧ t.dune = { c.dune with pauseReq := false }) ∧
    (st ≠ 2 → Leaves .duneCmdPause s c) ∧
    (st = 3 → c.dune.stop = none → c.fw.pauses = [] → (∃ t, Leaves .duneCmdResume s t ∧ resumed t) ∧
      (c.get Reg.DUNE_PAUSE_DURATION ≠ 0 → ∃ t, Leaves .dunePauseExpiry s t ∧ resumed t)) ∧
    (st ≠ 3 → Leaves .duneCmdResume s c) ∧
    (c.get Reg.DUNE_PAUSE_DURATION = 0 → Leaves .dunePauseExpiry s c) ∧
    (c.dune.active = false → Leaves .duneCmdAbort s c ∧ Leaves .duneDeadline s c) ∧
    (c.dune.active = true → st = 2 → c.dune.waiting = false →
      Leaves .duneCmdAbort s { c with dune := { c.dune with stop := some (c.dune.stop.getD PARTIAL) } } ∧
      (c.dune.deadline ≠ 0 → Leaves .duneDeadline s { c with dune := { c.dune with stop := some (c.dune.stop.getD ERR_TIMEOUT) } })) ∧
    (c.dune.active = true → (st = 3 ∨ c.dune.waiting = true) → c.inLookout = false → c.fw.pauses = [] → c.fwUp = true →
      (∃ t, Leaves .duneCmdAbort s t ∧ DuneEnded c t PARTIAL) ∧
      (c.dune.deadline ≠ 0 → ∃ t, Leaves .duneDeadline s t ∧ DuneEnded c t ERR_TIMEOUT)) ∧
    (c.dune.deadline = 0 → Leaves .duneDeadline s c) ∧
    (starts → ∃ t, Leaves (.duneSliceStart i) s t ∧ t.core p = { c.core p with slice := true } ∧ (∀ q, q ≠ p → t.core q = c.core q) ∧
      t.get Reg.DUNE_SLICE_CNT_COUNT = counted c Reg.DUNE_SLICE_CNT_COUNT 1 ∧ t.granted k = c.granted k + 1 ∧ t.mem = c.mem ∧
      RegsKept c t (fun a => PmonChipRegs a ∨ a = Reg.DUNE_SLICE_CNT)) ∧
    (¬ starts → Leaves (.duneSliceStart i) s c) ∧
    (c.seated k = true → Leaves (.duneSliceEnd i) s (c.modCore p (fun x => { x with slice := false }))) ∧
    (c.seated k = false → Leaves (.duneSliceEnd i) s c) ∧
    ((c.dune.active = false ∨ (c.dune.mode ≠ 2 ∧ msg.unequal = false)) → Leaves (.duneExchange msg) s c) ∧
    (c.dune.active = true → msg.unequal = true → c.dune.origin = .internal → ∃ t, Leaves (.duneExchange msg) s t ∧
      t.dune = { Dune.idle with grants := c.dune.grants } ∧ t.get Reg.DUNE_STAT_STATE = 0 ∧ t.mem = c.mem ∧
      (∀ q, (∀ x ∈ c.dune.cores, c.pcore x ≠ q) → t.core q = c.core q) ∧ ∀ x ∈ c.dune.cores, (t.core (c.pcore x)).slice = false) ∧
    (c.dune.active = true → c.dune.mode = 2 → msg.unequal = false → st ≠ 1 → c.dune.waiting = true → c.dune.stop = none → c.dune.pauseReq = false →
      c.dune.done < c.dune.sweeps → ∃ t, Leaves (.duneExchange msg) s t ∧ t.dune.waiting = false ∧ t.dune.remote = msg.spins ∧
        t.dune.spins = c.dune.spins ∧ t.dune.done = c.dune.done ∧ t.cores = c.cores ∧ t.mem = c.mem)

/-- R241, R242: a draw flips a spin below the count of the rule's p lowered by its relative error and not from the count of p raised by it on, the exact p taken to 128
binary places; so does every smaller draw, and the same draw at a smaller ΔE; at or below 0 a Metropolis visit always flips; the first sweep runs at T_S and the last of a geometric schedule at T_E's ratio. -/
def DuneChanceHold : Prop :=
  ∀ (d : Dune) (heat : Bool) (dE dE' : Int) (t : Dy) (draw n m : Nat),
    let p := acceptExact heat dE t
    let low := acceptCount p (2 ^ 40 - 2 ^ 20 - 1)
    let high := acceptCount p (2 ^ 40 + 2 ^ 20 + 1)
    let ts := (f32 d.ts).getD (0, 0)
    let te := (f32 d.te).getD (0, 0)
    (n < low → acceptFlips heat dE t n = true) ∧ (high ≤ n → acceptFlips heat dE t n = false) ∧
    (m ≤ n → acceptFlips heat dE t n = true → acceptFlips heat dE t m = true) ∧
    (dE ≤ dE' → acceptLow heat dE' t ≤ low → acceptHigh heat dE' t ≤ high → acceptFlips heat dE' t n = true → acceptFlips heat dE t n = true) ∧
    (bit d.flags 1 = false → dE ≤ 0 → d.flips t dE draw = true) ∧ (bit d.flags 1 = false → 0 < dE → d.flips t dE draw = acceptFlips false dE t (draw / 256)) ∧
    (bit d.flags 1 = true → d.flips t dE draw = acceptFlips true dE t (draw / 256)) ∧
    d.temp 1 = Dy.mul ts d.sc ∧ (1 < d.sweeps → d.flags % 2 = 0 → d.temp d.sweeps = Dy.mul (Dy.mul ts (Dy.div te ts)) d.sc)

/-- R239, R241 to R243, R245, R250 to R252: the boundary of a sweep; the chance of a flip; the commands of a run.
Rests on the model's choices of log 10, 18, 117, 155. -/
def Obligations.DuneRuns : Prop := DuneSweepsHold ∧ DuneChanceHold ∧ DuneCommandsHold

/-! ## Feryo links (R326 to R345) -/

/-- The block with something sent, and nothing else changed. -/
def Sends (c : Chip) (l : List Out) : Chip := { c with out := c.out ++ l }

/-- The unacknowledged frames of link `l`, in order, as they are sent again (R330). -/
def replayed (c : Chip) (l : Nat) : List Out := (c.link l).replay.map (fun s => Out.feryoFrame l s.seq s.flits (frameCrc32 s.seq s.flits))

/-- R329, R330, R334, R337: a link that is ACTIVE takes the frame it expects, translates its event and lets it into the router, and answers ACK; a frame with a bad CRC is counted
and answered NAK; one from the future is answered NAK, one it has had ACK. A packet whose path is illegal is counted and dropped (R336). A NAK or the replay timeout sends the replay buffer again,
or retrains the link after REPLAY_MAX of these; an ACK frees what it names; credits come back up to their totals; unknown blocks are counted. Other states take none of these.
Rests on the model's choices of log 42, 46. -/
def Obligations.FeryoFrames : Prop :=
  ∀ (s : State) (l : LinkId) (seq : BitVec 12) (e : DWord) (flits : List DWord) (crc : Word) (p : DWord) (kind : Byte),
    let c := s.chip
    let n := l.toNat
    let x := c.link n
    let ahead := (seq.toNat + 4096 - x.rx) % 4096
    let others := fun t : Chip => ∀ j, j ≠ n → t.link j = c.link j
    (n < c.links_ → c.linkState n = 3 →
      (frameCrc32 seq.toNat [e] = crc → seq.toNat = x.rx → x.part = [] → dbits e 18 16 = 0 → smGet [] x.rxq 0 = [] →
        c.room (feryoCluster n) 20 0 = true → ∃ t, Leaves (.feryoFrame l seq [e] crc) s t ∧ (t.link n).rx = (x.rx + 1) % 4096 ∧
          t.buf (feryoCluster n) 20 0 = c.buf (feryoCluster n) 20 0 ++ [.event (withKey e (c.translate n (evKey e))) none] ∧
          t.out = c.out ++ [.feryoBlock n 0x4B x.rx] ∧ others t ∧ t.regs = c.regs ∧ t.mem = c.mem ∧ t.cores = c.cores) ∧
      (0 < flits.length → flits.length ≤ 32 → frameCrc32 seq.toNat flits ≠ crc → ∃ t, Leaves (.feryoFrame l seq flits crc) s t ∧
        t.get (Reg.FER_LINK_CNT_CRC n) = counted c (Reg.FER_LINK_CNT_CRC n) 1 ∧ t.out = c.out ++ [.feryoBlock n 0x55 x.rx] ∧
        OnlyRegs (Sends c [.feryoBlock n 0x55 x.rx]) t (· = Reg.FER_LINK_CNT n)) ∧
      (0 < flits.length → flits.length ≤ 32 → frameCrc32 seq.toNat flits = crc → ahead ≠ 0 →
        (ahead < 2048 → Leaves (.feryoFrame l seq flits crc) s (Sends c [.feryoBlock n 0x55 x.rx])) ∧
        (2048 ≤ ahead → x.rx < 4096 → Leaves (.feryoFrame l seq flits crc) s (Sends c [.feryoBlock n 0x4B ((x.rx + 4095) % 4096)]))) ∧
      (∀ body : List DWord, frameCrc32 seq.toNat (e :: body) = crc → seq.toNat = x.rx → x.part = [] → dbits e 18 16 ≠ 0 → body.length ≤ 31 →
        body.length = ({ hdr := e, body := body } : Packet).len + 1 → pathCheck c (feryoCluster n) ({ hdr := e, body := body } : Packet).route ≠ OK →
        ∃ t, Leaves (.feryoFrame l seq (e :: body) crc) s t ∧ t.get (Reg.FER_LINK_DROP_PATH n) = counted c (Reg.FER_LINK_DROP_PATH n) 1 ∧
          BufsKept c t ∧ (t.link n).rx = (x.rx + 1) % 4096 ∧ RegsKept c t (· = Reg.FER_LINK_DROP n)) ∧
      (x.replay ≠ [] → x.replays < c.get Reg.FER_TIMING_REPLAY_MAX →
        let again := fun t : Chip => t.link n = { x with replays := x.replays + 1 } ∧ t.out = c.out ++ replayed c n ∧ others t ∧ t.mem = c.mem ∧
          RegsKept c t PmonChipRegs
        (∃ t, Leaves (.feryoNak l seq) s t ∧ again t) ∧
        (c.get Reg.FER_TIMING_REPLAY_TO ≠ 0 → ∃ t, Leaves (.replayTimeout l) s t ∧ again t)) ∧
      (x.replay ≠ [] → c.get Reg.FER_TIMING_REPLAY_MAX ≤ x.replays →
        let retrain := fun t : Chip => t.linkState n = 4 ∧ OnlyRegs c t (· = Reg.FER_LINK_STAT n)
        (∃ t, Leaves (.feryoNak l seq) s t ∧ retrain t) ∧
        (c.get Reg.FER_TIMING_REPLAY_TO ≠ 0 → ∃ t, Leaves (.replayTimeout l) s t ∧ retrain t)) ∧
      (x.replay = [] → Leaves (.feryoNak l seq) s c) ∧
      (c.get Reg.FER_TIMING_REPLAY_TO = 0 → Leaves (.replayTimeout l) s c) ∧
      (x.xfers = [] → ∃ t, Leaves (.feryoAck l seq) s t ∧ (t.link n).xfers = [] ∧ others t ∧ t.regs = c.regs ∧ t.mem = c.mem ∧
        (t.link n).replay = x.replay.filter (fun f => decide (2048 ≤ (seq.toNat + 4096 - f.seq) % 4096)) ∧
        (t.link n).replays = if (t.link n).replay = x.replay then x.replays else 0) ∧
      (∃ t, Leaves (.creditBlock l p) s t ∧ (∀ k, k < 5 → t.credit n k = min (poolMax k) (c.credit n k + dbits p (poolBit k + poolWidth k - 1) (poolBit k))) ∧
        others t ∧ { t with links := c.links } = c)) ∧
    (n < c.links_ → 1 ≤ c.linkState n → c.linkState n ≤ 4 →
      (kind.toNat ∈ [0x1E, 0x2D, 0x33, 0x4B, 0x55, 0x66, 0x78, 0x87, 0x99] → Leaves (.unknownControlBlock l kind) s c) ∧
      (kind.toNat ∉ [0x1E, 0x2D, 0x33, 0x4B, 0x55, 0x66, 0x78, 0x87, 0x99] → ∃ t, Leaves (.unknownControlBlock l kind) s t ∧
        t.get (Reg.FER_LINK_CNT_OTHER n) = counted c (Reg.FER_LINK_CNT_OTHER n) 1 ∧ OnlyRegs c t (· = Reg.FER_LINK_CNT n))) ∧
    (c.linkState n ≠ 3 → Leaves (.feryoFrame l seq flits crc) s c ∧ Leaves (.feryoAck l seq) s c ∧ Leaves (.feryoNak l seq) s c ∧
      Leaves (.replayTimeout l) s c ∧ Leaves (.creditBlock l p) s c)

/-- Link `l` has failed with a code (R331 to R333): its unacknowledged frames are lost and counted. -/
def LinkFailed (c t : Chip) (l code : Nat) : Prop :=
  t.linkState l = 6 ∧ t.get (Reg.FER_LINK_STAT_FAULT l) = code ∧ (t.link l).replay = [] ∧
  t.get (Reg.FER_LINK_CNT_LOST l) = counted c (Reg.FER_LINK_CNT_LOST l) (c.link l).replay.length ∧ bit (t.get Reg.FER_IRQ_STATUS_FAIL) l = true

/-- A failing link is reported, once, where its peer lives and another link still leads to a living chip (R345); it is not where none does. -/
def LossReported (c t : Chip) (l : Nat) : Prop :=
  let out := (∃ p, c.linkPeer l = some p ∧ c.alive p = true) ∧ ∃ k q, k < c.links_ ∧ c.linkState k = 3 ∧ c.linkPeer k = some q ∧ c.alive q = true
  (¬ out → t.fw = c.fw ∧ t.mem = c.mem) ∧ (out → ∃ e, t.fw.log = c.fw.log ++ [e] ∧ e.code = 0x0004)

/-- R331 to R333, R345: REBRING trains a failed link anew; a link whose lanes lock, eight or four, goes on to INIT with a nonce, one that retrains is ACTIVE and sends its replay buffer
again; a link that does not train in time fails, and so does one whose peer's INIT fails a check, with that check's code; INIT with the link's own nonce makes it ACTIVE and gives the
delay, another is answered with its nonce; a link that does not retrain in time fails. -/
def FeryoTrainingHold : Prop :=
  ∀ (s : State) (l : LinkId) (lanes : Byte) (b : DWord),
    let c := s.chip
    let n := l.toNat
    let x := c.link n
    let st := c.linkState n
    let half := fun k : Nat => (lanes.toNat / 2 ^ (4 * k)) % 16 = 15
    let nonce : BitVec 16 := b.extractLsb' 28 16
    n < c.links_ →
    (st = 6 → ∃ t, Leaves (.ferLinkCmdRebring l) s t ∧ t.linkState n = 1 ∧ t.get (Reg.FER_LINK_STAT_FAULT n) = 0 ∧ (t.link n).tx = 0 ∧ (t.link n).rx = 0 ∧
      (∀ k, t.credit n k = 0) ∧ t.mem = c.mem ∧ RegsKept c t (· = Reg.FER_LINK_STAT n)) ∧
    (st ≠ 6 → Leaves (.ferLinkCmdRebring l) s c) ∧
    (st = 1 → (half 0 ∨ half 1) → ∃ t d, Leaves (.trainDone l lanes) s t ∧ t.linkState n = 2 ∧ t.get (Reg.FER_LINK_STAT_LANES_OK n) = lanes.toNat ∧
      t.get (Reg.FER_LINK_STAT_WIDTH n) = (if lanes = 0xFF#8 then 0 else 1) ∧ t.link n = { x with nonce := Config.nonce c.fresh, reqTime := c.time } ∧
      t.out = c.out ++ [.feryoBlock n 0x87 d] ∧ d / 2 ^ 20 % 2 ^ 16 = (Config.nonce c.fresh).toNat ∧ RegsKept c t (· = Reg.FER_LINK_STAT n)) ∧
    (st = 4 → (half 0 ∨ half 1) → ∃ t d, Leaves (.trainDone l lanes) s t ∧ t.linkState n = 3 ∧ (t.link n).replay = x.replay ∧
      t.out = c.out ++ .feryoBlock n 0x87 d :: replayed c n) ∧
    (¬ (half 0 ∨ half 1) → Leaves (.trainDone l lanes) s c) ∧
    (st = 1 → ∃ t, Leaves (.trainTimeout l) s t ∧ LinkFailed c t n 1 ∧ LossReported c t n ∧ t.cores = c.cores) ∧
    (st ≠ 1 → Leaves (.trainTimeout l) s c) ∧
    (st = 2 → c.initCheck n b ≠ 0 → ∃ t, Leaves (.initBlock l b) s t ∧ LinkFailed c t n (c.initCheck n b) ∧ LossReported c t n ∧ t.cores = c.cores) ∧
    (st = 2 → c.initCheck n b = 0 → nonce = x.nonce → x.replays = 0 → ∃ t, Leaves (.initBlock l b) s t ∧ t.linkState n = 3 ∧
      t.get (Reg.FER_LINK_STAT_PEER_CHIP n) = dbits b 11 8 ∧ t.get (Reg.FER_LINK_STAT_PEER_LINK n) = dbits b 13 12 ∧
      (∀ d : Nat, (c.time - x.reqTime).toNat = 2 * d + dbits b 59 44 → d < 2 ^ 16 → t.get (Reg.FER_LINK_DELAY_DELAY n) = d) ∧
      (x.granted = true → t.out = c.out) ∧ t.mem = c.mem ∧ RegsKept c t (fun a => a = Reg.FER_LINK_STAT n ∨ a = Reg.FER_LINK_DELAY n)) ∧
    ((st = 2 ∧ c.initCheck n b = 0) ∨ st = 3 → nonce ≠ x.nonce → ∃ t d, Leaves (.initBlock l b) s t ∧ t.linkState n = st ∧ t.links = c.links ∧
      t.out = c.out ++ [.feryoBlock n 0x87 d] ∧ d / 2 ^ 20 % 2 ^ 16 = nonce.toNat ∧ RegsKept c t (· = Reg.FER_LINK_STAT n)) ∧
    (st = 4 → c.get Reg.FER_TIMING_RETRAIN_TO = 0 → Leaves (.retrainTimeout l) s c) ∧
    (st = 4 → c.get Reg.FER_TIMING_RETRAIN_TO ≠ 0 → ∃ t, Leaves (.retrainTimeout l) s t ∧ LinkFailed c t n 7 ∧ LossReported c t n ∧ t.cores = c.cores)

/-- R338, R344, R345, R358: SYNC and HB go out on every ACTIVE link, HB carrying whether firmware runs and none at a period of 0; SYNC from upstream steps the time base once, which firmware waited for, and slews it
afterwards; an HB marks the peer alive and may take the link to SLEEP; a peer that misses, or without a heartbeat one all of whose links have failed, is declared failed once, its links fail, and the surviving chip with the least number
reports it. -/
def FeryoSyncAndHeartbeatHold : Prop :=
  ∀ (s : State) (l : LinkId) (time : Time) (up sleep : Bool) (peer : BitVec 4) (ports : List (Port × BitVec 12 × BitVec 7)) (chans : List Chan),
    let c := s.chip
    let n := l.toNat
    let f := peer.toNat
    let active := (List.range c.links_).filter (fun k => c.linkState k == 3)
    let want := time + BitVec.ofNat 48 (c.get (Reg.FER_LINK_DELAY_DELAY n))
    Leaves .feryoSyncSend s (Sends c (active.map (fun k => .feryoBlock k 0x78 c.time.toNat))) ∧
    (c.get Reg.FER_HB_HB_PERIOD = 0 → Leaves .hbSend s c) ∧
    (c.get Reg.FER_HB_HB_PERIOD ≠ 0 → Leaves .hbSend s (Sends c (active.map (fun k => .feryoBlock k 0x99 c.fwUp.toNat)))) ∧
    (n ∈ active → c.upstream = some n → c.sync.aligned = false → ∃ t, Leaves (.feryoSyncReceive l time) s t ∧
      { t with regs := c.regs } = { c with time := want, sync := { aligned := true, slew := 0, gap := 0 } } ∧ (c.fwUp = false → t.regs = c.regs) ∧
      (c.fwUp = true → t.get Reg.CL_CTRL_ENABLE = (if bit c.fw.offered 8 then 1 else c.get Reg.CL_CTRL_ENABLE) ∧
        t.get Reg.CAP_CTRL_EMIT_EN = (if c.edgesJoined then 1 else c.get Reg.CAP_CTRL_EMIT_EN) ∧
        RegsKept c t (fun a => a = Reg.CL_CTRL ∨ a = Reg.CAP_CTRL))) ∧
    (n ∈ active → c.upstream = some n → c.sync.aligned = true →
      Leaves (.feryoSyncReceive l time) s { c with sync := { c.sync with slew := (want - c.time).toInt } }) ∧
    ((n ∉ active ∨ c.upstream ≠ some n) → Leaves (.feryoSyncReceive l time) s c) ∧
    (n ∈ active → ∃ t, Leaves (.hbReceive l up sleep) s t ∧ t.link n = { c.link n with lastHb := some c.time, peerUp := up } ∧
      t.linkState n = (if sleep then 5 else 3) ∧ (∀ j, j ≠ n → t.link j = c.link j) ∧ t.mem = c.mem ∧ RegsKept c t (· = Reg.FER_LINK_STAT n)) ∧
    (n ∉ active → Leaves (.hbReceive l up sleep) s c) ∧
    ((c.dead.getLsbD f = true ∨ f = c.get Reg.FER_CFG_CHIP_ID ∨ (c.get Reg.FER_HB_HB_PERIOD = 0 ∧ c.linksDown f = false)) →
      Leaves (.hbMiss peer ports chans) s c) ∧
    (c.dead.getLsbD f = false → f ≠ c.get Reg.FER_CFG_CHIP_ID → (c.get Reg.FER_HB_HB_PERIOD ≠ 0 ∨ c.linksDown f = true) → c.dune.active = false → c.fw.jobs = [] → ∃ t, Leaves (.hbMiss peer ports chans) s t ∧
      t.dead = c.dead ||| (1#16 <<< f) ∧ (∀ k ∈ active, c.get (Reg.FER_LINK_STAT_PEER_CHIP k) = f → LinkFailed c t k 8) ∧
      (∀ k ∈ active, c.get (Reg.FER_LINK_STAT_PEER_CHIP k) ≠ f → t.linkState k = 3) ∧ t.cores = c.cores ∧
      ((∀ k, k < c.get Reg.FER_CFG_CHIP_ID → k = f ∨ c.dead.getLsbD k = true) → ∃ e, t.fw.log = c.fw.log ++ [e] ∧ e.code = 0x0004) ∧
      ((∃ k, k < c.get Reg.FER_CFG_CHIP_ID ∧ k ≠ f ∧ c.dead.getLsbD k = false) → t.fw = c.fw ∧ t.mem = c.mem))

/-- R331 to R333, R338, R344, R345, R358: a link's training, its time alignment and heartbeat.
Rests on the model's choices of log 43, 44, 47, 48, 159, 160, 161. -/
def Obligations.FeryoLinks : Prop := FeryoTrainingHold ∧ FeryoSyncAndHeartbeatHold

/-- R339, R340: a read of FER_XFER_COMMIT queues the staged transfer and shows its status, and the engine sends it as posted writes of 16 bytes; the oldest transfer ends with OK when its last
write is acknowledged, with PARTIAL when the link failed first; a posted write that reaches the bridge is committed, or counted where the access fails.
Rests on the model's choices of log 161. -/
def Obligations.FeryoTransfers : Prop :=
  ∀ (s : State) (l : LinkId),
    let c := s.chip
    let n := l.toNat
    let x := c.link n
    let ws := (List.range 8).map (fun i => c.rd (Reg.FER_XFER_D n i))
    let d : Xfer := { src := wordsNat ws 0 2, dst := wordsNat ws 2 2, len := wordsNat ws 4 1, irq := (ws.getD 5 0).getLsbD 0, tag := wordsNat ws 6 1,
                      sent := 16, acked := 0, failed := false }
    (nextWrite x.xfers = none →
      (c.linkState n ≠ 3 → Leaves (.ferXferCommit l) s (Shows c 2#32)) ∧
      (c.linkState n = 3 → xferValid ws = false → Leaves (.ferXferCommit l) s (Shows c 4#32)) ∧
      (c.linkState n = 3 → xferValid ws = true → 16 ≤ x.xfers.length → Leaves (.ferXferCommit l) s (Shows c 5#32))) ∧
    (c.linkState n = 3 → xferValid ws = true → x.xfers = [] → d.len = 16 → DramServes c → d.src < winBase → d.src + 16 ≤ c.usable →
      OpenInput c (cx (feryoCluster n)) 19 3 →
      ∃ t, Leaves (.ferXferCommit l) s t ∧ t.link n = { x with xfers := [d] } ∧ t.out = c.out ++ [.readData [0, 0, 0, 0] false] ∧ t.mem = c.mem ∧
        PacketEnters c t (cx (feryoCluster n)) 19 3 (fun k => k = c.postedWrite n d.dst (c.rdBytes d.src 16)) ∧ RegsKept c t PmonChipRegs) ∧
    (x.xfers = [] → Leaves (.ferXferDone l) s c) ∧
    (∀ h rest, x.xfers = h :: rest → h.acked < h.len → h.failed = false → Leaves (.ferXferDone l) s c) ∧
    (∀ h rest, x.xfers = h :: rest → (h.len ≤ h.acked ∨ h.failed = true) → nextWrite rest = none → ∃ t, Leaves (.ferXferDone l) s t ∧
      t.link n = { x with xfers := rest } ∧ t.get (Reg.FER_XFER_STAT_LAST n) = (if h.acked < h.len then PARTIAL else OK) ∧
      t.rd (Reg.FER_XFER_BYTES n) = BitVec.ofNat 32 h.acked ∧ t.rd (Reg.FER_XFER_LASTTAG n) = BitVec.ofNat 32 h.tag ∧
      (h.irq = true → bit (t.get Reg.FER_IRQ_STATUS_XFER) n = true) ∧ t.mem = c.mem ∧ t.cores = c.cores) ∧
    (splitFirst isPostedWrite c.bridge.inbox = none → Leaves .feryoPostedWrite s c) ∧
    (∀ e p rest, splitFirst isPostedWrite c.bridge.inbox = some ((e, .packet p), rest) → 0 < p.memData.length → p.memAddr % 64 + p.memData.length ≤ 64 →
      (DramServes c → p.memAddr < winBase → p.memAddr + p.memData.length ≤ c.usable → ∃ t, Leaves .feryoPostedWrite s t ∧ t.bridge.inbox = rest ∧
        t.rdBytes p.memAddr p.memData.length = p.memData ∧ MemKept c t p.memAddr p.memData.length ∧ t.cores = c.cores ∧ RegsKept c t PmonChipRegs) ∧
      (0x2002000000 ≤ p.memAddr → p.memAddr < oasisBase → ∃ t, Leaves .feryoPostedWrite s t ∧ t.bridge.inbox = rest ∧
        t.get Reg.FER_RX_ERR_COUNT = counted c Reg.FER_RX_ERR_COUNT 1 ∧ t.mem = c.mem ∧ t.cores = c.cores))

/-! ## The host interface (R280 to R302) -/

/-- How many of the sixteen slots `v` names are not in state `st`. -/
def wrongSlots (c : Chip) (v st : Nat) : Nat := ((List.range 16).filter (fun n => bit v n && c.mbxState n != st)).length

/-- The bytes that end a record of ring `k` stand where its CQ tail pointed (R299): kind, key word and time. -/
def cqPlace (c : Chip) (k : Nat) : Nat := c.cqBase k + (c.cqTail k % c.cqSize k) * 32

/-- R289, R296, R300, R301, R324: doorbells. A POST takes FREE slots to POSTED and a RELEASE DONE ones to FREE, every other slot named being counted; a tail or head within its ring
is taken, any other counted; the head of the notification queue is kept; the holdoff of a ring with unsignalled entries sends its message. An output event goes by its source core: counted where it has no
route, written to its ring, or dropped and counted where the ring is absent or full. -/
def DoorbellsHold : Prop :=
  ∀ (s : State) (v : BitVec 16) (ring : BitVec 6) (i : BitVec 16),
    let c := s.chip
    let k := ring.toNat
    let r := c.ring k
    c.inLookout = false →
    (∃ t, Leaves (.mbxDb v) s t ∧ (∀ n, n < 16 → t.mbxState n = if bit v.toNat n ∧ c.mbxState n = 0 then 1 else c.mbxState n) ∧
      t.get Reg.MBX_VIOL_COUNT = counted c Reg.MBX_VIOL_COUNT (wrongSlots c v.toNat 0) ∧ OnlyRegs c t (fun a => a = Reg.MBX_STATE ∨ a = Reg.MBX_VIOL)) ∧
    (∃ t, Leaves (.mbxRelease v) s t ∧ (∀ n, n < 16 → t.mbxState n = if bit v.toNat n ∧ c.mbxState n = 2 then 0 else c.mbxState n) ∧
      t.get Reg.MBX_VIOL_COUNT = counted c Reg.MBX_VIOL_COUNT (wrongSlots c v.toNat 2) ∧ OnlyRegs c t (fun a => a = Reg.MBX_STATE ∨ a = Reg.MBX_VIOL)) ∧
    (let fits := c.fw.nqBase ≠ 0 ∧ (c.get Reg.HIF_NQ_TAIL_TAIL + 0x10000 - i.toNat) % 0x10000 ≤ 2 ^ c.fw.nqLog2;
      (fits → Leaves (.mbxNqDb i) s { c with fw := { c.fw with nqHead := i.toNat } }) ∧ (¬ fits → Leaves (.mbxNqDb i) s c)) ∧
    (c.ringExists k = true → (i.toNat + 0x10000 - c.sqHead k) % 0x10000 ≤ c.sqSize k → Leaves (.ringSqDb ring i) s (c.setRing k { r with sqTail := i.toNat })) ∧
    (c.ringExists k = false ∨ c.sqSize k < (i.toNat + 0x10000 - c.sqHead k) % 0x10000 → ∃ t, Leaves (.ringSqDb ring i) s t ∧
      t.get (Reg.RING_DB_ERR_SQ k) = counted c (Reg.RING_DB_ERR_SQ k) 1 ∧ OnlyRegs c t (· = Reg.RING_DB_ERR k)) ∧
    (c.ringExists k = true → (c.cqTail k + 0x10000 - i.toNat) % 0x10000 ≤ c.cqSize k → Leaves (.ringCqDb ring i) s (c.setRing k { r with cqHead := i.toNat })) ∧
    (c.ringExists k = false ∨ c.cqSize k < (c.cqTail k + 0x10000 - i.toNat) % 0x10000 → ∃ t, Leaves (.ringCqDb ring i) s t ∧
      t.get (Reg.RING_DB_ERR_CQ k) = counted c (Reg.RING_DB_ERR_CQ k) 1 ∧ OnlyRegs c t (· = Reg.RING_DB_ERR k)) ∧
    (c.ringExists k = true → c.get (Reg.RING_CQ_IRQ_HOLDOFF k) ≠ 0 → r.unsignalled ≠ 0 → c.msixMasked (c.get (Reg.RING_CFG_VEC k)) = false →
      ∃ t, Leaves (.cqHoldoffExpiry ring) s t ∧ t.ring k = { r with unsignalled := 0 } ∧ t.out = c.out ++ [.msix (c.get (Reg.RING_CFG_VEC k))] ∧
        t.regs = c.regs ∧ t.mem = c.mem) ∧
    ((c.ringExists k = false ∨ c.get (Reg.RING_CQ_IRQ_HOLDOFF k) = 0 ∨ r.unsignalled = 0) → Leaves (.cqHoldoffExpiry ring) s c) ∧
    (splitFirst isOutputEvent c.bridge.inbox = none → Leaves .bridgeOutputEvent s c) ∧
    (∀ edge e left rest, splitFirst isOutputEvent c.bridge.inbox = some ((edge, .event e left), rest) → c.tripRecording = false →
      let src := dbits e 63 54
      let to_ := c.get (Reg.HIF_EVRT_RING src)
      (c.get (Reg.HIF_EVRT_VALID src) = 0 → ∃ t, Leaves .bridgeOutputEvent s t ∧ t.bridge.inbox = rest ∧
        t.get Reg.HIF_EV_NOROUTE_COUNT = counted c Reg.HIF_EV_NOROUTE_COUNT 1 ∧ t.mem = c.mem ∧ RegsKept c t (fun a => a = Reg.HIF_EV_NOROUTE ∨ PmonChipRegs a)) ∧
      (c.get (Reg.HIF_EVRT_VALID src) = 1 → c.ringExists to_ = true → c.cqFree to_ = true → ∃ t, Leaves .bridgeOutputEvent s t ∧ t.bridge.inbox = rest ∧
        t.cqTail to_ = (c.cqTail to_ + 1) % 2 ^ 16 ∧ t.rdMem (cqPlace c to_) 1 = 2 ∧ t.rdMem (cqPlace c to_ + 4) 4 = (evKey e).toNat ∧
        t.rdMem (cqPlace c to_ + 16) 8 = c.time.toNat ∧ MemKept c t (cqPlace c to_) 32 ∧ RegsKept c t (fun a => a = Reg.RING_MIRROR to_ ∨ PmonChipRegs a)) ∧
      (c.get (Reg.HIF_EVRT_VALID src) = 1 → (c.ringExists to_ = false ∨ c.cqFree to_ = false) → ∃ t, Leaves .bridgeOutputEvent s t ∧ t.bridge.inbox = rest ∧
        t.get (Reg.RING_CQ_DROP_COUNT to_) = counted c (Reg.RING_CQ_DROP_COUNT to_) 1 ∧ t.bar0Word (0x2104 + 8 * to_) = t.rd (Reg.RING_CQ_DROP to_) ∧ (t.ring to_).drops = (c.ring to_).drops + 1 ∧
        t.mem = c.mem ∧ RegsKept c t (fun a => a = Reg.RING_CQ_DROP to_ ∨ PmonChipRegs a)))

/-- The services by their codes (R313). -/
def serviceCommands : List (Nat × (Origin → CmdHead → List Byte → Instr)) := [
  (0x02, .query), (0x03, .logRead), (0x10, .ringCreate), (0x11, .ringDestroy), (0x20, .partDefine), (0x21, .jobLoad), (0x22, .jobStart), (0x23, .jobStop),
  (0x24, .jobUnload), (0x28, .writeWeights), (0x29, .readWeights), (0x30, .pause), (0x31, .resume), (0x38, .duneRun), (0x39, .duneStop), (0x40, .bwReserve),
  (0x41, .powerCap), (0x48, .clControl), (0x50, .memTest), (0x51, .defectRemap), (0x58, .tripFire), (0x59, .tripRead), (0x60, .expertWindow)]

/-- The ring has an entry to take up (R297, R298): firmware runs, the ring exists and is not empty, its CQ has room for the completion, and no FENCE holds the entry back. -/
abbrev EntryWaits (c : Chip) (k : Nat) : Prop :=
  c.fwUp = true ∧ c.ringExists k = true ∧ c.sqHead k ≠ (c.ring k).sqTail ∧ c.cqFree k = true ∧
  (bit (c.rdMem (c.sqEntry k (c.sqHead k) + 2) 1) 1 = true → (c.ring k).busy = [])

/-- R288, R290, R297, R298: a POSTED slot is taken up as the service its code names, with the head and arguments that stand in it; so is the entry at a ring's head, which reserves an entry of the CQ.
A slot in another state, one whose command is still at work, and a ring with nothing to take up are left alone. -/
def TakeUpsHold : Prop :=
  ∀ (s : State) (slot : BitVec 4) (ring : BitVec 6),
    let c := s.chip
    let n := slot.toNat
    let k := ring.toNat
    let e := c.sqEntry k (c.sqHead k)
    let tag := c.rdMem (e + 4) 4
    let timeout := c.rdMem (e + 8) 4
    let held := c.setRing k { c.ring k with reserved := (c.ring k).reserved + 1, busy := (c.ring k).busy ++ [(c.sqHead k, tag, timeout)] }
    let taken := held.put (Reg.RING_MIRROR_SQ_HEAD k) (c.sqHead k + 1)
    (c.mbxState n = 1 → c.awaits (.mailbox n) = false → c.slotForm n = [(false, ERR_PARAM)] →
      ∀ x ∈ serviceCommands, c.rdMem (mbxMem n 6) 2 = x.1 →
        exec (.mailboxTakeUp slot) s = exec (x.2 (.mailbox n) (c.slotHead n) (c.rdBytes (mbxMem n 0x10) (c.slotLen n))) s) ∧
    ((c.mbxState n ≠ 1 ∨ c.awaits (.mailbox n) = true) → Leaves (.mailboxTakeUp slot) s c) ∧
    (c.mbxState n = 1 → c.awaits (.mailbox n) = false → c.inLookout = false → c.fwState ≠ 2 → c.fwState ≠ 3 →
      ∃ t, Leaves (.mailboxTakeUp slot) s t ∧ t.mbxState n = 2 ∧ t.rdMem (mbxMem n 8) 1 = c.autoStatus ∧ RegsKept c t (· = Reg.MBX_STATE)) ∧
    (EntryWaits c k → c.rdMem (e + 3) 1 = 0 → c.rdMem (e + 12) 4 = 0 → ∀ x ∈ serviceCommands, c.rdMem e 2 = x.1 →
      exec (.sqEntryTakeUp ring) s = exec (x.2 (.ring k tag) { major := 3, minor := 1, flags := c.rdMem (e + 2) 1, timeout := timeout } (c.rdBytes (e + 0x10) 48))
        { s with chip := taken }) ∧
    (¬ EntryWaits c k → Leaves (.sqEntryTakeUp ring) s c)

/-- R289, R296, R300, R301, R324, R288, R290, R297, R298: doorbells of the mailbox and the rings, and what is taken up.
Rests on the model's choices of log 58, 96. -/
def Obligations.HostQueues : Prop := DoorbellsHold ∧ TakeUpsHold

/-- A host access is denied (R286, R302): counted; a read shows zeros. -/
def Denied (c t : Chip) (n : Nat) (w : Option (List Byte)) : Prop :=
  t.get Reg.HIF_EXP_DENY_COUNT = counted c Reg.HIF_EXP_DENY_COUNT 1 ∧ t.out = c.out ++ (if w = none then [.readData (List.replicate n 0) false] else []) ∧
  t.mem = c.mem ∧ RegsKept c t (· = Reg.HIF_EXP_DENY)

/-- R282, R285, R286, R302, R356: BAR2 reaches DRAM through HIF_BAR2_SEL, reads and writes; a failed access is counted with its offset; writes to the flash and Oasis windows are denied. The expert
window reads and writes registers while it is open, but for the protected blocks, and is denied otherwise. In the recovery phase the low 2 MiB of BAR2 are HCU memory. -/
def HostWindowsHold : Prop :=
  ∀ (s : State) (off : BitVec 24) (o : BitVec 32) (n : BitVec 13) (bs : List Byte) (w : Option (List Byte)),
    let c := s.chip
    let r := c.get Reg.HIF_EXP_SEL_PAGE * 0x1000000 + off.toNat
    let a := c.get Reg.HIF_BAR2_SEL_SEL * 2 ^ 32 + o.toNat
    let one := fun k : Nat => 0 < k ∧ a % 64 + k ≤ 64
    let normal := c.get Reg.BOOT_STAT_PHASE ≠ 8
    c.inLookout = false →
    (c.expertOpen = false → ∃ t, Leaves (.expertWindowAccess off n w) s t ∧ Denied c t n.toNat w) ∧
    (c.expertOpen = true → protectedAt (0x2000000000 + r) = true → ∃ t, Leaves (.expertWindowAccess off n (some bs)) s t ∧ Denied c t n.toNat (some bs)) ∧
    (c.expertOpen = true → r % 4 = 0 → regAssigned r = true → c.regFused r = false →
      Leaves (.expertWindowAccess off 4#13 none) s ((c.regRead r whoHost).1.emit (.readData (natToBytes 4 (c.regRead r whoHost).2.toNat) false)) ∧
      (protectedAt (0x2000000000 + r) = false → bs.length = 4 →
        Leaves (.expertWindowAccess off 4#13 (some bs)) s (c.regWrite r (BitVec.ofNat 32 (bytesToNat bs)) whoHost))) ∧
    (normal → one n.toNat → DramServes c → a < winBase → a + n.toNat ≤ c.usable → ∃ t, Leaves (.bar2Access o n none) s t ∧
      t.out = c.out ++ [.readData (c.rdBytes a n.toNat) false] ∧ t.mem = c.mem ∧ RegsKept c t PmonChipRegs) ∧
    (normal → one bs.length → DramServes c → a < winBase → a + bs.length ≤ c.usable → ∃ t, Leaves (.bar2Access o n (some bs)) s t ∧
      t.rdBytes a bs.length = bs ∧ MemKept c t a bs.length ∧ t.out = c.out ∧ RegsKept c t PmonChipRegs) ∧
    (normal → one n.toNat → 0x2002000000 ≤ a → a < oasisBase → ∃ t, Leaves (.bar2Access o n none) s t ∧
      t.get Reg.HIF_ERR_CNT_COUNT = counted c Reg.HIF_ERR_CNT_COUNT 1 ∧ t.rd Reg.HIF_ERR_ADDR = o ∧ t.host = { c.host with aer := true } ∧
      t.out = c.out ++ [.readData [] true] ∧ t.mem = c.mem) ∧
    (normal → ((oasisBase ≤ a ∧ a < oasisBase + 0x400000) ∨ (flashBase ≤ a ∧ a < flashBase + 0x20000000)) → ∃ t, Leaves (.bar2Access o n (some bs)) s t ∧
      Denied c t n.toNat (some bs)) ∧
    (normal → 0x2000000000 ≤ a → a < 0x2002000000 → c.expertOpen = false → ∃ t, Leaves (.bar2Access o n w) s t ∧ Denied c t n.toNat w) ∧
    (c.get Reg.BOOT_STAT_PHASE = 8 → o.toNat + bs.length ≤ 0x200000 → o.toNat < 0x200000 → ∃ t, Leaves (.bar2Access o n (some bs)) s t ∧
      t.rdBytes (hcuMem o.toNat) bs.length = bs ∧ MemKept c t (hcuMem o.toNat) bs.length ∧ (∀ x, t.rd x = c.rd x))

/-- Bit `i` of a register of row `r` after a write of `v` (R6): W1S sets, W1C clears, RW and, unless locked, RWL take the bit written, the others stay. -/
def typedBit (r : Reg.Row) (old v : Word) (locked : Bool) (i : Nat) : Bool :=
  if bit r.w1s i ∧ v.getLsbD i then true
  else if bit r.w1c i ∧ v.getLsbD i then false
  else if bit r.rw i ∨ (bit r.rwl i ∧ locked = false) then v.getLsbD i
  else old.getLsbD i

/-- The registers of the cell links', the captures' and the crossbar's own blocks and of BAR0's control page whose writes do nothing but store. -/
abbrev PlainRegister (a : Nat) : Prop :=
  (0x130000 ≤ a ∧ a < 0x131000) ∨ (0x160000 ≤ a ∧ a < 0x160100) ∨ (0x70000 ≤ a ∧ a < 0x71000) ∨ (0x2003000 ≤ a ∧ a < 0x2003040)

/-- R6, R8, R18, R282: a write to a register stores by the types of its fields, and RWL fields while their block is not locked; a register no unit serves, one off a word and one of a
core that answers no access give the master an error response (R255, R475); a doorbell written is its command. An FLR puts the registers of the host blocks, the MSI-X table and the rings back to their reset, and no other memory or register. -/
def RegisterWritesHold : Prop :=
  ∀ (s : State) (who : BitVec 4) (a v : Word) (r : Reg.Row),
    let c := s.chip
    let n := a.toNat
    let slot := (n - 0x10000000) / 0x10000
    (PlainRegister n → n % 4 = 0 → Reg.row? n = some r → c.inLookout = false → ∃ t, Leaves (.registerWrite who a v) s t ∧
      (∀ i, i < 32 → (t.rd n).getLsbD i = typedBit r (c.rd n) v (c.regLocked n) i) ∧ OnlyRegs c t (· = n)) ∧
    (0x2000000 ≤ n → n < 0x3000000 → n % 4 ≠ 0 → Leaves (.registerWrite who a v) s c) ∧
    (n = cfgBase + 4 → Leaves (.registerWrite who a v) s { c with host := { c.host with devctl2 := v.setWidth 16 } }) ∧
    (n = cfgBase → ∃ t, Leaves (.registerWrite who a v) s t ∧ t.host.fnMask = v.getLsbD 14 ∧ t.regs = c.regs ∧ t.mem = c.mem ∧
      (v.getLsbD 14 = true → t.out = c.out) ∧
      ∀ k, k < 64 → t.host.msixPend.getLsbD k = (c.host.msixPend.getLsbD k && (v.getLsbD 14 || !bit (c.rdMem (msixMem (k * 16 + 12)) 4) 0))) ∧
    (c.inLookout = false → n = 0x2005000 → Leaves (.registerWrite who a v) s c) ∧
    (n < 0x2000000 → (regAssigned n = false ∨ c.regFused n = true ∨ n % 4 ≠ 0) →
      ∃ t, Leaves (.registerWrite who a v) s t ∧ BusRefused c t who.toNat 4 (0x2000000000 + n)) ∧
    (0x10000000 ≤ n → slot ≠ bridgeSlot → (c.windowOpen slot = false ∨ n % 4 ≠ 0) →
      ∃ t, Leaves (.registerWrite who a v) s t ∧ BusRefused c t who.toNat 5 (c.slotWindow slot (regsOff + n % 0x10000))) ∧
    (0x10000000 ≤ n → slot ≠ bridgeSlot → c.windowOpen slot = true → c.clusterOn (slot / 32) = true → n % 0x10000 = 0x10 →
      ∃ t, Leaves (.registerWrite who a v) s t ∧ t.rd n = v &&& 0xFFFC#32 ∧ OnlyRegs c t (· = n)) ∧
    (c.inLookout = false → exec (.registerWrite who (BitVec.ofNat 32 Reg.MBX_DB) v) s = exec (.mbxDb (v.setWidth 16)) s ∧
      exec (.registerWrite who (BitVec.ofNat 32 Reg.MBX_NQ_DB) v) s = exec (.mbxNqDb (v.setWidth 16)) s) ∧
    (c.fw.ops = [] → ∃ t, Leaves .functionLevelReset s t ∧ (∀ x, inHostBlocks x = true → t.rd x = regReset x) ∧ t.host = { HostSt.init with aer := c.host.aer } ∧ t.fw.nqBase = 0 ∧
      t.fw.jobs = c.fw.jobs ∧ t.fwState = c.fwState ∧ MemKept c t (msixMem 0) 0x400 ∧ (∀ i, i < 0x400 → t.mem.read (msixMem i) = 0) ∧
      t.cores = c.cores ∧ RegsKept c t (fun x => inHostBlocks x = true))

/-- R282, R285, R286, R287, R302, R356, R6, R8, R18: the host's windows, register and configuration-space writes, the
function-level reset. Rests on the model's choices of log 97, 98, 99, 156. -/
def Obligations.HostAccesses : Prop := HostWindowsHold ∧ RegisterWritesHold

/-! ## The services of firmware (R304 to R325) -/

/-- Firmware answers mailbox slot `n`: READY or waiting for HELLO, not in Lookout, a major it serves (R290, R291, R294, R304). -/
abbrev Hears (c : Chip) (n : Nat) (h : CmdHead) : Prop := n < 16 ∧ c.inLookout = false ∧ servesMajor h.major = true

/-- The command of slot `n` passes every check of its service, in its plain form (R15, R310 to R313), and the DRAM it reads as it is
taken up serves (R262). -/
abbrev Accepts (c : Chip) (n : Nat) (h : CmdHead) (code : Nat) (a : List Byte) : Prop :=
  Hears c n h ∧ c.fwState = 3 ∧ h.flags = 0 ∧ a.length = 48 ∧ (c.takeUpFault (.mailbox n) h code a).isNone = true ∧
  ∃ x ∈ serviceTable, serviceOf code = some x ∧ firstRefusal (c.commonChecks (.mailbox n) h x a ++ c.serviceChecks (.mailbox n) h code a) = OK

/-- The command of slot `n` has ended (R15, R290, R310): the slot is DONE, with the status and the results. -/
def Replied (t : Chip) (n status r0 r1 : Nat) : Prop :=
  t.mbxState n = 2 ∧ t.rdMem (mbxMem n 8) 1 = status ∧ t.rdMem (mbxMem n 0x10) 4 = r0 % 2 ^ 32 ∧ t.rdMem (mbxMem n 0x14) 8 = r1 % 2 ^ 64

/-- The command ends with this status and these results, having changed no register of its own and no byte of memory but those of its slot. -/
def OnlyReplies (i : Instr) (s : State) (n status r0 r1 : Nat) : Prop :=
  ∃ t, Leaves i s t ∧ Replied t n status r0 r1 ∧ RegsKept s.chip t (· = Reg.MBX_STATE) ∧ MemKept s.chip t (mbxMem n 0) 0x100 ∧ t.fw = s.chip.fw ∧ t.cores = s.chip.cores

/-- R15, R290, R291, R294, R304, R305: HELLO agrees on the features offered and asked for, places the notification queue and makes firmware READY; any other command before it, one of a major that is not
served, one of a code that is not in the catalogue and one that fails a check ends at once with the status that says so; QUERY tells what it names; nothing is answered in Lookout.
Rests on the model's choices of log 11, 31, 103. -/
def Obligations.FirmwareAnswers : Prop :=
  ∀ (s : State) (slot : BitVec 4) (h : CmdHead) (a : List Byte) (code : BitVec 16),
    let c := s.chip
    let n := slot.toNat
    let o := Origin.mailbox n
    (Hears c n h → (c.fwState = 2 ∨ c.fwState = 3) → helloBad c a = false → h.flags = 0 → c.fw.notices = [] → ∃ t, Leaves (.hello o h a) s t ∧
      t.fwState = 3 ∧ t.fw.agreed = t.fw.offered &&& argOf a 0 16 ∧ t.fw.nqBase = argOf a 0x10 8 ∧ t.fw.nqLog2 = argOf a 0x18 1 ∧ t.fw.nqHead = 0 ∧
      t.get Reg.HIF_NQ_TAIL_TAIL = 0 ∧ t.mbxState n = 2 ∧ t.rdMem (mbxMem n 8) 1 = OK ∧ t.rdMem (mbxMem n 0x10) 16 = t.fw.agreed % 2 ^ 128 ∧ t.cores = c.cores) ∧
    (Hears c n h → (c.fwState = 2 ∨ c.fwState = 3) → (helloBad c a = true ∨ h.flags ≠ 0) → OnlyReplies (.hello o h a) s n ERR_PARAM 0 0) ∧
    (Hears c n h → c.fwState = 2 → ∀ x ∈ serviceCommands, OnlyReplies (x.2 o h a) s n ERR_NOT_READY 0 0) ∧
    (c.inLookout = false → (c.fwState = 2 ∨ c.fwState = 3) → servesMajor h.major = false → ∀ x ∈ serviceCommands, ∃ t, Leaves (x.2 o h a) s t ∧ t.mbxState n = 2 ∧
      t.rdMem (mbxMem n 8) 1 = ERR_VERSION) ∧
    (c.inLookout = true → ∀ x ∈ serviceCommands, Leaves (x.2 o h a) s c) ∧
    (Hears c n h → c.fwState = 3 → a.length = 48 → ∀ x ∈ serviceCommands, ∀ r, serviceOf x.1 = some r →
      let st := firstRefusal (c.commonChecks o h r a ++ c.serviceChecks o h x.1 a)
      st ≠ OK → OnlyReplies (x.2 o h a) s n st 0 0) ∧
    (Hears c n h → c.fwState = 3 → code.toNat ≠ 1 → serviceOf code.toNat = none → OnlyReplies (.unknownCommand o h code a) s n ERR_PARAM 0 0) ∧
    (Accepts c n h 0x02 a → OnlyReplies (.query o h a) s n OK (c.queryResult a).1 (c.queryResult a).2)

/-- R295, R314, R316, R320, R302: what the short services do, each ending with OK: a ring made and removed, a partition defined, a job started, stopped, paused and resumed, a cap set, a bandwidth
reserved, the expert window opened or closed, a trip fired.
Rests on the model's choices of log 108, 111, 157. -/
def Obligations.ShortServices : Prop :=
  ∀ (s : State) (slot : BitVec 4) (h : CmdHead) (a : List Byte),
    let c := s.chip
    let n := slot.toNat
    let o := Origin.mailbox n
    let k := argOf a 0 1
    let x := c.job k
    let id := argOf a 4 4
    let sane := (∀ e ∈ x.evrt, e.1 < 1024 ∧ e.2 < 256) ∧ (∀ p ∈ x.ports, p < 128) ∧ (∀ p ∈ x.chans, p < 256) ∧ (∀ i ∈ x.programs, c.pcore i < 2048) ∧ (∀ i ∈ x.cores, c.pcore i < 2048)
    (Accepts c n h 0x10 a → ∃ t, Leaves (.ringCreate o h a) s t ∧ Replied t n OK 0 0 ∧ t.ringExists k = true ∧ t.sqBase k = argOf a 4 8 ∧ t.cqBase k = argOf a 12 8 ∧
      t.sqSize k = 2 ^ argOf a 1 1 ∧ t.cqSize k = 2 ^ argOf a 2 1 ∧ t.get (Reg.RING_CFG_VEC k) = argOf a 3 1 ∧ t.sqHead k = 0 ∧ t.cqTail k = 0 ∧ t.ring k = Ring.init ∧
      t.get (Reg.RING_CQ_IRQ_COUNT k) = argOf a 20 1 ∧ t.get (Reg.RING_CQ_IRQ_HOLDOFF k) = argOf a 24 4 ∧ t.cores = c.cores) ∧
    (Accepts c n h 0x11 a → ∃ t, Leaves (.ringDestroy o h a) s t ∧ Replied t n OK 0 0 ∧ t.ringExists k = false ∧ (∀ j, j ≠ k → t.ringExists j = c.ringExists j)) ∧
    (Accepts c n h 0x20 a → ∃ t, Leaves (.partDefine o h a) s t ∧ Replied t n OK 0 0 ∧ smGet 0 t.fw.parts k = BitVec.ofNat 64 (argOf a 8 8) ∧
      t.rd (Reg.RST_PART_MASK_LO k) = BitVec.ofNat 32 (argOf a 8 8) ∧ t.rd (Reg.RST_PART_MASK_HI k) = BitVec.ofNat 32 (argOf a 8 8 / 2 ^ 32) ∧ t.cores = c.cores) ∧
    (Accepts c n h 0x22 a → sane → (∀ p ∈ x.chans, c.emitters p + x.chans.length ≤ 4) → ∃ t, Leaves (.jobStart o h a) s t ∧ Replied t n OK 0 0 ∧ t.job k = { x with state := 3 } ∧
      (∀ e ∈ x.evrt, t.get (Reg.HIF_EVRT_VALID e.1) = 1 ∧ t.get (Reg.HIF_EVRT_RING e.1) = argOf a 1 1) ∧ (∀ p ∈ x.chans, t.get (Reg.CAP_CH_CFG_EMIT p) = 1)) ∧
    (Accepts c n h 0x23 a → sane → (c.haltJob k).jobIdle k = true → ∃ t, Leaves (.jobStop o h a) s t ∧ Replied t n OK 0 0 ∧ t.job k = { x with state := 2 } ∧
      (∀ p ∈ x.chans, t.get (Reg.CAP_CH_CFG_EMIT p) = 0) ∧ ∀ i ∈ x.cores, ∀ p, p < 16 → t.get (Reg.NE_POP_CFG_VALID (c.pcore i) p) = 0) ∧
    (Accepts c n h 0x30 a → k = 1 → (c.job id).state = 3 → (∀ p ∈ (c.job id).ports, p < 128) → ∃ t, Leaves (.pause o h a) s t ∧ Replied t n OK 1 0 ∧
      t.job id = { c.job id with state := 4 } ∧ ∀ p ∈ (c.job id).chans, p < 256 → t.get (Reg.CAP_CH_CFG_EMIT p) = 0) ∧
    (Accepts c n h 0x30 a → k = 0 → c.portState id = 4 → ∃ t, Leaves (.pause o h a) s t ∧ (t.port id).pauseReq = true ∧ t.get (Reg.CL_PORT_PAUSE_DURATION id) = argOf a 8 4 ∧
      t.mbxState n = c.mbxState n ∧ t.mem = c.mem) ∧
    (Accepts c n h 0x30 a → k = 0 → c.portState id ≠ 4 → c.portState id ≠ 5 → ∃ t, Leaves (.pause o h a) s t ∧ Replied t n OK 0 0 ∧ t.ports = c.ports) ∧
    (Accepts c n h 0x31 a → k = 0 → c.portState id = 5 → c.fw.pauses = [] → ∃ t, Leaves (.resume o h a) s t ∧ Replied t n OK 1 0 ∧ t.portState id = 4) ∧
    (Accepts c n h 0x31 a → k = 0 → c.portState id ≠ 5 → OnlyReplies (.resume o h a) s n OK 0 0) ∧
    (Accepts c n h 0x40 a → (id = 0 ∨ c.resSum k + id ≤ c.get Reg.BW_DELIV_C) → ∃ t, Leaves (.bwReserve o h a) s t ∧ t.resOf k = id ∧ t.isShed k = false ∧
      Replied t n OK (t.get Reg.BW_STAT_SUM) 0 ∧ t.cores = c.cores) ∧
    (Accepts c n h 0x40 a → id ≠ 0 → c.get Reg.BW_DELIV_C < c.resSum k + id → ∃ t, Leaves (.bwReserve o h a) s t ∧ Replied t n ERR_RESOURCE 0 0 ∧ t.resOf k = c.resOf k ∧
      t.get Reg.BW_STAT_ADMIT_ERR = 1) ∧
    (Accepts c n h 0x41 a → argOf a 2 1 = 1 → ∃ t, Leaves (.powerCap o h a) s t ∧ Replied t n OK 0 0 ∧ t.power.cap = { c.power.cap with on := true, watts := argOf a 0 2, calm := 0 } ∧
      t.fw = c.fw) ∧
    (Accepts c n h 0x41 a → argOf a 2 1 = 0 → c.power.cap.stage = 0 → ∃ t, Leaves (.powerCap o h a) s t ∧ Replied t n OK 0 0 ∧ t.power.cap.on = false ∧ t.fw = c.fw) ∧
    (Accepts c n h 0x58 a → c.power.selfRefresh = true → ∃ t, Leaves (.tripFire o h a) s t ∧ Replied t n OK 0 0 ∧ t.trip = { c.trip with waiting := c.trip.waiting ||| 4#3 }) ∧
    (Accepts c n h 0x60 a → ∃ t, Leaves (.expertWindow o h a) s t ∧ Replied t n OK 0 0 ∧ t.get Reg.HIF_EXP_STAT_OPEN = argOf a 0 1 ∧ t.get Reg.HIF_EXP_CTRL_OPEN = argOf a 0 1 ∧
      t.fw = c.fw ∧ t.cores = c.cores)

/-- A long operation has been taken up (R317): it stands last in the turn, no step done, and its slot has no reply yet. -/
def TakenUp (c t : Chip) (n code total : Nat) (a : List Byte) : Prop :=
  (∃ x : Op, t.fw.ops = c.fw.ops ++ [x] ∧ x.origin = .mailbox n ∧ x.code = code ∧ x.args = a ∧ x.done = 0 ∧ x.total = total ∧ x.paused = false) ∧
  t.mbxState n = c.mbxState n

/-- R60, R208, R233, R250, R252, R316, R317, R362, R375, R422: the services that last: each is taken up with its steps to come and completes later. JOB_LOAD makes its job LOADING, WRITE_WEIGHTS takes the validity of the core's
populations, READ_WEIGHTS with FREEZE sets it, MEM_TEST takes its clusters off the fabric, CL_CONTROL starts an exchange, DUNE_RUN loads its descriptor, DUNE_STOP asks the run to end.
Rests on the model's choices of log 50, 105, 157, 158. -/
def Obligations.LastingServices : Prop :=
  ∀ (s : State) (slot : BitVec 4) (h : CmdHead) (a : List Byte),
    let c := s.chip
    let n := slot.toNat
    let o := Origin.mailbox n
    let k := argOf a 0 1
    let p := c.pcore (argOf a 2 2)
    (Accepts c n h 0x03 a → ∃ t, Leaves (.logRead o h a) s t ∧ TakenUp c t n 0x03 (steps4k (32 * min (argOf a 12 4) (c.fw.log.length - argOf a 8 4))) a ∧ t.mem = c.mem ∧ t.regs = c.regs) ∧
    (Accepts c n h 0x21 a → c.fw.pauses = [] → ∃ t, Leaves (.jobLoad o h a) s t ∧ TakenUp c t n 0x21 (c.rdMem (argOf a 8 8 + 6) 2) a ∧ (t.job k).state = 1 ∧ (t.job k).part = argOf a 1 1 ∧
      t.mem = c.mem ∧ t.regs = c.regs) ∧
    (Accepts c n h 0x24 a → ∃ t, Leaves (.jobUnload o h a) s t ∧ TakenUp c t n 0x24 1 a ∧ t.mem = c.mem ∧ t.regs = c.regs) ∧
    (Accepts c n h 0x28 a → ∃ t, Leaves (.writeWeights o h a) s t ∧ TakenUp c t n 0x28 (steps4k (argOf a 20 4)) a ∧ (∀ q, q < 16 → t.get (Reg.NE_POP_CFG_VALID p q) = 0) ∧ t.mem = c.mem) ∧
    (Accepts c n h 0x29 a → argOf a 24 1 = 1 → ∃ t, Leaves (.readWeights o h a) s t ∧ TakenUp c t n 0x29 (steps4k (argOf a 20 4)) a ∧ t.get (Reg.LRN_CFG_FREEZE p) = 1 ∧
      OnlyRegs { c with fw := t.fw } t (· = Reg.LRN_CFG p)) ∧
    (Accepts c n h 0x29 a → argOf a 24 1 = 0 → ∃ t, Leaves (.readWeights o h a) s t ∧ TakenUp c t n 0x29 (steps4k (argOf a 20 4)) a ∧ t.mem = c.mem ∧ t.regs = c.regs) ∧
    (Accepts c n h 0x50 a → ∃ t, Leaves (.memTest o h a) s t ∧ TakenUp c t n 0x50 (if argOf a 0 1 = 0 then 4 else 3) a ∧
      (∀ j ∈ c.testClusters a, t.get (Reg.RT_CFG_EN j) = 0) ∧ t.mem = c.mem ∧ t.cores = c.cores) ∧
    (Accepts c n h 0x51 a → ∃ t, Leaves (.defectRemap o h a) s t ∧ TakenUp c t n 0x51 1 a ∧ t.mem = c.mem ∧ t.regs = c.regs) ∧
    (Accepts c n h 0x59 a → ∃ t, Leaves (.tripRead o h a) s t ∧ TakenUp c t n 0x59 (steps4k (32 * c.tripHeld)) a ∧ t.mem = c.mem ∧ t.regs = c.regs) ∧
    (Accepts c n h 0x48 a → ∃ t e, Leaves (.clControl o h a) s t ∧ (t.port k).ctrl = some e ∧ e.origin = o ∧ e.payload = BitVec.ofNat 160 (argOf a 4 20) ∧ e.retries = 0 ∧
      SentFrame c t k (mkFrame 4 false (c.port k).txSeq c.time (BitVec.ofNat 160 (argOf a 4 20))) ∧ t.mbxState n = c.mbxState n ∧ t.mem = c.mem) ∧
    (∀ d : Dune, d = c.duneDesc (argOf a 0 8) o → Accepts c n h 0x38 a → d.mode = 2 → ∃ t, Leaves (.duneRun o h a) s t ∧ t.dune.active = true ∧ t.dune.desc = d.desc ∧
      t.dune.origin = o ∧ t.get Reg.DUNE_STAT_STATE = 1 ∧ t.get Reg.DUNE_STAT_MULTI = 1 ∧ t.mbxState n = c.mbxState n ∧ t.mem = c.mem ∧ t.cores = c.cores) ∧
    (∀ d : Dune, d = c.duneDesc (argOf a 0 8) o → Accepts c n h 0x38 a → d.mode = 0 → d.sweeps ≠ 0 → ((c.coefWords d).foldl maxMag (0, 0)).1 ≠ 0 → ∃ t, Leaves (.duneRun o h a) s t ∧
      t.dune.active = true ∧ t.dune.desc = d.desc ∧ t.dune.origin = o ∧ t.dune.done = 0 ∧ t.get Reg.DUNE_STAT_STATE = 2 ∧ t.mbxState n = c.mbxState n ∧ t.cores = c.cores) ∧
    (Accepts c n h 0x39 a → c.dune.active = true → c.get Reg.DUNE_STAT_STATE = 2 → c.dune.waiting = false → ∃ t, Leaves (.duneStop o h a) s t ∧
      t.dune = { c.dune with stop := some (c.dune.stop.getD PARTIAL) } ∧ Replied t n OK 0 0 ∧ t.cores = c.cores)

/-! ## Long operations, limits and the power cap (R312, R317 to R322) -/

/-- R208, R262, R315 to R318: one step of the operation in turn: WRITE_WEIGHTS copies 4 KiB into synapse memory and waits for its next turn, the last of its steps ends it; READ_WEIGHTS copies to DRAM up to a cut between two blocks; JOB_UNLOAD empties its context;
JOB_LOAD writes its image in the last and the job is LOADED. A held operation takes no step; nor does any while firmware does not run. -/
def LongOperationStepsHold : Prop :=
  ∀ (s : State) (bad : List (PCore × BitVec 4)) (x : Op),
    let c := s.chip
    let j := x.arg 0 1
    let i := x.arg 2 2
    let core := fun from_ => slotMem (c.pcore i) (x.arg 16 4 + from_)
    let dram := fun from_ => x.arg 8 8 + from_
    let serves := fun from_ n => DramServes c ∧ c.seated i = true ∧ i < 1024 ∧ c.windowOpen (c.pcore i) = true ∧ c.clusterOn (c.pcore i / 32) = true ∧
      n ≤ 8192 ∧ x.arg 16 4 + from_ + n ≤ c.synSize ∧ dram from_ + n ≤ c.usable ∧ dram from_ + n ≤ winBase
    let at_ := 4096 * x.done
    let len := min 4096 (x.arg 20 4 - at_)
    let cut := c.readCut (c.pcore i) x
    let read := cut - x.moved
    (c.fwUp = false → Leaves (.longOpStep bad) s c) ∧
    (c.fw.ops = [] → Leaves (.longOpStep bad) s c) ∧
    (c.fwUp = true → c.fw.ops = [x] → x.code ≠ 0x23 → (x.isLong = false ∨ c.opHeld x = true) → Leaves (.longOpStep bad) s c) ∧
    (c.fwUp = true → c.fw.ops = [x] → c.opHeld x = false → x.done + 1 < x.total →
      (x.code = 0x28 → serves at_ len → ∃ t, Leaves (.longOpStep bad) s t ∧ t.fw.ops = [{ x with done := x.done + 1, res0 := 0, res1 := 0, stepped := true }] ∧
        t.rdBytes (core at_) len = c.rdBytes (dram at_) len ∧ MemKept c t (core at_) len ∧ RegsKept c t PmonChipRegs ∧ t.cores = c.cores) ∧
      (x.code = 0x29 → x.arg 24 1 = 0 → serves x.moved read → ∃ t, Leaves (.longOpStep bad) s t ∧
        t.fw.ops = [{ x with done := x.done + 1, moved := cut, stepped := true }] ∧
        t.rdBytes (dram x.moved) read = c.rdBytes (core x.moved) read ∧ MemKept c t (dram x.moved) read ∧ RegsKept c t PmonChipRegs ∧ t.cores = c.cores) ∧
      (x.code = 0x21 → Leaves (.longOpStep bad) s { c with fw := { c.fw with ops := [{ x with done := x.done + 1, stepped := true }] } })) ∧
    (∀ n, c.fwUp = true → c.fw.ops = [x] → c.opHeld x = false → x.total ≤ x.done + 1 → n < 16 → x.origin = .mailbox n → x.expert = false →
      (x.code = 0x28 → serves at_ len → ∃ t, Leaves (.longOpStep bad) s t ∧ t.fw.ops = [] ∧ Replied t n OK 0 0 ∧ t.rdBytes (core at_) len = c.rdBytes (dram at_) len) ∧
      (x.code = 0x24 → ∃ t, Leaves (.longOpStep bad) s t ∧ t.job j = Job.empty ∧ Replied t n OK 0 0) ∧
      (x.code = 0x21 → ∃ t, Leaves (.longOpStep bad) s t ∧ (t.job j).state = 2 ∧ (t.job j).part = x.arg 1 1 ∧
        (t.job j).cores = targetsOf (c.imageSections (x.arg 8 8)) (fun k => 1 ≤ k && k ≤ 4) ∧ Replied t n OK (t.job j).cores.length 0))

/-- R281, R312, R319, R320, R322: a TIMEOUT or a failed host read ends the operation with ERR_TIMEOUT and what it has, a job that was LOADING being EMPTY again; a pause ends with its DURATION; a sample of power above the cap
takes the next measure, DUNE_SHARE first; calm samples are counted toward its release; a TIMEOUT or DURATION of 0 never passes. -/
def LimitsAndCapHold : Prop :=
  ∀ (s : State) (o : Origin) (id : Word) (p : BitVec 16),
    let c := s.chip
    let k := c.power.cap
    let samples := (p.toNat :: k.samples).take 100
    let sum := samples.foldl (· + ·) 0
    let count := max samples.length 1
    let capped := fun (i : Instr) (x : Cap) => Leaves i s { c with power := { c.power with cap := x } }
    (o = .internal ∨ c.timeoutOf o = 0 → Leaves (.commandTimeout o) s c) ∧
    (c.fw.ops = [] → Leaves (.hostReadTimeout o) s c) ∧
    (∀ n x, n < 16 → o = .mailbox n → c.fw.ops = [x] → x.origin = o → x.code ≠ 0x28 → x.code ≠ 0x29 → x.code ≠ 0x51 →
      let ended := fun t : Chip => t.fw.ops = [] ∧ Replied t n ERR_TIMEOUT x.res0 x.res1 ∧ (x.code = 0x21 → t.job (x.arg 0 1) = Job.empty) ∧ t.cores = c.cores ∧
        RegsKept c t (· = Reg.MBX_STATE)
      (c.timeoutOf o ≠ 0 → ∃ t, Leaves (.commandTimeout o) s t ∧ ended t) ∧ ∃ t, Leaves (.hostReadTimeout o) s t ∧ ended t) ∧
    ((∀ r ∈ c.fw.pauses, r.duration = 0) → Leaves (.pauseExpiry 0#8 id) s c) ∧
    (∀ r ∈ c.fw.pauses, r.kind = 0 → r.id = id.toNat → r.inEffect = true → r.duration ≠ 0 → id.toNat < c.clPorts → c.portState id.toNat = 5 →
      ∃ t, Leaves (.pauseExpiry 0#8 id) s t ∧ t.portState id.toNat = 4 ∧ (t.port id.toNat).pauseReq = false ∧ ∀ x ∈ t.fw.pauses, ¬ (x.kind = 0 ∧ x.id = id.toNat)) ∧
    (c.fwUp = false → Leaves (.powerCapSample p) s c) ∧
    (c.fwUp = true → k.on = false → capped (.powerCapSample p) { k with samples := samples }) ∧
    (c.fwUp = true → k.on = true → 16 * k.watts * count < sum → k.stage = 0 → ∃ t, Leaves (.powerCapSample p) s t ∧
      t.power.cap = { k with samples := samples, calm := 0, cut := min 5 (c.get Reg.DUNE_SHARE_SHARE), stage := 1 } ∧ ∃ e, t.fw.log = c.fw.log ++ [e] ∧ e.code = 0x0009 ∧ e.subject = 1) ∧
    (c.fwUp = true → k.on = true → sum ≤ 16 * k.watts * count → 1520 * k.watts * count ≤ 100 * sum → capped (.powerCapSample p) { k with samples := samples, calm := 0 }) ∧
    (c.fwUp = true → k.on = true → 100 * sum < 1520 * k.watts * count → k.stage ≠ 0 → k.calm + 1 < 100 → capped (.powerCapSample p) { k with samples := samples, calm := k.calm + 1 }) ∧
    (c.fwUp = true → k.on = true → 100 * sum < 1520 * k.watts * count → k.stage = 1 → 99 ≤ k.calm → ∃ t, Leaves (.powerCapSample p) s t ∧
      t.power.cap = { k with samples := samples, calm := 0, stage := 0, cut := 0, sixteenths := 16 } ∧ ∃ e, t.fw.log = c.fw.log ++ [e] ∧ e.code = 0x0009 ∧ e.subject = 0)

/-- R315 to R318, R281, R312, R319, R320, R322, R208, R262: long operations, limits, pauses, the power cap.
Rests on the model's choices of log 18, 105, 111, 114, 115, 116, 158. -/
def Obligations.LongOperations : Prop := LongOperationStepsHold ∧ LimitsAndCapHold

/-! ## Resets and boot (R347 to R362) -/

/-- A chip reset has put the block `c` back as `t` (R347, R366): the release is still to come; firmware keeps the event log alone; of memory only what stands below the keys of the chip's own memories
stays, of the registers the fuses, the working list, the Oasis domain's and the sandglass copy's; the core maps seat by the factory list; `P` are registers the cause writes besides. -/
def ChipReset (c t : Chip) (cause : Nat) (P : Nat → Prop) : Prop :=
  t.power.inReset = true ∧ t.time = 0 ∧ t.cores = [] ∧ t.routers = [] ∧ t.ports = [] ∧ t.chans = [] ∧ t.links = [] ∧ t.host = HostSt.init ∧ t.fw = Fw.init c.fw.log ∧
  t.dune = Dune.idle ∧ t.rst = RstRun.idle ∧ t.dma = [] ∧ t.get Reg.BOOT_RST_CAUSE_CAUSE = c.get Reg.BOOT_RST_CAUSE_CAUSE ||| cause ∧
  (∀ a, t.mem.read a = if a < 2 ^ 48 then c.mem.read a else 0) ∧
  (∀ r k j, r < c.clusters → k < c.clusters → j < 16 → t.activeSlot r (16 * k + j) = seatSlot c.factoryListed k j) ∧
  (∀ a, chipKept a = true → a ≠ Reg.BOOT_RST_CAUSE → ¬ P a → t.rd a = c.rd a) ∧
  (∀ a, chipKept a = false → (∀ k i, a ≠ Reg.NI_MAP_ACTIVE k i ∧ a ≠ Reg.NI_MAP_SHADOW k i) → t.rd a = regReset a)

/-- R347, R389, R401, R435, R450: the rise of power-good, the reset pin and a brown-out of VDD_CORE reset the chip with their causes; power-good locks the debug port by its fuse and begins to charge;
its fall holds every domain in reset. Without power-good the pin and the brown-out do nothing more.
Rests on the model's choices of log 12, 89. -/
def Obligations.ResetSources : Prop :=
  ∀ (s : State) (vbat : BitVec 12),
    let c := s.chip
    let charging := c.get Reg.OAS_BAT_CFG_CHG_EN = 1 ∧ c.get Reg.OAS_BAT_STAT_BAT_FAULT = 0 ∧ c.get Reg.OAS_BAT_STAT_BAT_REVERSED = 0
    (∃ t, Leaves (.powerGoodRise vbat) s t ∧ ChipReset c t 1 (fun a => a = Reg.OAS_STAT ∨ a = Reg.OAS_BAT_STAT ∨ a = Reg.BDP_STAT) ∧ t.power.supply = 0 ∧ t.power.good = true ∧
      t.get Reg.OAS_STAT_ON_VBAT = 0 ∧ t.get Reg.OAS_BAT_STAT_VBAT = vbat.toNat ∧ t.tap = Tap.init ∧ t.get Reg.BDP_STAT_LOCKED = c.get Reg.FUSE_DBG_LOCK ∧
      t.get Reg.BDP_STAT_SCOPE = (if c.get Reg.FUSE_DBG_LOCK = 1 then 0 else 1) ∧
      (charging → t.chargePhase = if 2100 ≤ vbat.toNat then 3 else if 1500 ≤ vbat.toNat then 2 else if 500 ≤ vbat.toNat then 1 else c.chargePhase) ∧
      (¬ charging → t.chargePhase = c.chargePhase)) ∧
    (c.power.good = true → (∃ t, Leaves .sysRstN s t ∧ ChipReset c t 2 (fun _ => False) ∧ t.power.good = true ∧ t.tap = c.tap) ∧
      (∃ t, Leaves .vddCoreBrownout s t ∧ ChipReset c t 4 (fun _ => False) ∧ t.power.good = true)) ∧
    (c.power.good = false → Leaves .sysRstN s c ∧ Leaves .vddCoreBrownout s c) ∧
    (∃ t, Leaves .pwrGoodFall s t ∧ ChipReset c t 0 (· = Reg.BDP_STAT) ∧ t.power.good = false ∧ t.tap = Tap.init ∧ t.power.supply = c.power.supply)

/-- Of registers a release writes (R348). -/
def ReleaseRegs (a : Nat) : Prop :=
  a = Reg.BOOT_CFG ∨ a = Reg.BOOT_STAT ∨ a = Reg.XBAR_STAT ∨ a = Reg.HIF_FWSTATE ∨ a = Reg.PWR_VOTE 64 ∨ a = Reg.PWR_VOTE 66 ∨ a = Reg.PWR_DOM_STAT 64 ∨ a = Reg.PWR_DOM_STAT 66

/-- The bundle at `b` has booted (R308, R353, R363, R380): its image stands in HCU memory, firmware has its IDs, every present domain has a vote, the PLL starts, DRAM is next. -/
def Booted (c t : Chip) (b : Nat) : Prop :=
  t.get Reg.BOOT_STAT_PHASE = 3 ∧ t.get Reg.CLK_CTRL_PLL_EN = 1 ∧ t.fw.build = c.rdMem (b + 8) 4 ∧ t.fw.compat = [1, 2, 3].map (compatOf (c.bundleSections b)) ∧
  t.fw.svnGoal = (if bit (c.rdMem (b + 0xE) 1) 0 then some (c.rdMem (b + 0xC) 1) else none) ∧
  (∀ x ∈ c.bundleSections b, x.type = 1 → t.rdBytes (hcuMem 0) x.len = c.rdBytes (b + x.offset) x.len) ∧ MemKept c t (hcuMem 0) 0x200000 ∧
  (∀ d, c.domPresent d = true → (t.votes d).getLsbD 0 = true) ∧ t.time = c.time ∧ t.cores = c.cores

/-- R348, R350, R354, R356: a release latches the straps, powers the HCU and the host interface and starts the boot ROM, or stops it at a reserved variant; the boot ROM boots slot A, slot B where A fails,
and goes to RECOVERY where both fail or MODE asks for it; there GO boots the staged bundle or marks it failed.
Rests on the model's choices of log 32, 82, 83, 163. -/
def Obligations.BootStages : Prop :=
  ∀ (s : State) (straps : BitVec 9),
    let c := s.chip
    let ph := c.get Reg.BOOT_STAT_PHASE
    let mode := c.get Reg.BOOT_CFG_MODE
    let a := c.slotPasses 0
    let b := c.slotPasses 1
    let staged := c.bundlePasses (hcuMem 0) 0x200000
    (c.power.inReset = true → c.power.good = true → ∃ t, Leaves (.resetRelease straps) s t ∧ t.power.inReset = false ∧ t.rd Reg.BOOT_CFG = straps.setWidth 32 ∧
      t.get Reg.XBAR_STAT_SLICE = sliceMask (straps.toNat / 4 % 4) ∧ t.get Reg.HIF_FWSTATE_VARIANT = c.variant ∧ t.rd (Reg.PWR_VOTE 64) = 1 ∧ t.domState 64 = 2 ∧
      (variantOk c.variant = true → t.get Reg.BOOT_STAT_PHASE = 1 ∧ t.fwState = 1 ∧ t.rd (Reg.PWR_VOTE 66) = 1 ∧ t.domState 66 = 2) ∧
      (variantOk c.variant = false → t.get Reg.BOOT_STAT_PHASE = 15 ∧ t.get Reg.BOOT_STAT_ERR = 1) ∧ RegsKept c t ReleaseRegs ∧ t.mem = c.mem) ∧
    (c.power.inReset = false ∨ c.power.good = false → Leaves (.resetRelease straps) s c) ∧
    (ph ≠ 1 → Leaves .secureBoot s c) ∧
    (ph = 1 → mode = 2 → ∃ t, Leaves .secureBoot s t ∧ t.get Reg.BOOT_STAT_PHASE = 8 ∧ t.rd Reg.HIF_FWEPOCH = 0xFFFFFFFF#32 ∧
      OnlyRegs c t (fun x => x = Reg.BOOT_STAT ∨ x = Reg.HIF_FWEPOCH)) ∧
    (ph = 1 → mode ≠ 2 → a = true → ∃ t, Leaves .secureBoot s t ∧ Booted c t (slotBase 0) ∧ t.get Reg.BOOT_STAT_FAIL_A = c.get Reg.BOOT_STAT_FAIL_A) ∧
    (ph = 1 → mode ≠ 2 → a = false → b = true → ∃ t, Leaves .secureBoot s t ∧ Booted c t (slotBase 1) ∧ t.get Reg.BOOT_STAT_FAIL_A = 1 ∧ t.get Reg.BOOT_STAT_SLOT = 1) ∧
    (ph = 1 → mode ≠ 2 → a = false → b = false → ∃ t, Leaves .secureBoot s t ∧ t.get Reg.BOOT_STAT_PHASE = 8 ∧ t.get Reg.BOOT_STAT_FAIL_A = 1 ∧ t.get Reg.BOOT_STAT_FAIL_B = 1 ∧
      t.get Reg.BOOT_STAT_ERR = (if Config.flashDensity = 0 then 2 else 3) ∧ t.rd Reg.HIF_FWEPOCH = 0xFFFFFFFF#32 ∧
      OnlyRegs c t (fun x => x = Reg.BOOT_STAT ∨ x = Reg.HIF_FWEPOCH ∨ x = Reg.BOOT_XSPI_STAT)) ∧
    (ph ≠ 8 → Leaves (.bootRecGo true) s c) ∧ Leaves (.bootRecGo false) s c ∧
    (ph = 8 → staged = true → ∃ t, Leaves (.bootRecGo true) s t ∧ Booted c t (hcuMem 0) ∧ t.fw.recFailed = false) ∧
    (ph = 8 → staged = false → Leaves (.bootRecGo true) s { c with fw := { c.fw with recFailed := true } })

/-- Cluster `k` has been tested (R357, R358, R361, R366): it joins unless its router failed; its cores are seated in slots neither listed nor fenced, the lowest first. -/
def TestedCluster (t : Chip) (k : Nat) (routerOk : Bool) : Prop :=
  (routerOk = true → t.joined k = true ∧ t.get (Reg.RT_CFG_EN k) = 1) ∧ (routerOk = false → t.get (Reg.DMAP_CLUSTER_STAT_ROUTER_FAIL k) = 1) ∧
  ∀ j, j < 16 → t.activeSlot k (16 * k + j) = seatSlot (fun p => t.listed p || t.fenced p) k j

/-- R269, R293, R357 to R361, R367: after DRAM training firmware waits for a HELLO under the next epoch; a cluster that is on is tested, joins and is seated, and what failed is listed; a full start tests every
cluster that is on and DRAM, which holds nothing written thereafter; the autostart image becomes, once and as soon as each of its clusters has joined or cannot, the running job 0 of partition 0 with ring 0,
or leaves the status it fails with in the event log.
Rests on the model's choices of log 14, 60, 61, 84, 85, 88, 160. -/
def Obligations.FirmwareStarts : Prop :=
  ∀ (s : State) (ok : BitVec 2) (fell routerOk : Bool) (cl : Cluster) (slot : BitVec 5) (kind : BitVec 4) (routers : List Cluster),
    let c := s.chip
    let k := cl.toNat
    let ph := c.get Reg.BOOT_STAT_PHASE
    let mode := c.get Reg.BOOT_CFG_MODE
    let quick := k < c.clusters ∧ c.clusterOn k = true ∧ c.through k = false ∧ c.allDrained = true ∧ (((mode = 0 ∨ mode = 2) ∧ (ph = 5 ∨ ph = 6)) ∨ ph = 7)
    let full := ph = 5 ∧ (mode = 1 ∨ mode = 3) ∧ c.allDrained = true
    let l := c.imageSections autoBase
    let len := c.rdMem (autoBase + 0x18) 4
    let ks := imageClusters l
    let st := firstRefusal (c.autoChecks ks len)
    let auto := c.autoDue = true ∧ ph = 6 ∧ (len ≤ 0x800000 → c.imageForm autoBase len = true → ∀ k ∈ ks, k < c.clusters → c.through k = true)
    let ended := fun t : Chip => if ∀ k, k < c.clusters → c.through k = true then
      t.get Reg.BOOT_STAT_PHASE = 7 ∧ t.get Reg.BOOT_STAT_DONE_MS = min 65535 (c.time.toNat / 400000) else t.get Reg.BOOT_STAT_PHASE = 6
    (ph = 4 → ∃ t, Leaves (.dramTraining ok fell) s t ∧ t.get Reg.BOOT_STAT_PHASE = 5 ∧ t.fwState = 2 ∧ t.rd Reg.HIF_FWEPOCH = c.rd Reg.HIF_FWEPOCH + 1 ∧ t.fw.agreed = 0 ∧
      (∀ ch, ch < c.drams → t.get (Reg.DDR_STAT_TRAINED ch) = (ok.getLsbD ch).toNat ∧ (ok.getLsbD ch = false → t.get (Reg.DDR_IRQ_STATUS_TRAIN_FAIL ch) = 1)) ∧
      t.get Reg.BOOT_STAT_TRAIN_FULL = (if fell = true ∧ (mode = 0 ∨ mode = 2) then 1 else c.get Reg.BOOT_STAT_TRAIN_FULL)) ∧
    (ph ≠ 4 → Leaves (.dramTraining ok fell) s c) ∧
    (s.RegsWf → quick → ∃ t, Leaves (.quickTest cl routerOk []) s t ∧ TestedCluster t k routerOk ∧ (ph = 5 → t.get Reg.BOOT_STAT_PHASE = 6 ∨ t.get Reg.BOOT_STAT_PHASE = 7)) ∧
    (s.RegsWf → quick → slot.toNat < 17 → c.workCount < 384 → c.fieldList.length < 256 → ∃ t, Leaves (.quickTest cl routerOk [(slot, kind)]) s t ∧ TestedCluster t k routerOk ∧
      t.listed (k * 32 + slot.toNat) = true) ∧
    (¬ quick → Leaves (.quickTest cl routerOk []) s c) ∧
    (full → ∃ t, Leaves (.fullStart routers []) s t ∧ (∀ j, j < c.clusters → c.clusterOn j = true → c.through j = false → TestedCluster t j (!routers.any (fun r => r.toNat == j))) ∧
      (∀ a, a < c.usable → t.mem.read a = 0) ∧
      ((∀ j, j < c.clusters → c.clusterOn j = true) → c.get Reg.BOOT_CFG_AUTO = 0 → t.get Reg.BOOT_STAT_PHASE = 7 ∧ t.get Reg.BOOT_STAT_DONE_MS = min 65535 (c.time.toNat / 400000))) ∧
    (¬ full → Leaves (.fullStart routers []) s c) ∧
    (auto → st ≠ OK → ∃ t, Leaves .autostart s t ∧ ended t ∧
      t.fw = { c.fw with autoDone := true, log := c.fw.log ++ [{ code := logAutostart, subject := st, detail := 0, sticky := false, time := c.time }] } ∧
      t.mem = c.mem ∧ t.cores = c.cores ∧ RegsKept c t (· = Reg.BOOT_STAT)) ∧
    (auto → st = OK → ∃ t, Leaves .autostart s t ∧ ended t ∧ t.fw.autoDone = true ∧ t.ringExists 0 = true ∧ smGet 0 t.fw.parts 0 = BitVec.ofNat 64 (clusterSet ks) ∧
      t.job 0 = { jobOf l 0 (c.imageFeatures autoBase) autoBase len with state := 3 }) ∧
    (¬ auto → Leaves .autostart s c)

/-! ## Clocks, power and the backup cell (R378 to R389, R399 to R404) -/

/-- The state of a domain in `st` after a vote of `v` (R385): OFF ramps, HYST and RETENTION go ON; a cluster waits while four ramp (R387). -/
def votedState (c : Chip) (d st : Nat) (v : Word) : Nat :=
  if v = 0 then st else if st = 0 then (if d < 64 ∧ 4 ≤ c.ramping then 0 else 1) else if st = 3 ∨ st = 4 then 2 else st

/-- A domain's two registers. -/
def DomRegs (d a : Nat) : Prop := a = Reg.PWR_VOTE d ∨ a = Reg.PWR_DOM_STAT d

/-- The clock of domain `d` is the PLL's (R380). -/
def onPll (t : Chip) (d : Nat) : Bool := (t.rd (if d < 32 then Reg.CLK_SEL_LO else if d < 64 then Reg.CLK_SEL_MID else Reg.CLK_SEL_HI)).getLsbD (d % 32)

/-- R19, R384 to R387: votes are set and cleared bit by bit, bit 31 never by PWR_VOTE_CLR; a voted domain leaves OFF, HYST or RETENTION; one without votes goes from ON to HYST, and from there, after its
time, to RETENTION or OFF; a ramp ends in ON, the domain's blocks reset and its clock on the PLL where AUTO_SEL says so; a domain the variant lacks takes nothing. -/
def PowerDomainsHold : Prop :=
  ∀ (s : State) (dom : BitVec 7) (v : Word),
    let c := s.chip
    let d := dom.toNat
    let st := c.domState d
    let set := c.votes d ||| v
    let clr := c.votes d &&& ~~~ (v &&& 0x7FFFFFFF#32)
    let here := c.domPresent d = true
    let past := here ∧ st = 3 ∧ c.votes d = 0 ∧ c.get Reg.PWR_HYST_US ≠ 0
    (here → ∃ t, Leaves (.pwrVoteSet dom v) s t ∧ t.votes d = set ∧ t.domState d = votedState c d st set ∧
      (set ≠ 0 → st = 0 → d < 64 → 4 ≤ c.ramping → d ∈ t.power.waiting) ∧ RegsKept c t (DomRegs d) ∧ t.mem = c.mem ∧ t.cores = c.cores ∧ t.fw = c.fw) ∧
    (here → ∃ t, Leaves (.pwrVoteClr dom v) s t ∧ t.votes d = clr ∧ t.domState d = (if clr = 0 ∧ st = 2 then 3 else st) ∧ (clr = 0 → d ∉ t.power.waiting) ∧
      RegsKept c t (DomRegs d) ∧ t.mem = c.mem ∧ t.cores = c.cores ∧ t.fw = c.fw) ∧
    (c.domPresent d = false → Leaves (.pwrVoteSet dom v) s c ∧ Leaves (.pwrVoteClr dom v) s c ∧ Leaves (.domainRampDone dom) s c ∧ Leaves (.domainHystExpiry dom) s c) ∧
    (here → st = 1 → c.power.waiting = [] → ∃ t, Leaves (.domainRampDone dom) s t ∧ t.votes d = c.votes d ∧ t.domState d = (if c.votes d = 0 then 3 else 2) ∧
      (d ≠ 64 → onPll t d = (c.on Reg.CLK_CTRL_AUTO_SEL && c.on Reg.CLK_STAT_LOCK)) ∧
      (d < 64 → t.joined d = false ∧ ∀ a, slotMem (32 * d) 0 ≤ a → a < slotMem (32 * d + 17) 0 → t.mem.read a = 0) ∧
      (d = 67 → t.links = []) ∧ (d = 68 → t.ports = []) ∧ (d = 69 → t.chans = [])) ∧
    (st ≠ 1 → Leaves (.domainRampDone dom) s c) ∧
    (past → c.on (Reg.PWR_DOM_STAT_RET_EN d) = true → ∃ t, Leaves (.domainHystExpiry dom) s t ∧ t.domState d = 4 ∧ OnlyRegs c t (· = Reg.PWR_DOM_STAT d)) ∧
    (past → c.on (Reg.PWR_DOM_STAT_RET_EN d) = false → ∃ t, Leaves (.domainHystExpiry dom) s t ∧ t.domState d = 0 ∧ onPll t d = false ∧
      (d < 64 → t.joined d = false ∧ ∀ a, slotMem (32 * d) 0 ≤ a → a < slotMem (32 * d + 17) 0 → t.mem.read a = 0) ∧
      (d = 64 → t.fwState = 0 ∧ ∀ i, i < 0x200000 → t.mem.read (hcuMem i) = 0) ∧ (d = 65 → t.get (Reg.DDR_STAT_TRAINED 0) = 0 ∧ t.get (Reg.DDR_STAT_TRAINED 1) = 0) ∧
      (d = 67 → t.links = []) ∧ (d = 68 → t.ports = []) ∧ (d = 69 → t.chans = [])) ∧
    (¬ past → Leaves (.domainHystExpiry dom) s c)

/-- R380, R381: the PLL locks once enabled, and firmware moves the present domains to it; a lost reference or lock puts every domain on FCLK, is flagged and leaves one event-log entry; a reference that
returns is enabled again by firmware. -/
def ClockChangesHold : Prop :=
  ∀ (s : State) (lost : Bool),
    let c := s.chip
    let ph := c.get Reg.BOOT_STAT_PHASE
    let falls := c.on Reg.CLK_STAT_LOCK = true ∨ (lost = true ∧ c.on Reg.CLK_STAT_REF_OK = true)
    (c.on Reg.CLK_CTRL_PLL_EN = true → ∃ t, Leaves .pllLock s t ∧ t.get Reg.CLK_STAT_LOCK = 1 ∧ t.get Reg.CLK_STAT_REF_OK = 1 ∧ t.get Reg.BOOT_STAT_PHASE = (if ph = 3 then 4 else ph) ∧
      (c.fwRuns = true → t.get Reg.CLK_CTRL_AUTO_SEL = 1 ∧ ∀ d, c.domPresent d = true → onPll t d = true) ∧ (c.fwRuns = false → ∀ d, onPll t d = onPll c d) ∧
      OnlyRegs c t (fun a => a = Reg.CLK_STAT ∨ a = Reg.CLK_CTRL ∨ a = Reg.CLK_SEL_LO ∨ a = Reg.CLK_SEL_MID ∨ a = Reg.CLK_SEL_HI ∨ a = Reg.BOOT_STAT)) ∧
    (c.on Reg.CLK_CTRL_PLL_EN = false → Leaves .pllLock s c) ∧
    (falls → ∃ t, Leaves (.refclkLoss lost) s t ∧ t.get Reg.CLK_STAT_LOCK = 0 ∧ (∀ d, onPll t d = false) ∧ t.get Reg.CLK_IRQ_STATUS_UNLOCK = 1 ∧
      t.get Reg.CLK_STAT_REF_OK = (if lost then 0 else c.get Reg.CLK_STAT_REF_OK) ∧ (lost = true → t.get Reg.CLK_IRQ_STATUS_REF_LOSS = 1) ∧
      t.fw = { c.fw with log := c.fw.log ++ [{ code := logClock, subject := 0, detail := lost.toNat, sticky := false, time := c.time }] } ∧ t.mem = c.mem ∧ t.cores = c.cores ∧
      RegsKept c t (fun a => a = Reg.CLK_STAT ∨ a = Reg.CLK_IRQ_STATUS ∨ a = Reg.CLK_SEL_LO ∨ a = Reg.CLK_SEL_MID ∨ a = Reg.CLK_SEL_HI)) ∧
    (¬ falls → Leaves (.refclkLoss lost) s c) ∧
    (∃ t, Leaves .refclkReturn s t ∧ t.get Reg.CLK_STAT_REF_OK = 1 ∧ t.get Reg.CLK_CTRL_PLL_EN = (if c.fwRuns then 1 else c.get Reg.CLK_CTRL_PLL_EN) ∧
      OnlyRegs c t (fun a => a = Reg.CLK_STAT ∨ a = Reg.CLK_CTRL))

/-- R19, R384 to R387, R380, R381: power domains and clocks.
Rests on the model's choices of log 67, 68, 69. -/
def Obligations.PowerAndClocks : Prop := PowerDomainsHold ∧ ClockChangesHold

/-- Only the cell's status register differs, and there `PHASE` is `p`. -/
def ChargeTo (c t : Chip) (p : Nat) : Prop := t.chargePhase = p ∧ OnlyRegs c t (· = Reg.OAS_BAT_STAT)

/-- One POWER_EVENT of subject `n` has been reported (R323, R325). -/
def PowerReported (c t : Chip) (n : Nat) : Prop := ∃ e : LogEntry, t.fw.log = c.fw.log ++ [e] ∧ e.code = 0x000F ∧ e.subject = n ∧ e.time = c.time

/-- R401, R402, R403: the charger goes from precharge to constant current, constant voltage and its end, stops with a fault where precharge lasts too long, and resumes; a cell that is removed or reversed
stops it and is reported once; a probe reads the cell and, from 3.0 V on, finds it present again. Off the main supply or in another phase nothing happens. -/
def BackupCellHold : Prop :=
  ∀ (s : State) (vbat : BitVec 12),
    let c := s.chip
    let ph := c.chargePhase
    let main := c.power.supply = 0
    let absent := c.on Reg.OAS_BAT_STAT_BAT_ABSENT
    let reversed := c.on Reg.OAS_BAT_STAT_BAT_REVERSED
    let may := c.get Reg.OAS_BAT_CFG_CHG_EN = 1 ∧ c.get Reg.OAS_BAT_STAT_BAT_FAULT = 0 ∧ c.get Reg.OAS_BAT_STAT_BAT_REVERSED = 0
    let resumes := main ∧ ph = 0 ∧ c.power.charged = true ∧ c.on Reg.OAS_BAT_CFG_CHG_EN = true
    (main → ph = 1 → ∃ t, Leaves .prechargeTimeout s t ∧ ChargeTo c t 0 ∧ t.get Reg.OAS_BAT_STAT_BAT_FAULT = 1) ∧
    (main → ph = 1 → ∃ t, Leaves .prechargeComplete s t ∧ ChargeTo c t 2) ∧
    (¬ (main ∧ ph = 1) → Leaves .prechargeTimeout s c ∧ Leaves .prechargeComplete s c) ∧
    (main → ph = 2 → ∃ t, Leaves .cvLimitReached s t ∧ ChargeTo c t 3) ∧ (¬ (main ∧ ph = 2) → Leaves .cvLimitReached s c) ∧
    (main → ph = 3 → ∃ t, Leaves .chargeTerminate s t ∧ t.chargePhase = 0 ∧ t.power = { c.power with charged := true } ∧ RegsKept c t (· = Reg.OAS_BAT_STAT) ∧ t.mem = c.mem) ∧
    (¬ (main ∧ ph = 3) → Leaves .chargeTerminate s c) ∧
    (resumes → ∃ t, Leaves .chargeResume s t ∧ t.chargePhase = 2 ∧ t.power = { c.power with charged := false } ∧ RegsKept c t (· = Reg.OAS_BAT_STAT) ∧ t.mem = c.mem) ∧
    (¬ resumes → Leaves .chargeResume s c) ∧
    (main → 1 ≤ ph → ∃ t, Leaves .cellRemoved s t ∧ t.chargePhase = 0 ∧ t.get Reg.OAS_BAT_STAT_BAT_ABSENT = 1 ∧ t.power.charged = false ∧
      (absent = true → t.fw = c.fw) ∧ (absent = false → PowerReported c t 2)) ∧
    (¬ (main ∧ 1 ≤ ph) → Leaves .cellRemoved s c) ∧
    (main → absent = true → ∃ t, Leaves (.batteryProbe vbat) s t ∧ t.get Reg.OAS_BAT_STAT_VBAT = vbat.toNat ∧ t.get Reg.OAS_BAT_STAT_BAT_ABSENT = (if 1500 ≤ vbat.toNat then 0 else 1) ∧
      (may → t.chargePhase = if 2100 ≤ vbat.toNat then 3 else if 1500 ≤ vbat.toNat then 2 else if 500 ≤ vbat.toNat then 1 else ph) ∧ (¬ may → t.chargePhase = ph) ∧
      OnlyRegs c t (· = Reg.OAS_BAT_STAT)) ∧
    (¬ (main ∧ absent = true) → Leaves (.batteryProbe vbat) s c) ∧
    (∃ t, Leaves .cellReversed s t ∧ t.chargePhase = 0 ∧ t.get Reg.OAS_BAT_STAT_BAT_REVERSED = 1 ∧ (reversed = true → t.fw = c.fw) ∧ (reversed = false → PowerReported c t 3)) ∧
    (∃ t, Leaves .cellReversedClear s t ∧ t.get Reg.OAS_BAT_STAT_BAT_REVERSED = 0 ∧ t.chargePhase = ph ∧ OnlyRegs c t (· = Reg.OAS_BAT_STAT))

/-- The block without any supply (R388): of memory the flash is left, of the registers the fuses. -/
def SuppliedByNothing (c t : Chip) : Prop :=
  t.power.supply = 2 ∧ t.power.inReset = true ∧ t.power.good = false ∧ t.cores = [] ∧ t.fw = Fw.init [] ∧ t.tap = Tap.init ∧
  (∀ a, t.mem.read a = if flashBase ≤ a ∧ a < 2 ^ 48 then c.mem.read a else 0) ∧ (∀ a, t.rd a = if 0x10000 ≤ a ∧ a < 0x10800 then c.rd a else regReset a)

/-- R388, R389, R400: with a cell of 2.8 V or more the loss of the main supply leaves the block in RETAIN, which keeps Oasis SRAM, flash, the fuses, the event log and the registers of the Oasis domain;
without one, or when the cell falls below 2.8 V later, nothing but fuses and flash is left. -/
def SupplyLossHold : Prop :=
  ∀ (s : State) (vbat : BitVec 12),
    let c := s.chip
    let holds := 1400 ≤ vbat.toNat ∧ c.get Reg.OAS_BAT_STAT_BAT_ABSENT = 0 ∧ c.get Reg.OAS_BAT_STAT_BAT_REVERSED = 0
    (c.power.supply = 0 → holds → ∃ t, Leaves (.mainSupplyLoss vbat) s t ∧ t.power.supply = 1 ∧ t.power.inReset = true ∧ t.power.good = false ∧ t.cores = [] ∧
      t.fw = Fw.init c.fw.log ∧ t.chargePhase = 0 ∧ t.get Reg.OAS_STAT_ON_VBAT = 1 ∧ t.get Reg.OAS_BAT_STAT_VBAT = vbat.toNat ∧
      (∀ a, t.mem.read a = if 0x3000000000 ≤ a ∧ a < 2 ^ 48 then c.mem.read a else 0) ∧
      (∀ a, a ≠ Reg.OAS_STAT → a ≠ Reg.OAS_BAT_STAT → t.rd a = if chipKept a = true ∧ inBdp a = false then c.rd a else regReset a)) ∧
    (c.power.supply = 0 → ¬ holds → ∃ t, Leaves (.mainSupplyLoss vbat) s t ∧ SuppliedByNothing c t) ∧
    (c.power.supply ≠ 0 → Leaves (.mainSupplyLoss vbat) s c) ∧
    (c.power.supply = 1 → ∃ t, Leaves .vbatLow s t ∧ SuppliedByNothing c t) ∧ (c.power.supply ≠ 1 → Leaves .vbatLow s c)

/-- R401, R402, R403, R388, R389, R400: the backup cell, and the loss of supplies.
Rests on the model's choices of log 12, 72, 73. -/
def Obligations.CellAndSupplies : Prop := BackupCellHold ∧ SupplyLossHold

/-! ## Lookout (R388 to R398, R400, R404) -/

/-- What entry recorded names units the chip has. -/
abbrev WakesCleanly (c : Chip) : Prop :=
  (∀ p ∈ c.power.lko.runPorts, p < 128) ∧ ∀ j ∈ c.power.lko.jobs, (∀ p ∈ (c.job j).ports, p < 128) ∧ ∀ k ∈ (c.job j).chans, k < 256

/-- In Lookout, with no other source yet. -/
abbrev Asleep (c : Chip) : Prop := c.inLookout = true ∧ c.pinsIdle = false ∧ c.power.lko.held = [] ∧ WakesCleanly c

/-- The full wake of R397 by source `code`: the cause, the time spent added to chip time (R382), DRAM out of self-refresh, the voted domains ON, firmware READY, PWR_STATE as it was, and the
notification WAKE with its event-log entry last. -/
def Woken (c t : Chip) (code : Nat) : Prop :=
  t.get Reg.OAS_WAKE_CAUSE_SOURCE = code ∧ t.rd Reg.OAS_WAKE_ALL = 1#32 <<< code ∧ t.fwState = 3 ∧ t.get Reg.PWR_STATE_STATE = c.power.lko.before % 8 ∧
  t.power.lko = Lookout.none ∧ t.power.selfRefresh = false ∧ t.time = c.time + BitVec.ofNat 48 ((c.power.lko.ticks * 781250 + c.power.rem) / 64) ∧
  (∀ d, d < 70 → c.domState d = 4 → c.votes d ≠ 0 → t.domState d = 2) ∧ ∃ e : LogEntry, t.fw.log.getLast? = some e ∧ e.code = 0x000E ∧ e.subject = code

/-- A source fires while entry is in progress: it is held until entry completes. -/
abbrev HeldSource (c t : Chip) (code : Nat) : Prop :=
  (∃ d, t.power.lko.held = c.power.lko.held ++ [(code, d)]) ∧ t.regs = c.regs ∧ t.mem = c.mem ∧ t.time = c.time

/-- R395, R396, R397, R421: WAKE_N, a PCIe access, the timer, a brown-out of the Lookout rail, a port of WPORTS that gets a signal back, a training pattern and TRIP_IN wake the chip from Lookout with
their codes; they are held during entry and do nothing out of it. -/
def WakeSourcesHold : Prop :=
  ∀ (s : State) (p : Port) (l : LinkId),
    let c := s.chip
    let timer := bytesToNat ((c.power.lko.desc.drop 12).take 4)
    let back := c.watchedPort p.toNat = true ∧ c.power.lko.quiet.contains p.toNat = true
    let outside := c.inLookout = false ∧ c.power.lko.entering = false
    let entering := c.inLookout = false ∧ c.power.lko.entering = true ∧ c.pinsIdle = false
    (Asleep c → (∃ t, Leaves .wakeN s t ∧ Woken c t 6) ∧ (∃ t, Leaves .pcieWake s t ∧ Woken c t 4) ∧ (∃ t, Leaves .lookoutRailBrownout s t ∧ Woken c t 8) ∧
      (timer ≠ 0 → ∃ t, Leaves .lookoutTimer s t ∧ Woken c t 5) ∧
      (back → ∃ t, Leaves (.lookoutSignalReturn p) s t ∧ Woken c t 2 ∧ t.get Reg.OAS_WAKE_CAUSE_DETAIL = p.toNat) ∧
      (l.toNat < c.links_ → c.linkState l.toNat = 5 → ∃ t, Leaves (.trainingPattern l) s t ∧ Woken c t 3 ∧ t.get Reg.OAS_WAKE_CAUSE_DETAIL = l.toNat) ∧
      (c.on Reg.TRIP_CFG_PIN_EN = true → c.power.supply ≠ 1 → c.power.selfRefresh = true → ∃ t, Leaves .tripIn s t ∧ Woken c t 7 ∧ t.trip.waiting = 0)) ∧
    (entering → (∃ t, Leaves .wakeN s t ∧ HeldSource c t 6) ∧ (∃ t, Leaves .pcieWake s t ∧ HeldSource c t 4) ∧ (∃ t, Leaves .lookoutRailBrownout s t ∧ HeldSource c t 8) ∧
      (timer ≠ 0 → ∃ t, Leaves .lookoutTimer s t ∧ HeldSource c t 5) ∧ (back → ∃ t, Leaves (.lookoutSignalReturn p) s t ∧ HeldSource c t 2)) ∧
    (outside → Leaves .wakeN s c ∧ Leaves .pcieWake s c ∧ Leaves .lookoutRailBrownout s c ∧ Leaves .lookoutTimer s c ∧ Leaves (.lookoutSignalReturn p) s c ∧
      (l.toNat < c.links_ → c.linkState l.toNat = 5 → ∃ t, Leaves (.trainingPattern l) s t ∧ t.linkState l.toNat = 1 ∧ OnlyRegs { c with links := t.links } t (· = Reg.FER_LINK_STAT l.toNat))) ∧
    (timer = 0 → Leaves .lookoutTimer s c) ∧ (¬ back → Leaves (.lookoutSignalReturn p) s c) ∧
    (¬ (l.toNat < c.links_ ∧ c.linkState l.toNat = 5) → Leaves (.trainingPattern l) s c) ∧
    (c.on Reg.TRIP_CFG_PIN_EN = false ∨ c.power.supply = 1 → Leaves .tripIn s c)

/-- R390 to R392: a descriptor that fails its checks gets its STATUS, and DECL where its current is too great, and nothing else changes; one that passes takes the chip into Lookout, its jobs paused, its
rules kept, the cell-link, capture and memory domains in RETENTION, DRAM in self-refresh, firmware in state 5; with a Dune run in RUN or a rotation step in DRAIN, entry waits. Not asked for, or with no
place for its STATUS, there is no entry. -/
def LookoutEntryHold : Prop :=
  ∀ s : State,
    let c := s.chip
    let a := c.lkoAddr
    let st := c.lkoStatus a
    let asked := c.power.lko.entering = false ∧ c.fwUp = true ∧ c.inLookout = false ∧ a ≠ 0 ∧ c.inDram a 64 = true
    let ready := c.get Reg.DUNE_STAT_STATE ≠ 2 ∧ c.rotPhase ≠ 4
    (c.power.lko.entering = false → ¬ asked → Leaves .lookoutEntry s c) ∧
    (asked → st ≠ OK → ∃ t, Leaves .lookoutEntry s t ∧ t.rdMem a 1 = st ∧ t.rdMem (a + 0x38) 2 = (if st = ERR_RESOURCE then c.lkoDeclared a else c.rdMem (a + 0x38) 2) ∧
      MemKept c t a 64 ∧ { t with mem := c.mem } = c) ∧
    (asked → st = OK → ready → ∃ t, Leaves .lookoutEntry s t ∧ t.inLookout = true ∧ t.fwState = 5 ∧ t.power.selfRefresh = true ∧ t.power.lko.entering = false ∧
      t.power.lko.before = c.get Reg.PWR_STATE_STATE ∧ t.power.lko.ticks = 0 ∧ t.power.lko.tag = tagOf c.time ∧ t.time = c.time ∧
      (c.dune.active = false → t.rdMem a 1 = OK ∧ t.rdMem (a + 0x38) 2 = c.lkoDeclared a) ∧
      (∀ d ∈ [65, 68, 69], c.domState d = 2 ∨ c.domState d = 3 → t.domState d = 4) ∧ ((c.votes 64).getLsbD 31 = false → t.domState 64 = 4) ∧
      ((∀ d, d < 70 → (c.votes d).getLsbD 31 = false) → t.get Reg.CLK_STAT_LOCK = 0) ∧ (∀ j, (c.job j).state = 3 → (t.job j).state = 4) ∧
      (∀ i w, i < 64 → w < 4 → t.rd (Reg.OAS_LKO_RULE i w) = LkoRule.w ((c.lkoRules a).getD i []) w)) ∧
    (asked → st = OK → ¬ ready → ∃ t, Leaves .lookoutEntry s t ∧ t.power.lko.entering = true ∧ t.inLookout = false ∧ t.rdMem a 1 = OK)

/-- Rule `i` as the registers hold it. -/
def ruleOf (c : Chip) (i : Nat) : LkoRule := (List.range 4).map (fun w => c.rd (Reg.OAS_LKO_RULE i w))

/-- Of the state only the windows that rule `i` has matched in a row, now `n`, and the registers of `P` differ. -/
def WindowsNow (c t : Chip) (i n : Nat) (P : Nat → Prop) : Prop :=
  smGet 0 t.power.lko.runs i = n ∧ (∀ j, j ≠ i → smGet 0 t.power.lko.runs j = smGet 0 c.power.lko.runs j) ∧ RegsKept c t P ∧ t.mem = c.mem ∧ t.time = c.time ∧ t.fw = c.fw

/-- R393, R394: at the end of a window a valid rule compares its value with its threshold; a match in more windows in a row than RUN wakes the chip with the rule's number, a value that does not match or
is not there starts the count again, the latter being counted; out of Lookout there is no window; a sampled port counts a frame with a bad CRC. -/
def LookoutWindowsHold : Prop :=
  ∀ (s : State) (frames : List (Port × CellFrame)) (pairs : List LkoPair) (i : Nat) (p : Port) (f : CellFrame),
    let c := s.chip
    let r := ruleOf c i
    let good := (frames.map (fun x => (x.1.toNat, x.2))).filter (fun x => c.sampledPort x.1)
    let ps := pairs.filter (fun x => c.sampledPair x.pair.toNat)
    let n := smGet 0 c.power.lko.runs i
    let alone := i < 64 ∧ LkoRule.valid r = true ∧ ∀ j, j < 64 → j ≠ i → LkoRule.valid (ruleOf c j) = false
    let quiet := ∀ x ∈ frames, frameCrc x.2 = frameCrcOf x.2 ∧ framePver x.2 = 1 ∧ frameType x.2 ≠ 3
    (c.inLookout = false → Leaves (.lookoutPeriod frames pairs) s c) ∧
    (Asleep c → alone → quiet → LkoRule.value r good ps = none → ∃ t, Leaves (.lookoutPeriod frames pairs) s t ∧ WindowsNow c t i 0 (· = Reg.OAS_LKO_NODATA) ∧
      t.get Reg.OAS_LKO_NODATA_COUNT = counted c Reg.OAS_LKO_NODATA_COUNT 1) ∧
    (Asleep c → alone → quiet → ∀ v, LkoRule.value r good ps = some v →
      (LkoRule.holds r v = false → ∃ t, Leaves (.lookoutPeriod frames pairs) s t ∧ WindowsNow c t i 0 (fun _ => False)) ∧
      (LkoRule.holds r v = true → n < LkoRule.run r → ∃ t, Leaves (.lookoutPeriod frames pairs) s t ∧ WindowsNow c t i (n + 1) (fun _ => False)) ∧
      (LkoRule.holds r v = true → LkoRule.run r ≤ n → ∃ t, Leaves (.lookoutPeriod frames pairs) s t ∧ Woken c t 1 ∧ t.get Reg.OAS_WAKE_CAUSE_DETAIL = i)) ∧
    (Asleep c → (∀ j, j < 64 → LkoRule.valid (ruleOf c j) = false) → c.sampledPort p.toNat = true → frameCrc f ≠ frameCrcOf f →
      ∃ t, Leaves (.lookoutPeriod [(p, f)] pairs) s t ∧ t.get (Reg.CL_PORT_RXERR_CRC p.toNat) = counted c (Reg.CL_PORT_RXERR_CRC p.toNat) 1 ∧
        OnlyRegs c t (· = Reg.CL_PORT_RXERR p.toNat))

/-- R390 to R392, R393, R394: entry into Lookout, and its windows.
Rests on the model's choices of log 75, 76, 77, 80, 164. -/
def Obligations.Lookout : Prop := LookoutEntryHold ∧ LookoutWindowsHold

/-- R400, R404: a brown-out of the Oasis output wakes the chip, spoils the retention CRCs in RETAIN, or is flagged and reported; a sensor's reading is kept with the hottest, flags WARN and DERATE, derates
its cluster or asks for FSP1 and stops doing so 5 °C below; in Lookout a hot reading wakes the chip, and at 115 °C it is reset. -/
def BrownoutAndHeatHold : Prop :=
  ∀ (s : State) (dom : BitVec 7) (reading : BitVec 10),
    let c := s.chip
    let d := dom.toNat
    let T := reading.toNat
    let der := c.get Reg.PWR_THERM_CFG_DERATE
    let sensed := c.domPresent d = true ∧ 2 ≤ c.domState d ∧ c.power.supply = 0
    (c.power.supply = 2 → Leaves .oasisBrownout s c) ∧
    (c.power.supply = 1 → ∃ t, Leaves .oasisBrownout s t ∧ t.rd Reg.TRIP_COPY_CRC = ~~~ c.rd Reg.TRIP_COPY_CRC ∧ t.get Reg.OAS_STAT_RET_INVALID = 1 ∧ t.power.crcBad = true ∧
      RegsKept c t (fun a => a = Reg.TRIP_COPY_CRC ∨ a = Reg.OAS_STAT) ∧ t.mem = c.mem) ∧
    (c.power.supply = 0 → Asleep c → ∃ t, Leaves .oasisBrownout s t ∧ Woken c t 8) ∧
    (c.power.supply = 0 → c.inLookout = false → ∃ t, Leaves .oasisBrownout s t ∧ t.get Reg.OAS_STAT_BROWNOUT = 1 ∧ PowerReported c t 1) ∧
    (¬ sensed → Leaves (.thermalSample dom reading) s c) ∧
    (sensed → 620 ≤ T → ∃ t, Leaves (.thermalSample dom reading) s t ∧ ChipReset c t 8 (fun _ => False)) ∧
    (sensed → T < 620 → Asleep c → der < T → ∃ t, Leaves (.thermalSample dom reading) s t ∧ Woken c t 9) ∧
    (sensed → T < 620 → c.inLookout = false → ∃ t, Leaves (.thermalSample dom reading) s t ∧ t.get (Reg.PWR_TEMP_T d) = T ∧
      (∀ e, e < 70 → t.get (Reg.PWR_TEMP_T e) ≤ t.get Reg.PWR_THERM_STAT_MAX) ∧ t.get (Reg.PWR_TEMP_T (t.get Reg.PWR_THERM_STAT_SENSOR)) = t.get Reg.PWR_THERM_STAT_MAX ∧
      (c.get Reg.PWR_THERM_CFG_WARN ≤ T → t.get Reg.PWR_IRQ_STATUS_WARN = 1) ∧
      (der ≤ T → t.get Reg.PWR_IRQ_STATUS_DERATE = 1 ∧ (d < 64 → d ∈ t.power.derated) ∧ (d = 65 → t.power.ddrRequest = true) ∧
        (d < 64 → d ∉ c.power.derated → ∃ e : LogEntry, t.fw.log = c.fw.log ++ [e] ∧ e.code = 0x0009 ∧ e.subject = 5)) ∧
      (T < der → T ≤ der - 20 → (d < 64 → d ∉ t.power.derated) ∧ (d = 65 → t.power.ddrRequest = false) ∧ t.fw = c.fw))

/-- R395, R396, R397, R421, R400, R404: wake sources, brown-outs and the sensors.
Rests on the model's choices of log 74, 78, 79, 81, 156. -/
def Obligations.WakeAndHeat : Prop := WakeSourcesHold ∧ BrownoutAndHeatHold

/-! ## Partial resets, fences and the watchdog (R294, R406 to R416) -/

/-- ABSORB has begun for `slots` (R406, R409, R411): the traffic of these slots is settled and their engines and registers are at reset, the microprogram store and every memory as they were. -/
def Absorbed (c t : Chip) (slots : List Nat) : Prop :=
  t.get Reg.RST_STAT_PHASE = 2 ∧ t.mem = c.mem ∧ t.time = c.time ∧ ∀ p ∈ slots, t.core p = Core.init ∧
    ∀ a, inCore p a = true → (coreKept (a - Reg.coreBase p) = false → t.rd a = regReset a) ∧ (0x6000 ≤ a - Reg.coreBase p → a - Reg.coreBase p < 0x7000 → t.rd a = c.rd a)

/-- R406 to R411: a request of an absent target or while one runs is rejected; the chip scope resets the chip; any other takes its region, waits for it to be idle, or not, absorbs, and ends with its flags and
one event-log entry; where it waits too long it falls back to absorbing.
Rests on the model's choices of log 64, 66, 165. -/
def Obligations.PartialResets : Prop :=
  ∀ (s : State) (v : Word),
    let c := s.chip
    let scope := wbits v 1 0
    let target := wbits v 13 4
    let ph := c.get Reg.RST_STAT_PHASE
    let free := c.get Reg.RST_STAT_BUSY = 0 ∧ c.resetTarget scope target = true
    let region := c.resetRegion scope target
    let calm := c.dune.active = false ∧ c.rotPhase = 0 ∧ c.fw.reloads = []
    let sane := (∀ k ∈ c.rst.clusters, k < 64) ∧ ∀ p ∈ c.rst.slots, p < 2048
    (free → scope ≠ 3 → c.dune.active = false → c.rotPhase = 0 → wbits v 2 2 = 0 → ∃ t, Leaves (.rstReq v) s t ∧
      (∀ i, i ∈ t.fw.reloads ↔ i ∈ c.fw.reloads ∧ c.pcore i ∉ region.2) ∧ (∀ i ∈ c.fw.reloads, c.pcore i ∈ region.2 → (c.pcore i, 0, false) ∈ t.fw.fences)) ∧
    (¬ free → ∃ t, Leaves (.rstReq v) s t ∧ t.get Reg.RST_STAT_REJ = 1 ∧ OnlyRegs c t (· = Reg.RST_STAT)) ∧
    (free → scope = 3 → ∃ t, Leaves (.rstReq v) s t ∧ ChipReset c t 32 (fun _ => False)) ∧
    (free → scope ≠ 3 → wbits v 2 2 = 0 → calm → ∃ t, Leaves (.rstReq v) s t ∧ t.get Reg.RST_STAT_BUSY = 1 ∧ t.get Reg.RST_STAT_PHASE = 1 ∧
      t.rst = { slots := region.2, clusters := region.1, scope := scope, target := target, fallback := false } ∧ OnlyRegs { c with rst := t.rst } t (· = Reg.RST_STAT)) ∧
    (free → scope ≠ 3 → wbits v 2 2 = 1 → calm → ∃ t, Leaves (.rstReq v) s t ∧ t.get Reg.RST_STAT_BUSY = 1 ∧ Absorbed c t region.2) ∧
    (ph = 1 → c.rst.slots.all c.slotIdle = true → sane → ∃ t, Leaves .resetDrainDone s t ∧ Absorbed c t c.rst.slots) ∧
    (¬ (ph = 1 ∧ c.rst.slots.all c.slotIdle = true) → Leaves .resetDrainDone s c) ∧
    (ph = 1 → c.get Reg.RST_CFG_DRAIN_TO ≠ 0 → sane → ∃ t, Leaves .drainTimeout s t ∧ t.get Reg.RST_STAT_FALLBACK = 1 ∧ t.get Reg.RST_IRQ_STATUS_FALLBACK = 1 ∧ t.rst = { c.rst with fallback := true } ∧ Absorbed c t c.rst.slots) ∧
    (ph ≠ 1 ∨ c.get Reg.RST_CFG_DRAIN_TO = 0 → Leaves .drainTimeout s c) ∧
    (ph = 2 → ∃ t, Leaves .absorbEnd s t ∧ t.get Reg.RST_STAT_PHASE = 0 ∧ t.get Reg.RST_STAT_BUSY = 0 ∧ t.get Reg.RST_IRQ_STATUS_DONE = 1 ∧ t.rst = RstRun.idle ∧
      t.fw = { c.fw with log := c.fw.log ++ [{ code := logReset, subject := c.rst.scope + c.rst.target * 16, detail := c.rst.fallback.toNat, sticky := false, time := c.time }] } ∧
      t.mem = c.mem ∧ t.cores = c.cores ∧ RegsKept c t (fun a => a = Reg.RST_STAT ∨ a = Reg.RST_IRQ_STATUS)) ∧
    (ph ≠ 2 → Leaves .absorbEnd s c)

/-- Slot `p` has been fenced (R412): its sequencer is held, its engines are at reset, its registers of a program and its memories as they were, a reset goes on without it. -/
def FencedSlot (c t : Chip) (p : Nat) : Prop :=
  t.fenced p = true ∧ t.seqState p = 3 ∧ t.core p = { Core.init with g := (c.core p).g } ∧ t.rst.slots = c.rst.slots.filter (· != p) ∧ t.dhalted p = false ∧
  (c.dune.active = false → t.mem = c.mem)

/-- R412, R415: an uncorrectable error of bonded memory is counted, and while AUTOFENCE is set any fences its slot; RST_FENCE_CMD fences a slot, which firmware follows up, and unfences one that seats no
core, resetting it; a slot that does not exist takes nothing. -/
def FencesHold : Prop :=
  ∀ (s : State) (p : PCore) (bonded : Bool) (v : Word),
    let c := s.chip
    let n := p.toNat
    let exists_ := n / 32 < c.clusters ∧ n % 32 < 17
    let auto := c.get Reg.RST_CFG_AUTOFENCE = 1
    let k := wbits v 10 0
    let named := k / 32 < c.clusters ∧ k % 32 < 17
    let set := wbits v 12 12 = 1
    (¬ exists_ → Leaves (.sramUncorrectable p bonded) s c) ∧
    (exists_ → ∃ t, Leaves (.sramUncorrectable p bonded) s t ∧
      t.get (Reg.RST_SRAM_ECC_UNCORR (n / 32)) = counted c (Reg.RST_SRAM_ECC_UNCORR (n / 32)) bonded.toNat ∧
      (¬ auto → OnlyRegs c t (· = Reg.RST_SRAM_ECC (n / 32))) ∧
      (auto → (c.fenced n = true → OnlyRegs c t (· = Reg.RST_SRAM_ECC (n / 32))) ∧ (c.fenced n = false → t.get Reg.RST_IRQ_STATUS_AUTOFENCE = 1 ∧ FencedSlot c t n ∧ t.fw.fences = c.fw.fences ++ [(n, 6, false)]))) ∧
    (¬ named → Leaves (.rstFenceCmd v) s c) ∧
    (named → set → c.fenced k = false → ∃ t, Leaves (.rstFenceCmd v) s t ∧ FencedSlot c t k ∧ t.fw.fences = c.fw.fences ++ [(k, 7, true)]) ∧
    (named → set → c.fenced k = true → Leaves (.rstFenceCmd v) s c) ∧
    (named → ¬ set → c.fenced k = true → c.logical? k = none → ∃ t, Leaves (.rstFenceCmd v) s t ∧ t.fenced k = false ∧ t.core k = Core.init ∧ t.mem = c.mem ∧
      ∀ a, inCore k a = true → coreKept (a - Reg.coreBase k) = false → t.rd a = regReset a) ∧
    (named → ¬ set → c.fenced k = false ∨ c.logical? k ≠ none → Leaves (.rstFenceCmd v) s c)

/-- One report by notification with this code and subject stands last in the event log. -/
def LastReport (t : Chip) (code subject : Nat) : Prop := ∃ e : LogEntry, t.fw.log.getLast? = some e ∧ e.code = code ∧ e.subject = subject

/-- R35, R413, R414: firmware follows up the oldest fence once every map is drained: the spare takes the core's seat where it is free, or the slot that a rotation step has freed and tests, and the core is
started again when the swap is over; without either the core's job ends; the report says what was done. -/
def FenceFollowUpHold : Prop :=
  ∀ (s : State) (p kind i : Nat) (byCmd : Bool) (rest : List (Nat × Nat × Bool)),
    let c := s.chip
    let k := p / 32
    let next := c.fw.fences = (p, kind, byCmd) :: rest ∧ k < c.clusters ∧ c.fwUp = true ∧ c.allDrained = true
    let due := next ∧ kind ≠ 0
    let spare := c.spareFree k = true ∧ c.fenced (c.spareOf k) = false ∧ c.spareOf k ∉ c.rst.slots
    let tested := c.rotPhase = 5 ∧ c.rot.old / 32 = k
    (c.fw.fences = [] ∨ c.fwUp = false ∨ c.allDrained = false → Leaves .fenceSubstitution s c) ∧
    (s.RegsWf → due → c.logical? p = some i → spare → c.fw.ops = [] → ∃ t, Leaves .fenceSubstitution s t ∧ t.fw.fences = rest ∧ t.pcore i = c.spareOf k ∧ i ∈ t.fw.reloads ∧
      t.get (Reg.DMAP_CLUSTER_STAT_SPARE_FREE k) = 0 ∧ (byCmd = true → LastReport t 0x0002 i) ∧ (byCmd = false → LastReport t 0x000B p)) ∧
    (s.RegsWf → due → c.logical? p = some i → ¬ spare → tested → c.logical? c.rot.old = none → c.fenced c.rot.old = false → c.gangCluster k = false → c.rot.old ∉ c.rst.slots → c.rot.old % 32 < 17 →
      c.fw.ops = [] → ∃ t, Leaves .fenceSubstitution s t ∧ t.fw.fences = rest ∧ t.pcore i = c.rot.old ∧ i ∈ t.fw.reloads ∧ t.rotPhase = 5) ∧
    (due → c.logical? p = some i → ¬ spare → ¬ tested → c.fw.ops = [] → ∃ t, Leaves .fenceSubstitution s t ∧ t.fw.fences = rest ∧
      (∀ j, c.jobOfCore i = some j → (t.job j).state = 5) ∧ (byCmd = true → LastReport t 0x0002 i) ∧
      (byCmd = false → c.jobOfCore i = none → LastReport t 0x000B p) ∧
      (byCmd = false → ∀ j, c.jobOfCore i = some j → LastReport t (if (c.job j).multi then 0x0004 else 0x0003) j)) ∧
    (next → kind = 0 → c.logical? p = some i → ∃ t, Leaves .fenceSubstitution s t ∧ t.fw.fences = rest ∧ ∀ j, c.jobOfCore i = some j → (t.job j).state = 5) ∧
    (due → c.logical? p = none → ∃ t, Leaves .fenceSubstitution s t ∧ t.fw.fences = rest ∧ t.fw.jobs = c.fw.jobs ∧
      (p = c.spareOf k → t.get (Reg.DMAP_CLUSTER_STAT_SPARE_FREE k) = 0) ∧ (byCmd = false → LastReport t 0x000B p))

/-- R412, R415, R35, R413, R414: fences, and what firmware does after one.
Rests on the model's choices of log 54, 65, 110, 162, 165. -/
def Obligations.FencedSlots : Prop := FencesHold ∧ FenceFollowUpHold

/-- R252, R290, R294, R318, R416: a kick keeps the watchdog quiet; a period without one interrupts what firmware does, POSTED slots being answered ERR_NOT_READY by the hardware, and restarts the HCU, or
stops it after MAX restarts in a row; the restart ends in WAIT_HELLO under the next epoch, with the report of it.
Rests on the model's choices of log 101, 102. -/
def Obligations.Watchdog : Prop :=
  ∀ s : State,
    let c := s.chip
    let runs := c.get Reg.RST_HCU_WDT_PERIOD ≠ 0 ∧ c.fw.stopped = false ∧ c.fwState ≠ 0 ∧ c.fwState ≠ 5
    let back := c.fwState = 4 ∧ c.fw.stopped = false
    Leaves .rstHcuKick s c ∧ (¬ runs → Leaves .watchdogExpiry s c) ∧
    (runs → ∃ t, Leaves .watchdogExpiry s t ∧ t.fwState = 4 ∧ t.dune.active = false ∧ t.fw.ops = [] ∧ t.fw.pauses = [] ∧ t.fw.agreed = 0 ∧ t.fw.nqBase = 0 ∧
      (c.fw.restarts < c.get Reg.RST_HCU_WDT_MAX → t.fw.stopped = false ∧ t.fw.restarts = c.fw.restarts + 1) ∧ (c.get Reg.RST_HCU_WDT_MAX ≤ c.fw.restarts → t.fw.stopped = true) ∧
      (c.dune.active = false → ∀ n, n < 16 → c.mbxState n = 1 → t.mbxState n = 2 ∧ t.rdMem (mbxMem n 8) 1 = ERR_NOT_READY)) ∧
    (¬ back → Leaves .hcuRestartDone s c) ∧
    (back → ∃ t, Leaves .hcuRestartDone s t ∧ t.fwState = 2 ∧ t.rd Reg.HIF_FWEPOCH = c.rd Reg.HIF_FWEPOCH + 1 ∧ t.fw.agreed = 0 ∧ t.fw.broken = [] ∧
      ∃ e ∈ t.fw.log, e.code = 0x000D ∧ e.subject = 1)

/-- R407: a write to RST_REQ is ignored, and sets RST_STAT.REJ, while a reset runs, where the core is not seated, the cluster or partition is absent or has an empty mask, or the chip scope is locked. -/
def Obligations.RejectedResets : Prop :=
  ∀ (s : State) (v : Word),
    let c := s.chip
    let scope := wbits v 1 0
    let target := wbits v 13 4
    (c.get Reg.RST_STAT_BUSY = 1 ∨ (scope = 0 ∧ c.seated target = false) ∨ (scope = 1 ∧ c.clusters ≤ target) ∨
      (scope = 2 ∧ (16 ≤ target ∨ (c.rd (Reg.RST_PART_MASK_LO target) = 0 ∧ c.rd (Reg.RST_PART_MASK_HI target) = 0))) ∨ (scope = 3 ∧ c.get Reg.RST_CTRL_LOCK = 1)) →
    ∃ t, Leaves (.rstReq v) s t ∧ t.get Reg.RST_STAT_REJ = 1 ∧ OnlyRegs c t (· = Reg.RST_STAT)

/-! ## The rotation test (R368 to R373) -/

/-- The step in progress has been abandoned (R373): nothing moved, and it is counted. -/
def Abandoned (c t : Chip) : Prop :=
  t.rotPhase = 0 ∧ t.get Reg.DMAP_ROT_CNT_ABANDONED = counted c Reg.DMAP_ROT_CNT_ABANDONED 1 ∧ t.rot = Rotation.idle ∧
  OnlyRegs { c with rot := Rotation.idle } t (fun a => a = Reg.DMAP_ROT_STAT ∨ a = Reg.DMAP_ROT_CNT)

/-- Only DMAP_ROT_STAT differs, and there PHASE is `n`. -/
def PhaseTo (c t : Chip) (n : Nat) : Prop := t.rotPhase = n ∧ OnlyRegs c t (· = Reg.DMAP_ROT_STAT)

/-- R368 to R373: a step picks the next seated slot above the spare and copies it ahead in rounds, four at most; it takes the sequencer when the core is quiet, then copies the whole slot into the spare and
moves the core there by one swap, tuples queued meanwhile staying behind; the freed slot's test makes it the spare, or lists it; a step that may not go on before its swap is abandoned.
Rests on the model's choices of log 14, 62, 63, 141, 162. -/
def Obligations.RotationSteps : Prop :=
  ∀ (s : State) (cl : Cluster) (dirty : BitVec 16) (pass : Bool) (kind : BitVec 4) (p : Nat),
    let c := s.chip
    let k := cl.toNat
    let ph := c.rotPhase
    let old := c.rot.old
    let new := c.rot.new
    let may := c.on Reg.DMAP_ROT_CFG_EN = true ∧ c.get Reg.DMAP_ROT_CFG_PERIOD ≠ 0 ∧ k < c.clusters ∧ c.clusterOn k = true ∧ c.spareFree k = true ∧ c.allDrained = true ∧ ph = 0 ∧
      c.power.cap.stage < 2 ∧ c.inLookout = false
    let quiet := (c.core old).drift = [] ∧ (c.core old).mx = none ∧ (c.core old).slice = false ∧ (c.core old).outstanding = false ∧ c.allDrained = true
    let placed := old / 32 < c.clusters ∧ new / 32 = old / 32 ∧ old % 32 < 17 ∧ new % 32 < 17 ∧ old ≠ new ∧ c.rot.core / 16 = old / 32
    let frozen := ph = 3 ∧ (c.core old).pass = none ∧ c.allDrained = true
    (may → c.nextSeated k = some p → c.dhalted p = false → ∃ t, Leaves (.rotationStep cl) s t ∧ t.rotPhase = 1 ∧ t.get Reg.DMAP_ROT_STAT_CLUSTER = p / 32 % 64 ∧
      t.get Reg.DMAP_ROT_STAT_SLOT = p % 32 ∧ t.rot = { core := c.logicalOf p, old := p, new := c.spareOf (p / 32), rounds := 0, taken := false, withdraw := 0 } ∧
      OnlyRegs { c with rot := t.rot } t (· = Reg.DMAP_ROT_STAT)) ∧
    (c.nextSeated k = some p → c.dhalted p = true → Leaves (.rotationStep cl) s c) ∧ (¬ may → Leaves (.rotationStep cl) s c) ∧
    (ph = 1 → dirty.toNat ≤ 1024 → ∃ t, Leaves (.precopyRound dirty) s t ∧ PhaseTo c t 2) ∧
    (ph = 1 → 1024 < dirty.toNat → c.rot.rounds + 1 < 4 → Leaves (.precopyRound dirty) s { c with rot := { c.rot with rounds := c.rot.rounds + 1 } }) ∧
    (ph = 1 → 1024 < dirty.toNat → 4 ≤ c.rot.rounds + 1 → ∃ t, Leaves (.precopyRound dirty) s t ∧ Abandoned c t) ∧
    (ph ≠ 1 → Leaves (.precopyRound dirty) s c) ∧
    (ph = 2 → quiet → ∃ t, Leaves .rotationQuiesce s t ∧ PhaseTo { c with rot := { c.rot with taken := true } } t 3) ∧
    (¬ (ph = 2 ∧ quiet) → Leaves .rotationQuiesce s c) ∧
    (s.RegsWf → s.MemoryWf → frozen → placed → ∃ t, Leaves .rotationFreeze s t ∧ t.rotPhase = 4 ∧ t.pcore c.rot.core = new ∧
      (∀ i, i < 0x200000 → t.mem.read (slotMem new i) = c.mem.read (slotMem old i)) ∧ (∀ i, i < 0x10000 → t.mem.read (flagMem new i) = c.mem.read (flagMem old i)) ∧
      (∀ i, i < 0x10000 → t.rd (Reg.coreBase new + i) = c.rd (Reg.coreBase old + i)) ∧ (t.core new).g = (c.core old).g ∧ (t.core new).inq = (c.core old).inq ∧
      (∀ q, q < 4 → (t.core new).queue q = []) ∧ (∀ q, q < 4 → (t.core old).queue q = (c.core old).queue q) ∧ t.get (Reg.DMAP_CLUSTER_STAT_SPARE_FREE (old / 32)) = 0) ∧
    (¬ frozen → Leaves .rotationFreeze s c) ∧
    (ph = 5 → c.logical? old ≠ none → ∃ t, Leaves (.rotationSlotTest true kind) s t ∧ t.rotPhase = 0 ∧ t.rot = Rotation.idle ∧
      t.get Reg.DMAP_ROT_CNT_DONE = counted c Reg.DMAP_ROT_CNT_DONE 1 ∧ t.mem = c.mem ∧ t.cores = c.cores ∧ t.fw = c.fw ∧
      RegsKept c t (fun a => a = Reg.DMAP_ROT_STAT ∨ a = Reg.DMAP_ROT_CNT)) ∧
    (ph = 5 → old < 2048 → c.logical? old = none → ∃ t, Leaves (.rotationSlotTest true kind) s t ∧ t.rotPhase = 0 ∧ t.rot = Rotation.idle ∧ t.get (Reg.DMAP_CLUSTER_STAT_SPARE (old / 32)) = old % 32 ∧
      t.get (Reg.DMAP_CLUSTER_STAT_SPARE_FREE (old / 32)) = 1 ∧ t.get Reg.DMAP_ROT_CNT_DONE = counted c Reg.DMAP_ROT_CNT_DONE 1 ∧ t.core old = Core.init ∧
      (∀ i, i < 0x200000 → t.mem.read (slotMem old i) = 0) ∧ t.fw = c.fw) ∧
    (ph = 5 → old < 2048 → c.logical? old = none → c.workCount < 384 → ∃ t, Leaves (.rotationSlotTest false kind) s t ∧ t.rotPhase = 0 ∧ t.rot = Rotation.idle ∧ t.listed old = true ∧
      t.get (Reg.DMAP_CLUSTER_STAT_HEALTHY (old / 32)) = c.get (Reg.DMAP_CLUSTER_STAT_HEALTHY (old / 32)) - 1 ∧ t.get (Reg.DMAP_CLUSTER_STAT_SPARE_FREE (old / 32)) = 0 ∧
      LastReport t 0x000B old) ∧
    (ph ≠ 5 → Leaves (.rotationSlotTest pass kind) s c) ∧
    (1 ≤ ph → ph ≤ 3 → ∃ t, Leaves .rotationAbandon s t ∧ Abandoned c t) ∧ (ph = 0 ∨ 3 < ph → Leaves .rotationAbandon s c)

/-! ## The sandglass (R417 to R422) -/

/-- Where record number `n` stands in the window (R417). -/
def recordPlace (c : Chip) (n : Nat) : Nat := c.tripBase + n % 2 ^ 20 * 32

/-- A trip by the triggers of `mask` has been taken (R419, R420): the records in the FIFO and a MARKER are in the window, recording is held, the copy's trigger and time stand, and the copy is under way. -/
def TripTaken (c t : Chip) (mask : Nat) : Prop :=
  let n := ((c.rd Reg.TRIP_COUNT).toNat + c.trip.fifo.length) % 2 ^ 32
  t.get Reg.TRIP_STAT_STATE = 1 ∧ t.get Reg.TRIP_STAT_HELD = 1 ∧ t.get Reg.TRIP_STAT_COMPLETE = 0 ∧ t.get Reg.TRIP_COPY_TRIG_MASK = mask ∧ t.get Reg.TRIP_IRQ_STATUS_TRIP = 1 ∧
  t.get Reg.TRIP_COPY_TIME_LO_TIME + t.get Reg.TRIP_COPY_TIME_HI_TIME * 2 ^ 32 = c.time.toNat ∧ (t.rd Reg.TRIP_COUNT).toNat = (n + 1) % 2 ^ 32 ∧ t.trip.fifo = [] ∧
  t.trip.copy = some (min (c.trip.since + c.trip.fifo.length + 1) 131072, 0, n) ∧ t.rdMem (recordPlace c n) 1 % 8 = 4 ∧ t.rdMem (recordPlace c n + 1) 1 = mask

/-- R417 to R421: the oldest record of the FIFO goes to the window, with the GAP mark of records lost before it; a trip while recording takes the window; one while a copy is held, in progress or frozen is
skipped, counted and reported; one at the time of a trip whose copy has not begun joins it; one in self-refresh waits; the copy goes to Oasis SRAM newest first, chunk by chunk, and ends with its report; RELEASE gives the hold up.
Rests on the model's choices of log 122, 123, 166. -/
def Obligations.SandglassTrips : Prop :=
  ∀ (s : State) (r : List Byte) (rest : List (List Byte)) (total done marker : Nat),
    let c := s.chip
    let awake := c.power.selfRefresh = false
    let ready := awake ∧ c.get Reg.TRIP_STAT_HELD = 0 ∧ c.trip.copy = none ∧ c.tripRecording = true
    let busy := awake ∧ c.tripJoins = none ∧ (c.get Reg.TRIP_STAT_HELD = 1 ∨ c.trip.copy ≠ none ∨ c.get Reg.TRIP_STAT_STATE = 2)
    let pin := c.pinsIdle = false ∧ c.on Reg.TRIP_CFG_PIN_EN = true ∧ c.power.supply ≠ 1
    let join := fun (t : Chip) (n m : Nat) => t.get Reg.TRIP_COPY_TRIG_MASK = c.get Reg.TRIP_COPY_TRIG_MASK ||| m ∧ t.trip = c.trip ∧
      t.rdMem (recordPlace c n + 1) 1 = c.get Reg.TRIP_COPY_TRIG_MASK ||| m ∧ MemKept c t (recordPlace c n + 1) 1 ∧ RegsKept c t (· = Reg.TRIP_COPY_TRIG)
    let k := min 2048 (total - done)
    let mark := fun (x : List Byte) => if c.trip.gap then (match x with | b :: y => (b ||| 8#8) :: y | [] => []) else x
    (awake → c.trip.fifo = r :: rest → ∃ t, Leaves .sandglassRecord s t ∧ t.rdBytes (recordPlace c (c.rd Reg.TRIP_COUNT).toNat) r.length = mark r ∧
      MemKept c t (recordPlace c (c.rd Reg.TRIP_COUNT).toNat) r.length ∧ t.rd Reg.TRIP_COUNT = c.rd Reg.TRIP_COUNT + 1 ∧
      t.trip = { c.trip with fifo := rest, gap := false, since := c.trip.since + 1 } ∧ RegsKept c t (fun a => a = Reg.TRIP_COUNT ∨ PmonChipRegs a)) ∧
    (c.trip.fifo = [] ∨ c.power.selfRefresh = true → Leaves .sandglassRecord s c) ∧
    (ready → (∃ t, Leaves .tripCtrlFire s t ∧ TripTaken c t 4) ∧ (pin → ∃ t, Leaves .tripIn s t ∧ TripTaken c t 1)) ∧
    (busy → (∃ t, Leaves .tripCtrlFire s t ∧ t.get Reg.TRIP_SKIPPED_COUNT = counted c Reg.TRIP_SKIPPED_COUNT 1 ∧ t.trip.copy = c.trip.copy ∧
        t.get Reg.TRIP_STAT_STATE = c.get Reg.TRIP_STAT_STATE ∧ LastReport t 0x000C 3) ∧
      (pin → ∃ t, Leaves .tripIn s t ∧ t.get Reg.TRIP_SKIPPED_COUNT = counted c Reg.TRIP_SKIPPED_COUNT 1 ∧ t.trip.copy = c.trip.copy ∧ LastReport t 0x000C 1)) ∧
    (∀ n, awake → c.tripJoins = some n → (∃ t, Leaves .tripCtrlFire s t ∧ join t n 4) ∧ (pin → ∃ t, Leaves .tripIn s t ∧ join t n 1)) ∧
    (c.power.selfRefresh = true → Leaves .tripCtrlFire s { c with trip := { c.trip with waiting := c.trip.waiting ||| 4#3 } }) ∧
    (awake → ¬ ready → ¬ busy → c.tripJoins = none → c.on Reg.PMON_CTRL_SNAP_ON_TRIP = false → Leaves .tripCtrlFire s c ∧ Leaves .tripIn s c) ∧
    (s.MemoryWf → awake → c.trip.copy = some (total, done, marker) → 0 < k → done + k ≤ 131072 → c.tripBase + 2 ^ 25 ≤ oasisBase → ∃ t, Leaves .tripCopyChunk s t ∧
      t.trip.copy = some (total, done + k, marker) ∧ t.get Reg.TRIP_COPY_FIRST_INDEX = 131072 - (done + k) ∧ t.rd Reg.TRIP_COPY_CRC = t.copyCrc (131072 - (done + k)) ∧
      (∀ i j, i < k → j < 32 → t.mem.read (oasisBase + (131071 - (done + i)) * 32 + j) = c.mem.read (recordPlace c (marker + 2 ^ 32 - (done + i)) + j)) ∧
      MemKept c t (oasisBase + (131072 - (done + k)) * 32) (k * 32) ∧ RegsKept c t (fun a => a = Reg.TRIP_COPY_FIRST ∨ a = Reg.TRIP_COPY_CRC)) ∧
    (c.trip.copy = none ∨ (c.trip.copy = some (total, done, marker) ∧ k = 0) ∨ c.power.selfRefresh = true → Leaves .tripCopyChunk s c) ∧
    (c.trip.copy = some (total, done, marker) → total ≤ done → ∃ t, Leaves .tripCopyDone s t ∧ t.trip.copy = none ∧ t.get Reg.TRIP_STAT_COMPLETE = 1 ∧ t.get Reg.TRIP_IRQ_STATUS_COPY_DONE = 1 ∧
      t.get Reg.TRIP_STAT_STATE = (if c.get Reg.TRIP_CTRL_EN = 0 then 3 else if c.on Reg.TRIP_CFG_AUTO_REARM then 0 else 2) ∧ LastReport t 0x000C (lowestTrigger (c.get Reg.TRIP_COPY_TRIG_MASK))) ∧
    (c.trip.copy = none ∨ (c.trip.copy = some (total, done, marker) ∧ done < total) → Leaves .tripCopyDone s c) ∧
    (∃ t, Leaves .tripCtrlRelease s t ∧ t.get Reg.TRIP_STAT_HELD = 0 ∧ OnlyRegs c t (· = Reg.TRIP_STAT))

/-! ## The debug port (R431 to R443) -/

/-- The instruction `code` stands in the TAP, the pins are boundary scan's or not (R432, R434), and what was shifted out is `out`; nothing else differs, but for the unlock state, what the TAP holds and
what `u` names. -/
def TapRan (c t : Chip) (code : Nat) (out : List Out) : Prop :=
  t.tap.ir = BitVec.ofNat 8 code ∧ t.get Reg.BDP_STAT_EXTEST = (if code = 0x00 ∨ code = 0x03 ∨ code = 0x04 then 1 else 0) ∧ t.out = c.out ++ out

/-- Only the TAP's instruction and the pins' owner differ. -/
def TapOnly (c t : Chip) (code : Nat) (out : List Out) : Prop :=
  TapRan c t code out ∧ t.tap = { c.tap with ir := t.tap.ir } ∧ OnlyRegs { c with tap := t.tap, out := t.out } t (· = Reg.BDP_STAT) ∧
  t.get Reg.BDP_STAT_SCOPE = c.get Reg.BDP_STAT_SCOPE ∧ t.get Reg.BDP_STAT_LOCKED = c.get Reg.BDP_STAT_LOCKED ∧ t.get Reg.BDP_STAT_FAILS = c.get Reg.BDP_STAT_FAILS

/-- The instructions that ask for an unlock (R432), with their codes. -/
def gatedTaps (v : BitVec 70) (i : CoreId) (reg : BitVec 5) (wr go : Bool) (data : Word) (brk : BitVec 36) (addr : BitVec 48) (size : BitVec 2) (d : DWord) : List (Instr × Nat) :=
  [(.attach v, 0x31), (.coreSel i, 0x20), (.coreCmdEnable, 0x21), (.coreCmdDisable, 0x21), (.coreCmdHalt, 0x21), (.coreCmdRun, 0x21), (.coreCmdStep, 0x21), (.tapCoreStat, 0x22),
   (.coreReg reg wr data, 0x23), (.brkpt brk, 0x24), (.mem addr size wr go d, 0x30), (.sysreset, 0x3F)]

/-- The instructions that any part answers (R432). -/
def openTaps (cap load : List Bool) (scope : Byte) (sig : List Byte) : List Instr :=
  [.tapReset, .extest cap load, .samplePreload cap load, .clamp, .highz, .bypass, .idcode, .unlockChal, .unlockResp scope sig, .unlockStat]

/-- R431 to R436: without power-good the TAP does nothing; boundary scan shifts its register, CLAMP, HIGHZ and BYPASS one bit, IDCODE the part's code; a challenge is shown with the scope last asked for; a
response that verifies opens its scope, any other counts, three failures end the port's answers; what needs an unlock is BYPASS without one.
Rests on the model's choices of log 89, 91, 92, 93. -/
def Obligations.TestAccess : Prop :=
  ∀ (s : State) (cap load : List Bool) (scope : Byte) (sig : List Byte) (v : BitVec 70) (i : CoreId) (reg : BitVec 5) (wr go : Bool) (data : Word) (brk : BitVec 36) (addr : BitVec 48)
    (size : BitVec 2) (d : DWord),
    let c := s.chip
    let gated := gatedTaps v i reg wr go data brk addr size d
    let fails := c.get Reg.BDP_STAT_FAILS
    (c.power.good = false → (∀ x ∈ gated, Leaves x.1 s c) ∧ ∀ x ∈ openTaps cap load scope sig, Leaves x s c) ∧
    (c.power.good = true → c.get Reg.BDP_STAT_SCOPE = 0 → ∀ x ∈ gated, ∃ t, Leaves x.1 s t ∧ TapOnly c t x.2 [.tdo 0 1]) ∧
    (c.power.good = true →
      (∃ t, Leaves .tapReset s t ∧ TapOnly c t 0x02 []) ∧
      (∃ t, Leaves (.extest cap load) s t ∧ TapRan c t 0x00 [.tdo (bitsNat cap) cap.length] ∧ t.tap = { c.tap with ir := 0x00#8, bsr := load } ∧ RegsKept c t (· = Reg.BDP_STAT) ∧ t.mem = c.mem) ∧
      (∃ t, Leaves (.samplePreload cap load) s t ∧ TapRan c t 0x01 [.tdo (bitsNat cap) cap.length] ∧ t.tap = { c.tap with ir := 0x01#8, bsr := load } ∧ RegsKept c t (· = Reg.BDP_STAT) ∧
        t.mem = c.mem) ∧
      (∃ t, Leaves .clamp s t ∧ TapOnly c t 0x03 [.tdo 0 1]) ∧ (∃ t, Leaves .highz s t ∧ TapOnly c t 0x04 [.tdo 0 1]) ∧ (∃ t, Leaves .bypass s t ∧ TapOnly c t 0xFF [.tdo 0 1]) ∧
      (∃ t, Leaves .idcode s t ∧ TapOnly c t 0x02 [.tdo (1 + 0x45A * 2 + (0x0A0F + c.variant) * 2 ^ 12 + c.get Reg.FUSE_STEPPING_STEP % 16 * 2 ^ 28) 32]) ∧
      (∃ t ch, Leaves .unlockChal s t ∧ TapRan c t 0x10 [.tdo (BitVec.toNat ch) 256] ∧ t.tap.challenge = some ch ∧ ch.extractLsb' 192 8 = c.tap.scopeAsked ∧ t.fresh = c.fresh + 1 ∧
        RegsKept c t (· = Reg.BDP_STAT) ∧ t.mem = c.mem) ∧
      (∃ t, Leaves .unlockStat s t ∧ TapOnly c t 0x12 [.tdo (c.tap.status % 16 + c.get Reg.BDP_STAT_SCOPE * 16 + fails * 64) 8]) ∧
      (fails = 3 → ∃ t, Leaves (.unlockResp scope sig) s t ∧ TapRan c t 0x11 [] ∧ t.tap = { c.tap with ir := 0x11#8, status := ERR_AUTH } ∧ t.get Reg.BDP_STAT_SCOPE = c.get Reg.BDP_STAT_SCOPE ∧
        t.fw = c.fw) ∧
      (fails < 3 → ∀ ch, c.tap.challenge = some ch → c.unlockOk ch scope sig = true → ∃ t, Leaves (.unlockResp scope sig) s t ∧ TapRan c t 0x11 [] ∧
        t.tap = { c.tap with ir := 0x11#8, challenge := none, scopeAsked := scope, status := OK } ∧ t.get Reg.BDP_STAT_SCOPE = scope.toNat ∧ t.get Reg.BDP_STAT_LOCKED = 0 ∧
        (c.fwRuns = true → LastReport t logUnlock scope.toNat) ∧ t.mem = c.mem ∧ RegsKept c t (· = Reg.BDP_STAT)) ∧
      (fails < 3 → (∀ ch, c.tap.challenge = some ch → c.unlockOk ch scope sig = false) → ∃ t, Leaves (.unlockResp scope sig) s t ∧ TapRan c t 0x11 [] ∧
        t.tap = { c.tap with ir := 0x11#8, challenge := none, scopeAsked := scope, status := ERR_AUTH } ∧ t.get Reg.BDP_STAT_SCOPE = c.get Reg.BDP_STAT_SCOPE ∧
        t.get Reg.BDP_STAT_FAILS = fails + 1 ∧ (c.fwRuns = true → LastReport t logUnlock scope.toNat) ∧ t.mem = c.mem ∧ RegsKept c t (· = Reg.BDP_STAT)))

/-- The registers of slot `p` that its debugging writes. -/
def DebugRegs (p a : Nat) : Prop :=
  a = Reg.BDP_STAT ∨ a = Reg.CORE_STAT p ∨ a = Reg.CORE_PC p ∨ a = Reg.BDP_CORE_STAT p ∨ (Reg.coreBase p + 0x7010 ≤ a ∧ a < Reg.coreBase p + 0x7030)

/-- R441: a breakpoint of type 1 at the PC halts the core for debug before the instruction takes effect, with HCAUSE 4 and its bit in BPHIT; of type 2 or 4 at the address of
a load, so too. On the RUN that follows the instruction is not matched again. -/
def BreakpointsHold : Prop :=
  ∀ (s : State) (i : CoreId) (n : Nat) (d a b : BitVec 5) (m : BitVec 16),
    let c := s.chip
    let p := c.pcore i.toNat
    let ty := c.get (Reg.BDP_BRK_CFG_TYPE p n)
    let ign := 2 ^ c.get (Reg.BDP_BRK_CFG_IGN p n)
    let place := c.get (Reg.BDP_BRK_ADDR_ADDR p n)
    let armed := c.get (Reg.BDP_CORE_STAT_DBG_EN p) = 1 ∧ (c.core p).dbgSkip = false ∧ n < 4
    let boundary := c.seated i.toNat = true ∧ c.seqRuns p = true ∧ c.boundaryDue p = false ∧ (c.core p).reqs = []
    let caught := fun (ins : Instr) => ∃ t, Leaves ins s t ∧ t.seqState p = 0 ∧ t.get (Reg.CORE_STAT_HCAUSE p) = 4 ∧ t.dhalted p = true ∧
      bit (t.get (Reg.BDP_CORE_STAT_BPHIT p)) n = true ∧ t.pc p = c.pc p ∧ t.greg p = c.greg p ∧ (t.core p).dbgSkip = true ∧ t.mem = c.mem ∧
      RegsKept c t (fun x => x = Reg.CORE_STAT p ∨ x = Reg.BDP_CORE_STAT p)
    boundary → armed →
    (ty = 1 → c.pc p / ign = place % 2 ^ 16 / ign → caught (.add i d a b) ∧ caught (.mfence i 0)) ∧
    (ty = 2 ∨ ty = 4 → (c.greg p a.toNat + m.signExtend 32).toNat / ign = place / ign → caught (.lw i d a m)) ∧
    (ty = 3 ∨ ty = 4 → (c.greg p a.toNat + m.signExtend 32).toNat / ign = place / ign → caught (.sw i d a m))

/-- R434, R437 to R442: an open port attaches domains and lets them go, selects a core, and enables, halts, runs, steps, reads and ends the debugging of the selected one; PC and the general registers are
reached while it is debug-halted; SYSRESET resets the chip and leaves the port open. -/
def CoreDebuggingHold : Prop :=
  ∀ (s : State) (v : BitVec 70) (i : CoreId) (reg : BitVec 5) (wr : Bool) (data : Word) (brk : BitVec 36) (p : Nat),
    let c := s.chip
    let unlocked := c.power.good = true ∧ c.get Reg.BDP_STAT_SCOPE ≠ 0
    let sel := unlocked ∧ c.tapSlot = some p
    let en := c.get (Reg.BDP_CORE_STAT_DBG_EN p) = 1
    let halted := c.dhalted p = true
    let n := brk.toNat % 4
    let commands := [Instr.coreCmdEnable, .coreCmdDisable, .coreCmdHalt, .coreCmdRun, .coreCmdStep]
    let shown := fun (x res : Nat) => Out.tdo (reg.toNat + wr.toNat * 2 ^ 5 + x * 2 ^ 6 + res * 2 ^ 38) 40
    (unlocked → (∃ t, Leaves (.attach v) s t ∧ TapRan c t 0x31 [] ∧ ∀ d, c.domPresent d = true →
        (t.on (attachBit d) = v.getLsbD d) ∧ (v.getLsbD d = true → (t.votes d).getLsbD 31 = true) ∧
        (v.getLsbD d = false → (t.votes d).getLsbD 31 = ((c.votes d).getLsbD 31 && !c.on (attachBit d)))) ∧
      (∃ t, Leaves (.coreSel i) s t ∧ TapRan c t 0x20 [] ∧ t.tap = { c.tap with ir := 0x20#8, core := i } ∧ RegsKept c t (· = Reg.BDP_STAT) ∧ t.mem = c.mem) ∧
      (∃ t, Leaves .sysreset s t ∧ ChipReset c t 16 (· = Reg.BDP_STAT) ∧ t.tap.ir = 0x3F#8 ∧ t.get Reg.BDP_STAT_SCOPE = c.get Reg.BDP_STAT_SCOPE)) ∧
    (unlocked → c.tapSlot = none → (∀ x ∈ commands, ∃ t, Leaves x s t ∧ TapOnly c t 0x21 []) ∧ (∃ t, Leaves .tapCoreStat s t ∧ TapOnly c t 0x22 [.tdo 0 32]) ∧
      (∃ t, Leaves (.coreReg reg wr data) s t ∧ TapOnly c t 0x23 [shown data.toNat 1]) ∧ ∃ t, Leaves (.brkpt brk) s t ∧ TapOnly c t 0x24 []) ∧
    (sel → ∃ t, Leaves .coreCmdEnable s t ∧ TapRan c t 0x21 [] ∧ t.get (Reg.BDP_CORE_STAT_DBG_EN p) = 1 ∧ t.on (attachBit (p / 32)) = true ∧ (t.votes (p / 32)).getLsbD 31 = true ∧ t.mem = c.mem) ∧
    (sel → ¬ en → ∀ x ∈ commands.drop 1, ∃ t, Leaves x s t ∧ TapOnly c t 0x21 []) ∧
    (sel → en → (∃ t, Leaves .coreCmdDisable s t ∧ TapRan c t 0x21 [] ∧ t.get (Reg.BDP_CORE_STAT_DBG_EN p) = 0 ∧ t.dhalted p = false ∧ (halted → t.seqState p = 1) ∧
        (∀ j, j < 4 → t.rd (Reg.BDP_BRK_CFG p j) = 0 ∧ t.rd (Reg.BDP_BRK_ADDR p j) = 0) ∧ RegsKept c t (DebugRegs p) ∧ t.mem = c.mem) ∧
      (c.seqLive p = true → ∃ t, Leaves .coreCmdHalt s t ∧ TapRan c t 0x21 [] ∧ t.seqState p = 0 ∧ t.get (Reg.CORE_STAT_HCAUSE p) = 4 ∧ t.dhalted p = true ∧ t.pc p = c.pc p ∧
        RegsKept c t (DebugRegs p) ∧ t.mem = c.mem) ∧
      (c.seqLive p = false → ∃ t, Leaves .coreCmdHalt s t ∧ TapOnly c t 0x21 []) ∧
      (halted → (∃ t, Leaves .coreCmdRun s t ∧ TapRan c t 0x21 [] ∧ t.seqState p = 1 ∧ t.dhalted p = false ∧ t.get (Reg.BDP_CORE_STAT_BPHIT p) = 0 ∧ t.pc p = c.pc p ∧
          (t.core p).stepping = false ∧ (t.core p).dbgSkip = (c.core p).dbgSkip ∧ RegsKept c t (DebugRegs p) ∧ t.mem = c.mem) ∧
        (∃ t, Leaves .coreCmdStep s t ∧ TapRan c t 0x21 [] ∧ t.seqState p = 1 ∧ t.dhalted p = false ∧ (t.core p).stepping = true ∧ RegsKept c t (DebugRegs p) ∧ t.mem = c.mem)) ∧
      (¬ halted → (∃ t, Leaves .coreCmdRun s t ∧ TapOnly c t 0x21 []) ∧ ∃ t, Leaves .coreCmdStep s t ∧ TapOnly c t 0x21 [])) ∧
    (sel → (∃ t, Leaves .tapCoreStat s t ∧ TapOnly c t 0x22 [.tdo (c.coreStatWord p) 32]) ∧
      (¬ halted → ∃ t, Leaves (.coreReg reg wr data) s t ∧ TapOnly c t 0x23 [shown data.toNat 1]) ∧
      (halted → wr = false → ∃ t, Leaves (.coreReg reg wr data) s t ∧ TapOnly c t 0x23 [shown (if reg = 0 then c.pc p else (c.greg p reg.toNat).toNat) 0]) ∧
      (halted → wr = true → ∃ t, Leaves (.coreReg reg wr data) s t ∧ TapRan c t 0x23 [shown data.toNat 0] ∧ (reg = 0 → t.pc p = data.toNat / 4 * 4 % 2 ^ 16) ∧
        (reg ≠ 0 → t.greg p reg.toNat = data ∧ t.pc p = c.pc p) ∧ RegsKept c t (DebugRegs p) ∧ t.mem = c.mem) ∧
      (∃ t, Leaves (.brkpt brk) s t ∧ TapRan c t 0x24 [] ∧ t.get (Reg.BDP_BRK_CFG_TYPE p n) = brk.toNat / 2 ^ 2 % 8 ∧ t.get (Reg.BDP_BRK_CFG_IGN p n) = brk.toNat / 2 ^ 27 % 16 ∧
        t.get (Reg.BDP_BRK_ADDR_ADDR p n) = brk.toNat / 2 ^ 5 % 2 ^ 22 ∧ RegsKept c t (fun a => a = Reg.BDP_STAT ∨ a = Reg.BDP_BRK_CFG p n ∨ a = Reg.BDP_BRK_ADDR p n) ∧ t.mem = c.mem))

/-- R443: MEM reads and writes DRAM through the crossbar once GO is set, an access of 1 to 8 bytes within a 64-byte line, and shows the data and the status of the last access. -/
def MemoryDebuggingHold : Prop :=
  ∀ (s : State) (addr : BitVec 48) (size : BitVec 2) (wr : Bool) (data : DWord),
    let c := s.chip
    let a := addr.toNat
    let n := 2 ^ size.toNat
    let unlocked := c.power.good = true ∧ c.get Reg.BDP_STAT_SCOPE ≠ 0
    let reaches := unlocked ∧ DramServes c ∧ a % 64 + n ≤ 64 ∧ a < winBase ∧ a + n ≤ c.usable
    let shown := fun (t : Chip) (go : Bool) => Out.tdo (a + size.toNat * 2 ^ 48 + wr.toNat * 2 ^ 50 + go.toNat * 2 ^ 51 + t.tap.data.toNat * 2 ^ 52 + t.tap.memStatus.toNat * 2 ^ 116) 128
    (unlocked → ∃ t, Leaves (.mem addr size wr false data) s t ∧ TapOnly c t 0x30 [shown c false]) ∧
    (reaches → wr = true → ∃ t, Leaves (.mem addr size wr true data) s t ∧ TapRan c t 0x30 [shown t true] ∧ t.rdBytes a n = natToBytes n data.toNat ∧ MemKept c t a n ∧ t.tap.memStatus = 0 ∧
      t.tap.data = c.tap.data ∧ RegsKept c t (fun x => x = Reg.BDP_STAT ∨ PmonChipRegs x)) ∧
    (reaches → wr = false → ∃ t, Leaves (.mem addr size wr true data) s t ∧ TapRan c t 0x30 [shown t true] ∧ t.tap.data = BitVec.ofNat 64 (c.rdMem a n) ∧ t.tap.memStatus = 0 ∧ t.mem = c.mem ∧
      RegsKept c t (fun x => x = Reg.BDP_STAT ∨ PmonChipRegs x))

/-- R434, R437 to R442, R443: the debugging of cores, breakpoints, and memory.
Rests on the model's choices of log 90, 91, 94, 167. -/
def Obligations.Debugging : Prop := CoreDebuggingHold ∧ BreakpointsHold ∧ MemoryDebuggingHold

/-- R433: IDCODE is 1 in bit 0, the manufacturer 0x45A, the part number of the variant and the low digit of the stepping; a UT-1024 of stepping 0x11 reads 0x10A1_08B5. -/
def Obligations.IdentificationCode : Prop :=
  ∀ s : State, s.chip.power.good = true → ∃ t code, Leaves .idcode s t ∧ t.out = s.chip.out ++ [.tdo code 32] ∧
    code % 2 = 1 ∧ code / 2 % 2 ^ 11 = 0x45A ∧ (s.chip.variant = 1 → code / 2 ^ 12 % 2 ^ 16 = 0x0A10) ∧ (s.chip.variant = 2 → code / 2 ^ 12 % 2 ^ 16 = 0x0A11) ∧
    (s.chip.variant = 3 → code / 2 ^ 12 % 2 ^ 16 = 0x0A12) ∧ code / 2 ^ 28 = s.chip.get Reg.FUSE_STEPPING_STEP % 16 ∧
    (s.chip.variant = 1 → s.chip.get Reg.FUSE_STEPPING_STEP = 0x11 → code = 0x10A108B5)

/-! ## Commands that complete -/

/-- R213, R214, R210, R276 to R278: a tuple with room in an open queue, a WCREDIT of a bound port, a binding taken back, a buffer asked for and free, a buffer given back, a
pool set up while it is off, and a waiter whose time has passed. -/
def TuplesAndBuffersComplete : Prop :=
  ∀ (s : State) (slot : PCore) (pk : Packet) (rest : List Packet) (port m : BitVec 4) (v : Word) (pool : BitVec 2) (h : BitVec 18),
    let c := s.chip
    let p := slot.toNat
    let x := c.pool pool.toNat
    let y := c.pool (h.toNat / 65536)
    let gives := c.poolOn pool.toNat = true ∧ x.waiters = [] ∧ x.taken.length < c.get (Reg.BUF_POOL_CFG_COUNT pool.toNat) ∧ m.toNat < 14
    let freed := fun t : Chip => t.get (Reg.BUF_POOL_STAT_FREE pool.toNat) = c.get (Reg.BUF_POOL_CFG_COUNT pool.toNat) - (x.taken.length + 1)
    (FirstArrived c p 1 pk rest → c.swapping (p / 32) = false → c.queueOpen p pk.wadiQueue = true → wordsOf ((c.core p).queue pk.wadiQueue) + pk.tuple.words.length ≤ 32 →
      ∃ t, Leaves (.wadiTupleArrive slot) s t ∧ (t.core p).queue pk.wadiQueue = (c.core p).queue pk.wadiQueue ++ [pk.tuple]) ∧
    (p ≠ bridgeSlot → FirstArrived c p 5 pk rest → c.get (Reg.WADI_SPORT_CFG_BOUND p (pk.data.toNat % 16)) = 1 → bit pk.data.toNat 11 = true →
      ∃ t, Leaves (.wcredit slot) s t ∧ t.get (Reg.WADI_SPORT_STAT_CRED p (pk.data.toNat % 16)) = c.get (Reg.WADI_SPORT_CFG_CREDITS p (pk.data.toNat % 16))) ∧
    (c.windowOpen p = true → c.get (Reg.WADI_CTRL_LOCK p) = 0 → v.getLsbD 18 = false →
      ∃ t, Leaves (.wadiSportCfgWrite slot port v) s t ∧ t.get (Reg.WADI_SPORT_CFG_BOUND p port.toNat) = 0) ∧
    (gives → (∃ t, Leaves (.bufPoolAlloc pool m) s t ∧ freed t) ∧ ∃ t, Leaves (.bufPoolWalloc pool m) s t ∧ freed t) ∧
    (h.toNat % 65536 < c.get (Reg.BUF_POOL_CFG_COUNT (h.toNat / 65536)) → h.toNat % 65536 ∈ y.taken → y.waiters = [] →
      ∃ t, Leaves (.bufFree h) s t ∧ t.pool (h.toNat / 65536) = { y with taken := y.taken.erase (h.toNat % 65536) }) ∧
    (c.poolOn pool.toNat = false → ∃ t, Leaves (.bufPoolCfgWrite pool v) s t ∧ t.poolOn pool.toNat = bit v.toNat 22) ∧
    (c.get (Reg.BUF_POOL_WAIT_TO_TO pool.toNat) ≠ 0 → m.toNat ∈ x.waiters → ∃ t, Leaves (.waiterTimeout pool m) s t ∧
      t.pool pool.toNat = { x with waiters := x.waiters.erase m.toNat })

/-- R425, R426, R429, R269 to R274: event counters and bandwidth, on ordinary values. -/
def CountersComplete : Prop :=
  ∀ (s : State) (n : BitVec 5) (res : BitVec 3) (v : Word) (ch : BitVec 1) (mr4 : BitVec 3) (on : Bool),
    let c := s.chip
    let b := Reg.pmonChip n.toNat
    let id := PmonId.chip n
    (c.get (Reg.PMON_CFG_EN b) = 1 → ∃ t, Leaves (.pmonOverflow id) s t ∧ t.get (Reg.PMON_CFG_OVF b) = 1) ∧
    (∃ t, Leaves (.pmonClr id) s t ∧ t.pmonCount b = 0) ∧
    (∃ t, Leaves (.pmonCntLoRead id) s t ∧ t.rd (Reg.PMON_CNT_HI b) = c.rd (cntHigh b)) ∧
    (∃ t, Leaves (.pmonSnapLoRead id) s t ∧ t.rd (Reg.PMON_SNAP_HI b) = c.rd (snapHigh b)) ∧
    (∃ t, Leaves .pmonCtrlArm s t ∧ t.get Reg.PMON_STAT_PENDING = if c.snapTime < c.time.toNat then 0 else 1) ∧
    (c.get Reg.PMON_STAT_PENDING = 1 → ∃ t, Leaves .snapshot s t ∧ t.rd (Reg.PMON_SNAP_LO b) = c.rd (Reg.PMON_CNT_LO b)) ∧
    (res.toNat < 5 → wbits v 7 0 = 0 → ∃ t, Leaves (.bwResWrite res v) s t ∧ t.get (Reg.BW_RES_GBPS res.toNat) = 0) ∧
    (∃ t, Leaves (.ddrTrackPass ch) s t ∧ t = c) ∧
    (ch.toNat < c.drams → ∃ t, Leaves (.ddrRefreshChange ch mr4 on) s t ∧ t.get (Reg.DDR_STAT_MR4 ch.toNat) = mr4.toNat) ∧
    (ch.toNat < c.drams → ∃ t, Leaves (.ddrSetpointSwitch ch true) s t ∧ t.on (Reg.DDR_STAT_FSP ch.toNat) = true)

/-- R312, R317, R319, R281, R320: a JOB_UNLOAD in its last step, an operation out of time, a pause that ends, a sample of power. -/
def LimitsComplete : Prop :=
  ∀ (s : State) (bad : List (PCore × BitVec 4)) (x : Op) (n : Nat) (r : PauseRec) (id : Word) (w : BitVec 16),
    let c := s.chip
    let gone := fun t : Chip => t.fw.ops = [] ∧ t.mbxState n = 2
    (c.fwUp = true → c.fw.ops = [x] → c.opHeld x = false → x.total ≤ x.done + 1 → n < 16 → x.origin = .mailbox n → x.expert = false → x.code = 0x24 →
      ∃ t, Leaves (.longOpStep bad) s t ∧ t.job (x.arg 0 1) = Job.empty) ∧
    (n < 16 → x.origin = .mailbox n → c.fw.ops = [x] → x.code = 0x24 → (c.timeoutOf (.mailbox n) ≠ 0 → ∃ t, Leaves (.commandTimeout (.mailbox n)) s t ∧ gone t) ∧
      ∃ t, Leaves (.hostReadTimeout (.mailbox n)) s t ∧ gone t) ∧
    (r ∈ c.fw.pauses → r.kind = 0 → r.id = id.toNat → r.inEffect = true → r.duration ≠ 0 → id.toNat < c.clPorts → c.portState id.toNat = 5 →
      ∃ t, Leaves (.pauseExpiry 0#8 id) s t ∧ t.portState id.toNat = 4) ∧
    (c.fwUp = true → c.power.cap.on = false → ∃ t, Leaves (.powerCapSample w) s t ∧ t.power.cap.samples = (w.toNat :: c.power.cap.samples).take 100)

/-- R417 to R421: a record written, a trip taken, a chunk of its copy made, the copy's end, the hold released. -/
def TripsComplete : Prop :=
  ∀ (s : State) (r : List Byte) (rest : List (List Byte)) (total done marker : Nat),
    let c := s.chip
    (c.power.selfRefresh = false → c.trip.fifo = r :: rest → ∃ t, Leaves .sandglassRecord s t ∧ t.trip.fifo = rest) ∧
    (c.power.selfRefresh = false → c.get Reg.TRIP_STAT_HELD = 0 → c.trip.copy = none → c.tripRecording = true →
      ∃ t, Leaves .tripCtrlFire s t ∧ t.get Reg.TRIP_STAT_STATE = 1 ∧ t.get Reg.TRIP_STAT_HELD = 1) ∧
    (s.MemoryWf → c.power.selfRefresh = false → c.trip.copy = some (total, done, marker) → done < total → total ≤ 131072 → c.tripBase + 2 ^ 25 ≤ oasisBase →
      ∃ t, Leaves .tripCopyChunk s t ∧ t.trip.copy = some (total, done + min 2048 (total - done), marker)) ∧
    (c.trip.copy = some (total, total, marker) → ∃ t, Leaves .tripCopyDone s t ∧ t.get Reg.TRIP_STAT_COMPLETE = 1) ∧
    (∃ t, Leaves .tripCtrlRelease s t ∧ t.get Reg.TRIP_STAT_HELD = 0)

/-- Commands on ordinary operands answer a next state, with the register or the store they are for (R213, R214, R210, R276 to R278, R425, R426, R429, R269 to R274, R312, R317, R319,
R281, R320, R417 to R421). -/
def Obligations.CommandsComplete : Prop := TuplesAndBuffersComplete ∧ CountersComplete ∧ LimitsComplete ∧ TripsComplete
end

