-- ==== Sys2Proof/Laws/Store.lean ====
section
/-! SUPPORT. Laws of the three stores: what a read answers after a write, and that memory keeps its canonical form. -/

namespace Sys2Proof.Machine

/-! ## Sparse arrays -/

@[simp] theorem smGet_smSet_same {α : Type} (d : α) (m : SMap α) (k : Nat) (v : α) : smGet d (smSet m k v) k = v := by
  induction m with
  | nil => simp [smSet, smGet]
  | cons p t ih =>
    simp only [smSet]
    split
    · simp [smGet]
    · split
      · simp [smGet]
      · rename_i _ h; simp [smGet, h, ih]

theorem smGet_smSet_other {α : Type} (d : α) (m : SMap α) (k k' : Nat) (v : α) (h : k' ≠ k) :
    smGet d (smSet m k v) k' = smGet d m k' := by
  induction m with
  | nil => simp [smSet, smGet, h.symm]
  | cons p t ih =>
    simp only [smSet]
    split
    · simp [smGet, h.symm]
    · split
      · rename_i _ e; simp [smGet, h.symm, e]
      · simp only [smGet, ih]

/-! ## Memory -/

theorem Memory.read_nil (a : Nat) : Memory.read [] a = 0#8 := rfl

theorem Memory.read_filter (m : Memory) (p : Nat → Bool) (a : Nat) :
    Memory.read (m.filter (fun c => p c.1)) a = if p a then m.read a else 0#8 := by
  induction m with
  | nil => simp [Memory.read, smGet, Memory.unlisted]
  | cons c t ih =>
    simp only [Memory.read] at *
    by_cases h : c.1 = a
    · subst h
      by_cases hp : p c.1 = true
      · rw [List.filter_cons_of_pos (by simpa using hp)]
        simp [smGet, hp]
      · rw [List.filter_cons_of_neg (by simpa using hp), ih]
        simp [hp]
    · by_cases hp : p c.1 = true
      · rw [List.filter_cons_of_pos (by simpa using hp)]
        simp only [smGet, h, if_false]; exact ih
      · rw [List.filter_cons_of_neg (by simpa using hp), ih]
        simp [smGet, h]

/-- A read after a write of the same byte. -/
@[simp] theorem Memory.read_write_same (m : Memory) (a : Nat) (b : Byte) : (m.write a b).read a = b := by
  unfold Memory.write
  split
  · rename_i h
    have := Memory.read_filter m (fun x => decide (x ≠ a)) a
    simpa [Memory.erase, h, Memory.unlisted] using this
  · simp [Memory.read]

/-- A write leaves every other byte. -/
theorem Memory.read_write_other (m : Memory) (a x : Nat) (b : Byte) (h : x ≠ a) : (m.write a b).read x = m.read x := by
  unfold Memory.write
  split
  · have := Memory.read_filter m (fun y => decide (y ≠ a)) x
    simpa [Memory.erase, h] using this
  · exact smGet_smSet_other _ _ _ _ _ h

/-- Writing a run of bytes leaves every byte outside it. -/
theorem Memory.read_writeBytes_other (bs : List Byte) (m : Memory) (a x : Nat) (h : x < a ∨ a + bs.length ≤ x) :
    (m.writeBytes a bs).read x = m.read x := by
  induction bs generalizing m a with
  | nil => rfl
  | cons b t ih =>
    simp only [List.length_cons] at h
    rw [Memory.writeBytes, ih _ _ (by omega), Memory.read_write_other _ _ _ _ (by omega)]

/-- The bytes of a run, once written. -/
theorem Memory.read_writeBytes_in (bs : List Byte) (m : Memory) (a i : Nat) (h : i < bs.length) :
    (m.writeBytes a bs).read (a + i) = bs[i] := by
  induction bs generalizing m a i with
  | nil => simp at h
  | cons b t ih =>
    rw [Memory.writeBytes]
    cases i with
    | zero => rw [Memory.read_writeBytes_other _ _ _ _ (by omega)]; simp
    | succ i =>
      have := ih (m.write a b) (a + 1) i (by simpa using h)
      simpa [Nat.add_assoc, Nat.add_comm 1 i] using this

@[simp] theorem natToBytes_length (n v : Nat) : (natToBytes n v).length = n := by
  induction n generalizing v with
  | zero => rfl
  | succ n ih => simp [natToBytes, ih]

theorem bytesToNat_natToBytes (n v : Nat) : bytesToNat (natToBytes n v) = v % 256 ^ n := by
  induction n generalizing v with
  | zero => simp [natToBytes, bytesToNat, Nat.mod_one]
  | succ n ih =>
    simp only [natToBytes, bytesToNat, ih, BitVec.toNat_ofNat]
    rw [show (256 : Nat) ^ (n + 1) = 256 * 256 ^ n by rw [Nat.pow_succ, Nat.mul_comm], Nat.mod_mul]

@[simp] theorem Memory.readBytes_length (m : Memory) (a n : Nat) : (m.readBytes a n).length = n := by
  induction n generalizing a with
  | zero => rfl
  | succ n ih => simp [Memory.readBytes, ih]

/-- Two memories that agree on a run of bytes answer the same bytes. -/
theorem Memory.readBytes_congr (m m' : Memory) (a n : Nat) (h : ∀ x, a ≤ x → x < a + n → m.read x = m'.read x) :
    m.readBytes a n = m'.readBytes a n := by
  induction n generalizing a with
  | zero => rfl
  | succ n ih =>
    simp only [Memory.readBytes]
    rw [h a (by omega) (by omega), ih (a + 1) (fun x h1 h2 => h x (by omega) (by omega))]

theorem Memory.readBytes_writeBytes (bs : List Byte) (m : Memory) (a : Nat) : (m.writeBytes a bs).readBytes a bs.length = bs := by
  induction bs generalizing m a with
  | nil => rfl
  | cons b t ih =>
    simp only [List.length_cons, Memory.readBytes, Memory.writeBytes, ih]
    rw [Memory.read_writeBytes_other _ _ _ _ (by omega)]; simp

/-- A little-endian number read back (R4). -/
theorem Memory.readNat_writeNat (m : Memory) (a n v : Nat) : (m.writeNat a n v).readNat a n = v % 256 ^ n := by
  have := Memory.readBytes_writeBytes (natToBytes n v) m a
  rw [natToBytes_length] at this
  rw [Memory.readNat, Memory.writeNat, this, bytesToNat_natToBytes]

theorem Memory.read_writeNat_other (m : Memory) (a n v x : Nat) (h : x < a ∨ a + n ≤ x) : (m.writeNat a n v).read x = m.read x :=
  Memory.read_writeBytes_other _ _ _ _ (by simpa using h)

/-! ## The canonical form -/

theorem Memory.mem_smSet (m : Memory) (a : Nat) (b : Byte) (c : Host.Cell) (h : c ∈ smSet m a b) : c = (a, b) ∨ c ∈ m := by
  induction m with
  | nil => simpa [smSet] using h
  | cons p t ih =>
    simp only [smSet] at h
    split at h
    · simpa using h
    · split at h
      · simp only [List.mem_cons] at h ⊢
        exact h.imp id .inr
      · simp only [List.mem_cons] at h ⊢
        rcases h with h | h
        · exact .inr (.inl h)
        · exact (ih h).imp id .inr

theorem Memory.smSet_sorted (m : Memory) (a : Nat) (b : Byte) (h : m.Pairwise (fun x y => x.1 < y.1)) :
    (smSet m a b).Pairwise (fun x y => x.1 < y.1) := by
  induction m with
  | nil => simp [smSet]
  | cons p t ih =>
    rw [List.pairwise_cons] at h
    simp only [smSet]
    split
    · rename_i hlt
      rw [List.pairwise_cons, List.pairwise_cons]
      refine ⟨?_, h.1, h.2⟩
      intro y hy
      simp only [List.mem_cons] at hy
      rcases hy with rfl | hy
      · exact hlt
      · exact Nat.lt_trans hlt (h.1 y hy)
    · split
      · rename_i he
        rw [List.pairwise_cons]
        exact ⟨fun y hy => he ▸ h.1 y hy, h.2⟩
      · rename_i hlt he
        rw [List.pairwise_cons]
        refine ⟨fun y hy => ?_, ih h.2⟩
        rcases Memory.mem_smSet _ _ _ _ hy with rfl | hy
        · show p.1 < a
          have : ¬ a < p.1 := hlt
          have : ¬ p.1 = a := he
          omega
        · exact h.1 y hy

theorem Memory.wf_filter (m : Memory) (p : Host.Cell → Bool) (h : m.wf) : Memory.wf (m.filter p) :=
  ⟨h.1.sublist List.filter_sublist, fun c hc => h.2 c (List.mem_filter.mp hc).1⟩

theorem Memory.wf_nil : Memory.wf [] := ⟨List.Pairwise.nil, by simp⟩

theorem Memory.wf_write (m : Memory) (a : Nat) (b : Byte) (h : m.wf) : (m.write a b).wf := by
  unfold Memory.write
  split
  · exact Memory.wf_filter _ _ h
  · rename_i hb
    exact ⟨Memory.smSet_sorted _ _ _ h.1, fun c hc => by
      rcases Memory.mem_smSet _ _ _ _ hc with rfl | hc
      · exact hb
      · exact h.2 c hc⟩

theorem Memory.wf_writeBytes (bs : List Byte) (m : Memory) (a : Nat) (h : m.wf) : (m.writeBytes a bs).wf := by
  induction bs generalizing m a with
  | nil => exact h
  | cons b t ih => exact ih _ _ (Memory.wf_write _ _ _ h)

theorem Memory.wf_writeNat (m : Memory) (a n v : Nat) (h : m.wf) : (m.writeNat a n v).wf := Memory.wf_writeBytes _ _ _ h

theorem Memory.wf_placeCells (cs : List Host.Cell) (m : Memory) (dst src : Nat) (h : m.wf) : (m.placeCells dst src cs).wf := by
  induction cs generalizing m with
  | nil => exact h
  | cons c t ih => exact ih _ (Memory.wf_write _ _ _ h)

theorem Memory.wf_clear (m : Memory) (a n : Nat) (h : m.wf) : (m.clear a n).wf := Memory.wf_filter _ _ h

theorem Memory.wf_copyFrom (m m' : Memory) (dst src n : Nat) (h : m.wf) : (m.copyFrom m' dst src n).wf :=
  Memory.wf_placeCells _ _ _ _ (Memory.wf_clear _ _ _ h)

/-- What `clear` leaves. -/
theorem Memory.read_clear (m : Memory) (a n x : Nat) : (m.clear a n).read x = if x < a ∨ a + n ≤ x then m.read x else 0#8 := by
  have := Memory.read_filter m (fun y => decide (y < a) || decide (a + n ≤ y)) x
  simp only [Memory.clear]
  rw [this]; simp

/-- Two canonical memories that read alike everywhere are the same list. -/
theorem Memory.ext_of_read (m m' : Memory) (h : m.wf) (h' : m'.wf) (he : ∀ a, m.read a = m'.read a) : m = m' := by
  have low : ∀ (t : Memory) (a : Nat), (∀ y ∈ t, a < y.1) → Memory.read t a = 0#8 := by
    intro t a ht
    induction t with
    | nil => rfl
    | cons p t ih =>
      have h1 := ht p (by simp)
      have : ¬ p.1 = a := by omega
      simp only [Memory.read, smGet, this, if_false]
      exact ih (fun y hy => ht y (by simp [hy]))
  induction m generalizing m' with
  | nil =>
    cases m' with
    | nil => rfl
    | cons q t' =>
      have := he q.1
      simp only [Memory.read, smGet, if_true, Memory.unlisted] at this
      exact absurd this.symm (h'.2 q (by simp))
  | cons p t ih =>
    have hp := List.pairwise_cons.mp h.1
    cases m' with
    | nil =>
      have := he p.1
      simp only [Memory.read, smGet, if_true, Memory.unlisted] at this
      exact absurd this (h.2 p (by simp))
    | cons q t' =>
      have hq := List.pairwise_cons.mp h'.1
      have hkey : p.1 = q.1 := by
        rcases Nat.lt_trichotomy p.1 q.1 with hlt | heq | hgt
        · have h1 := he p.1
          rw [low (q :: t') p.1 (by intro y hy; simp only [List.mem_cons] at hy; rcases hy with rfl | hy; exact hlt; exact Nat.lt_trans hlt (hq.1 y hy))] at h1
          simp only [Memory.read, smGet, if_true] at h1
          exact absurd h1 (h.2 p (by simp))
        · exact heq
        · have h1 := he q.1
          rw [low (p :: t) q.1 (by intro y hy; simp only [List.mem_cons] at hy; rcases hy with rfl | hy; exact hgt; exact Nat.lt_trans hgt (hp.1 y hy))] at h1
          simp only [Memory.read, smGet, if_true] at h1
          exact absurd h1.symm (h'.2 q (by simp))
      have hval : p.2 = q.2 := by
        have h1 := he p.1
        simpa [Memory.read, smGet, hkey] using h1
      have hpq : p = q := Prod.ext hkey hval
      subst hpq
      congr 1
      apply ih t' ⟨hp.2, fun c hc => h.2 c (by simp [hc])⟩ ⟨hq.2, fun c hc => h'.2 c (by simp [hc])⟩
      intro a
      by_cases ha : p.1 = a
      · subst ha; rw [low t _ hp.1, low t' _ hq.1]
      · have h1 := he a
        simpa [Memory.read, smGet, ha] using h1

end Sys2Proof.Machine
end

