-- ==== Sys2Proof/Laws/State.lean ====
section
/-! SUPPORT. What each named update of the block leaves: one lemma per update and field, so that no proof unfolds a record
update. `set`, `clr`, `bump` are `put`; `modCore` and its like are `setCore` and its like. -/

namespace Sys2Proof.Machine

variable (c : Chip)

/-! ## wr -/

@[simp] theorem Chip.wr_time (a : Nat) (w : Word) : (c.wr a w).time = c.time := rfl
@[simp] theorem Chip.wr_mem (a : Nat) (w : Word) : (c.wr a w).mem = c.mem := rfl
@[simp] theorem Chip.wr_cores (a : Nat) (w : Word) : (c.wr a w).cores = c.cores := rfl
@[simp] theorem Chip.wr_routers (a : Nat) (w : Word) : (c.wr a w).routers = c.routers := rfl
@[simp] theorem Chip.wr_bridge (a : Nat) (w : Word) : (c.wr a w).bridge = c.bridge := rfl
@[simp] theorem Chip.wr_ports (a : Nat) (w : Word) : (c.wr a w).ports = c.ports := rfl
@[simp] theorem Chip.wr_syncCount (a : Nat) (w : Word) : (c.wr a w).syncCount = c.syncCount := rfl
@[simp] theorem Chip.wr_chans (a : Nat) (w : Word) : (c.wr a w).chans = c.chans := rfl
@[simp] theorem Chip.wr_links (a : Nat) (w : Word) : (c.wr a w).links = c.links := rfl
@[simp] theorem Chip.wr_sync (a : Nat) (w : Word) : (c.wr a w).sync = c.sync := rfl
@[simp] theorem Chip.wr_dead (a : Nat) (w : Word) : (c.wr a w).dead = c.dead := rfl
@[simp] theorem Chip.wr_rst (a : Nat) (w : Word) : (c.wr a w).rst = c.rst := rfl
@[simp] theorem Chip.wr_rot (a : Nat) (w : Word) : (c.wr a w).rot = c.rot := rfl
@[simp] theorem Chip.wr_dune (a : Nat) (w : Word) : (c.wr a w).dune = c.dune := rfl
@[simp] theorem Chip.wr_pools (a : Nat) (w : Word) : (c.wr a w).pools = c.pools := rfl
@[simp] theorem Chip.wr_dma (a : Nat) (w : Word) : (c.wr a w).dma = c.dma := rfl
@[simp] theorem Chip.wr_fw (a : Nat) (w : Word) : (c.wr a w).fw = c.fw := rfl
@[simp] theorem Chip.wr_host (a : Nat) (w : Word) : (c.wr a w).host = c.host := rfl
@[simp] theorem Chip.wr_trip (a : Nat) (w : Word) : (c.wr a w).trip = c.trip := rfl
@[simp] theorem Chip.wr_power (a : Nat) (w : Word) : (c.wr a w).power = c.power := rfl
@[simp] theorem Chip.wr_tap (a : Nat) (w : Word) : (c.wr a w).tap = c.tap := rfl
@[simp] theorem Chip.wr_fresh (a : Nat) (w : Word) : (c.wr a w).fresh = c.fresh := rfl
@[simp] theorem Chip.wr_out (a : Nat) (w : Word) : (c.wr a w).out = c.out := rfl

/-! ## put -/

@[simp] theorem Chip.put_time (f : Reg.Fld) (v : Nat) : (c.put f v).time = c.time := rfl
@[simp] theorem Chip.put_mem (f : Reg.Fld) (v : Nat) : (c.put f v).mem = c.mem := rfl
@[simp] theorem Chip.put_cores (f : Reg.Fld) (v : Nat) : (c.put f v).cores = c.cores := rfl
@[simp] theorem Chip.put_routers (f : Reg.Fld) (v : Nat) : (c.put f v).routers = c.routers := rfl
@[simp] theorem Chip.put_bridge (f : Reg.Fld) (v : Nat) : (c.put f v).bridge = c.bridge := rfl
@[simp] theorem Chip.put_ports (f : Reg.Fld) (v : Nat) : (c.put f v).ports = c.ports := rfl
@[simp] theorem Chip.put_syncCount (f : Reg.Fld) (v : Nat) : (c.put f v).syncCount = c.syncCount := rfl
@[simp] theorem Chip.put_chans (f : Reg.Fld) (v : Nat) : (c.put f v).chans = c.chans := rfl
@[simp] theorem Chip.put_links (f : Reg.Fld) (v : Nat) : (c.put f v).links = c.links := rfl
@[simp] theorem Chip.put_sync (f : Reg.Fld) (v : Nat) : (c.put f v).sync = c.sync := rfl
@[simp] theorem Chip.put_dead (f : Reg.Fld) (v : Nat) : (c.put f v).dead = c.dead := rfl
@[simp] theorem Chip.put_rst (f : Reg.Fld) (v : Nat) : (c.put f v).rst = c.rst := rfl
@[simp] theorem Chip.put_rot (f : Reg.Fld) (v : Nat) : (c.put f v).rot = c.rot := rfl
@[simp] theorem Chip.put_dune (f : Reg.Fld) (v : Nat) : (c.put f v).dune = c.dune := rfl
@[simp] theorem Chip.put_pools (f : Reg.Fld) (v : Nat) : (c.put f v).pools = c.pools := rfl
@[simp] theorem Chip.put_dma (f : Reg.Fld) (v : Nat) : (c.put f v).dma = c.dma := rfl
@[simp] theorem Chip.put_fw (f : Reg.Fld) (v : Nat) : (c.put f v).fw = c.fw := rfl
@[simp] theorem Chip.put_host (f : Reg.Fld) (v : Nat) : (c.put f v).host = c.host := rfl
@[simp] theorem Chip.put_trip (f : Reg.Fld) (v : Nat) : (c.put f v).trip = c.trip := rfl
@[simp] theorem Chip.put_power (f : Reg.Fld) (v : Nat) : (c.put f v).power = c.power := rfl
@[simp] theorem Chip.put_tap (f : Reg.Fld) (v : Nat) : (c.put f v).tap = c.tap := rfl
@[simp] theorem Chip.put_fresh (f : Reg.Fld) (v : Nat) : (c.put f v).fresh = c.fresh := rfl
@[simp] theorem Chip.put_out (f : Reg.Fld) (v : Nat) : (c.put f v).out = c.out := rfl

/-! ## dropRegs -/

@[simp] theorem Chip.dropRegs_time (p : Nat → Bool) : (c.dropRegs p).time = c.time := rfl
@[simp] theorem Chip.dropRegs_mem (p : Nat → Bool) : (c.dropRegs p).mem = c.mem := rfl
@[simp] theorem Chip.dropRegs_cores (p : Nat → Bool) : (c.dropRegs p).cores = c.cores := rfl
@[simp] theorem Chip.dropRegs_routers (p : Nat → Bool) : (c.dropRegs p).routers = c.routers := rfl
@[simp] theorem Chip.dropRegs_bridge (p : Nat → Bool) : (c.dropRegs p).bridge = c.bridge := rfl
@[simp] theorem Chip.dropRegs_ports (p : Nat → Bool) : (c.dropRegs p).ports = c.ports := rfl
@[simp] theorem Chip.dropRegs_syncCount (p : Nat → Bool) : (c.dropRegs p).syncCount = c.syncCount := rfl
@[simp] theorem Chip.dropRegs_chans (p : Nat → Bool) : (c.dropRegs p).chans = c.chans := rfl
@[simp] theorem Chip.dropRegs_links (p : Nat → Bool) : (c.dropRegs p).links = c.links := rfl
@[simp] theorem Chip.dropRegs_sync (p : Nat → Bool) : (c.dropRegs p).sync = c.sync := rfl
@[simp] theorem Chip.dropRegs_dead (p : Nat → Bool) : (c.dropRegs p).dead = c.dead := rfl
@[simp] theorem Chip.dropRegs_rst (p : Nat → Bool) : (c.dropRegs p).rst = c.rst := rfl
@[simp] theorem Chip.dropRegs_rot (p : Nat → Bool) : (c.dropRegs p).rot = c.rot := rfl
@[simp] theorem Chip.dropRegs_dune (p : Nat → Bool) : (c.dropRegs p).dune = c.dune := rfl
@[simp] theorem Chip.dropRegs_pools (p : Nat → Bool) : (c.dropRegs p).pools = c.pools := rfl
@[simp] theorem Chip.dropRegs_dma (p : Nat → Bool) : (c.dropRegs p).dma = c.dma := rfl
@[simp] theorem Chip.dropRegs_fw (p : Nat → Bool) : (c.dropRegs p).fw = c.fw := rfl
@[simp] theorem Chip.dropRegs_host (p : Nat → Bool) : (c.dropRegs p).host = c.host := rfl
@[simp] theorem Chip.dropRegs_trip (p : Nat → Bool) : (c.dropRegs p).trip = c.trip := rfl
@[simp] theorem Chip.dropRegs_power (p : Nat → Bool) : (c.dropRegs p).power = c.power := rfl
@[simp] theorem Chip.dropRegs_tap (p : Nat → Bool) : (c.dropRegs p).tap = c.tap := rfl
@[simp] theorem Chip.dropRegs_fresh (p : Nat → Bool) : (c.dropRegs p).fresh = c.fresh := rfl
@[simp] theorem Chip.dropRegs_out (p : Nat → Bool) : (c.dropRegs p).out = c.out := rfl

/-! ## setCore -/

@[simp] theorem Chip.setCore_time (n : Nat) (k : Core) : (c.setCore n k).time = c.time := rfl
@[simp] theorem Chip.setCore_regs (n : Nat) (k : Core) : (c.setCore n k).regs = c.regs := rfl
@[simp] theorem Chip.setCore_mem (n : Nat) (k : Core) : (c.setCore n k).mem = c.mem := rfl
@[simp] theorem Chip.setCore_routers (n : Nat) (k : Core) : (c.setCore n k).routers = c.routers := rfl
@[simp] theorem Chip.setCore_bridge (n : Nat) (k : Core) : (c.setCore n k).bridge = c.bridge := rfl
@[simp] theorem Chip.setCore_ports (n : Nat) (k : Core) : (c.setCore n k).ports = c.ports := rfl
@[simp] theorem Chip.setCore_syncCount (n : Nat) (k : Core) : (c.setCore n k).syncCount = c.syncCount := rfl
@[simp] theorem Chip.setCore_chans (n : Nat) (k : Core) : (c.setCore n k).chans = c.chans := rfl
@[simp] theorem Chip.setCore_links (n : Nat) (k : Core) : (c.setCore n k).links = c.links := rfl
@[simp] theorem Chip.setCore_sync (n : Nat) (k : Core) : (c.setCore n k).sync = c.sync := rfl
@[simp] theorem Chip.setCore_dead (n : Nat) (k : Core) : (c.setCore n k).dead = c.dead := rfl
@[simp] theorem Chip.setCore_rst (n : Nat) (k : Core) : (c.setCore n k).rst = c.rst := rfl
@[simp] theorem Chip.setCore_rot (n : Nat) (k : Core) : (c.setCore n k).rot = c.rot := rfl
@[simp] theorem Chip.setCore_dune (n : Nat) (k : Core) : (c.setCore n k).dune = c.dune := rfl
@[simp] theorem Chip.setCore_pools (n : Nat) (k : Core) : (c.setCore n k).pools = c.pools := rfl
@[simp] theorem Chip.setCore_dma (n : Nat) (k : Core) : (c.setCore n k).dma = c.dma := rfl
@[simp] theorem Chip.setCore_fw (n : Nat) (k : Core) : (c.setCore n k).fw = c.fw := rfl
@[simp] theorem Chip.setCore_host (n : Nat) (k : Core) : (c.setCore n k).host = c.host := rfl
@[simp] theorem Chip.setCore_trip (n : Nat) (k : Core) : (c.setCore n k).trip = c.trip := rfl
@[simp] theorem Chip.setCore_power (n : Nat) (k : Core) : (c.setCore n k).power = c.power := rfl
@[simp] theorem Chip.setCore_tap (n : Nat) (k : Core) : (c.setCore n k).tap = c.tap := rfl
@[simp] theorem Chip.setCore_fresh (n : Nat) (k : Core) : (c.setCore n k).fresh = c.fresh := rfl
@[simp] theorem Chip.setCore_out (n : Nat) (k : Core) : (c.setCore n k).out = c.out := rfl

/-! ## setRouter -/

@[simp] theorem Chip.setRouter_time (n : Nat) (k : Router) : (c.setRouter n k).time = c.time := rfl
@[simp] theorem Chip.setRouter_regs (n : Nat) (k : Router) : (c.setRouter n k).regs = c.regs := rfl
@[simp] theorem Chip.setRouter_mem (n : Nat) (k : Router) : (c.setRouter n k).mem = c.mem := rfl
@[simp] theorem Chip.setRouter_cores (n : Nat) (k : Router) : (c.setRouter n k).cores = c.cores := rfl
@[simp] theorem Chip.setRouter_bridge (n : Nat) (k : Router) : (c.setRouter n k).bridge = c.bridge := rfl
@[simp] theorem Chip.setRouter_ports (n : Nat) (k : Router) : (c.setRouter n k).ports = c.ports := rfl
@[simp] theorem Chip.setRouter_syncCount (n : Nat) (k : Router) : (c.setRouter n k).syncCount = c.syncCount := rfl
@[simp] theorem Chip.setRouter_chans (n : Nat) (k : Router) : (c.setRouter n k).chans = c.chans := rfl
@[simp] theorem Chip.setRouter_links (n : Nat) (k : Router) : (c.setRouter n k).links = c.links := rfl
@[simp] theorem Chip.setRouter_sync (n : Nat) (k : Router) : (c.setRouter n k).sync = c.sync := rfl
@[simp] theorem Chip.setRouter_dead (n : Nat) (k : Router) : (c.setRouter n k).dead = c.dead := rfl
@[simp] theorem Chip.setRouter_rst (n : Nat) (k : Router) : (c.setRouter n k).rst = c.rst := rfl
@[simp] theorem Chip.setRouter_rot (n : Nat) (k : Router) : (c.setRouter n k).rot = c.rot := rfl
@[simp] theorem Chip.setRouter_dune (n : Nat) (k : Router) : (c.setRouter n k).dune = c.dune := rfl
@[simp] theorem Chip.setRouter_pools (n : Nat) (k : Router) : (c.setRouter n k).pools = c.pools := rfl
@[simp] theorem Chip.setRouter_dma (n : Nat) (k : Router) : (c.setRouter n k).dma = c.dma := rfl
@[simp] theorem Chip.setRouter_fw (n : Nat) (k : Router) : (c.setRouter n k).fw = c.fw := rfl
@[simp] theorem Chip.setRouter_host (n : Nat) (k : Router) : (c.setRouter n k).host = c.host := rfl
@[simp] theorem Chip.setRouter_trip (n : Nat) (k : Router) : (c.setRouter n k).trip = c.trip := rfl
@[simp] theorem Chip.setRouter_power (n : Nat) (k : Router) : (c.setRouter n k).power = c.power := rfl
@[simp] theorem Chip.setRouter_tap (n : Nat) (k : Router) : (c.setRouter n k).tap = c.tap := rfl
@[simp] theorem Chip.setRouter_fresh (n : Nat) (k : Router) : (c.setRouter n k).fresh = c.fresh := rfl
@[simp] theorem Chip.setRouter_out (n : Nat) (k : Router) : (c.setRouter n k).out = c.out := rfl

/-! ## setPort -/

@[simp] theorem Chip.setPort_time (n : Nat) (k : PortSt) : (c.setPort n k).time = c.time := rfl
@[simp] theorem Chip.setPort_regs (n : Nat) (k : PortSt) : (c.setPort n k).regs = c.regs := rfl
@[simp] theorem Chip.setPort_mem (n : Nat) (k : PortSt) : (c.setPort n k).mem = c.mem := rfl
@[simp] theorem Chip.setPort_cores (n : Nat) (k : PortSt) : (c.setPort n k).cores = c.cores := rfl
@[simp] theorem Chip.setPort_routers (n : Nat) (k : PortSt) : (c.setPort n k).routers = c.routers := rfl
@[simp] theorem Chip.setPort_bridge (n : Nat) (k : PortSt) : (c.setPort n k).bridge = c.bridge := rfl
@[simp] theorem Chip.setPort_syncCount (n : Nat) (k : PortSt) : (c.setPort n k).syncCount = c.syncCount := rfl
@[simp] theorem Chip.setPort_chans (n : Nat) (k : PortSt) : (c.setPort n k).chans = c.chans := rfl
@[simp] theorem Chip.setPort_links (n : Nat) (k : PortSt) : (c.setPort n k).links = c.links := rfl
@[simp] theorem Chip.setPort_sync (n : Nat) (k : PortSt) : (c.setPort n k).sync = c.sync := rfl
@[simp] theorem Chip.setPort_dead (n : Nat) (k : PortSt) : (c.setPort n k).dead = c.dead := rfl
@[simp] theorem Chip.setPort_rst (n : Nat) (k : PortSt) : (c.setPort n k).rst = c.rst := rfl
@[simp] theorem Chip.setPort_rot (n : Nat) (k : PortSt) : (c.setPort n k).rot = c.rot := rfl
@[simp] theorem Chip.setPort_dune (n : Nat) (k : PortSt) : (c.setPort n k).dune = c.dune := rfl
@[simp] theorem Chip.setPort_pools (n : Nat) (k : PortSt) : (c.setPort n k).pools = c.pools := rfl
@[simp] theorem Chip.setPort_dma (n : Nat) (k : PortSt) : (c.setPort n k).dma = c.dma := rfl
@[simp] theorem Chip.setPort_fw (n : Nat) (k : PortSt) : (c.setPort n k).fw = c.fw := rfl
@[simp] theorem Chip.setPort_host (n : Nat) (k : PortSt) : (c.setPort n k).host = c.host := rfl
@[simp] theorem Chip.setPort_trip (n : Nat) (k : PortSt) : (c.setPort n k).trip = c.trip := rfl
@[simp] theorem Chip.setPort_power (n : Nat) (k : PortSt) : (c.setPort n k).power = c.power := rfl
@[simp] theorem Chip.setPort_tap (n : Nat) (k : PortSt) : (c.setPort n k).tap = c.tap := rfl
@[simp] theorem Chip.setPort_fresh (n : Nat) (k : PortSt) : (c.setPort n k).fresh = c.fresh := rfl
@[simp] theorem Chip.setPort_out (n : Nat) (k : PortSt) : (c.setPort n k).out = c.out := rfl

/-! ## setChan -/

@[simp] theorem Chip.setChan_time (n : Nat) (k : ChanSt) : (c.setChan n k).time = c.time := rfl
@[simp] theorem Chip.setChan_regs (n : Nat) (k : ChanSt) : (c.setChan n k).regs = c.regs := rfl
@[simp] theorem Chip.setChan_mem (n : Nat) (k : ChanSt) : (c.setChan n k).mem = c.mem := rfl
@[simp] theorem Chip.setChan_cores (n : Nat) (k : ChanSt) : (c.setChan n k).cores = c.cores := rfl
@[simp] theorem Chip.setChan_routers (n : Nat) (k : ChanSt) : (c.setChan n k).routers = c.routers := rfl
@[simp] theorem Chip.setChan_bridge (n : Nat) (k : ChanSt) : (c.setChan n k).bridge = c.bridge := rfl
@[simp] theorem Chip.setChan_ports (n : Nat) (k : ChanSt) : (c.setChan n k).ports = c.ports := rfl
@[simp] theorem Chip.setChan_syncCount (n : Nat) (k : ChanSt) : (c.setChan n k).syncCount = c.syncCount := rfl
@[simp] theorem Chip.setChan_links (n : Nat) (k : ChanSt) : (c.setChan n k).links = c.links := rfl
@[simp] theorem Chip.setChan_sync (n : Nat) (k : ChanSt) : (c.setChan n k).sync = c.sync := rfl
@[simp] theorem Chip.setChan_dead (n : Nat) (k : ChanSt) : (c.setChan n k).dead = c.dead := rfl
@[simp] theorem Chip.setChan_rst (n : Nat) (k : ChanSt) : (c.setChan n k).rst = c.rst := rfl
@[simp] theorem Chip.setChan_rot (n : Nat) (k : ChanSt) : (c.setChan n k).rot = c.rot := rfl
@[simp] theorem Chip.setChan_dune (n : Nat) (k : ChanSt) : (c.setChan n k).dune = c.dune := rfl
@[simp] theorem Chip.setChan_pools (n : Nat) (k : ChanSt) : (c.setChan n k).pools = c.pools := rfl
@[simp] theorem Chip.setChan_dma (n : Nat) (k : ChanSt) : (c.setChan n k).dma = c.dma := rfl
@[simp] theorem Chip.setChan_fw (n : Nat) (k : ChanSt) : (c.setChan n k).fw = c.fw := rfl
@[simp] theorem Chip.setChan_host (n : Nat) (k : ChanSt) : (c.setChan n k).host = c.host := rfl
@[simp] theorem Chip.setChan_trip (n : Nat) (k : ChanSt) : (c.setChan n k).trip = c.trip := rfl
@[simp] theorem Chip.setChan_power (n : Nat) (k : ChanSt) : (c.setChan n k).power = c.power := rfl
@[simp] theorem Chip.setChan_tap (n : Nat) (k : ChanSt) : (c.setChan n k).tap = c.tap := rfl
@[simp] theorem Chip.setChan_fresh (n : Nat) (k : ChanSt) : (c.setChan n k).fresh = c.fresh := rfl
@[simp] theorem Chip.setChan_out (n : Nat) (k : ChanSt) : (c.setChan n k).out = c.out := rfl

/-! ## setLink -/

@[simp] theorem Chip.setLink_time (n : Nat) (k : LinkSt) : (c.setLink n k).time = c.time := rfl
@[simp] theorem Chip.setLink_regs (n : Nat) (k : LinkSt) : (c.setLink n k).regs = c.regs := rfl
@[simp] theorem Chip.setLink_mem (n : Nat) (k : LinkSt) : (c.setLink n k).mem = c.mem := rfl
@[simp] theorem Chip.setLink_cores (n : Nat) (k : LinkSt) : (c.setLink n k).cores = c.cores := rfl
@[simp] theorem Chip.setLink_routers (n : Nat) (k : LinkSt) : (c.setLink n k).routers = c.routers := rfl
@[simp] theorem Chip.setLink_bridge (n : Nat) (k : LinkSt) : (c.setLink n k).bridge = c.bridge := rfl
@[simp] theorem Chip.setLink_ports (n : Nat) (k : LinkSt) : (c.setLink n k).ports = c.ports := rfl
@[simp] theorem Chip.setLink_syncCount (n : Nat) (k : LinkSt) : (c.setLink n k).syncCount = c.syncCount := rfl
@[simp] theorem Chip.setLink_chans (n : Nat) (k : LinkSt) : (c.setLink n k).chans = c.chans := rfl
@[simp] theorem Chip.setLink_sync (n : Nat) (k : LinkSt) : (c.setLink n k).sync = c.sync := rfl
@[simp] theorem Chip.setLink_dead (n : Nat) (k : LinkSt) : (c.setLink n k).dead = c.dead := rfl
@[simp] theorem Chip.setLink_rst (n : Nat) (k : LinkSt) : (c.setLink n k).rst = c.rst := rfl
@[simp] theorem Chip.setLink_rot (n : Nat) (k : LinkSt) : (c.setLink n k).rot = c.rot := rfl
@[simp] theorem Chip.setLink_dune (n : Nat) (k : LinkSt) : (c.setLink n k).dune = c.dune := rfl
@[simp] theorem Chip.setLink_pools (n : Nat) (k : LinkSt) : (c.setLink n k).pools = c.pools := rfl
@[simp] theorem Chip.setLink_dma (n : Nat) (k : LinkSt) : (c.setLink n k).dma = c.dma := rfl
@[simp] theorem Chip.setLink_fw (n : Nat) (k : LinkSt) : (c.setLink n k).fw = c.fw := rfl
@[simp] theorem Chip.setLink_host (n : Nat) (k : LinkSt) : (c.setLink n k).host = c.host := rfl
@[simp] theorem Chip.setLink_trip (n : Nat) (k : LinkSt) : (c.setLink n k).trip = c.trip := rfl
@[simp] theorem Chip.setLink_power (n : Nat) (k : LinkSt) : (c.setLink n k).power = c.power := rfl
@[simp] theorem Chip.setLink_tap (n : Nat) (k : LinkSt) : (c.setLink n k).tap = c.tap := rfl
@[simp] theorem Chip.setLink_fresh (n : Nat) (k : LinkSt) : (c.setLink n k).fresh = c.fresh := rfl
@[simp] theorem Chip.setLink_out (n : Nat) (k : LinkSt) : (c.setLink n k).out = c.out := rfl

/-! ## setRing -/

@[simp] theorem Chip.setRing_time (n : Nat) (k : Ring) : (c.setRing n k).time = c.time := rfl
@[simp] theorem Chip.setRing_regs (n : Nat) (k : Ring) : (c.setRing n k).regs = c.regs := rfl
@[simp] theorem Chip.setRing_mem (n : Nat) (k : Ring) : (c.setRing n k).mem = c.mem := rfl
@[simp] theorem Chip.setRing_cores (n : Nat) (k : Ring) : (c.setRing n k).cores = c.cores := rfl
@[simp] theorem Chip.setRing_routers (n : Nat) (k : Ring) : (c.setRing n k).routers = c.routers := rfl
@[simp] theorem Chip.setRing_bridge (n : Nat) (k : Ring) : (c.setRing n k).bridge = c.bridge := rfl
@[simp] theorem Chip.setRing_ports (n : Nat) (k : Ring) : (c.setRing n k).ports = c.ports := rfl
@[simp] theorem Chip.setRing_syncCount (n : Nat) (k : Ring) : (c.setRing n k).syncCount = c.syncCount := rfl
@[simp] theorem Chip.setRing_chans (n : Nat) (k : Ring) : (c.setRing n k).chans = c.chans := rfl
@[simp] theorem Chip.setRing_links (n : Nat) (k : Ring) : (c.setRing n k).links = c.links := rfl
@[simp] theorem Chip.setRing_sync (n : Nat) (k : Ring) : (c.setRing n k).sync = c.sync := rfl
@[simp] theorem Chip.setRing_dead (n : Nat) (k : Ring) : (c.setRing n k).dead = c.dead := rfl
@[simp] theorem Chip.setRing_rst (n : Nat) (k : Ring) : (c.setRing n k).rst = c.rst := rfl
@[simp] theorem Chip.setRing_rot (n : Nat) (k : Ring) : (c.setRing n k).rot = c.rot := rfl
@[simp] theorem Chip.setRing_dune (n : Nat) (k : Ring) : (c.setRing n k).dune = c.dune := rfl
@[simp] theorem Chip.setRing_pools (n : Nat) (k : Ring) : (c.setRing n k).pools = c.pools := rfl
@[simp] theorem Chip.setRing_dma (n : Nat) (k : Ring) : (c.setRing n k).dma = c.dma := rfl
@[simp] theorem Chip.setRing_fw (n : Nat) (k : Ring) : (c.setRing n k).fw = c.fw := rfl
@[simp] theorem Chip.setRing_trip (n : Nat) (k : Ring) : (c.setRing n k).trip = c.trip := rfl
@[simp] theorem Chip.setRing_power (n : Nat) (k : Ring) : (c.setRing n k).power = c.power := rfl
@[simp] theorem Chip.setRing_tap (n : Nat) (k : Ring) : (c.setRing n k).tap = c.tap := rfl
@[simp] theorem Chip.setRing_fresh (n : Nat) (k : Ring) : (c.setRing n k).fresh = c.fresh := rfl
@[simp] theorem Chip.setRing_out (n : Nat) (k : Ring) : (c.setRing n k).out = c.out := rfl

/-! ## setJob -/

@[simp] theorem Chip.setJob_time (n : Nat) (k : Job) : (c.setJob n k).time = c.time := rfl
@[simp] theorem Chip.setJob_regs (n : Nat) (k : Job) : (c.setJob n k).regs = c.regs := rfl
@[simp] theorem Chip.setJob_mem (n : Nat) (k : Job) : (c.setJob n k).mem = c.mem := rfl
@[simp] theorem Chip.setJob_cores (n : Nat) (k : Job) : (c.setJob n k).cores = c.cores := rfl
@[simp] theorem Chip.setJob_routers (n : Nat) (k : Job) : (c.setJob n k).routers = c.routers := rfl
@[simp] theorem Chip.setJob_bridge (n : Nat) (k : Job) : (c.setJob n k).bridge = c.bridge := rfl
@[simp] theorem Chip.setJob_ports (n : Nat) (k : Job) : (c.setJob n k).ports = c.ports := rfl
@[simp] theorem Chip.setJob_syncCount (n : Nat) (k : Job) : (c.setJob n k).syncCount = c.syncCount := rfl
@[simp] theorem Chip.setJob_chans (n : Nat) (k : Job) : (c.setJob n k).chans = c.chans := rfl
@[simp] theorem Chip.setJob_links (n : Nat) (k : Job) : (c.setJob n k).links = c.links := rfl
@[simp] theorem Chip.setJob_sync (n : Nat) (k : Job) : (c.setJob n k).sync = c.sync := rfl
@[simp] theorem Chip.setJob_dead (n : Nat) (k : Job) : (c.setJob n k).dead = c.dead := rfl
@[simp] theorem Chip.setJob_rst (n : Nat) (k : Job) : (c.setJob n k).rst = c.rst := rfl
@[simp] theorem Chip.setJob_rot (n : Nat) (k : Job) : (c.setJob n k).rot = c.rot := rfl
@[simp] theorem Chip.setJob_dune (n : Nat) (k : Job) : (c.setJob n k).dune = c.dune := rfl
@[simp] theorem Chip.setJob_pools (n : Nat) (k : Job) : (c.setJob n k).pools = c.pools := rfl
@[simp] theorem Chip.setJob_dma (n : Nat) (k : Job) : (c.setJob n k).dma = c.dma := rfl
@[simp] theorem Chip.setJob_host (n : Nat) (k : Job) : (c.setJob n k).host = c.host := rfl
@[simp] theorem Chip.setJob_trip (n : Nat) (k : Job) : (c.setJob n k).trip = c.trip := rfl
@[simp] theorem Chip.setJob_power (n : Nat) (k : Job) : (c.setJob n k).power = c.power := rfl
@[simp] theorem Chip.setJob_tap (n : Nat) (k : Job) : (c.setJob n k).tap = c.tap := rfl
@[simp] theorem Chip.setJob_fresh (n : Nat) (k : Job) : (c.setJob n k).fresh = c.fresh := rfl
@[simp] theorem Chip.setJob_out (n : Nat) (k : Job) : (c.setJob n k).out = c.out := rfl

/-! ## emit -/

@[simp] theorem Chip.emit_time (o : Out) : (c.emit o).time = c.time := rfl
@[simp] theorem Chip.emit_regs (o : Out) : (c.emit o).regs = c.regs := rfl
@[simp] theorem Chip.emit_mem (o : Out) : (c.emit o).mem = c.mem := rfl
@[simp] theorem Chip.emit_cores (o : Out) : (c.emit o).cores = c.cores := rfl
@[simp] theorem Chip.emit_routers (o : Out) : (c.emit o).routers = c.routers := rfl
@[simp] theorem Chip.emit_bridge (o : Out) : (c.emit o).bridge = c.bridge := rfl
@[simp] theorem Chip.emit_ports (o : Out) : (c.emit o).ports = c.ports := rfl
@[simp] theorem Chip.emit_syncCount (o : Out) : (c.emit o).syncCount = c.syncCount := rfl
@[simp] theorem Chip.emit_chans (o : Out) : (c.emit o).chans = c.chans := rfl
@[simp] theorem Chip.emit_links (o : Out) : (c.emit o).links = c.links := rfl
@[simp] theorem Chip.emit_sync (o : Out) : (c.emit o).sync = c.sync := rfl
@[simp] theorem Chip.emit_dead (o : Out) : (c.emit o).dead = c.dead := rfl
@[simp] theorem Chip.emit_rst (o : Out) : (c.emit o).rst = c.rst := rfl
@[simp] theorem Chip.emit_rot (o : Out) : (c.emit o).rot = c.rot := rfl
@[simp] theorem Chip.emit_dune (o : Out) : (c.emit o).dune = c.dune := rfl
@[simp] theorem Chip.emit_pools (o : Out) : (c.emit o).pools = c.pools := rfl
@[simp] theorem Chip.emit_dma (o : Out) : (c.emit o).dma = c.dma := rfl
@[simp] theorem Chip.emit_fw (o : Out) : (c.emit o).fw = c.fw := rfl
@[simp] theorem Chip.emit_host (o : Out) : (c.emit o).host = c.host := rfl
@[simp] theorem Chip.emit_trip (o : Out) : (c.emit o).trip = c.trip := rfl
@[simp] theorem Chip.emit_power (o : Out) : (c.emit o).power = c.power := rfl
@[simp] theorem Chip.emit_tap (o : Out) : (c.emit o).tap = c.tap := rfl
@[simp] theorem Chip.emit_fresh (o : Out) : (c.emit o).fresh = c.fresh := rfl

/-! ## wrMem -/

@[simp] theorem Chip.wrMem_time (a n v : Nat) : (c.wrMem a n v).time = c.time := rfl
@[simp] theorem Chip.wrMem_regs (a n v : Nat) : (c.wrMem a n v).regs = c.regs := rfl
@[simp] theorem Chip.wrMem_cores (a n v : Nat) : (c.wrMem a n v).cores = c.cores := rfl
@[simp] theorem Chip.wrMem_routers (a n v : Nat) : (c.wrMem a n v).routers = c.routers := rfl
@[simp] theorem Chip.wrMem_bridge (a n v : Nat) : (c.wrMem a n v).bridge = c.bridge := rfl
@[simp] theorem Chip.wrMem_ports (a n v : Nat) : (c.wrMem a n v).ports = c.ports := rfl
@[simp] theorem Chip.wrMem_syncCount (a n v : Nat) : (c.wrMem a n v).syncCount = c.syncCount := rfl
@[simp] theorem Chip.wrMem_chans (a n v : Nat) : (c.wrMem a n v).chans = c.chans := rfl
@[simp] theorem Chip.wrMem_links (a n v : Nat) : (c.wrMem a n v).links = c.links := rfl
@[simp] theorem Chip.wrMem_sync (a n v : Nat) : (c.wrMem a n v).sync = c.sync := rfl
@[simp] theorem Chip.wrMem_dead (a n v : Nat) : (c.wrMem a n v).dead = c.dead := rfl
@[simp] theorem Chip.wrMem_rst (a n v : Nat) : (c.wrMem a n v).rst = c.rst := rfl
@[simp] theorem Chip.wrMem_rot (a n v : Nat) : (c.wrMem a n v).rot = c.rot := rfl
@[simp] theorem Chip.wrMem_dune (a n v : Nat) : (c.wrMem a n v).dune = c.dune := rfl
@[simp] theorem Chip.wrMem_pools (a n v : Nat) : (c.wrMem a n v).pools = c.pools := rfl
@[simp] theorem Chip.wrMem_dma (a n v : Nat) : (c.wrMem a n v).dma = c.dma := rfl
@[simp] theorem Chip.wrMem_fw (a n v : Nat) : (c.wrMem a n v).fw = c.fw := rfl
@[simp] theorem Chip.wrMem_host (a n v : Nat) : (c.wrMem a n v).host = c.host := rfl
@[simp] theorem Chip.wrMem_trip (a n v : Nat) : (c.wrMem a n v).trip = c.trip := rfl
@[simp] theorem Chip.wrMem_power (a n v : Nat) : (c.wrMem a n v).power = c.power := rfl
@[simp] theorem Chip.wrMem_tap (a n v : Nat) : (c.wrMem a n v).tap = c.tap := rfl
@[simp] theorem Chip.wrMem_fresh (a n v : Nat) : (c.wrMem a n v).fresh = c.fresh := rfl
@[simp] theorem Chip.wrMem_out (a n v : Nat) : (c.wrMem a n v).out = c.out := rfl

/-! ## wrBytes -/

@[simp] theorem Chip.wrBytes_time (a : Nat) (bs : List Byte) : (c.wrBytes a bs).time = c.time := rfl
@[simp] theorem Chip.wrBytes_regs (a : Nat) (bs : List Byte) : (c.wrBytes a bs).regs = c.regs := rfl
@[simp] theorem Chip.wrBytes_cores (a : Nat) (bs : List Byte) : (c.wrBytes a bs).cores = c.cores := rfl
@[simp] theorem Chip.wrBytes_routers (a : Nat) (bs : List Byte) : (c.wrBytes a bs).routers = c.routers := rfl
@[simp] theorem Chip.wrBytes_bridge (a : Nat) (bs : List Byte) : (c.wrBytes a bs).bridge = c.bridge := rfl
@[simp] theorem Chip.wrBytes_ports (a : Nat) (bs : List Byte) : (c.wrBytes a bs).ports = c.ports := rfl
@[simp] theorem Chip.wrBytes_syncCount (a : Nat) (bs : List Byte) : (c.wrBytes a bs).syncCount = c.syncCount := rfl
@[simp] theorem Chip.wrBytes_chans (a : Nat) (bs : List Byte) : (c.wrBytes a bs).chans = c.chans := rfl
@[simp] theorem Chip.wrBytes_links (a : Nat) (bs : List Byte) : (c.wrBytes a bs).links = c.links := rfl
@[simp] theorem Chip.wrBytes_sync (a : Nat) (bs : List Byte) : (c.wrBytes a bs).sync = c.sync := rfl
@[simp] theorem Chip.wrBytes_dead (a : Nat) (bs : List Byte) : (c.wrBytes a bs).dead = c.dead := rfl
@[simp] theorem Chip.wrBytes_rst (a : Nat) (bs : List Byte) : (c.wrBytes a bs).rst = c.rst := rfl
@[simp] theorem Chip.wrBytes_rot (a : Nat) (bs : List Byte) : (c.wrBytes a bs).rot = c.rot := rfl
@[simp] theorem Chip.wrBytes_dune (a : Nat) (bs : List Byte) : (c.wrBytes a bs).dune = c.dune := rfl
@[simp] theorem Chip.wrBytes_pools (a : Nat) (bs : List Byte) : (c.wrBytes a bs).pools = c.pools := rfl
@[simp] theorem Chip.wrBytes_dma (a : Nat) (bs : List Byte) : (c.wrBytes a bs).dma = c.dma := rfl
@[simp] theorem Chip.wrBytes_fw (a : Nat) (bs : List Byte) : (c.wrBytes a bs).fw = c.fw := rfl
@[simp] theorem Chip.wrBytes_host (a : Nat) (bs : List Byte) : (c.wrBytes a bs).host = c.host := rfl
@[simp] theorem Chip.wrBytes_trip (a : Nat) (bs : List Byte) : (c.wrBytes a bs).trip = c.trip := rfl
@[simp] theorem Chip.wrBytes_power (a : Nat) (bs : List Byte) : (c.wrBytes a bs).power = c.power := rfl
@[simp] theorem Chip.wrBytes_tap (a : Nat) (bs : List Byte) : (c.wrBytes a bs).tap = c.tap := rfl
@[simp] theorem Chip.wrBytes_fresh (a : Nat) (bs : List Byte) : (c.wrBytes a bs).fresh = c.fresh := rfl
@[simp] theorem Chip.wrBytes_out (a : Nat) (bs : List Byte) : (c.wrBytes a bs).out = c.out := rfl

/-! ## logged -/

@[simp] theorem Chip.logged_time (code subject detail : Nat) (sticky : Bool) : (c.logged code subject detail sticky).time = c.time := rfl
@[simp] theorem Chip.logged_regs (code subject detail : Nat) (sticky : Bool) : (c.logged code subject detail sticky).regs = c.regs := rfl
@[simp] theorem Chip.logged_mem (code subject detail : Nat) (sticky : Bool) : (c.logged code subject detail sticky).mem = c.mem := rfl
@[simp] theorem Chip.logged_cores (code subject detail : Nat) (sticky : Bool) : (c.logged code subject detail sticky).cores = c.cores := rfl
@[simp] theorem Chip.logged_routers (code subject detail : Nat) (sticky : Bool) : (c.logged code subject detail sticky).routers = c.routers := rfl
@[simp] theorem Chip.logged_bridge (code subject detail : Nat) (sticky : Bool) : (c.logged code subject detail sticky).bridge = c.bridge := rfl
@[simp] theorem Chip.logged_ports (code subject detail : Nat) (sticky : Bool) : (c.logged code subject detail sticky).ports = c.ports := rfl
@[simp] theorem Chip.logged_syncCount (code subject detail : Nat) (sticky : Bool) : (c.logged code subject detail sticky).syncCount = c.syncCount := rfl
@[simp] theorem Chip.logged_chans (code subject detail : Nat) (sticky : Bool) : (c.logged code subject detail sticky).chans = c.chans := rfl
@[simp] theorem Chip.logged_links (code subject detail : Nat) (sticky : Bool) : (c.logged code subject detail sticky).links = c.links := rfl
@[simp] theorem Chip.logged_sync (code subject detail : Nat) (sticky : Bool) : (c.logged code subject detail sticky).sync = c.sync := rfl
@[simp] theorem Chip.logged_dead (code subject detail : Nat) (sticky : Bool) : (c.logged code subject detail sticky).dead = c.dead := rfl
@[simp] theorem Chip.logged_rst (code subject detail : Nat) (sticky : Bool) : (c.logged code subject detail sticky).rst = c.rst := rfl
@[simp] theorem Chip.logged_rot (code subject detail : Nat) (sticky : Bool) : (c.logged code subject detail sticky).rot = c.rot := rfl
@[simp] theorem Chip.logged_dune (code subject detail : Nat) (sticky : Bool) : (c.logged code subject detail sticky).dune = c.dune := rfl
@[simp] theorem Chip.logged_pools (code subject detail : Nat) (sticky : Bool) : (c.logged code subject detail sticky).pools = c.pools := rfl
@[simp] theorem Chip.logged_dma (code subject detail : Nat) (sticky : Bool) : (c.logged code subject detail sticky).dma = c.dma := rfl
@[simp] theorem Chip.logged_host (code subject detail : Nat) (sticky : Bool) : (c.logged code subject detail sticky).host = c.host := rfl
@[simp] theorem Chip.logged_trip (code subject detail : Nat) (sticky : Bool) : (c.logged code subject detail sticky).trip = c.trip := rfl
@[simp] theorem Chip.logged_power (code subject detail : Nat) (sticky : Bool) : (c.logged code subject detail sticky).power = c.power := rfl
@[simp] theorem Chip.logged_tap (code subject detail : Nat) (sticky : Bool) : (c.logged code subject detail sticky).tap = c.tap := rfl
@[simp] theorem Chip.logged_fresh (code subject detail : Nat) (sticky : Bool) : (c.logged code subject detail sticky).fresh = c.fresh := rfl
@[simp] theorem Chip.logged_out (code subject detail : Nat) (sticky : Bool) : (c.logged code subject detail sticky).out = c.out := rfl

@[simp] theorem Chip.setRing_host_rings (n : Nat) (k : Ring) : (c.setRing n k).host.rings = smSet c.host.rings n k := rfl
@[simp] theorem Chip.setJob_fw_jobs (n : Nat) (k : Job) : (c.setJob n k).fw.jobs = smSet c.fw.jobs n k := rfl
@[simp] theorem Chip.setCore_cores (n : Nat) (k : Core) : (c.setCore n k).cores = smSet c.cores n k := rfl
@[simp] theorem Chip.emit_out (o : Out) : (c.emit o).out = c.out ++ [o] := rfl
@[simp] theorem Chip.wrMem_mem (a n v : Nat) : (c.wrMem a n v).mem = c.mem.writeNat a n v := rfl
@[simp] theorem Chip.wrBytes_mem (a : Nat) (bs : List Byte) : (c.wrBytes a bs).mem = c.mem.writeBytes a bs := rfl

/-! ## The other names of these updates -/

theorem Chip.set_put (f : Reg.Fld) : c.set f = c.put f 1 := rfl
theorem Chip.clr_put (f : Reg.Fld) : c.clr f = c.put f 0 := rfl
theorem Chip.bump_put (f : Reg.Fld) (n : Nat) : c.bump f n = c.put f (min (c.get f + n) (2 ^ (f.hi + 1 - f.lo) - 1)) := rfl
theorem Chip.modCore_set (n : Nat) (f : Core → Core) : c.modCore n f = c.setCore n (f (c.core n)) := rfl
theorem Chip.modPort_set (n : Nat) (f : PortSt → PortSt) : c.modPort n f = c.setPort n (f (c.port n)) := rfl
theorem Chip.modChan_set (n : Nat) (f : ChanSt → ChanSt) : c.modChan n f = c.setChan n (f (c.chan n)) := rfl
theorem Chip.modLink_set (n : Nat) (f : LinkSt → LinkSt) : c.modLink n f = c.setLink n (f (c.link n)) := rfl
theorem Chip.modRouter_set (n : Nat) (f : Router → Router) : c.modRouter n f = c.setRouter n (f (c.router n)) := rfl

/-! ## Records by number -/

@[simp] theorem Chip.core_setCore_same (n : Nat) (k : Core) : (c.setCore n k).core n = k := smGet_smSet_same _ _ _ _
theorem Chip.core_setCore_other (n m : Nat) (k : Core) (h : m ≠ n) : (c.setCore n k).core m = c.core m := smGet_smSet_other _ _ _ _ _ h
@[simp] theorem Chip.router_setRouter_same (n : Nat) (k : Router) : (c.setRouter n k).router n = k := smGet_smSet_same _ _ _ _
theorem Chip.router_setRouter_other (n m : Nat) (k : Router) (h : m ≠ n) : (c.setRouter n k).router m = c.router m := smGet_smSet_other _ _ _ _ _ h
@[simp] theorem Chip.port_setPort_same (n : Nat) (k : PortSt) : (c.setPort n k).port n = k := smGet_smSet_same _ _ _ _
theorem Chip.port_setPort_other (n m : Nat) (k : PortSt) (h : m ≠ n) : (c.setPort n k).port m = c.port m := smGet_smSet_other _ _ _ _ _ h
@[simp] theorem Chip.chan_setChan_same (n : Nat) (k : ChanSt) : (c.setChan n k).chan n = k := smGet_smSet_same _ _ _ _
theorem Chip.chan_setChan_other (n m : Nat) (k : ChanSt) (h : m ≠ n) : (c.setChan n k).chan m = c.chan m := smGet_smSet_other _ _ _ _ _ h
@[simp] theorem Chip.link_setLink_same (n : Nat) (k : LinkSt) : (c.setLink n k).link n = k := smGet_smSet_same _ _ _ _
theorem Chip.link_setLink_other (n m : Nat) (k : LinkSt) (h : m ≠ n) : (c.setLink n k).link m = c.link m := smGet_smSet_other _ _ _ _ _ h
@[simp] theorem Chip.ring_setRing_same (n : Nat) (k : Ring) : (c.setRing n k).ring n = k := smGet_smSet_same _ _ _ _
theorem Chip.ring_setRing_other (n m : Nat) (k : Ring) (h : m ≠ n) : (c.setRing n k).ring m = c.ring m := smGet_smSet_other _ _ _ _ _ h
@[simp] theorem Chip.job_setJob_same (n : Nat) (k : Job) : (c.setJob n k).job n = k := smGet_smSet_same _ _ _ _
theorem Chip.job_setJob_other (n m : Nat) (k : Job) (h : m ≠ n) : (c.setJob n k).job m = c.job m := smGet_smSet_other _ _ _ _ _ h

/-! ## Reads through an update of something else -/

@[simp] theorem Chip.core_wr (a : Nat) (w : Word) (x : Nat) : (c.wr a w).core x = c.core x := rfl
@[simp] theorem Chip.router_wr (a : Nat) (w : Word) (x : Nat) : (c.wr a w).router x = c.router x := rfl
@[simp] theorem Chip.port_wr (a : Nat) (w : Word) (x : Nat) : (c.wr a w).port x = c.port x := rfl
@[simp] theorem Chip.chan_wr (a : Nat) (w : Word) (x : Nat) : (c.wr a w).chan x = c.chan x := rfl
@[simp] theorem Chip.link_wr (a : Nat) (w : Word) (x : Nat) : (c.wr a w).link x = c.link x := rfl
@[simp] theorem Chip.ring_wr (a : Nat) (w : Word) (x : Nat) : (c.wr a w).ring x = c.ring x := rfl
@[simp] theorem Chip.job_wr (a : Nat) (w : Word) (x : Nat) : (c.wr a w).job x = c.job x := rfl
@[simp] theorem Chip.core_put (f : Reg.Fld) (v : Nat) (x : Nat) : (c.put f v).core x = c.core x := rfl
@[simp] theorem Chip.router_put (f : Reg.Fld) (v : Nat) (x : Nat) : (c.put f v).router x = c.router x := rfl
@[simp] theorem Chip.port_put (f : Reg.Fld) (v : Nat) (x : Nat) : (c.put f v).port x = c.port x := rfl
@[simp] theorem Chip.chan_put (f : Reg.Fld) (v : Nat) (x : Nat) : (c.put f v).chan x = c.chan x := rfl
@[simp] theorem Chip.link_put (f : Reg.Fld) (v : Nat) (x : Nat) : (c.put f v).link x = c.link x := rfl
@[simp] theorem Chip.ring_put (f : Reg.Fld) (v : Nat) (x : Nat) : (c.put f v).ring x = c.ring x := rfl
@[simp] theorem Chip.job_put (f : Reg.Fld) (v : Nat) (x : Nat) : (c.put f v).job x = c.job x := rfl
@[simp] theorem Chip.core_dropRegs (p : Nat → Bool) (x : Nat) : (c.dropRegs p).core x = c.core x := rfl
@[simp] theorem Chip.router_dropRegs (p : Nat → Bool) (x : Nat) : (c.dropRegs p).router x = c.router x := rfl
@[simp] theorem Chip.port_dropRegs (p : Nat → Bool) (x : Nat) : (c.dropRegs p).port x = c.port x := rfl
@[simp] theorem Chip.chan_dropRegs (p : Nat → Bool) (x : Nat) : (c.dropRegs p).chan x = c.chan x := rfl
@[simp] theorem Chip.link_dropRegs (p : Nat → Bool) (x : Nat) : (c.dropRegs p).link x = c.link x := rfl
@[simp] theorem Chip.ring_dropRegs (p : Nat → Bool) (x : Nat) : (c.dropRegs p).ring x = c.ring x := rfl
@[simp] theorem Chip.job_dropRegs (p : Nat → Bool) (x : Nat) : (c.dropRegs p).job x = c.job x := rfl
@[simp] theorem Chip.rd_setCore (n : Nat) (k : Core) (x : Nat) : (c.setCore n k).rd x = c.rd x := rfl
@[simp] theorem Chip.get_setCore (n : Nat) (k : Core) (g : Reg.Fld) : (c.setCore n k).get g = c.get g := rfl
@[simp] theorem Chip.on_setCore (n : Nat) (k : Core) (g : Reg.Fld) : (c.setCore n k).on g = c.on g := rfl
@[simp] theorem Chip.router_setCore (n : Nat) (k : Core) (x : Nat) : (c.setCore n k).router x = c.router x := rfl
@[simp] theorem Chip.port_setCore (n : Nat) (k : Core) (x : Nat) : (c.setCore n k).port x = c.port x := rfl
@[simp] theorem Chip.chan_setCore (n : Nat) (k : Core) (x : Nat) : (c.setCore n k).chan x = c.chan x := rfl
@[simp] theorem Chip.link_setCore (n : Nat) (k : Core) (x : Nat) : (c.setCore n k).link x = c.link x := rfl
@[simp] theorem Chip.ring_setCore (n : Nat) (k : Core) (x : Nat) : (c.setCore n k).ring x = c.ring x := rfl
@[simp] theorem Chip.job_setCore (n : Nat) (k : Core) (x : Nat) : (c.setCore n k).job x = c.job x := rfl
@[simp] theorem Chip.rd_setRouter (n : Nat) (k : Router) (x : Nat) : (c.setRouter n k).rd x = c.rd x := rfl
@[simp] theorem Chip.get_setRouter (n : Nat) (k : Router) (g : Reg.Fld) : (c.setRouter n k).get g = c.get g := rfl
@[simp] theorem Chip.on_setRouter (n : Nat) (k : Router) (g : Reg.Fld) : (c.setRouter n k).on g = c.on g := rfl
@[simp] theorem Chip.core_setRouter (n : Nat) (k : Router) (x : Nat) : (c.setRouter n k).core x = c.core x := rfl
@[simp] theorem Chip.port_setRouter (n : Nat) (k : Router) (x : Nat) : (c.setRouter n k).port x = c.port x := rfl
@[simp] theorem Chip.chan_setRouter (n : Nat) (k : Router) (x : Nat) : (c.setRouter n k).chan x = c.chan x := rfl
@[simp] theorem Chip.link_setRouter (n : Nat) (k : Router) (x : Nat) : (c.setRouter n k).link x = c.link x := rfl
@[simp] theorem Chip.ring_setRouter (n : Nat) (k : Router) (x : Nat) : (c.setRouter n k).ring x = c.ring x := rfl
@[simp] theorem Chip.job_setRouter (n : Nat) (k : Router) (x : Nat) : (c.setRouter n k).job x = c.job x := rfl
@[simp] theorem Chip.rd_setPort (n : Nat) (k : PortSt) (x : Nat) : (c.setPort n k).rd x = c.rd x := rfl
@[simp] theorem Chip.get_setPort (n : Nat) (k : PortSt) (g : Reg.Fld) : (c.setPort n k).get g = c.get g := rfl
@[simp] theorem Chip.on_setPort (n : Nat) (k : PortSt) (g : Reg.Fld) : (c.setPort n k).on g = c.on g := rfl
@[simp] theorem Chip.core_setPort (n : Nat) (k : PortSt) (x : Nat) : (c.setPort n k).core x = c.core x := rfl
@[simp] theorem Chip.router_setPort (n : Nat) (k : PortSt) (x : Nat) : (c.setPort n k).router x = c.router x := rfl
@[simp] theorem Chip.chan_setPort (n : Nat) (k : PortSt) (x : Nat) : (c.setPort n k).chan x = c.chan x := rfl
@[simp] theorem Chip.link_setPort (n : Nat) (k : PortSt) (x : Nat) : (c.setPort n k).link x = c.link x := rfl
@[simp] theorem Chip.ring_setPort (n : Nat) (k : PortSt) (x : Nat) : (c.setPort n k).ring x = c.ring x := rfl
@[simp] theorem Chip.job_setPort (n : Nat) (k : PortSt) (x : Nat) : (c.setPort n k).job x = c.job x := rfl
@[simp] theorem Chip.rd_setChan (n : Nat) (k : ChanSt) (x : Nat) : (c.setChan n k).rd x = c.rd x := rfl
@[simp] theorem Chip.get_setChan (n : Nat) (k : ChanSt) (g : Reg.Fld) : (c.setChan n k).get g = c.get g := rfl
@[simp] theorem Chip.on_setChan (n : Nat) (k : ChanSt) (g : Reg.Fld) : (c.setChan n k).on g = c.on g := rfl
@[simp] theorem Chip.core_setChan (n : Nat) (k : ChanSt) (x : Nat) : (c.setChan n k).core x = c.core x := rfl
@[simp] theorem Chip.router_setChan (n : Nat) (k : ChanSt) (x : Nat) : (c.setChan n k).router x = c.router x := rfl
@[simp] theorem Chip.port_setChan (n : Nat) (k : ChanSt) (x : Nat) : (c.setChan n k).port x = c.port x := rfl
@[simp] theorem Chip.link_setChan (n : Nat) (k : ChanSt) (x : Nat) : (c.setChan n k).link x = c.link x := rfl
@[simp] theorem Chip.ring_setChan (n : Nat) (k : ChanSt) (x : Nat) : (c.setChan n k).ring x = c.ring x := rfl
@[simp] theorem Chip.job_setChan (n : Nat) (k : ChanSt) (x : Nat) : (c.setChan n k).job x = c.job x := rfl
@[simp] theorem Chip.rd_setLink (n : Nat) (k : LinkSt) (x : Nat) : (c.setLink n k).rd x = c.rd x := rfl
@[simp] theorem Chip.get_setLink (n : Nat) (k : LinkSt) (g : Reg.Fld) : (c.setLink n k).get g = c.get g := rfl
@[simp] theorem Chip.on_setLink (n : Nat) (k : LinkSt) (g : Reg.Fld) : (c.setLink n k).on g = c.on g := rfl
@[simp] theorem Chip.core_setLink (n : Nat) (k : LinkSt) (x : Nat) : (c.setLink n k).core x = c.core x := rfl
@[simp] theorem Chip.router_setLink (n : Nat) (k : LinkSt) (x : Nat) : (c.setLink n k).router x = c.router x := rfl
@[simp] theorem Chip.port_setLink (n : Nat) (k : LinkSt) (x : Nat) : (c.setLink n k).port x = c.port x := rfl
@[simp] theorem Chip.chan_setLink (n : Nat) (k : LinkSt) (x : Nat) : (c.setLink n k).chan x = c.chan x := rfl
@[simp] theorem Chip.ring_setLink (n : Nat) (k : LinkSt) (x : Nat) : (c.setLink n k).ring x = c.ring x := rfl
@[simp] theorem Chip.job_setLink (n : Nat) (k : LinkSt) (x : Nat) : (c.setLink n k).job x = c.job x := rfl
@[simp] theorem Chip.rd_setRing (n : Nat) (k : Ring) (x : Nat) : (c.setRing n k).rd x = c.rd x := rfl
@[simp] theorem Chip.get_setRing (n : Nat) (k : Ring) (g : Reg.Fld) : (c.setRing n k).get g = c.get g := rfl
@[simp] theorem Chip.on_setRing (n : Nat) (k : Ring) (g : Reg.Fld) : (c.setRing n k).on g = c.on g := rfl
@[simp] theorem Chip.core_setRing (n : Nat) (k : Ring) (x : Nat) : (c.setRing n k).core x = c.core x := rfl
@[simp] theorem Chip.router_setRing (n : Nat) (k : Ring) (x : Nat) : (c.setRing n k).router x = c.router x := rfl
@[simp] theorem Chip.port_setRing (n : Nat) (k : Ring) (x : Nat) : (c.setRing n k).port x = c.port x := rfl
@[simp] theorem Chip.chan_setRing (n : Nat) (k : Ring) (x : Nat) : (c.setRing n k).chan x = c.chan x := rfl
@[simp] theorem Chip.link_setRing (n : Nat) (k : Ring) (x : Nat) : (c.setRing n k).link x = c.link x := rfl
@[simp] theorem Chip.job_setRing (n : Nat) (k : Ring) (x : Nat) : (c.setRing n k).job x = c.job x := rfl
@[simp] theorem Chip.rd_setJob (n : Nat) (k : Job) (x : Nat) : (c.setJob n k).rd x = c.rd x := rfl
@[simp] theorem Chip.get_setJob (n : Nat) (k : Job) (g : Reg.Fld) : (c.setJob n k).get g = c.get g := rfl
@[simp] theorem Chip.on_setJob (n : Nat) (k : Job) (g : Reg.Fld) : (c.setJob n k).on g = c.on g := rfl
@[simp] theorem Chip.core_setJob (n : Nat) (k : Job) (x : Nat) : (c.setJob n k).core x = c.core x := rfl
@[simp] theorem Chip.router_setJob (n : Nat) (k : Job) (x : Nat) : (c.setJob n k).router x = c.router x := rfl
@[simp] theorem Chip.port_setJob (n : Nat) (k : Job) (x : Nat) : (c.setJob n k).port x = c.port x := rfl
@[simp] theorem Chip.chan_setJob (n : Nat) (k : Job) (x : Nat) : (c.setJob n k).chan x = c.chan x := rfl
@[simp] theorem Chip.link_setJob (n : Nat) (k : Job) (x : Nat) : (c.setJob n k).link x = c.link x := rfl
@[simp] theorem Chip.ring_setJob (n : Nat) (k : Job) (x : Nat) : (c.setJob n k).ring x = c.ring x := rfl
@[simp] theorem Chip.rd_emit (o : Out) (x : Nat) : (c.emit o).rd x = c.rd x := rfl
@[simp] theorem Chip.get_emit (o : Out) (g : Reg.Fld) : (c.emit o).get g = c.get g := rfl
@[simp] theorem Chip.on_emit (o : Out) (g : Reg.Fld) : (c.emit o).on g = c.on g := rfl
@[simp] theorem Chip.core_emit (o : Out) (x : Nat) : (c.emit o).core x = c.core x := rfl
@[simp] theorem Chip.router_emit (o : Out) (x : Nat) : (c.emit o).router x = c.router x := rfl
@[simp] theorem Chip.port_emit (o : Out) (x : Nat) : (c.emit o).port x = c.port x := rfl
@[simp] theorem Chip.chan_emit (o : Out) (x : Nat) : (c.emit o).chan x = c.chan x := rfl
@[simp] theorem Chip.link_emit (o : Out) (x : Nat) : (c.emit o).link x = c.link x := rfl
@[simp] theorem Chip.ring_emit (o : Out) (x : Nat) : (c.emit o).ring x = c.ring x := rfl
@[simp] theorem Chip.job_emit (o : Out) (x : Nat) : (c.emit o).job x = c.job x := rfl
@[simp] theorem Chip.rd_wrMem (a n v : Nat) (x : Nat) : (c.wrMem a n v).rd x = c.rd x := rfl
@[simp] theorem Chip.get_wrMem (a n v : Nat) (g : Reg.Fld) : (c.wrMem a n v).get g = c.get g := rfl
@[simp] theorem Chip.on_wrMem (a n v : Nat) (g : Reg.Fld) : (c.wrMem a n v).on g = c.on g := rfl
@[simp] theorem Chip.core_wrMem (a n v : Nat) (x : Nat) : (c.wrMem a n v).core x = c.core x := rfl
@[simp] theorem Chip.router_wrMem (a n v : Nat) (x : Nat) : (c.wrMem a n v).router x = c.router x := rfl
@[simp] theorem Chip.port_wrMem (a n v : Nat) (x : Nat) : (c.wrMem a n v).port x = c.port x := rfl
@[simp] theorem Chip.chan_wrMem (a n v : Nat) (x : Nat) : (c.wrMem a n v).chan x = c.chan x := rfl
@[simp] theorem Chip.link_wrMem (a n v : Nat) (x : Nat) : (c.wrMem a n v).link x = c.link x := rfl
@[simp] theorem Chip.ring_wrMem (a n v : Nat) (x : Nat) : (c.wrMem a n v).ring x = c.ring x := rfl
@[simp] theorem Chip.job_wrMem (a n v : Nat) (x : Nat) : (c.wrMem a n v).job x = c.job x := rfl
@[simp] theorem Chip.rd_wrBytes (a : Nat) (bs : List Byte) (x : Nat) : (c.wrBytes a bs).rd x = c.rd x := rfl
@[simp] theorem Chip.get_wrBytes (a : Nat) (bs : List Byte) (g : Reg.Fld) : (c.wrBytes a bs).get g = c.get g := rfl
@[simp] theorem Chip.on_wrBytes (a : Nat) (bs : List Byte) (g : Reg.Fld) : (c.wrBytes a bs).on g = c.on g := rfl
@[simp] theorem Chip.core_wrBytes (a : Nat) (bs : List Byte) (x : Nat) : (c.wrBytes a bs).core x = c.core x := rfl
@[simp] theorem Chip.router_wrBytes (a : Nat) (bs : List Byte) (x : Nat) : (c.wrBytes a bs).router x = c.router x := rfl
@[simp] theorem Chip.port_wrBytes (a : Nat) (bs : List Byte) (x : Nat) : (c.wrBytes a bs).port x = c.port x := rfl
@[simp] theorem Chip.chan_wrBytes (a : Nat) (bs : List Byte) (x : Nat) : (c.wrBytes a bs).chan x = c.chan x := rfl
@[simp] theorem Chip.link_wrBytes (a : Nat) (bs : List Byte) (x : Nat) : (c.wrBytes a bs).link x = c.link x := rfl
@[simp] theorem Chip.ring_wrBytes (a : Nat) (bs : List Byte) (x : Nat) : (c.wrBytes a bs).ring x = c.ring x := rfl
@[simp] theorem Chip.job_wrBytes (a : Nat) (bs : List Byte) (x : Nat) : (c.wrBytes a bs).job x = c.job x := rfl
@[simp] theorem Chip.rd_logged (code subject detail : Nat) (sticky : Bool) (x : Nat) : (c.logged code subject detail sticky).rd x = c.rd x := rfl
@[simp] theorem Chip.get_logged (code subject detail : Nat) (sticky : Bool) (g : Reg.Fld) : (c.logged code subject detail sticky).get g = c.get g := rfl
@[simp] theorem Chip.on_logged (code subject detail : Nat) (sticky : Bool) (g : Reg.Fld) : (c.logged code subject detail sticky).on g = c.on g := rfl
@[simp] theorem Chip.core_logged (code subject detail : Nat) (sticky : Bool) (x : Nat) : (c.logged code subject detail sticky).core x = c.core x := rfl
@[simp] theorem Chip.router_logged (code subject detail : Nat) (sticky : Bool) (x : Nat) : (c.logged code subject detail sticky).router x = c.router x := rfl
@[simp] theorem Chip.port_logged (code subject detail : Nat) (sticky : Bool) (x : Nat) : (c.logged code subject detail sticky).port x = c.port x := rfl
@[simp] theorem Chip.chan_logged (code subject detail : Nat) (sticky : Bool) (x : Nat) : (c.logged code subject detail sticky).chan x = c.chan x := rfl
@[simp] theorem Chip.link_logged (code subject detail : Nat) (sticky : Bool) (x : Nat) : (c.logged code subject detail sticky).link x = c.link x := rfl
@[simp] theorem Chip.ring_logged (code subject detail : Nat) (sticky : Bool) (x : Nat) : (c.logged code subject detail sticky).ring x = c.ring x := rfl

end Sys2Proof.Machine
end

