-- ==== Sys2Proof/Laws/Regs.lean ====
section
/-! SUPPORT. Laws of the register store: a register read after a write, a field read after a write of a field, and what
every write of a register leaves. -/

namespace Sys2Proof.Machine

/-! ## Registers -/

theorem find_filter_other (l : List (Nat × Word)) (a x : Nat) (h : x ≠ a) :
    (l.filter (fun r => r.1 != a)).find? (·.1 == x) = l.find? (·.1 == x) := by
  induction l with
  | nil => rfl
  | cons p t ih =>
    by_cases hp : p.1 = a
    · rw [List.filter_cons_of_neg (by simp [hp]), ih, List.find?_cons_of_neg (by simp [hp, h.symm])]
    · rw [List.filter_cons_of_pos (by simp [hp])]
      by_cases hx : p.1 = x
      · simp [hx]
      · rw [List.find?_cons_of_neg (by simpa using hx), List.find?_cons_of_neg (by simpa using hx), ih]

theorem find_filter_same (l : List (Nat × Word)) (a : Nat) : (l.filter (fun r => r.1 != a)).find? (·.1 == a) = none := by
  simp [List.find?_eq_none]

theorem find_smSet_same (l : SMap Word) (a : Nat) (w : Word) : (smSet l a w).find? (·.1 == a) = some (a, w) := by
  induction l with
  | nil => simp [smSet]
  | cons p t ih =>
    simp only [smSet]
    split
    · simp
    · split
      · simp
      · rename_i _ h
        rw [List.find?_cons_of_neg (by simpa using h), ih]

theorem find_smSet_other (l : SMap Word) (a x : Nat) (w : Word) (h : x ≠ a) :
    (smSet l a w).find? (·.1 == x) = l.find? (·.1 == x) := by
  induction l with
  | nil => simp [smSet, h.symm]
  | cons p t ih =>
    simp only [smSet]
    split
    · rw [List.find?_cons_of_neg (by simpa using h.symm)]
    · split
      · rename_i _ hp
        rw [List.find?_cons_of_neg (by simpa using h.symm), List.find?_cons_of_neg (by simp [hp, h.symm])]
      · by_cases hx : p.1 = x
        · rw [List.find?_cons_of_pos (by simpa using hx), List.find?_cons_of_pos (by simpa using hx)]
        · rw [List.find?_cons_of_neg (by simpa using hx), List.find?_cons_of_neg (by simpa using hx), ih]

/-- A register reads what was written to it. -/
@[simp] theorem Chip.rd_wr_same (c : Chip) (a : Nat) (w : Word) : (c.wr a w).rd a = w := by
  by_cases h : w = regReset a
  · simp only [Chip.wr, Chip.rd, if_pos h, find_filter_same]; exact h.symm
  · simp only [Chip.wr, Chip.rd, if_neg h, find_smSet_same]

/-- A write leaves every other register. -/
theorem Chip.rd_wr_other (c : Chip) (a x : Nat) (w : Word) (h : x ≠ a) : (c.wr a w).rd x = c.rd x := by
  by_cases hw : w = regReset a
  · simp only [Chip.wr, Chip.rd, if_pos hw, find_filter_other _ _ _ h]
  · simp only [Chip.wr, Chip.rd, if_neg hw, find_smSet_other _ _ _ _ h]

/-! ## Fields -/

theorem wbits_wset_same (w : Word) (hi lo v : Nat) (h : lo ≤ hi) (h' : hi < 32) :
    wbits (wset w hi lo v) hi lo = v % 2 ^ (hi + 1 - lo) := by
  have hp : (2 ^ (hi + 1 - lo) - 1) * 2 ^ lo < 2 ^ 32 := by
    have h1 : 2 ^ (hi + 1 - lo) * 2 ^ lo ≤ 2 ^ 32 := by
      rw [← Nat.pow_add]; exact Nat.pow_le_pow_right (by omega) (by omega)
    have h2 : 0 < 2 ^ lo := Nat.pow_pos (by omega)
    have h3 : 0 < 2 ^ (hi + 1 - lo) := Nat.pow_pos (by omega)
    rw [Nat.sub_mul]; omega
  have hv : (v % 2 ^ (hi + 1 - lo)) * 2 ^ lo < 2 ^ 32 := by
    have h3 : v % 2 ^ (hi + 1 - lo) < 2 ^ (hi + 1 - lo) := Nat.mod_lt _ (Nat.pow_pos (by omega))
    exact lt_of_le_of_lt (Nat.mul_le_mul_right _ (by omega)) hp
  apply Nat.eq_of_testBit_eq
  intro i
  simp only [wbits, wset, wmask, Nat.testBit_mod_two_pow, BitVec.toNat_ushiftRight, BitVec.toNat_or, BitVec.toNat_and,
    BitVec.toNat_ofNat, Nat.mod_eq_of_lt hv, Nat.testBit_shiftRight, Nat.testBit_or, Nat.testBit_and]
  by_cases hi' : i < hi + 1 - lo
  · have e1 : (~~~BitVec.ofNat 32 ((2 ^ (hi + 1 - lo) - 1) * 2 ^ lo)).toNat.testBit (lo + i) = false := by
      rw [BitVec.testBit_toNat, BitVec.getLsbD_not]
      have : (BitVec.ofNat 32 ((2 ^ (hi + 1 - lo) - 1) * 2 ^ lo)).getLsbD (lo + i) = true := by
        rw [BitVec.getLsbD_ofNat, Nat.mul_comm, Nat.testBit_two_pow_mul, Nat.testBit_two_pow_sub_one]
        simp; omega
      simp [this]
    rw [e1]
    simp only [hi', decide_true, Bool.true_and, Bool.and_false, Bool.false_or]
    rw [Nat.mul_comm, Nat.testBit_two_pow_mul]
    simp [hi', Nat.testBit_mod_two_pow]
  · simp [hi']

theorem wbits_wset_other (w : Word) (hi lo v hi' lo' : Nat) (h : lo ≤ hi) (hd : hi' < lo ∨ hi < lo') :
    wbits (wset w hi lo v) hi' lo' = wbits w hi' lo' := by
  have hm : ∀ j, (wset w hi lo v).getLsbD j = if lo ≤ j ∧ j ≤ hi ∧ j < 32 then v.testBit (j - lo) else w.getLsbD j := by
    intro j
    simp only [wset, wmask, BitVec.getLsbD_or, BitVec.getLsbD_and, BitVec.getLsbD_not, BitVec.getLsbD_ofNat]
    rw [Nat.mul_comm, Nat.testBit_two_pow_mul, Nat.testBit_two_pow_sub_one, Nat.mul_comm (v % _), Nat.testBit_two_pow_mul,
      Nat.testBit_mod_two_pow]
    by_cases hj : j < 32
    · by_cases h1 : lo ≤ j
      · by_cases h2 : j ≤ hi
        · have : j - lo < hi + 1 - lo := by omega
          simp [hj, h1, h2, this]
        · have : ¬ j - lo < hi + 1 - lo := by omega
          simp [hj, h1, h2, this]
      · simp [hj, h1]
    · have : w.getLsbD j = false := BitVec.getLsbD_of_ge _ _ (by omega)
      simp [hj, this]
  apply Nat.eq_of_testBit_eq
  intro i
  simp only [wbits, Nat.testBit_mod_two_pow, BitVec.toNat_ushiftRight, Nat.testBit_shiftRight, BitVec.testBit_toNat, hm]
  by_cases hi2 : i < hi' + 1 - lo'
  · have : ¬ (lo ≤ lo' + i ∧ lo' + i ≤ hi ∧ lo' + i < 32) := by omega
    simp [this]
  · simp [hi2]

theorem wbits_lt (w : Word) (hi lo : Nat) : wbits w hi lo < 2 ^ (hi + 1 - lo) := Nat.mod_lt _ (Nat.pow_pos (by omega))

/-- A field reads what was put into it, cut to its width. -/
theorem Chip.get_put_same (c : Chip) (f : Reg.Fld) (v : Nat) (h : f.lo ≤ f.hi) (h' : f.hi < 32) :
    (c.put f v).get f = v % 2 ^ (f.hi + 1 - f.lo) := by
  simp only [Chip.get, Chip.put, Chip.rd_wr_same]; exact wbits_wset_same _ _ _ _ h h'

/-- A put leaves the fields of every other register. -/
theorem Chip.get_put_addr (c : Chip) (f g : Reg.Fld) (v : Nat) (h : g.addr ≠ f.addr) : (c.put f v).get g = c.get g := by
  simp only [Chip.get, Chip.put, Chip.rd_wr_other _ _ _ _ h]

/-- A put leaves the other fields of its register. -/
theorem Chip.get_put_disjoint (c : Chip) (f g : Reg.Fld) (v : Nat) (h : f.lo ≤ f.hi)
    (hd : g.hi < f.lo ∨ f.hi < g.lo) : (c.put f v).get g = c.get g := by
  by_cases ha : g.addr = f.addr
  · simp only [Chip.get, Chip.put, ha, Chip.rd_wr_same]; exact wbits_wset_other _ _ _ _ _ _ h hd
  · exact Chip.get_put_addr _ _ _ _ ha

theorem Chip.rd_put_other (c : Chip) (f : Reg.Fld) (v x : Nat) (h : x ≠ f.addr) : (c.put f v).rd x = c.rd x :=
  Chip.rd_wr_other _ _ _ _ h

theorem Chip.get_wr_other (c : Chip) (a : Nat) (w : Word) (g : Reg.Fld) (h : g.addr ≠ a) : (c.wr a w).get g = c.get g := by
  simp only [Chip.get, Chip.rd_wr_other _ _ _ _ h]

theorem Chip.get_wr_same (c : Chip) (w : Word) (g : Reg.Fld) : (c.wr g.addr w).get g = wbits w g.hi g.lo := by
  simp only [Chip.get, Chip.rd_wr_same]

theorem Chip.get_lt (c : Chip) (f : Reg.Fld) : c.get f < 2 ^ (f.hi + 1 - f.lo) := wbits_lt _ _ _

/-! ## Reads of a block whose other fields changed -/

theorem Chip.rd_congr (c d : Chip) (h : d.regs = c.regs) (a : Nat) : d.rd a = c.rd a := by simp only [Chip.rd, h]
theorem Chip.get_congr (c d : Chip) (h : d.regs = c.regs) (f : Reg.Fld) : d.get f = c.get f := by simp only [Chip.get, Chip.rd, h]

end Sys2Proof.Machine
end

