-- ==== Sys2Proof/Laws/Frames.lean ====
section
/-! SUPPORT. Which registers an operation can change: `OnlyRegs` of the shared register operations, and how frames compose. -/

namespace Sys2Proof.Machine

theorem RegsKept.refl (c : Chip) (P : Nat → Prop) : RegsKept c c P := fun _ _ => rfl

theorem RegsKept.trans {c d e : Chip} {P : Nat → Prop} (h : RegsKept c d P) (h' : RegsKept d e P) : RegsKept c e P :=
  fun a ha => (h' a ha).trans (h a ha)

theorem RegsKept.mono {c d : Chip} {P Q : Nat → Prop} (h : RegsKept c d P) (hq : ∀ a, P a → Q a) : RegsKept c d Q :=
  fun a ha => h a (fun hp => ha (hq a hp))

theorem OnlyRegs.refl (c : Chip) (P : Nat → Prop) : OnlyRegs c c P := ⟨rfl, RegsKept.refl c P⟩

/-- The store of registers is all that differs, said as one equation. -/
theorem OnlyRegs.eq {c d : Chip} {P : Nat → Prop} (h : OnlyRegs c d P) : d = { c with regs := d.regs } := by
  have := congrArg (fun x : Chip => ({ x with regs := d.regs } : Chip)) h.1
  exact this

theorem OnlyRegs.trans {c d e : Chip} {P : Nat → Prop} (h : OnlyRegs c d P) (h' : OnlyRegs d e P) : OnlyRegs c e P := by
  refine ⟨?_, h.2.trans h'.2⟩
  have h1 := h.eq
  have h2 := h'.eq
  rw [h2, h1]

theorem OnlyRegs.mono {c d : Chip} {P Q : Nat → Prop} (h : OnlyRegs c d P) (hq : ∀ a, P a → Q a) : OnlyRegs c d Q :=
  ⟨h.1, h.2.mono hq⟩

theorem OnlyRegs.wr (c : Chip) (a : Nat) (w : Word) (P : Nat → Prop) (h : P a) : OnlyRegs c (c.wr a w) P :=
  ⟨rfl, fun _ hx => Chip.rd_wr_other _ _ _ _ (fun e => hx (e ▸ h))⟩

theorem OnlyRegs.put (c : Chip) (f : Reg.Fld) (v : Nat) (P : Nat → Prop) (h : P f.addr) : OnlyRegs c (c.put f v) P :=
  OnlyRegs.wr c f.addr _ P h

theorem OnlyRegs.set (c : Chip) (f : Reg.Fld) (P : Nat → Prop) (h : P f.addr) : OnlyRegs c (c.set f) P := OnlyRegs.put c f 1 P h
theorem OnlyRegs.clr (c : Chip) (f : Reg.Fld) (P : Nat → Prop) (h : P f.addr) : OnlyRegs c (c.clr f) P := OnlyRegs.put c f 0 P h
theorem OnlyRegs.bump (c : Chip) (f : Reg.Fld) (n : Nat) (P : Nat → Prop) (h : P f.addr) : OnlyRegs c (c.bump f n) P :=
  OnlyRegs.put c f _ P h

theorem OnlyRegs.ite {c d e : Chip} {P : Nat → Prop} {q : Prop} [Decidable q] (h : OnlyRegs c d P) (h' : OnlyRegs c e P) :
    OnlyRegs c (if q then d else e) P := by split <;> assumption

/-! ## What the other fields give when only registers differ -/

theorem OnlyRegs.core {c d : Chip} {P : Nat → Prop} (h : OnlyRegs c d P) (s : Nat) : d.core s = c.core s := by
  rw [h.eq]; rfl
theorem OnlyRegs.mem {c d : Chip} {P : Nat → Prop} (h : OnlyRegs c d P) : d.mem = c.mem := by rw [h.eq]
theorem OnlyRegs.get {c d : Chip} {P : Nat → Prop} (h : OnlyRegs c d P) (f : Reg.Fld) (hf : ¬ P f.addr) : d.get f = c.get f := by
  simp only [Chip.get, h.2 _ hf]

/-! ## Event counters (R425) -/

/-- The three words of the counter at `b`. -/
def CntRegs (b a : Nat) : Prop := a = b ∨ a = b + 4 ∨ a = b + 5

theorem OnlyRegs.pmonAdd (c : Chip) (b n : Nat) (P : Nat → Prop) (h : ∀ a, CntRegs b a → P a) :
    OnlyRegs c (c.pmonAdd b n none) P := by
  have e : OnlyRegs c (c.setPmonCount b ((c.pmonCount b + n) % 2 ^ 48)) P :=
    (OnlyRegs.wr _ _ _ _ (h _ (.inr (.inl rfl)))).trans (OnlyRegs.wr _ _ _ _ (h _ (.inr (.inr rfl))))
  simp only [Chip.pmonAdd]
  split
  · exact e
  · exact e.trans (OnlyRegs.set _ _ _ (h _ (.inl rfl)))

theorem OnlyRegs.tallyAt (c : Chip) (src n : Nat) (l : List Nat) (P : Nat → Prop) (h : ∀ b ∈ l, ∀ a, CntRegs b a → P a) :
    OnlyRegs c (c.tallyAt src n (l.map (fun b => (b, none)))) P := by
  induction l generalizing c with
  | nil => exact OnlyRegs.refl c P
  | cons b t ih =>
    simp only [List.map_cons, Chip.tallyAt]
    refine OnlyRegs.trans ?_ (ih _ (fun b hb => h b (List.mem_cons_of_mem _ hb)))
    split
    · exact OnlyRegs.pmonAdd c b n P (h b (List.mem_cons_self ..))
    · exact OnlyRegs.refl c P

/-- A source of a core changes the core's event counters only. -/
theorem OnlyRegs.tallyCore (c : Chip) (s src n : Nat) (P : Nat → Prop) (h : ∀ a, PmonOf s a → P a) :
    OnlyRegs c (c.tallyCore s src n) P := by
  have := OnlyRegs.tallyAt c src n ((List.range 4).map (Reg.pmonCore s)) P (by
    intro b hb a ha
    apply h
    simp only [List.mem_map, List.mem_range] at hb
    obtain ⟨k, hk, rfl⟩ := hb
    simp only [CntRegs, Reg.pmonCore] at ha
    simp only [PmonOf]
    omega)
  simpa [Chip.tallyCore, List.map_map, Function.comp_def] using this

end Sys2Proof.Machine
end

