-- ==== Sys2Proof/Laws/Sequencer.lean ====
section
/-! SUPPORT. What the one operation that runs an instruction can do: where a core issues, the outcome of the instruction's
meaning is settled, and each kind of outcome leaves the block as said here once. -/

namespace Sys2Proof.Machine

/-! ## General registers -/

theorem Core.greg_zero (k : Core) : k.greg 0 = 0 := by simp [Core.greg]

theorem Core.greg_setReg_same (k : Core) (r : Nat) (v : Word) (h : r < 32) : (k.setReg r v).greg r = if r = 0 then 0 else v := by
  by_cases h0 : r = 0
  · simp [h0, Core.greg]
  · have h1 : 1 ≤ r := by omega
    simp [Core.greg, Core.setReg, h1, h, h0]

theorem Core.greg_setReg_other (k : Core) (r r' : Nat) (v : Word) (h : r' ≠ r) : (k.setReg r v).greg r' = k.greg r' := by
  unfold Core.setReg
  split
  · simp only [Core.greg]
    split
    · rename_i _ h'
      exact Vector.getElem_setIfInBounds_ne _ (by omega)
    · rfl
  · rfl

theorem Core.setReg_rest (k : Core) (r : Nat) (v : Word) : { k.setReg r v with g := k.g } = k := by
  unfold Core.setReg; split <;> rfl

@[simp] theorem Core.setReg_overrun (k : Core) (r : Nat) (v : Word) : (k.setReg r v).overrun = k.overrun := by
  unfold Core.setReg; split <;> rfl
@[simp] theorem Core.setReg_stepping (k : Core) (r : Nat) (v : Word) : (k.setReg r v).stepping = k.stepping := by
  unfold Core.setReg; split <;> rfl
@[simp] theorem Core.setReg_dbgSkip (k : Core) (r : Nat) (v : Word) : (k.setReg r v).dbgSkip = k.dbgSkip := by
  unfold Core.setReg; split <;> rfl

/-! ## Issuing -/

/-- Where a core issues, its instruction's outcome is settled. -/
theorem Chip.runInstr_issues (c : Chip) (i : Nat) (w : Word) (sem : Sem) (h : Issues c i w) :
    c.runInstr i w sem = Chip.settle (c.pcore i) (c.pc (c.pcore i)) (sem c (c.pcore i) i w) := by
  obtain ⟨h1, h2, h3, h4, h5⟩ := h
  simp only [Chip.runInstr, h1, h2, h3, Bool.and_self, if_true, Chip.tryInstr, h5, h4, ne_eq, not_true_eq_false, if_false, Bool.false_eq_true]

theorem Issues.live {c : Chip} {i : Nat} {w : Word} (h : Issues c i w) : c.seqLive (c.pcore i) = true := by
  have := h.2.1
  simp only [Chip.seqRuns, Bool.and_eq_true] at this
  exact this.1.1.2

/-- A core that is not the slot's own sequencer does nothing. -/
theorem Chip.runInstr_idle (c : Chip) (i : Nat) (w : Word) (sem : Sem) (h : (c.seated i && c.seqRuns (c.pcore i)) = false) :
    c.runInstr i w sem = c := by
  simp only [Chip.runInstr, h]; rfl

/-! ## Settling -/

/-- Only registers and the records of slots differ. -/
theorem regsCores_trans {c d e : Chip} (h : { d with regs := c.regs, cores := c.cores } = c)
    (h' : { e with regs := d.regs, cores := d.cores } = d) : { e with regs := c.regs, cores := c.cores } = c := by
  have := congrArg (fun x : Chip => ({ x with regs := c.regs, cores := c.cores } : Chip)) h'
  exact this.trans h

theorem OnlyRegs.regsCores {c d : Chip} {P : Nat → Prop} (h : OnlyRegs c d P) : { d with regs := c.regs, cores := c.cores } = c := by
  have := congrArg (fun x : Chip => ({ x with cores := c.cores } : Chip)) h.1
  exact this

/-- What `retire` leaves while no STEP of the debugger is under way. -/
theorem Chip.retire_spec (c : Chip) (p : Nat) (live : c.seqLive p = true) (hs : (c.core p).stepping = false) :
    (c.retire p).pc p = c.pc p ∧ (c.retire p).seqState p = 1 ∧
    wbits ((c.retire p).rd (Reg.CORE_STAT p)) 31 2 = wbits (c.rd (Reg.CORE_STAT p)) 31 2 ∧
    RegsKept c (c.retire p) (fun a => a = Reg.CORE_STAT p ∨ PmonOf p a) ∧
    (∀ q, q ≠ p → (c.retire p).core q = c.core q) ∧ (c.retire p).core p = { c.core p with dbgSkip := false } ∧
    { c.retire p with regs := c.regs, cores := c.cores } = c := by
  have t := OnlyRegs.tallyCore (c.modCore p (fun k => { k with dbgSkip := false })) p 0x20 1 (PmonOf p) (fun _ h => h)
  generalize hd : (c.modCore p (fun k => { k with dbgSkip := false })).tallyCore p 0x20 = d at t
  have hstat : ¬ PmonOf p (Reg.CORE_STAT p) := by simp only [PmonOf, Reg.CORE_STAT]; omega
  have hpc : ¬ PmonOf p (Reg.CORE_PC p) := by simp only [PmonOf, Reg.CORE_PC]; omega
  have hst : d.rd (Reg.CORE_STAT p) = c.rd (Reg.CORE_STAT p) := t.2 _ hstat
  have hlive : d.seqLive p = true := by
    rw [← live]; simp only [Chip.seqLive, Chip.seqState, Chip.get, Reg.CORE_STAT_STATE, hst]
  have hcore : (d.setSeqState p 1).core p = { c.core p with dbgSkip := false } := by
    show d.core p = _
    rw [t.core]; simp [Chip.modCore]
  have hr : c.retire p = d.setSeqState p 1 := by
    simp only [Chip.retire, hd, hlive, if_true, Chip.endStep, hcore, hs]; rfl
  rw [hr]
  refine ⟨?_, ?_, ?_, ?_, ?_, hcore, ?_⟩
  · rw [Chip.pc, Chip.setSeqState, Chip.get_put_addr _ _ _ _ (by simp [Reg.CORE_PC_PC, Reg.CORE_STAT_STATE, Reg.CORE_PC, Reg.CORE_STAT])]
    simp only [Chip.get, Chip.pc, Reg.CORE_PC_PC, t.2 _ hpc]; rfl
  · rw [Chip.seqState, Chip.setSeqState, Chip.get_put_same _ _ _ (by simp [Reg.CORE_STAT_STATE]) (by simp [Reg.CORE_STAT_STATE])]
    rfl
  · have := Chip.get_put_disjoint d (Reg.CORE_STAT_STATE p) ⟨Reg.CORE_STAT p, 31, 2⟩ 1 (by simp [Reg.CORE_STAT_STATE])
      (by simp [Reg.CORE_STAT_STATE])
    simp only [Chip.get] at this
    rw [Chip.setSeqState, this, hst]
  · intro a ha
    rw [Chip.setSeqState, Chip.rd_put_other _ _ _ _ (fun e => ha (.inl e))]
    exact t.2 _ (fun h => ha (.inr h))
  · intro q hq
    show d.core q = _
    rw [t.core]; exact Chip.core_setCore_other _ _ _ _ hq
  · exact regsCores_trans (d := d) (regsCores_trans (d := c.modCore p (fun k => { k with dbgSkip := false })) rfl t.regsCores) rfl

/-- What passing control on in sequence leaves. -/
theorem Chip.nextPc_spec (c : Chip) (p : Nat) :
    (c.nextPc p).pc p = seqPc c p ∧ RegsKept c (c.nextPc p) (fun a => a = Reg.CORE_PC p) ∧
    (∀ q, q ≠ p → (c.nextPc p).core q = c.core q) ∧
    (c.nextPc p).core p = { c.core p with overrun := (c.core p).overrun || c.pc p == 0xFFFC } ∧
    { c.nextPc p with regs := c.regs, cores := c.cores } = c := by
  by_cases h : c.pc p = 0xFFFC
  · simp only [Chip.nextPc, h, if_true, seqPc]
    refine ⟨h, RegsKept.refl _ _, fun q hq => Chip.core_setCore_other _ _ _ _ hq, ?_, rfl⟩
    simp [Chip.modCore]
  · simp only [Chip.nextPc, h, if_false, seqPc, Chip.setPc]
    refine ⟨?_, fun a ha => Chip.rd_put_other _ _ _ _ ha, fun _ _ => rfl, ?_, rfl⟩
    · rw [Chip.pc, Chip.get_put_same _ _ _ (by simp [Reg.CORE_PC_PC]) (by simp [Reg.CORE_PC_PC])]; rfl
    · have : (c.pc p == 0xFFFC) = false := by simpa using h
      rw [this, Bool.or_false]; rfl

/-- Control set to a target. -/
theorem Chip.setPc_spec (c : Chip) (p v : Nat) (h : v < 2 ^ 16) :
    (c.setPc p v).pc p = v ∧ RegsKept c (c.setPc p v) (fun a => a = Reg.CORE_PC p) := by
  refine ⟨?_, fun a ha => Chip.rd_put_other _ _ _ _ ha⟩
  rw [Chip.pc, Chip.setPc, Chip.get_put_same _ _ _ (by simp [Reg.CORE_PC_PC]) (by simp [Reg.CORE_PC_PC])]
  exact Nat.mod_eq_of_lt h

theorem Chip.stat_pc_ne (p : Nat) : Reg.CORE_STAT p ≠ Reg.CORE_PC p := by simp [Reg.CORE_STAT, Reg.CORE_PC]

/-- What an instruction that completes in sequence leaves. -/
theorem Chip.settle_done (c : Chip) (p pc : Nat) (live : c.seqLive p = true) (hs : (c.core p).stepping = false) :
    Completed c (Chip.settle p pc (.done c)) p (seqPc c p) ∧ RegsKept c (Chip.settle p pc (.done c)) (RunRegs p) ∧
    (∀ q, q ≠ p → (Chip.settle p pc (.done c)).core q = c.core q) ∧
    (Chip.settle p pc (.done c)).core p = { c.core p with dbgSkip := false, overrun := (c.core p).overrun || c.pc p == 0xFFFC } ∧
    { Chip.settle p pc (.done c) with regs := c.regs, cores := c.cores } = c := by
  obtain ⟨n1, n2, n3, n4, n5⟩ := Chip.nextPc_spec c p
  have hst : (c.nextPc p).rd (Reg.CORE_STAT p) = c.rd (Reg.CORE_STAT p) := n2 _ (Chip.stat_pc_ne p)
  obtain ⟨h1, h2, h3, h4, h5, h6, h7⟩ := Chip.retire_spec (c.nextPc p) p
    (by rw [← live]; simp only [Chip.seqLive, Chip.seqState, Chip.get, Reg.CORE_STAT_STATE, hst]) (by rw [n4]; exact hs)
  refine ⟨⟨h1.trans n1, h2, h3.trans (by rw [hst])⟩, ?_, fun q hq => (h5 q hq).trans (n3 q hq), ?_, regsCores_trans n5 h7⟩
  · refine RegsKept.trans (d := c.nextPc p) (n2.mono fun a h => .inl h) (h4.mono ?_)
    rintro a (h | h)
    · exact .inr (.inl h)
    · exact .inr (.inr h)
  · show ((c.nextPc p).retire p).core p = _
    rw [h6, n4]

/-- What an instruction that passes control leaves. -/
theorem Chip.settle_jump (c : Chip) (p pc v : Nat) (hv : v < 2 ^ 16) (live : c.seqLive p = true) (hs : (c.core p).stepping = false) :
    Completed c (Chip.settle p pc (.jump c v)) p v ∧ RegsKept c (Chip.settle p pc (.jump c v)) (RunRegs p) ∧
    (∀ q, q ≠ p → (Chip.settle p pc (.jump c v)).core q = c.core q) ∧
    (Chip.settle p pc (.jump c v)).core p = { c.core p with dbgSkip := false } ∧
    { Chip.settle p pc (.jump c v) with regs := c.regs, cores := c.cores } = c := by
  obtain ⟨n1, n2⟩ := Chip.setPc_spec c p v hv
  have hst : (c.setPc p v).rd (Reg.CORE_STAT p) = c.rd (Reg.CORE_STAT p) := n2 _ (Chip.stat_pc_ne p)
  obtain ⟨h1, h2, h3, h4, h5, h6, h7⟩ := Chip.retire_spec (c.setPc p v) p
    (by rw [← live]; simp only [Chip.seqLive, Chip.seqState, Chip.get, Reg.CORE_STAT_STATE, hst]) hs
  refine ⟨⟨h1.trans n1, h2, h3.trans (by rw [hst])⟩, ?_, h5, h6, regsCores_trans (c := c) (d := c.setPc p v) rfl h7⟩
  refine RegsKept.trans (d := c.setPc p v) (n2.mono fun a h => .inl h) (h4.mono ?_)
  rintro a (h | h)
  · exact .inr (.inl h)
  · exact .inr (.inr h)

end Sys2Proof.Machine
end

