-- ==== Sys2Proof/Tests/Slice0.lean ====
section
/-! SUPPORT. Tests: single steps on small states with results computed by hand from the rules, ill-formed terms refused, and a
witness for every statement that has hypotheses: w_<Part> meets those of <Part>Hold or of Obligations.<Part>, clause by clause. -/

namespace Sys2Proof.Tests

open Sys2Proof Sys2Proof.Machine

set_option maxRecDepth 100000
set_option Elab.async false

/-! ## Small states -/

/-- A powered block with these fields written. -/
def block (l : List (Reg.Fld × Nat)) : Chip :=
  l.foldl (fun c w => c.put w.1 w.2) { Chip.init with power := { Chip.init.power with supply := 0, inReset := false, good := true } }

def st (c : Chip) : State := { pending := [], chip := c }

/-- Cluster 0 is powered and core 0 runs. -/
def running (l : List (Reg.Fld × Nat)) : Chip := block ([(Reg.PWR_DOM_STAT_STATE 0, 2), (Reg.CORE_STAT_STATE 0, 1)] ++ l)

/-- Core 0 runs and takes exceptions. -/
def taking (l : List (Reg.Fld × Nat)) : Chip := running ((Reg.CORE_CFG_EXC_EN 0, 1) :: l)

/-- Slot 0 with another record. -/
def slot0 (c : Chip) (f : Core → Core) : Chip := c.modCore 0 f

def request (tag : Nat) : Request :=
  { tag := tag, load := true, reg := 5, size := 2, signed := true, addr := 0x1000000002#48, limit := 7, late := false }

/-- What a command leaves, asked something. -/
def after {α : Type} (i : Instr) (c : Chip) (none_ : α) (f : Chip → α) : α :=
  match exec i (st c) with
  | .next t => f t.chip
  | _ => none_


/-! ## Witnesses: states that meet the hypotheses of the statements -/

theorem w_StepTakesFront : ({ State.reset with pending := [.idcode] } : State).pending = .idcode :: [] := by decide +kernel

theorem w_WellFormedQueuesRun :
    exec .idcode State.reset = .next State.reset ∧ ({ State.reset with pending := [.idcode, .crossbarAccess 13 0 1 (some [7])] } : State).QueueWf :=
  ⟨rfl, by decide +kernel⟩

theorem w_StoresStayCanonical :
    step { State.reset with pending := [.idcode] } = .next State.reset ∧ (st (block [(Reg.CLK_CTRL_PLL_EN, 1)])).RegsWf ∧
      State.reset.MemoryWf ∧ ({ State.reset with pending := [.idcode] } : State).QueueWf :=
  ⟨rfl, by decide +kernel⟩

theorem w_TicksOnEmptyQueue :
    (State.reset.pending = [] ∧ State.reset.chip.power.supply = 2) ∧ ((block []).power.supply ≠ 2 ∧
      { (block []).power with supply := 1 }.supply = 1 ∧ { (block []).power with inReset := true }.inReset = true) ∧
    ((block []).power.supply ≠ 2 ∧ (block []).power.supply ≠ 1 ∧ (block []).power.inReset = false ∧ (block []).inLookout = false ∧
      (block []).power.lko.entering = false ∧ (block []).sync.slew = 0) := by decide +kernel

theorem w_RegisterInstructions : Free (running []) 0 (rWord 0x00 31 2 3 14) := by decide +kernel

theorem w_ImmediateInstructions :
    Free (running []) 0 (iWord 0x01 31 2 0xFFFF) ∧ Free (taking []) 0 (iWord 0x05 1 2 0x5F) ∧ (0x5F#16).toNat / 32 = 2 ∧
    (Free (taking []) 0 (iWord 0x05 1 2 0x60) ∧ 3 ≤ (0x60#16).toNat / 32 ∧ TakesExceptions (taking []) 0) ∧
    Free (taking []) 0 (iWord 0x07 1 0 0xFFFF) ∧ Free (taking []) 0 (iWord 0x07 1 1 0) ∧ Free (taking []) 0 (iWord 0x1B 1 0 1) ∧
    (Free (taking []) 0 (iWord 0x1B 1 0 2) ∧ 2 ≤ (2#16).toNat) := by decide +kernel

/-- Core 0 with g1 = `v`. -/
def g1 (c : Chip) (v : Word) : Chip := c.setReg 0 1 v

theorem w_LocalLoads :
    Free (g1 (running []) 0x18FFFC) 0 (iWord 0x0C 2 1 0) ∧ localAddr (g1 (running []) 0x18FFFC) 0 1 0 % 4 = 0 ∧
      InSlotMemory (g1 (running []) 0x18FFFC) (localAddr (g1 (running []) 0x18FFFC) 0 1 0) 4 := by decide +kernel

theorem w_LocalStores :
    Free (g1 (running []) 0x180000) 0 (iWord 0x0E 2 1 0xFFFE) ∧ localAddr (g1 (running []) 0x180000) 0 1 0xFFFE = 0x17FFFE ∧
      InSlotMemory (g1 (running []) 0x180000) 0x17FFFE 2 := by decide +kernel

theorem w_LocalAccessRefused :
    TakesExceptions (taking []) 0 ∧ (Free (g1 (taking []) 2) 0 (iWord 0x0C 2 1 0) ∧ localAddr (g1 (taking []) 2) 0 1 0 % 4 ≠ 0) ∧
    (Free (g1 (taking []) 0x1F0000) 0 (iWord 0x08 2 1 0) ∧ localAddr (g1 (taking []) 0x1F0000) 0 1 0 % 1 = 0 ∧
      ¬ InSlotMemory (g1 (taking []) 0x1F0000) (localAddr (g1 (taking []) 0x1F0000) 0 1 0) 1 ∧ 1 ≠ 4) ∧
    (Free (g1 (taking []) 0x180000) 0 (iWord 0x0F 2 1 0) ∧ localAddr (g1 (taking []) 0x180000) 0 1 0 = 0x180000 ∧ 0x180000 < 0x1F0000) ∧
    (Free (g1 (taking []) 0x200000) 0 (iWord 0x0F 2 1 0) ∧ localAddr (g1 (taking []) 0x200000) 0 1 0 = 0x200000 ∧
      ¬ InSlotMemory (g1 (taking []) 0x200000) 0x200000 4) := by decide +kernel

theorem w_ControlFlow :
    (Free (g1 (taking []) 7) 0 (iWord 0x11 1 0 0xFFFF) ∧ decide ((g1 (taking []) 7).greg 0 1 ≠ (g1 (taking []) 7).greg 0 0) = true) ∧
    (Free (g1 (taking []) 7) 0 (iWord 0x10 1 0 0) ∧ decide ((g1 (taking []) 7).greg 0 1 = (g1 (taking []) 7).greg 0 0) = false) ∧
    Free (taking []) 0 (iWord 0x16 1 0 0x3FFF) ∧ (Free (taking []) 0 (iWord 0x16 1 1 0) ∧ TakesExceptions (taking []) 0) ∧
    (Free (g1 (taking []) 0xFFFC) 0 (iWord 0x17 2 1 4) ∧ localAddr (g1 (taking []) 0xFFFC) 0 1 4 / 4 * 4 = 0x10000) := by decide +kernel

/-- g2 = `v` besides. -/
def g2 (c : Chip) (v : Word) : Chip := c.setReg 0 2 v

/-- A core that reaches for its own synapse memory through the fabric: g2:g1 = 0x10_0000_0000. -/
def reaching : Chip := g2 (running []) 0x10

theorem w_RemoteRequests :
    Free reaching 0 (rWord 0x18 5 1 2 6) ∧ (6#11).toNat < 8 ∧ (6#11).toNat % 4 ≠ 3 ∧ (reaching.greg 0 2).toNat < 2 ^ 16 ∧
      (remoteAddr reaching 0 1 2).toNat % 2 ^ 2 = 0 ∧ (reaching.core 0).freeTag = some 0 ∧
      pathCheck reaching 0 (routeTo 0 (winCore (remoteAddr reaching 0 1 2).toNat)) = OK ∧ reaching.room 0 0 3 = true := by decide +kernel

theorem w_RemoteRequestsRefused :
    (Free (taking []) 0 (rWord 0x18 5 1 2 3) ∧ (3#11).toNat % 4 = 3 ∧ TakesExceptions (taking []) 0) ∧
    (Free (taking []) 0 (rWord 0x19 5 1 2 8) ∧ 8 ≤ (8#11).toNat) ∧
    (let c := slot0 (taking []) (fun k => { k with reqs := (List.range 16).map request })
     Free c 0 (rWord 0x18 6 1 2 0) ∧ (c.core 0).freeTag = none) ∧
    (let c := g2 (taking []) 0x10000
     Free c 0 (rWord 0x18 5 1 2 0) ∧ (c.core 0).freeTag ≠ none ∧ 2 ^ 16 ≤ (c.greg 0 2).toNat) ∧
    (let c := g2 (g1 (taking []) 2) 0xFFFF
     Free c 0 (rWord 0x18 5 1 2 2) ∧ (c.greg 0 2).toNat < 2 ^ 16 ∧ (remoteAddr c 0 1 2).toNat % 2 ^ 2 ≠ 0) := by decide +kernel

/-- A delivered response to tag 3 with status `st_`. -/
def answer (st_ : Nat) : Packet := { hdr := mkHdr 0 4 false false 0 0 2, body := [mkFlit1 5 0 3 st_ 0, 0x80FF0000#64, 0] }

theorem w_RequestsEnd :
    (let k := { Core.init with reqs := [request 3], arrived := [answer 0] }
     request 3 ∈ k.reqs ∧ (∀ x ∈ k.reqs, x.tag = (request 3).tag → x = request 3) ∧ (request 3).reg < 32 ∧
       splitFirst (fun x => x.cls == 4) k.arrived = some (answer 0, []) ∧ (answer 0).tag = 3 ∧ (answer 0).op = OK) ∧
    ((answer ERR_FENCED).tag = 3 ∧ (answer ERR_FENCED).op ≠ OK ∧ (answer ERR_FENCED).cls = 4) ∧
    ((3#4).toNat = (request 3).tag ∧ (request 3).late = false ∧ (request 3).limit ≠ 0) := by decide +kernel

/-- A pass in the matrix unit of slot 0. -/
def dense0 : MxPass := { gang := false, pop := 0, block := 0, acc := [], lane := 0, next := 0, heldEv := none, owner := 0, desc := [], ahead := false }

theorem w_FencesAndHolds :
    (Free (running []) 0 ((0x1A#6) ++ (0#26)) ∧ ((running []).core 0).outstanding = false) ∧
    (let c := slot0 (running []) (fun k => { k with reqs := [request 0] })
     Free c 0 ((0x1A#6) ++ (0#26)) ∧ (c.core 0).outstanding = true) ∧
    (Free (running []) 0 ((0x29#6) ++ (0#26)) ∧ (running []).mxBusy 0 0 = false) ∧
    (let c := slot0 (running []) (fun k => { k with mx := some dense0 })
     Free c 0 ((0x29#6) ++ (0#26)) ∧ c.mxBusy 0 0 = true) ∧
    Free (running []) 0 (rWord 0x22 0 0 0 15) ∧ (Free (running []) 0 (rWord 0x2B 0 0 0 1) ∧ ((running []).core 0).pass = none) ∧
    Free (running []) 0 (rWord 0x2B 0 0 0 0) := by decide +kernel

theorem w_HaltReturnBreak :
    (Free (running []) 0 (iWord 0x30 0 0 0xFFFF) ∧ ((running []).core 0).outstanding = false) ∧
    (let c := slot0 (running []) (fun k => { k with reqs := [request 15] })
     Free c 0 (iWord 0x30 0 0 0) ∧ (c.core 0).outstanding = true) ∧
    (let c := running [(Reg.CORE_STAT_INEXC 0, 1)]
     Free c 0 ((0x31#6) ++ (0#26)) ∧ c.get (Reg.CORE_STAT_INEXC 0) = 1) ∧
    (Free (taking []) 0 ((0x31#6) ++ (0#26)) ∧ TakesExceptions (taking []) 0) ∧
    (Free (taking []) 0 (iWord 0x32 0 0 1) ∧ (taking []).get (Reg.BDP_CORE_STAT_DBG_EN 0) = 0 ∧ TakesExceptions (taking []) 0) ∧
    (let c := running [(Reg.BDP_CORE_STAT_DBG_EN 0, 1)]
     Free c 0 (iWord 0x32 0 0 1) ∧ c.get (Reg.BDP_CORE_STAT_DBG_EN 0) = 1) := by decide +kernel

theorem w_ExceptionNotTaken :
    (Free (running []) 0 (iWord 0x32 0 0 1) ∧ (running []).get (Reg.BDP_CORE_STAT_DBG_EN 0) = 0 ∧ ((running []).core 0).outstanding = false ∧
      (running []).get (Reg.CORE_CFG_EXC_EN 0) = 0) ∧
    (let c := taking [(Reg.CORE_STAT_INEXC 0, 1)]
     Free c 0 (iWord 0x32 0 0 1) ∧ c.get (Reg.BDP_CORE_STAT_DBG_EN 0) = 0 ∧ (c.core 0).outstanding = false ∧
      c.get (Reg.CORE_STAT_INEXC 0) = 1) := by decide +kernel

theorem w_DueBeforeTheNext :
    (let c := slot0 (taking [(Reg.CORE_PC_PC 0, 0xFFFC)]) (fun k => { k with overrun := true })
     c.seated 0 = true ∧ c.seqRuns 0 = true ∧ c.seqState 0 = 1 ∧ (c.core 0).haltDue = none ∧ TakesExceptions c 0 ∧
      (c.core 0).due = [] ∧ (c.core 0).overrun = true ∧ c.pc 0 = 0xFFFC) ∧
    (let c := slot0 (taking []) (fun k => { k with due := [(ERR_TIMEOUT, 0x1000000004#48)] })
     c.seqRuns 0 = true ∧ TakesExceptions c 0 ∧ (c.core 0).due = (ERR_TIMEOUT, 0x1000000004#48) :: [] ∧ ERR_TIMEOUT < 256) := by
  decide +kernel

/-- A core whose PC stands at a word with `op` in its top bits. -/
def atWord (op : Nat) : Chip := (taking []).wrMem (slotMem 0 0x180000) 4 (op * 2 ^ 26)

theorem w_UndefinedWords :
    ((atWord 0x1C).fetched 0 = 0x70000000#32 ∧ Free (atWord 0x1C) 0 0x70000000 ∧ fOp 0x70000000 = 0x1C ∧ TakesExceptions (atWord 0x1C) 0) ∧
    (fOp ((atWord 0x1F).fetched 0) = 0x1F ∧ fOp ((atWord 0x26).fetched 0) = 0x26 ∧ fOp ((atWord 0x2F).fetched 0) = 0x2F ∧
      fOp ((atWord 0x33).fetched 0) = 0x33 ∧ fOp ((atWord 0x3F).fetched 0) = 0x3F) ∧
    (let c := (taking []).wrMem (slotMem 0 0x180000) 4 15
     fOp (c.fetched 0) = 0 ∧ fF (c.fetched 0) = 15 ∧ Free c 0 (c.fetched 0)) := by decide +kernel

theorem w_RunAndHaltRequests :
    (let c := block [(Reg.PWR_DOM_STAT_STATE 0, 2)]
     c.windowOpen 0 = true ∧ c.seqState 0 = 0 ∧ c.dhalted 0 = false) ∧
    ((running []).windowOpen 0 = true ∧ (running []).seqState 0 ≠ 0 ∧ (running []).seqLive 0 = true) ∧
    (let c := block [(Reg.PWR_DOM_STAT_STATE 0, 2), (Reg.BDP_CORE_STAT_DHALT 16, 1)]
     c.windowOpen 16 = true ∧ c.dhalted 16 = true) ∧
    ((block []).seqLive 0 = false ∧ (block []).dhalted 0 = false) := by decide +kernel

/-- Send port 15 of core 0 bound to queue 0 of core 1, with these credits and CRED. -/
def bound (credits cred : Nat) (l : List (Reg.Fld × Nat)) : Chip :=
  running ([(Reg.WADI_SPORT_CFG_BOUND 0 15, 1), (Reg.WADI_SPORT_CFG_CREDITS 0 15, credits), (Reg.WADI_SPORT_STAT_CRED 0 15, cred),
    (⟨Reg.WADI_SPORT_ROUTE_LO 0 15, 31, 0⟩, (routeOf [4]).toNat % 2 ^ 32), (⟨Reg.WADI_SPORT_ROUTE_HI 0 15, 15, 0⟩, (routeOf [4]).toNat / 2 ^ 32)] ++ l)

/-- FUNCT of a SEND of `n` words through port 15. -/
def sendF (n : Nat) : BitVec 11 := BitVec.ofNat 11 (15 + (n - 1) * 16)

theorem w_SendTuples :
    (Free (running []) 0 (rWord 0x20 31 28 0 (sendF 4)) ∧ (28#5).toNat + 4 ≤ 32 ∧ (running []).get (Reg.WADI_SPORT_CFG_BOUND 0 15) = 0) ∧
    (let c := bound 4 4 [(Reg.WADI_SPORT_STAT_ORPHAN 0 15, 1)]
     Free c 0 (rWord 0x20 31 28 0 (sendF 4)) ∧ c.get (Reg.WADI_SPORT_CFG_BOUND 0 15) = 1 ∧ c.get (Reg.WADI_SPORT_STAT_ORPHAN 0 15) = 1 ∧
      c.get (Reg.CORE_CFG_ORPHAN_EXC 0) = 0) ∧
    (let c := bound 3 3 []
     Free c 0 (rWord 0x20 31 28 0 (sendF 4)) ∧ c.get (Reg.WADI_SPORT_STAT_ORPHAN 0 15) = 0 ∧ c.get (Reg.WADI_SPORT_CFG_CREDITS 0 15) < 4) ∧
    (let c := bound 4 3 []
     Free c 0 (rWord 0x20 31 28 0 (sendF 4)) ∧ 4 ≤ c.get (Reg.WADI_SPORT_CFG_CREDITS 0 15) ∧ c.get (Reg.WADI_SPORT_STAT_CRED 0 15) < 4) ∧
    (let c := bound 4 4 []
     Free c 0 (rWord 0x20 31 28 0 (sendF 4)) ∧ 4 ≤ c.get (Reg.WADI_SPORT_STAT_CRED 0 15) ∧ pathCheck c 0 (c.sportRoute 0 15) = OK ∧
      c.room 0 0 1 = true) := by decide +kernel

/-- Queue 3 of core 0 open with these tuples. -/
def queued (l : List Tuple) : Chip := slot0 (running [(Reg.WADI_Q_STAT_STATE 0 3, 1)]) (fun k => k.setQueue 3 l)

/-- A tuple of `n` words from core 1. -/
def tuple (n : Nat) : Tuple := { words := List.replicate n 9, src := 1, port := 2, sb := false }

theorem w_ReceiveTuples :
    (Free (running []) 0 (rWord 0x21 30 29 0 0x007) ∧ (30#5).toNat + 2 ≤ 32 ∧ (29#5).toNat < (30#5).toNat ∧
      (running []).isRQueue 0 3 = false ∧ (running []).queueOpen 0 3 = false) ∧
    (Free (queued []) 0 (rWord 0x21 30 29 0 0x007) ∧ (queued []).queueOpen 0 3 = true ∧ ((queued []).core 0).queue 3 = []) ∧
    (((queued [tuple 3]).core 0).queue 3 = tuple 3 :: [] ∧ 2 < (tuple 3).words.length) ∧
    (((queued [tuple 2]).core 0).queue 3 = tuple 2 :: [] ∧ OpenInput (queued [tuple 2]) 0 21 5 ∧ (tuple 2).words.length ≤ 2 ∧ (queued [tuple 2]).isRQueue 0 3 = false) := by
  decide +kernel

theorem w_SyncInstructions :
    (let c := g1 (running [(Reg.SYNC_CFG_TYPE 0 7, 2)]) 7
     Free c 0 (rWord 0x23 3 1 2 2) ∧ (2#11).toNat < 3 ∧ c.greg 0 1 = BitVec.ofNat 32 (0 * 8 + 7) ∧ c.syncType 0 7 ≠ 1) ∧
    (let c := running [(⟨Reg.SYNC_VALUE 0 7, 31, 0⟩, 1)]
     Free c 0 (rWord 0x24 3 1 0 7) ∧ c.satisfied 0 7 = true) ∧
    (Free (running []) 0 (rWord 0x24 3 1 0 7) ∧ (running []).satisfied 0 7 = false) ∧
    (Free (taking []) 0 (rWord 0x25 3 1 2 0) ∧ (taking []).greg 0 1 = 0 ∧ TakesExceptions (taking []) 0) ∧
    (let c := g1 (taking []) 0x3000
     2 ^ 13 ≤ (c.greg 0 1).toNat ∧ Free c 0 (rWord 0x25 3 1 2 0) ∧ TakesExceptions c 0 ∧ c.greg 0 1 &&& BitVec.ofNat 32 (c.readyMask 0 0) ≠ 0) ∧
    (let c := g1 (running []) 1
     Free c 0 (rWord 0x25 3 1 2 0) ∧ c.greg 0 1 ≠ 0 ∧ c.greg 0 1 &&& BitVec.ofNat 32 (c.readyMask 0 0) = 0) ∧
    (let c := g1 (running []) 0x1FFF
     Free c 0 (rWord 0x25 3 1 2 0) ∧ (c.greg 0 1).toNat < 2 ^ 13 ∧ c.greg 0 1 &&& BitVec.ofNat 32 (c.readyMask 0 0) ≠ 0) := by
  decide +kernel

/-- MXPASS operands for one step of range 0, and a population that admits them. -/
def mxReady : Chip :=
  g1 (running [(Reg.NE_POP_CFG_VALID 0 0, 1), (Reg.NE_POP_CFG_DENSE 0 0, 1), (Reg.NE_POP_RANGE_COUNT 0 0, 1), (Reg.MX_IN_RANGE_CFG_VALID 0 0, 1)]) 0x10000

theorem w_PassesAndEvents :
    (let c := slot0 (running []) (fun k => { k with mx := some dense0 })
     Free c 0 (rWord 0x28 3 1 2 0) ∧ (c.core 0).slice = false ∧ c.mxStalls 0 0 = true) ∧
    (let c := slot0 (running []) (fun k => { k with slice := true })
     Free c 0 (rWord 0x28 3 1 2 0) ∧ (c.core 0).slice = true) ∧
    (let c := g1 (taking []) 0
     Free c 0 (rWord 0x28 3 1 2 0) ∧ c.mxStalls 0 0 = false ∧ (c.core 0).slice = false ∧ wbits (c.greg 0 1) 15 14 = 0 ∧
      c.mxOk 0 0 (MxArgs.mk 0 0 0 0 0 false) = false ∧ TakesExceptions c 0) ∧
    (Free mxReady 0 (rWord 0x28 3 1 2 0) ∧ mxReady.mxStalls 0 0 = false ∧ (mxReady.core 0).slice = false ∧ (mxReady.greg 0 2).toNat < 2 ^ 16 ∧ (mxReady.greg 0 3).toNat < 2 ^ 19 ∧
      mxReady.mxOk 0 0 (MxArgs.mk 0 0 1 0 0 false) = true ∧ wbits (mxReady.greg 0 1) 31 16 = 1) ∧
    (let c := slot0 (running []) (fun k => { k with outq := List.replicate 32 0 })
     Free c 0 (rWord 0x2A 0 1 2 3) ∧ (c.core 0).emitRoom 3 = false) ∧
    (Free (running []) 0 (rWord 0x2A 0 1 2 3) ∧ ((running []).core 0).emitRoom 3 = true ∧ ((running []).greg 0 2).toNat < 2 ^ 13 ∧
      wbits ((running []).greg 0 2) 12 8 < (running []).lanes 0) := by decide +kernel

/-! ## The fabric -/

/-- Router 9 is enabled, with these registers written, and `f` at the head of `input`, class `cls`. -/
def router9 (l : List (Reg.Fld × Nat)) (input cls : Nat) (f : Flit) : Chip :=
  (block ([(Reg.PWR_DOM_STAT_STATE 9, 2), (Reg.RT_CFG_EN 9, 1)] ++ l)).setBuf 9 input cls [f]

/-- Entry 0 of router 9 matches every event and names output `o`. -/
def entry0 (o : Nat) : List (Reg.Fld × Nat) := [(Reg.MCAST_WORD 9 0 2, 2 ^ 31 + 2 ^ o)]

theorem w_EventHops :
    (let c := router9 (entry0 15) 17 0 (.event 5 none)
     c.routerOn 9 = true ∧ (c.buf 9 17 0).head? = some (.event 5 none) ∧ c.lookup 9 (evKey 5) = some 0 ∧
      (c.mcast 9 0 2).toNat % 2 ^ 21 = 2 ^ 15 ∧ c.removed 9 17 15 = false ∧ c.staged 9 15 0 = none ∧ c.frozenPort (9 * 16 + 15) = false) ∧
    (let c := router9 (entry0 19) 17 0 (.event 5 none)
     c.lookup 9 (evKey 5) = some 0 ∧ (c.mcast 9 0 2).toNat % 2 ^ 21 = 2 ^ 19 ∧ c.removed 9 17 19 = false ∧
      neighbour c 9 3 = some 1 ∧ c.room 1 (arriveOn 3) 0 = true) := by decide +kernel

theorem w_EventMisses :
    (let c := router9 [] 16 0 (.event 5 none)
     c.routerOn 9 = true ∧ (c.buf 9 16 0).head? = some (.event 5 none) ∧ c.lookup 9 (evKey 5) = none) := by decide +kernel

/-- A packet of class 1 with this path, from core 0 to core 144. -/
def packet (path : List Nat) : Packet := { hdr := mkHdr (routeOf path) 1 false false 0 0 0, body := [mkFlit1 0 144 0 0 7] }

theorem w_PacketHops :
    (let c := router9 [] 17 1 (.packet (packet [4]))
     c.routerOn 9 = true ∧ (c.buf 9 17 1).head? = some (.packet (packet [4])) ∧ (packet [4]).cls = 1 ∧ hop (packet [4]).route 0 = 4 ∧
      c.staged 9 ((packet [4]).dst % 16) 1 = none ∧ c.frozenPort (9 * 16 + 0) = false) ∧
    (let c := router9 [] 17 1 (.packet (packet [3, 4]))
     hop (packet [3, 4]).route 0 = 3 ∧ edgeExit 9 3 = false ∧ neighbour c 9 3 = some 1 ∧ c.room 1 (arriveOn 3) 1 = true) ∧
    hop (packet []).route 0 = 7 ∧ hop (packet [6]).route 0 = 6 := by decide +kernel

/-- Router 0 is enabled, with `f` at the delivery stage of core port 15. -/
def staged15 (l : List (Reg.Fld × Nat)) (cls : Nat) (f : Flit) : Chip :=
  (block ([(Reg.PWR_DOM_STAT_STATE 0, 2), (Reg.RT_CFG_EN 0, 1)] ++ l)).setStage 0 15 cls (some { flit := f, slot := none })

theorem w_EventDelivery :
    (let c := staged15 [] 0 (.event 5 none)
     c.routerOn 0 = true ∧ c.frozenPort 15 = false ∧ c.staged 0 15 0 = some { flit := .event 5 none, slot := none } ∧ c.activeSlot 0 15 < 17 ∧
      c.activeSlot 0 15 = 15 ∧ c.absorbing 15 = false ∧ c.seats 15 = true ∧ c.fenced 15 = false ∧ (c.core 15).inq.length < 64) ∧
    (let c := staged15 [(Reg.RST_FENCED_SLOTS 0, 2 ^ 15)] 0 (.event 5 none)
     c.seats 15 = true ∧ c.fenced 15 = true) := by decide +kernel

/-- A packet for slot 15 of cluster 0, of class 1 or of the malformed class 0x6. -/
def toSlot15 (cls : Nat) : Packet := { hdr := mkHdr (routeOf [4]) cls false false 15 0 0, body := [mkFlit1 0 15 0 0 7] }

theorem w_PacketDelivery :
    (let c := staged15 [] 1 (.packet (toSlot15 1))
     c.routerOn 0 = true ∧ c.frozenPort 15 = false ∧ c.staged 0 15 1 = some { flit := .packet (toSlot15 1), slot := none } ∧
      (toSlot15 1).epoch = c.get (Reg.NI_MAP_STAT_EPOCH 0) ∧ (toSlot15 1).dslot < 17 ∧ c.fenced 15 = false ∧ c.absorbing 15 = false ∧
      c.seats 15 = true ∧ c.swapping 0 = false ∧ (toSlot15 1).cls ≠ 3 ∧ (toSlot15 1).malformed = false) ∧
    (toSlot15 6).malformed = true ∧ (toSlot15 6).dslot = 15 ∧ (toSlot15 6).cls ≠ 3 := by decide +kernel

theorem w_MapSwaps :
    (State.reset.RegsWf ∧ 63 < State.reset.chip.clusters ∧ State.reset.chip.swapping 63 = false ∧
      (∀ j, j < State.reset.chip.clusters → State.reset.chip.swapping j = false)) ∧
    (let c := block [(Reg.NI_MAP_STAT_DRAINED 63, 0)]
     (st c).RegsWf ∧ 63 < c.clusters ∧ c.swapping 63 = true ∧ c.oldPackets 63 = false ∧ c.rotPhase ≠ 4 ∧ c.fw.reloads = [] ∧
      c.get (Reg.NI_MAP_STAT_DRAIN_LATE 63) = 0) := by decide +kernel

/-! ## Wadis, sync objects, the engines -/

/-- Slot 0 with a delivered packet. -/
def delivered (l : List (Reg.Fld × Nat)) (pk : Packet) : Chip := slot0 (running l) (fun k => { k with arrived := [pk] })

/-- A wadi packet of `n` words for queue 3. -/
def wadi (n : Nat) : Packet := { hdr := mkHdr (routeOf [4]) 1 false false 0 0 ((n - 1 + 1) / 2), body := mkFlit1 1 0 0 (3 + (n - 1) * 4) 7 :: List.replicate (n / 2) 0 }

theorem w_TuplesArrive :
    (let c := delivered [(Reg.WADI_Q_STAT_STATE 0 3, 1)] (wadi 1)
     FirstArrived c 0 1 (wadi 1) [] ∧ c.swapping 0 = false ∧ c.queueOpen 0 (wadi 1).wadiQueue = true ∧
      wordsOf ((c.core 0).queue 3) + (wadi 1).tuple.words.length ≤ 32) ∧
    (let c := slot0 (delivered [(Reg.WADI_Q_STAT_STATE 0 3, 1)] (wadi 1)) (fun k => k.setQueue 3 (List.replicate 8 (tuple 4)))
     c.queueOpen 0 3 = true ∧ wordsOf ((c.core 0).queue 3) = 32 ∧ 32 < wordsOf ((c.core 0).queue 3) + (wadi 1).tuple.words.length) ∧
    (delivered [] (wadi 1)).queueOpen 0 (wadi 1).wadiQueue = false ∧ OpenInput (delivered [] (wadi 1)) 0 21 5 := by decide +kernel

/-- A WCREDIT for port 15. -/
def wcredit15 : Packet := { hdr := mkHdr (routeOf [4]) 5 true false 0 0 0, body := [mkFlit1 1 0 0 0x21 (15 + 32 * 16)] }

theorem w_CreditsReturn :
    (let c := delivered [(Reg.WADI_SPORT_CFG_BOUND 0 15, 1)] wcredit15
     (0 : Nat) ≠ 2047 ∧ FirstArrived c 0 5 wcredit15 [] ∧ c.get (Reg.WADI_SPORT_CFG_BOUND 0 15) = 1) ∧
    (delivered [] wcredit15).get (Reg.WADI_SPORT_CFG_BOUND 0 15) = 0 ∧
    (let c := { block [(Reg.WADI_SPORT_CFG_BOUND 2047 15, 1)] with bridge := { Bridge.init with inbox := [(0, .packet wcredit15)] } }
     c.bridge.inbox.head? = some (0, .packet wcredit15) ∧ wcredit15.cls = 5 ∧ wcredit15.op = 0x21 ∧
      c.get (Reg.WADI_SPORT_CFG_BOUND 2047 15) = 1) := by decide +kernel

theorem test_a_port_by_its_address : sportAt (Reg.WADI_SPORT_CFG 2047 15) = some (2047, 15) ∧ sportAt (Reg.WADI_SPORT_STAT 0 1) = none := by decide

theorem w_PortBinding :
    (block []).windowOpen 0 = false ∧ (0 : Nat) ≠ bridgeSlot ∧
    (let c := block [(Reg.PWR_DOM_STAT_STATE 0, 2), (Reg.WADI_CTRL_LOCK 16, 1)]
     c.windowOpen 16 = true ∧ c.get (Reg.WADI_CTRL_LOCK 16) = 1) ∧
    (let c := block [(Reg.PWR_DOM_STAT_STATE 0, 2), (Reg.WADI_SPORT_ROUTE_HI_ROUTE_HI 0 15, 0x9FFF), (⟨Reg.WADI_SPORT_ROUTE_LO 0 15, 31, 0⟩, 0xFFFFFFFF)]
     c.windowOpen 0 = true ∧ c.get (Reg.WADI_CTRL_LOCK 0) = 0 ∧ (0x00060004#32).getLsbD 18 = true ∧
      (∀ x ∈ (c.sportCfgWrite 0 15 0x00060004#32).bindingChecks 0 15, ¬ (x.1 = true ∧ x.2 ≠ OK)) ∧ (4#32).getLsbD 18 = false) ∧
    (let c := block [(Reg.PWR_DOM_STAT_STATE 0, 2)]
     c.windowOpen 0 = true ∧ (0x00060004#32).getLsbD 18 = true ∧ pathCheck c (0 / 32) (c.sportPath 0 15) ∈ [PATH_ILLEGAL, ERR_PARAM, ERR_RESOURCE] ∧
      32 < wbits 0x00061004#32 17 12) := by decide +kernel

/-- A SYNC packet that adds 7 to object 5. -/
def syncAdd5 : Packet := { hdr := mkHdr (routeOf [4]) 2 false false 0 0 0, body := [mkFlit1 1 0 0 5 7] }

theorem w_SyncOperations :
    ((block [(Reg.PWR_DOM_STAT_STATE 0, 2)]).windowOpen 16 = true ∧ (1#32).getLsbD 0 = true ∧ (2#32).getLsbD 0 = false) ∧
    (block [(Reg.SYNC_ALARM_ARMED 16 7, 1)]).get (Reg.SYNC_ALARM_ARMED 16 7) = 1 ∧
    (let c := delivered [] syncAdd5
     FirstArrived c 0 2 syncAdd5 [] ∧ c.swapping 0 = false ∧ syncAdd5.op / 8 % 4 < 3) := by decide +kernel

def group1 (w8 : Bool) : Group :=
  { range := 0, pop := 0, row := 0, block := 0, blocks := 1, base := 0, w8 := w8, items := [], ages := [] }

theorem w_RankOneUpdates :
    (let c := slot0 (running []) (fun k => { k with group := some (group1 false) })
     c.engineOn 0 = true ∧ (c.core 0).group = some (group1 false) ∧ (c.core 0).usedBanks < 2 ∧
      (c.core 0).slice = false ∧ c.frozenSlot 0 = false ∧ c.get (Reg.CORE_STAT_HOLD 0) = 0 ∧
      bit (bytesToNat ((c.mem.readBytes (slotMem 0 0) (sliceSize false)).take 2)) 15 = false) ∧
    bit (bytesToNat ((((running []).mem.readBytes (slotMem 0 0) (sliceSize true))).take 2)) 15 ≠ true := by decide +kernel

def item0 : GItem := { lane := 0, pay := 64, tag := 0, x1 := 0, x2 := 0 }

/-- A pass over one output whose threshold is 1.0 (Q16.16), weight `w` in units of 2^−56. -/
def pass0 (w : Int) : Pass :=
  { pop := 0, range := 0, row := 0, block := 0, item := item0, weights := [w], desc := [1 * 2 ^ 14, 0, 0x10000, 0, 0, 0, 0, 0], next := 0, outs := [],
    heldEv := none, heldDrift := [], heldLane := none }

theorem w_NeuronTouches :
    (let ps := pass0 0
     let x := (block []).readLane 0 0
     x.refr = false ∧ x.tag = ps.item.tag.toNat ∧ descCfg ps.desc 13 7 = 0 ∧ 0 < (descTheta ps.desc).toInt) ∧
    (let ps := { pass0 0 with heldLane := some (7, (block []).readLane 0 0) }
     ps.heldEv = none ∧ ps.heldDrift = [] ∧ ps.heldLane = some (7, (block []).readLane 0 0)) ∧
    (let c := slot0 (running []) (fun k => { k with outq := List.replicate 32 0 })
     let ps := { pass0 0 with heldEv := some 1, desc := [0, 0x10, 0, 0, 0, 0] }
     ps.heldEv = some 1 ∧ (c.core 0).emitRoom (descCfg ps.desc 5 4) = false) ∧
    (running [(Reg.LRN_CFG_FREEZE 0, 1)]).driftOpen 0 = false := by decide +kernel

def bank0 : Bank := { pop := 0, range := 0, row := 0, block := 0, weights := [], items := [item0] }

theorem w_EngineCommands :
    (let c := slot0 (running []) (fun k => { k with banks := [bank0] })
     c.engineOn 0 = true ∧ (c.core 0).pass = none ∧ (c.core 0).banks = bank0 :: [] ∧ bank0.items = item0 :: [] ∧ c.held 0 = false ∧
      (c.core 0).denseNext = false ∧ c.frozenSlot 0 = false ∧ descCount (c.popDesc 0 bank0.pop) = 0 ∧ descCfg (c.popDesc 0 bank0.pop) 6 6 = 0) ∧
    (let ps := { pass0 0 with heldEv := some 1 }
     let c := slot0 (running [(Reg.NE_CFG_EMIT_TO 0, 1)]) (fun k => { k with pass := some ps })
     (c.core 0).pass = some ps ∧ ps.heldEv = some 1 ∧ c.get (Reg.NE_CFG_EMIT_TO 0) ≠ 0) ∧
    (let c := slot0 (running []) (fun k => { k with outq := [1] })
     c.logical? 0 = some 0 ∧ (c.core 0).outq = 1 :: [] ∧ c.room 0 0 0 = true) ∧
    (let c := running [(Reg.NE_CFG_SCRUB_EN 0, 1), (Reg.NE_POP_CFG_VALID 0 0, 1), (Reg.NE_POP_RANGE_COUNT 0 0, 1)]
     c.get (Reg.NE_CFG_SCRUB_EN 0) = 1 ∧ c.held 0 = false ∧ (c.core 0).pass = none ∧ (c.core 0).mx = none ∧ c.frozenSlot 0 = false ∧
      c.placeAt 0 (c.core 0).scrub (List.range 16) = some (.slot 0 0)) ∧
    (let m := { dense0 with lane := (running []).lanes 0 - 1, next := 31 }
     let c := slot0 (running []) (fun k => { k with mx := some m })
     (c.core 0).mx = some m ∧ m.heldEv = none ∧ m.ahead = false ∧ m.lane + 1 = c.lanes 0 ∧ m.next = 31 ∧ descCount m.desc ≤ 32 * m.block + 31) := by
  decide +kernel

theorem w_DenseLanes : descCfg (pass0 0).desc 13 7 = 0 := by decide +kernel

theorem w_LearningCommands :
    (let d := Drift.pre 0 0 0 0 0 0 0 0 []
     let c := slot0 (running []) (fun k => { k with drift := [d], slice := true })
     c.engineOn 0 = true ∧ (c.core 0).drift = d :: [] ∧ (c.core 0).slice = true) ∧
    (let c := running [(Reg.MX_IN_RANGE_CFG_W8 0 0, 1)]
     (c.core 0).slice = false ∧ c.sliceBad 0 (c.driftAddr 0 0 0 0 0) (c.rangeW8 0 0) = true) ∧
    (let tup := { tuple 1 with words := [0x1F00#32] }
     let c := slot0 (running [(Reg.LRN_CFG_RQ_EN 0, 1), (Reg.NE_CFG_LANES 0, 1)]) (fun k => k.setQueue 0 [tup])
     c.get (Reg.LRN_CFG_RQ_EN 0) = 1 ∧ (c.core 0).queue (c.get (Reg.LRN_CFG_RQ 0)) = tup :: [] ∧ tup.words = [0x1F00#32] ∧ c.rot.taken = false ∧
      wbits 0x1F00#32 31 14 = 0 ∧ wbits 0x1F00#32 13 13 = 0 ∧ wbits 0x1F00#32 12 8 = 31 ∧ c.lanes 0 ≤ 31) ∧
    wbits 0x2007#32 13 13 = 1 ∧ wbits 0x0007#32 12 8 < (running []).lanes 0 := by decide +kernel

/-! ## Cell links -/

/-- Port 127 in state `st_`, with these fields and this record. -/
def port127 (st_ : Nat) (l : List (Reg.Fld × Nat)) (x : PortSt) : Chip := (block ((Reg.CL_PORT_STAT_STATE 127, st_) :: l)).setPort 127 x

theorem w_PortBringUp :
    127 < (block []).clPorts ∧
    (let c := block [(Reg.CL_CTRL_ENABLE, 1), (Reg.CL_PORT_CFG_EN 127, 1)]
     c.unitHeld 68 = false ∧ c.portState 127 = 0 ∧ c.get Reg.CL_CTRL_ENABLE = 1 ∧ c.get (Reg.CL_PORT_CFG_EN 127) = 1) ∧
    (port127 1 [] PortSt.init).portState 127 = 1 ∧ (port127 1 [] PortSt.init).unitHeld 68 = false ∧
    (let c := port127 2 [(Reg.CL_PORT_CFG_POL_AUTO 127, 0)] PortSt.init
     c.unitHeld 68 = false ∧ c.portState 127 = 2 ∧ (c.port 127).nonce = none ∧ c.get (Reg.CL_PORT_CFG_POL_AUTO 127) = 0) ∧
    (port127 2 [(Reg.CL_PORT_CFG_POL_AUTO 127, 1)] PortSt.init).get (Reg.CL_PORT_CFG_POL_AUTO 127) = 1 ∧
    (let c := port127 6 [(Reg.CL_CFG_REARM_PERIOD, 1), (Reg.CL_PORT_STAT_FAULT 127, 1)] PortSt.init
     c.unitHeld 68 = false ∧ c.portState 127 = 6 ∧ c.get Reg.CL_CFG_REARM_PERIOD ≠ 0 ∧ c.get (Reg.CL_PORT_STAT_FAULT 127) ≠ 5) ∧
    (port127 6 [(Reg.CL_PORT_STAT_FAULT 127, 5)] PortSt.init).get (Reg.CL_PORT_STAT_FAULT 127) = 5 := by decide +kernel

/-- An ID reply that names port `n`, echoes nonce 0x1234 and gives a turnaround of `d` ticks. -/
def reply (n d : Nat) : CellFrame := mkFrame 7 false 0 0 (BitVec.ofNat 160 (n + 0x1234 * 2 ^ 8 + 7 * 2 ^ 48 + d * 2 ^ 80))

theorem w_Identification :
    (let x := { PortSt.init with nonce := some 0x1234, attempts := 1 }
     let c := port127 3 [] x
     127 < c.clPorts ∧ c.portState 127 = 3 ∧ (c.port 127).nonce = some 0x1234 ∧ (c.port 127).attempts ≠ 3 ∧ (c.port 127).attempts < 6 ∧
      c.pinsIdle = false ∧ c.unitHeld 68 = false ∧ frameCrc (reply 127 0) = frameCrcOf (reply 127 0) ∧ frameType (reply 127 0) = 7 ∧ framePver (reply 127 0) = 1 ∧
      (framePayload (reply 127 0)).toNat % 256 = 127 ∧ (c.port 127).nonce = some ((framePayload (reply 127 0)).extractLsb' 8 16)) ∧
    (let x := { PortSt.init with nonce := some 0x1234, attempts := 3 }
     let c := port127 3 [(Reg.CL_PORT_CFG_TXPOL_AUTO 127, 1)] x
     c.unitHeld 68 = false ∧ (c.port 127).attempts = 3 ∧ c.get (Reg.CL_PORT_CFG_TXPOL_AUTO 127) = 1) ∧
    6 ≤ ({ PortSt.init with attempts := 6 } : PortSt).attempts ∧
    (let c := (port127 3 [] PortSt.init).setPort 0 { PortSt.init with nonce := some 0x1234 }
     c.unitHeld 68 = false ∧ (framePayload (reply 0 0)).toNat % 256 = 0 ∧ (0 : Nat) ≠ 127 ∧ (c.port 0).nonce = some ((framePayload (reply 0 0)).extractLsb' 8 16)) := by
  decide +kernel

/-- A good frame of a type. -/
def frame (type : Nat) (seq : Byte) (payload : BitVec 160) : CellFrame := mkFrame type false seq 0 payload

theorem w_FrameChecks :
    .wakeFrame 127 (frame 1 0 0) 0 ∈ frameCmds 127 (frame 1 0 0) 0 ∧ (port127 2 [] PortSt.init).portHears 127 = false ∧
    (let c := port127 4 [] PortSt.init
     127 < c.clPorts ∧ c.pinsIdle = false ∧ c.unitHeld 68 = false ∧ c.portHears 127 = true ∧
      frameCrc (frame 1 0 0 ^^^ 1) ≠ frameCrcOf (frame 1 0 0 ^^^ 1) ∧
      frameCrc (frame 9 0 0) = frameCrcOf (frame 9 0 0) ∧ 8 < frameType (frame 9 0 0) ∧ frameType (frame 0 0 0) = 0) := by decide +kernel

theorem w_DataFrames :
    (let c := port127 4 [(Reg.CL_PORT_CFG_MAP_COUNT 127, 1)] { PortSt.init with rxSeq := some 0xFF#8 }
     GoodFrame c 127 (frame 1 2 0) 1 ∧ GoodFrame c 127 (frame 2 2 0) 2 ∧ c.portState 127 = 4 ∧ c.get (Reg.CL_PORT_CFG_MAP_COUNT 127) ≠ 0 ∧
      (c.port 127).fifo.length < 16 ∧ (c.port 127).rxSeq = some 0xFF#8 ∧ frameDup (frame 1 2 0) = false) ∧
    16 ≤ ({ PortSt.init with fifo := List.replicate 16 (0, 0) } : PortSt).fifo.length ∧ (port127 5 [] PortSt.init).portState 127 = 5 ∧
    GoodFrame (port127 5 [] PortSt.init) 127 (frame 1 2 0) 1 := by decide +kernel

/-- An exchange of slot 3 under SEQ 9. -/
def exchange (n : Nat) : Exchange := { seq := 9, payload := 0, retries := n, origin := .mailbox 3 }

theorem w_ControlFrames :
    (let c := port127 4 [] { PortSt.init with ctrl := some (exchange 0), alarms := [5#8, 7#8] }
     GoodFrame c 127 (frame 3 8 0) 3 ∧ frameSeq (frame 3 8 0) ∉ (c.port 127).alarms ∧
      frameSeq (frame 3 7 0) ∈ (c.port 127).alarms ∧ GoodFrame c 127 (frame 5 0 (4 + 9 * 256)) 5 ∧ (c.port 127).ctrl = some (exchange 0) ∧
      (framePayload (frame 5 0 (4 + 9 * 256))).toNat % 256 = 4 ∧
      (framePayload (frame 5 0 (4 + 9 * 256))).toNat / 256 % 256 = (exchange 0).seq.toNat ∧ GoodFrame c 127 (frame 8 0 0) 8) ∧
    PortSt.init.ctrl = none := by decide +kernel

theorem w_MappedTelemetry :
    (let x := { PortSt.init with fifo := [(frame 1 0 0, 0)] }
     let c := port127 4 [(Reg.CL_CTRL_INGEST_EN, 1), (Reg.CL_PORT_CFG_MAP_COUNT 127, 1), (Reg.CL_PORT_CFG_MAP_BASE 127, 4095),
       (Reg.CL_MAP_WORD 4095 2, 2 ^ 16 + 2 ^ 15 + 15 * 2 ^ 8 + 144)] x
     127 < c.clPorts ∧ c.unitHeld 68 = false ∧ 127 % 16 = (15#4).toNat ∧ (c.port 127).walk = none ∧ (c.port 127).fifo = (frame 1 0 0, 0) :: [] ∧
      c.get Reg.CL_CTRL_INGEST_EN = 1 ∧ c.get (Reg.CL_PORT_CFG_MAP_COUNT 127) = 1 ∧ wbits (c.mapWord 4095 2) 15 15 = 1 ∧
      wbits (c.mapWord 4095 2) 19 16 = 1 ∧ frameType (frame 1 0 0) = 1 ∧ wbits (c.mapWord 4095 2) 7 0 + (wbits (c.mapWord 4095 2) 11 8 + 1) ≤ 160 ∧
      smGet [] c.bridge.injCap (127 / 16) = [] ∧ c.room (127 / 16) 19 0 = true) := by decide +kernel

theorem w_PortExchangesAndPauses :
    (let c := port127 4 [] { PortSt.init with ctrl := some (exchange 2), pauseReq := true }
     (c.port 127).ctrl = some (exchange 2) ∧ (exchange 2).retries < 3 ∧ (exchange 3).retries = 3 ∧ (exchange 3).origin = .mailbox 3 ∧
      127 < c.clPorts ∧ c.portState 127 = 4 ∧ (c.port 127).pauseReq = true ∧ c.inLookout = false ∧ c.pinsIdle = false ∧ c.unitHeld 68 = false) ∧
    (port127 5 [(Reg.CL_PORT_PAUSE_DURATION 127, 1)] PortSt.init).portState 127 = 5 ∧ (port127 5 [(Reg.CL_PORT_PAUSE_DURATION 127, 1)] PortSt.init).unitHeld 68 = false ∧
    (port127 5 [(Reg.CL_PORT_PAUSE_DURATION 127, 1)] PortSt.init).get (Reg.CL_PORT_PAUSE_DURATION 127) ≠ 0 ∧
    (port127 5 [] PortSt.init).get (Reg.CL_PORT_PAUSE_DURATION 127) = 0 ∧
    (let c := port127 1 [(Reg.CL_CFG_LOS_WIN, 1), (Reg.CL_CFG_SHORT_WIN, 1)] PortSt.init
     c.unitHeld 68 = false ∧ c.pinsIdle = false ∧ 1 ≤ c.portState 127 ∧ c.portState 127 ≤ 5 ∧ c.get Reg.CL_CFG_LOS_WIN ≠ 0 ∧ c.get Reg.CL_CFG_SHORT_WIN ≠ 0) ∧
    (block [(Reg.CL_CFG_LOS_WIN, 0)]).get Reg.CL_CFG_LOS_WIN = 0 := by decide +kernel

/-! ## Timers and capture -/

theorem w_TimerActions :
    (let c := (block []).modChan 255 (fun x => { x with cmds := [.start, .reset], due := [(.stop, 5)] })
     (st c).pending = [] ∧ c.power.supply = 0 ∧ c.power.inReset = false ∧ c.unitHeld 69 = false ∧ c.power.lko.entering = false ∧ c.sync.slew = 0 ∧
      (c.chan 255).stopTick ≠ some (c.time + BitVec.ofNat 48 c.tickUnit) ∧ (c.chan 255).cmds ≠ [] ∧ .start ∈ (c.chan 255).cmds ∧
      .reset ∈ (c.chan 255).cmds ∧ .stop ∈ ((c.chan 255).due.filter (fun a => a.2 != c.time)).map (·.1)) := by decide +kernel

theorem w_Standstill :
    (block [(Reg.BDP_STAT_EXTEST, 1)]).pinsIdle = true ∧ (block [(Reg.PWR_STATE_STATE, 2)]).unitHeld 68 = true ∧ (block [(Reg.PWR_DOM_STAT_STATE 69, 4)]).unitHeld 69 = true ∧
    (block [(Reg.PWR_DOM_STAT_STATE 69, 4)]).inLookout = false := by decide +kernel

theorem w_TimerCounts :
    (let c := block [(Reg.TMR_CH_STAT_RUN 255, 1), (Reg.TMR_CH_COUNT_COUNT 255, 2 ^ 32 - 1)]
     c.unitHeld 69 = false ∧ c.get (Reg.TMR_CH_STAT_RUN 255) = 1 ∧ (c.chan 255).resetTick ≠ some c.time ∧ c.get (Reg.TMR_CH_CFG_LINK 255) ≠ 255) := by decide +kernel

/-- R77: a START that lands in the tick of a STOP is lost; R76: one written lands in the next tick. -/
theorem test_start_in_the_tick_of_a_stop :
    after (.linkAction 7) ((block []).modChan 7 (fun x => { x with stopTick := some 0, due := [(.start, 5)] })) 9
      (fun t => t.get (Reg.TMR_CH_STAT_RUN 7)) = 0 ∧
    (match step (st ((block []).timerCmd 7 [.start])) with | .next t => t.chip.get (Reg.TMR_CH_STAT_RUN 7) | _ => 9) = 1 := by decide +kernel

/-- Channel 255 captures pair 63 in mode `m`. -/
def capturing (m : Nat) (l : List (Reg.Fld × Nat)) : Chip :=
  block ([(Reg.TMR_CH_CFG_MODE 255, m), (Reg.CAP_CH_CFG_SRC 255, 7), (Reg.CAP_CH_CFG_SRC_EN 255, 1), (Reg.CAP_CH_CFG_FLEN 255, 15),
    (Reg.CAP_CH_CFG_EDGE 255, 2), (Reg.CAP_PAIR_CFG_EN 63, 1)] ++ l)

theorem w_EdgeCaptures :
    (let c := capturing 1 [(Reg.CAP_CH_CFG_EPRE 255, 1)]
     Captures c 255 false ∧ c.get (Reg.CAP_CH_CFG_EMIT 255) = 0 ∧ c.get (Reg.TMR_CH_CFG_MODE 255) = 1 ∧
      ((c.chan 255).edges + 1) % (c.get (Reg.CAP_CH_CFG_EPRE 255) + 1) ≠ 0) ∧
    (let c := capturing 1 []
     Captures c 255 false ∧ ((c.chan 255).edges + 1) % (c.get (Reg.CAP_CH_CFG_EPRE 255) + 1) = 0) ∧
    (let c := capturing 2 []
     c.get (Reg.TMR_CH_CFG_MODE 255) = 2 ∧ (c.chan 255).queue.length < 8) ∧
    (let c := (capturing 2 []).modChan 255 (fun x => { x with queue := List.replicate 8 { count := 0, stamp := 0, rising := true } })
     Captures c 255 false ∧ 8 ≤ (c.chan 255).queue.length) ∧
    (let c := capturing 1 [(Reg.CAP_CH_CFG_FLEN 255, 0)]
     c.unitHeld 69 = false ∧ c.pinsIdle = false ∧ c.srcPair 255 < c.pairs ∧ c.get (Reg.CAP_CH_CFG_SRC_EN 255) = 1 ∧ c.get (Reg.CAP_CH_CFG_FLEN 255) = 0 ∧
      c.get (Reg.TMR_CH_CFG_MODE 255) = 1) := by decide +kernel

theorem w_CaptureEvents :
    (let c := capturing 2 [(Reg.CAP_CH_CFG_EMIT 255, 1), (Reg.CAP_CTRL_EMIT_EN, 1), (Reg.CAP_CH_CFG_EMODE 255, 2)]
     Captures c 255 false ∧ c.get (Reg.TMR_CH_CFG_MODE 255) = 2 ∧ c.get (Reg.CAP_CH_CFG_EMIT 255) = 1 ∧ c.get Reg.CAP_CTRL_EMIT_EN = 1 ∧
      c.get (Reg.CAP_CH_CFG_EMODE 255) = 2 ∧ smGet [] c.bridge.injCap (255 / 32) = [] ∧ c.room (255 / 32) 19 0 = true) := by decide +kernel

theorem w_CaptureConfiguration :
    (8 * (255 / 32) < (block []).pairs ∧ (block []).emitters 255 < 4 ∧ (0x40000#32).getLsbD 18 = true ∧ (0#32).getLsbD 18 = false) ∧
    4 ≤ (block ((List.range 4).map (fun k => (Reg.CAP_CH_CFG_EMIT (224 + k), 1)))).emitters 255 := by decide +kernel

theorem w_CapturePairs :
    (let c := block [(Reg.CAP_PAIR_CFG_EN 63, 1), (Reg.CAP_CFG_OPEN_WIN, 1), (Reg.CAP_CFG_SHORT_WIN, 1), (Reg.CAP_CFG_IDLE_WIN, 1), (Reg.CAP_PAIR_CFG_POL_AUTO 63, 1)]
     63 < c.pairs ∧ c.unitHeld 69 = false ∧ c.pinsIdle = false ∧ c.get (Reg.CAP_PAIR_CFG_EN 63) = 1 ∧ c.get (Reg.CAP_PAIR_STAT_FAULT 63) = 0 ∧ c.get Reg.CAP_CFG_OPEN_WIN ≠ 0 ∧
      c.get Reg.CAP_CFG_SHORT_WIN ≠ 0 ∧ c.get (Reg.CAP_PAIR_STAT_CHECKED 63) = 0 ∧ c.get Reg.CAP_CFG_IDLE_WIN ≠ 0 ∧
      c.get (Reg.CAP_PAIR_CFG_POL_AUTO 63) = 1) ∧
    (block [(Reg.CAP_PAIR_CFG_POL_AUTO 63, 0)]).get (Reg.CAP_PAIR_CFG_POL_AUTO 63) = 0 ∧
    (let c := block [(Reg.CAP_PAIR_STAT_FAULT 63, 1), (Reg.CAP_PAIR_CFG_EN 63, 1)]
     c.unitHeld 69 = false ∧ c.pinsIdle = false ∧ c.get (Reg.CAP_PAIR_CFG_EN 63) = 1 ∧ c.get (Reg.CAP_PAIR_STAT_FAULT 63) ≠ 0 ∧ c.get (Reg.CAP_PAIR_STAT_FAULT 63) ≠ 3) ∧ (block []).get (Reg.CAP_PAIR_CFG_EN 63) = 0 := by decide +kernel

/-! ## Buffers, the crossbar, DRAM -/

/-- Pool 3 is on with 2 buffers. -/
def pool3 (x : Pool) : Chip := { block [(Reg.BUF_POOL_CFG_EN 3, 1), (Reg.BUF_POOL_CFG_COUNT 3, 2)] with pools := [(3, x)] }

theorem w_BufferAllocation :
    14 ≤ (14#4).toNat ∧ (13#4).toNat < 14 ∧
    (let c := pool3 { taken := [1], waiters := [] }
     c.poolOn 3 = true ∧ (c.pool 3).waiters = [] ∧ (c.pool 3).taken.length < c.get (Reg.BUF_POOL_CFG_COUNT 3)) ∧
    (let c := pool3 { taken := [1, 0], waiters := [13] }
     c.poolOn 3 = true ∧ (13#4).toNat ∈ (c.pool 3).waiters ∧ (0#4).toNat ∉ (c.pool 3).waiters ∧
      ¬ ((c.pool 3).waiters = [] ∧ (c.pool 3).taken.length < c.get (Reg.BUF_POOL_CFG_COUNT 3)) ∧ (c.pool 3).waiters.length < 8) ∧
    8 ≤ ((pool3 { taken := [1, 0], waiters := [0, 1, 2, 3, 4, 5, 6, 7] }).pool 3).waiters.length ∧ (block []).poolOn 3 = false ∧
    (let c := { block [(Reg.BUF_POOL_WAIT_TO_TO 3, 1)] with pools := [(3, { taken := [], waiters := [13] })] }
     c.get (Reg.BUF_POOL_WAIT_TO_TO 3) ≠ 0 ∧ (13#4).toNat ∈ (c.pool 3).waiters) ∧
    (block [(Reg.BUF_POOL_WAIT_TO_TO 3, 0)]).get (Reg.BUF_POOL_WAIT_TO_TO 3) = 0 := by decide +kernel

theorem w_BufferPools :
    (let c := pool3 { taken := [1, 0], waiters := [] }
     (0x30001#18).toNat / 65536 = 3 ∧ c.poolOn 3 = true ∧ 1 < c.get (Reg.BUF_POOL_CFG_COUNT 3) ∧ 1 ∈ (c.pool 3).taken ∧ (c.pool 3).waiters = []) ∧
    (let c := pool3 { taken := [1, 0], waiters := [13] }
     (c.pool 3).waiters = 13 :: [] ∧ 1 ∈ (c.pool 3).taken ∧ (c.pool 3).taken.length ≤ c.get (Reg.BUF_POOL_CFG_COUNT 3) ∧ (∀ m ∈ (c.pool 3).waiters, m < 14)) ∧
    ¬ 2 < (pool3 { taken := [1, 0], waiters := [] }).get (Reg.BUF_POOL_CFG_COUNT 3) ∧ bit (0x400000#32).toNat 22 = true ∧ bit (0#32).toNat 22 = false ∧
    (block []).poolOn 3 = false := by decide +kernel

/-- DRAM of 2 GiB serves. -/
def dram (l : List (Reg.Fld × Nat)) : Chip :=
  block ([(Reg.PWR_DOM_STAT_STATE 65, 2), (Reg.DDR_CFG_CAP_GIB 0, 2), (Reg.DDR_STAT_TRAINED 0, 1)] ++ l)

/-- A store of core 5 to DRAM that waits at the bridge. -/
def storeReq : Packet := { hdr := mkHdr 0 3 false true 0 0 3, body := [mkFlit1 5 0x3FF 3 5 64, 0, 7, 0] }

theorem w_CrossbarAccesses :
    14 ≤ (15#4).toNat ∧
    (let c := dram []
     (12#4).toNat < 13 ∧ 0 < (64#14).toNat ∧ (0x7FFFFFC0#48).toNat % 64 + (64#14).toNat ≤ 64 ∧ DramServes c ∧ (0x7FFFFFC0#48).toNat < winBase ∧
      (0x7FFFFFC0#48).toNat + (64#14).toNat ≤ c.usable) ∧
    ((12#4).toNat < 13 ∧ 0x2000000000 ≤ (0x200000003C#48).toNat ∧ (0x200000003C#48).toNat < 0x2001000000 ∧ (6#14).toNat % 4 ≠ 0) ∧
    (0x2002000000 ≤ (0x2002000000#48).toNat ∧ (0x2002000000#48).toNat < oasisBase) ∧ splitFirst isCoreRequest (dram []).bridge.inbox = none ∧
    (let c := { dram [] with bridge := { Bridge.init with inbox := [(0, .packet storeReq)] } }
     splitFirst isCoreRequest c.bridge.inbox = some ((0, .packet storeReq), []) ∧ storeReq.op % 2 = 1 ∧ DramServes c ∧ storeReq.memAddr < winBase ∧
      0 < storeReq.memData.length ∧ storeReq.memAddr % 64 + storeReq.memData.length ≤ 64 ∧ storeReq.memAddr + storeReq.memData.length ≤ c.usable ∧
      OpenInput c (cx (storeReq.src / 16)) 19 4) := by
  decide +kernel

/-- A descriptor that copies 64 bytes from 0 to 0x1000, or fills them. -/
def descriptor (fill : Bool) : List Word := [0, 0, 0x1000, 0, 64, if fill then 0x200#32 else 0, 0xA5A5A5A5, 1]

theorem w_DmaTransfers :
    (let c := block [(⟨Reg.XBAR_DMA_D 7 4, 31, 0⟩, 16777216)]
     dmaValid ((List.range 8).map (fun i => c.rd (Reg.XBAR_DMA_D 7 i))) = true ∧ (smGet [] c.dma 7).length < 256) ∧
    (let c := block [(⟨Reg.XBAR_DMA_D 7 4, 31, 0⟩, 16777220)]
     dmaValid ((List.range 8).map (fun i => c.rd (Reg.XBAR_DMA_D 7 i))) = false) ∧
    256 ≤ (List.replicate 256 (descriptor true)).length ∧
    (let c := { dram [] with dma := [(7, [descriptor false])] }
     smGet [] c.dma 7 = descriptor false :: [] ∧ dmaValid (descriptor false) = true ∧ dmaValid (descriptor true) = true ∧ DramServes c ∧
      dmaDst (descriptor false) + dmaLen (descriptor false) ≤ c.usable ∧ c.usable ≤ winBase ∧
      bit (wbits ((descriptor false).getD 5 0) 15 8) 1 = false ∧ bit (wbits ((descriptor true).getD 5 0) 15 8) 1 = true ∧
      dmaSrc (descriptor false) + dmaLen (descriptor false) ≤ dmaDst (descriptor false)) := by decide +kernel

theorem w_EventCounters :
    (let c := block [(Reg.PMON_CFG_EN (Reg.pmonChip 31), 1), (Reg.PMON_CFG_IRQ (Reg.pmonChip 31), 1)]
     (pmonBase (.chip 31)).1 = Reg.pmonChip 31 ∧ c.get (Reg.PMON_CFG_EN (Reg.pmonChip 31)) = 1 ∧ c.get (Reg.PMON_CFG_IRQ (Reg.pmonChip 31)) = 1) ∧
    (block [(Reg.PWR_DOM_STAT_STATE 0, 2)]).windowOpen 0 = true ∧ (block []).windowOpen 0 = false ∧
    (block [(Reg.FUSE_VARIANT_CODE, 3)]).clusters ≤ 63 ∧ 63 < (block []).clusters ∧
    (block []).get (Reg.PMON_CFG_EN (Reg.pmonChip 31)) = 0 ∧ (block []).time.toNat ≤ (block []).snapTime ∧
    (let c := { block [] with time := 1 }
     c.snapTime < c.time.toNat) ∧
    (block [(Reg.PMON_STAT_PENDING, 1)]).get Reg.PMON_STAT_PENDING = 1 ∧ (block []).get Reg.PMON_STAT_PENDING = 0 := by decide +kernel

theorem w_Bandwidth :
    (let c := block [(Reg.BW_DELIV_C, 47)]
     (4#3).toNat < 5 ∧ wbits 47#32 7 0 = 47 ∧ c.resSum 4 + 47 ≤ c.get Reg.BW_DELIV_C ∧ c.get Reg.BW_DELIV_C < c.resSum 4 + 48) ∧
    5 ≤ (5#3).toNat ∧
    (let c := block []
     1 < c.drams ∧ c.on (Reg.DDR_STAT_REFX2 1) ≠ true ∧ c.on (Reg.DDR_STAT_REFX2 1) = false ∧ c.on (Reg.DDR_STAT_FSP 1) ≠ (true || c.power.ddrRequest) ∧
      c.on (Reg.DDR_STAT_FSP 1) = (false || c.power.ddrRequest)) := by decide +kernel

/-! ## Dune -/

/-- A run descriptor: `mode`, `chains`, `sweeps` and a deadline. -/
def duneDesc (mode chains sweeps deadline : Nat) : List Byte :=
  (List.replicate 5 0#8) ++ [BitVec.ofNat 8 mode, BitVec.ofNat 8 chains, 0, BitVec.ofNat 8 sweeps] ++ List.replicate 55 0#8 ++ [BitVec.ofNat 8 deadline] ++ List.replicate 15 0#8

/-- A run of one variable on core 0, which holds a slice. -/
def dune (l : List (Reg.Fld × Nat)) (f : Dune → Dune) : Chip :=
  let c := slot0 (running ([(Reg.DUNE_STAT_STATE, 2), (Reg.HIF_FWSTATE_FW_STATE, 3)] ++ l)) (fun k => { k with slice := true })
  { c with dune := f { Dune.idle with active := true, desc := duneDesc 0 1 4 9, cores := [0], hcodes := [1], rng := [1], spins := [1], fields := [[1]] } }

def duneBest (e : Int) : Best := { energy := e, sweep := 0, chain := 0, spins := [true] }

theorem w_DuneSweeps :
    ¬ Sweeps (dune [] (fun d => { d with waiting := true })) ∧
    (let c := dune [] (fun d => { d with done := 2, pauseReq := true })
     Sweeps c ∧ c.dune.mode = 0 ∧ 0 < c.dune.chains ∧ c.dune.stop = none ∧ c.dune.done + 1 < c.dune.sweeps ∧ c.dune.best = none ∧ c.dune.pauseReq = true) ∧
    (let c := dune [] (fun d => { d with best := some (duneBest (-1)) })
     Sweeps c ∧ c.dune.mode = 0 ∧ c.dune.stop = none ∧ c.dune.done + 1 < c.dune.sweeps ∧ c.dune.best = some (duneBest (-1)) ∧ c.dune.pauseReq = false) ∧
    (let c := dune [] (fun d => { d with origin := .mailbox 15, stop := some 255 })
     Sweeps c ∧ c.dune.mode = 0 ∧ 0 < c.dune.chains ∧ c.fw.pauses = [] ∧ c.fwUp = true ∧ c.dune.stop = some 255 ∧ c.dune.origin = .mailbox 15) ∧
    (let c := dune [] (fun d => { d with done := 3 })
     Sweeps c ∧ c.dune.mode = 0 ∧ 0 < c.dune.chains ∧ c.fw.pauses = [] ∧ c.fwUp = true ∧ c.dune.stop = none ∧ c.dune.sweeps ≤ c.dune.done + 1) := by
  decide +kernel

theorem w_DuneChance :
    (let d := { Dune.idle with desc := duneDesc 0 1 4 9 }
     bit d.flags 1 = false ∧ 1 < d.sweeps ∧ d.flags % 2 = 0) ∧
    bit { Dune.idle with desc := [0, 0, 0, 0, 8, 0, 1, 2] }.flags 1 = true ∧
    (2689000 < acceptLow false 186 (6658458, -16) ∧ acceptHigh false 186 (6658458, -16) ≤ 2691000 ∧
      acceptLow false 187 (6658458, -16) ≤ acceptLow false 186 (6658458, -16) ∧ acceptHigh false 187 (6658458, -16) ≤ acceptHigh false 186 (6658458, -16) ∧
      acceptFlips false 187 (6658458, -16) 7 = true ∧ acceptFlips false 186 (6658458, -16) 7 = true) := by decide +kernel

/-- The worked example of the Dune chapter: at ΔE = 186 and T_code = 101.6 = 6658458 / 2^16, p = 0.1603. -/
theorem test_acceptance_of_the_worked_example :
    let n := acceptCount (acceptExact false 186 (6658458, -16)) (2 ^ 40)
    1602 * 2 ^ 24 < n * 10000 ∧ n * 10000 < 1604 * 2 ^ 24 := by decide +kernel

theorem w_DuneCommands :
    (let c := dune [] id
     c.get Reg.DUNE_STAT_STATE = 2 ∧ c.get Reg.DUNE_STAT_STATE ≠ 3 ∧ c.dune.active = true ∧ c.dune.waiting = false ∧ c.dune.origin = .internal ∧ c.dune.deadline ≠ 0 ∧ c.seated 0 = true ∧
      c.matrixIdle (c.pcore 0) = false ∧ c.dune.mode ≠ 2) ∧
    (let c := dune [(Reg.DUNE_STAT_STATE, 3), (Reg.DUNE_PAUSE_DURATION, 1)] id
     c.get Reg.DUNE_STAT_STATE = 3 ∧ c.get Reg.DUNE_STAT_STATE ≠ 2 ∧ c.dune.stop = none ∧ c.fw.pauses = [] ∧ c.get Reg.DUNE_PAUSE_DURATION ≠ 0 ∧
      c.dune.active = true ∧ c.inLookout = false ∧ c.fwUp = true ∧ c.dune.deadline ≠ 0) ∧
    ((block []).get Reg.DUNE_PAUSE_DURATION = 0 ∧ (block []).dune.active = false ∧ (block []).dune.deadline = 0 ∧ (block [(Reg.NI_MAP_ACTIVE_SLOT 63 1023, 17)]).seated 1023 = false) ∧
    (let c := slot0 (dune [(Reg.DUNE_SHARE_SHARE, 100)] id) (fun k => { k with slice := false })
     let p := c.pcore 0
     c.get Reg.DUNE_STAT_STATE = 2 ∧ c.dune.waiting = false ∧ 0 ∈ c.dune.cores ∧ c.engineOn p = true ∧ c.matrixIdle p = true ∧ c.gangCluster (p / 32) = false ∧ c.rotStops p = false ∧
      c.granted 0 < c.share * 50 / 100) ∧
    (let c := dune [] (fun d => { d with desc := duneDesc 2 1 4 9, waiting := true })
     c.dune.active = true ∧ c.dune.mode = 2 ∧ c.dune.origin = .internal ∧ c.get Reg.DUNE_STAT_STATE = 2 ∧ c.fw.pauses = [] ∧ c.inLookout = false ∧
      c.fwUp = true ∧ c.dune.waiting = true ∧ c.dune.stop = none ∧
      c.dune.pauseReq = false ∧ c.dune.done < c.dune.sweeps) := by decide +kernel

/-! ## Feryo -/

/-- Link `l` in state `st`, with `f` what the chip holds of it; chip 0 of a ring of two. -/
def feryo (l st : Nat) (w : List (Reg.Fld × Nat)) (f : LinkSt → LinkSt) : Chip :=
  let c := block ([(Reg.FER_LINK_STAT_STATE l, st), (Reg.FER_CFG_TOPO, 1), (Reg.FER_CFG_CHIPS_M1, 1)] ++ w)
  c.setLink l (f (c.link l))

def sent0 : Sent := { seq := 4095, flits := [5], own := false }

/-- A packet from a link whose first hop turns back on itself. -/
def badPath : Packet := { hdr := mkHdr (routeOf [0, 2, 4]) 1 false false 0 0 0, body := [mkFlit1 0 0 0 0 0] }

theorem w_FeryoFrames :
    (let c := feryo 3 3 [] (fun x => { x with replay := [sent0], rx := 4095 })
     3 < c.links_ ∧ c.linkState 3 = 3 ∧ (4095#12).toNat = (c.link 3).rx ∧ (c.link 3).part = [] ∧ dbits 5#64 18 16 = 0 ∧ smGet [] (c.link 3).rxq 0 = [] ∧
      c.room (feryoCluster 3) 20 0 = true ∧ (c.link 3).replay ≠ [] ∧ (c.link 3).replays < c.get Reg.FER_TIMING_REPLAY_MAX ∧
      c.get Reg.FER_TIMING_REPLAY_TO ≠ 0 ∧ (c.link 3).xfers = [] ∧ (c.link 3).rx < 4096) ∧
    frameCrc32 4095 [5] ≠ frameCrc32 4095 [5] + 1 ∧ 0 < [5#64].length ∧ [5#64].length ≤ 32 ∧
    ((0#12).toNat + 4096 - 4095) % 4096 = 1 ∧ 2048 ≤ ((2047#12).toNat + 4096 - 4095) % 4096 ∧
    (let c := feryo 3 3 [] (fun x => { x with replay := [sent0], replays := 8 })
     (c.link 3).replay ≠ [] ∧ c.get Reg.FER_TIMING_REPLAY_MAX ≤ (c.link 3).replays) ∧
    (let c := feryo 3 3 [(Reg.FER_TIMING_REPLAY_TO, 0)] id
     (c.link 3).replay = [] ∧ c.get Reg.FER_TIMING_REPLAY_TO = 0 ∧ dbits badPath.hdr 18 16 ≠ 0 ∧ badPath.body.length = badPath.len + 1 ∧
      pathCheck c (feryoCluster 3) badPath.route ≠ OK ∧ 1 ≤ c.linkState 3 ∧ c.linkState 3 ≤ 4 ∧ (0x1E#8).toNat ∈ [0x1E, 0x2D, 0x33, 0x4B, 0x55, 0x66, 0x78, 0x87, 0x99] ∧
      (0x1F#8).toNat ∉ [0x1E, 0x2D, 0x33, 0x4B, 0x55, 0x66, 0x78, 0x87, 0x99]) ∧
    (feryo 3 2 [] id).linkState 3 ≠ 3 := by decide +kernel

/-- The INIT block of chip 1, link 0, in a ring of two, with this nonce. -/
def initBlock (version : BitVec 8) (nonce : BitVec 16) : DWord := 0#20 ++ nonce ++ version ++ 1#4 ++ 1#2 ++ 0#2 ++ 1#4 ++ 0#8

theorem w_initGood : (feryo 1 2 [] id).initCheck 1 (initBlock Config.linkVersion 7#16) = 0 := by
  unfold Chip.initCheck
  generalize Config.linkVersion = v
  revert v
  decide +kernel

theorem w_initBad : (feryo 1 2 [] id).initCheck 1 0#64 ≠ 0 := by
  unfold Chip.initCheck
  generalize Config.linkVersion = v
  revert v
  decide +kernel

theorem w_initNonce : (initBlock Config.linkVersion 7#16).extractLsb' 28 16 = 7#16 := by
  generalize Config.linkVersion = v
  revert v
  decide +kernel

theorem w_FeryoTraining :
    (let c := feryo 1 6 [] id
     1 < c.links_ ∧ c.linkState 1 = 6) ∧
    (let c := feryo 1 1 [] id
     c.linkState 1 = 1 ∧ (0xF0#8).toNat / 2 ^ (4 * 1) % 16 = 15 ∧ ¬ ((0x7E#8).toNat / 2 ^ (4 * 0) % 16 = 15 ∨ (0x7E#8).toNat / 2 ^ (4 * 1) % 16 = 15)) ∧
    (let c := feryo 1 4 [] (fun x => { x with replay := [sent0] })
     c.linkState 1 = 4 ∧ c.get Reg.FER_TIMING_RETRAIN_TO ≠ 0 ∧ ∀ k, k < c.links_ → c.linkState k ≠ 3) ∧
    (let c := feryo 1 4 [(Reg.FER_LINK_STAT_STATE 0, 3)] id
     c.linkState 1 = 4 ∧ c.linkPeer 1 = some 1 ∧ c.alive 1 = true ∧ 0 < c.links_ ∧ c.linkState 0 = 3 ∧ c.linkPeer 0 = some 1) ∧
    (let c := feryo 1 4 [(Reg.FER_TIMING_RETRAIN_TO, 0), (Reg.FER_LINK_STAT_STATE 0, 3)] id
     c.linkState 1 = 4 ∧ c.get Reg.FER_TIMING_RETRAIN_TO = 0 ∧ 0 < c.links_ ∧ c.linkState 0 = 3) ∧
    (let c := feryo 1 2 [] (fun x => { x with nonce := 7, granted := true })
     c.linkState 1 = 2 ∧ c.linkState 1 ≠ 6 ∧ c.linkState 1 ≠ 1 ∧ 7#16 = (c.link 1).nonce ∧ (c.link 1).replays = 0 ∧ (c.link 1).granted = true ∧
      (c.time - (c.link 1).reqTime).toNat = 2 * 0 + 0) ∧
    (let c := feryo 1 3 [] id
     c.linkState 1 = 3 ∧ 7#16 ≠ (c.link 1).nonce) := by decide +kernel

theorem w_FeryoSyncAndHeartbeat :
    (let c := feryo 0 3 [(Reg.FER_CFG_CHIP_ID, 1), (Reg.HIF_FWSTATE_FW_STATE, 2)] id
     c.upstream = some 0 ∧ c.sync.aligned = false ∧ c.fwUp = true) ∧
    (let c := feryo 0 6 [(Reg.FER_HB_HB_PERIOD, 0), (Reg.FER_LINK_STAT_STATE 1, 6)] id
     c.get Reg.FER_HB_HB_PERIOD = 0 ∧ c.linksDown 1 = true ∧ (1#4).toNat ≠ c.get Reg.FER_CFG_CHIP_ID) ∧
    (let c := feryo 0 3 [(Reg.FER_CFG_CHIP_ID, 1), (Reg.FER_LINK_STAT_PEER_CHIP 0, 5)] id
     let active := (List.range c.links_).filter (fun k => c.linkState k == 3)
     c.get Reg.FER_HB_HB_PERIOD ≠ 0 ∧ 0 ∈ active ∧ c.upstream = some 0 ∧ c.sync.aligned = false ∧ 1 ∉ active ∧ (1#4).toNat = c.get Reg.FER_CFG_CHIP_ID ∧
      c.dead.getLsbD 5 = false ∧ (5#4).toNat ≠ c.get Reg.FER_CFG_CHIP_ID ∧ c.dune.active = false ∧ c.fw.jobs = [] ∧
      c.get (Reg.FER_LINK_STAT_PEER_CHIP 0) = 5 ∧ c.get (Reg.FER_LINK_STAT_PEER_CHIP 0) ≠ 6 ∧
      ∃ k, k < c.get Reg.FER_CFG_CHIP_ID ∧ k ≠ 5 ∧ c.dead.getLsbD k = false) ∧
    (let c := { feryo 0 3 [(Reg.FER_HB_HB_PERIOD, 0), (Reg.FER_CFG_CHIP_ID, 1)] id with dead := 1, sync := { aligned := true, slew := 0, gap := 0 } }
     c.get Reg.FER_HB_HB_PERIOD = 0 ∧ c.linksDown 0 = false ∧ c.fwUp = false ∧ c.sync.aligned = true ∧ c.dead.getLsbD 0 = true ∧ ∀ k, k < c.get Reg.FER_CFG_CHIP_ID → k = 5 ∨ c.dead.getLsbD k = true) := by
  decide +kernel

/-- A transfer of 16 bytes whose write is acknowledged, or not. -/
def xfer (acked : Nat) : Xfer := { src := 0, dst := 0, len := 16, irq := true, tag := 3, sent := 16, acked := acked, failed := false }

/-- A posted write of 8 bytes at the bridge, to address `a`. -/
def posted (a : Nat) : Packet := { hdr := mkHdr 0 3 true true 0 0 3, body := [mkFlit1 0x3FF 0x3FF 0 9 (BitVec.ofNat 32 a), BitVec.ofNat 64 (a / 2 ^ 32), 7, 0] }

theorem w_FeryoTransfers :
    (let c := dram [(Reg.FER_LINK_STAT_STATE 1, 3), (⟨Reg.FER_XFER_D 1 4, 31, 0⟩, 16), (⟨Reg.FER_XFER_D 1 6, 31, 0⟩, 3)]
     let ws := (List.range 8).map (fun i => c.rd (Reg.FER_XFER_D 1 i))
     nextWrite (c.link 1).xfers = none ∧ c.linkState 1 = 3 ∧ xferValid ws = true ∧ (c.link 1).xfers = [] ∧ wordsNat ws 4 1 = 16 ∧ DramServes c ∧
      wordsNat ws 0 2 < winBase ∧ wordsNat ws 0 2 + 16 ≤ c.usable ∧ OpenInput c (cx (feryoCluster 1)) 19 3) ∧
    (let c := feryo 1 3 [(⟨Reg.FER_XFER_D 1 4, 31, 0⟩, 8)] (fun x => { x with xfers := List.replicate 16 (xfer 0) })
     let ws := (List.range 8).map (fun i => c.rd (Reg.FER_XFER_D 1 i))
     xferValid ws = false ∧ nextWrite (c.link 1).xfers = none ∧ 16 ≤ (c.link 1).xfers.length) ∧
    (let c := feryo 1 3 [] (fun x => { x with xfers := List.replicate 16 (xfer 0) })
     xferValid ((List.range 8).map (fun i => c.rd (Reg.FER_XFER_D 1 i))) = true ∧ (c.link 1).xfers = xfer 0 :: List.replicate 15 (xfer 0) ∧
      (xfer 0).acked < (xfer 0).len ∧ (xfer 0).failed = false) ∧
    (let lost := { xfer 0 with failed := true }
     let c := feryo 1 6 [] (fun x => { x with xfers := [lost] })
     (c.link 1).xfers = [lost] ∧ lost.failed = true ∧ c.linkState 1 ≠ 3 ∧ nextWrite [] = none ∧ lost.irq = true) ∧
    (xfer 16).len ≤ (xfer 16).acked ∧ splitFirst isPostedWrite (dram []).bridge.inbox = none ∧
    (let c := { dram [] with bridge := { Bridge.init with inbox := [(3, .packet (posted 0x40)), (3, .packet (posted 0x2002000000))] } }
     splitFirst isPostedWrite c.bridge.inbox = some ((3, .packet (posted 0x40)), [(3, .packet (posted 0x2002000000))]) ∧
      0 < (posted 0x40).memData.length ∧ (posted 0x40).memAddr % 64 + (posted 0x40).memData.length ≤ 64 ∧ DramServes c ∧ (posted 0x40).memAddr < winBase ∧
      (posted 0x40).memAddr + (posted 0x40).memData.length ≤ c.usable ∧ 0x2002000000 ≤ (posted 0x2002000000).memAddr ∧
      (posted 0x2002000000).memAddr < oasisBase ∧ 0 < (posted 0x2002000000).memData.length ∧
      (posted 0x2002000000).memAddr % 64 + (posted 0x2002000000).memData.length ≤ 64) := by decide +kernel

/-! ## The host interface -/

/-- Ring 63 exists, with 2 ^ `log` entries in each queue; its submission queue is at 0x1000, its completion queue at 0x2000. -/
def ring63 (log : Nat) (l : List (Reg.Fld × Nat)) (f : Ring → Ring) : Chip :=
  let c := dram ([(Reg.RING_CFG_EN 63, 1), (Reg.RING_CFG_SQ_LOG2 63, log), (Reg.RING_CFG_CQ_LOG2 63, log), (⟨Reg.RING_SQ_BASE 63, 31, 0⟩, 0x1000),
    (⟨Reg.RING_CQ_BASE 63, 31, 0⟩, 0x2000), (Reg.HIF_FWSTATE_FW_STATE, 3)] ++ l)
  c.setRing 63 (f (c.ring 63))

/-- An output event of source core 1023 waits at the bridge. -/
def outEvent (c : Chip) : Chip := { c with bridge := { Bridge.init with inbox := [(3, .event (BitVec.ofNat 64 (1023 * 2 ^ 54)) none)] } }

def route63 : List (Reg.Fld × Nat) := [(Reg.HIF_EVRT_VALID 1023, 1), (Reg.HIF_EVRT_RING 1023, 63), (Reg.TRIP_CTRL_EN, 0)]

theorem w_Doorbells :
    (let c := ring63 4 [(Reg.RING_CQ_IRQ_HOLDOFF 63, 1)] (fun r => { r with unsignalled := 1 })
     let d := { c with mem := [(msixMem (c.get (Reg.RING_CFG_VEC 63) * 16 + 12), 1)] }
     d.inLookout = false ∧ d.ringExists 63 = true ∧ ((0x10#16).toNat + 0x10000 - d.sqHead 63) % 0x10000 ≤ d.sqSize 63 ∧
      d.sqSize 63 < ((0x11#16).toNat + 0x10000 - d.sqHead 63) % 0x10000 ∧ (d.cqTail 63 + 0x10000 - (0xFFF0#16).toNat) % 0x10000 ≤ d.cqSize 63 ∧
      d.cqSize 63 < (d.cqTail 63 + 0x10000 - (1#16).toNat) % 0x10000 ∧ d.get (Reg.RING_CQ_IRQ_HOLDOFF 63) ≠ 0 ∧ (d.ring 63).unsignalled ≠ 0 ∧
      d.msixMasked (d.get (Reg.RING_CFG_VEC 63)) = false) ∧
    (let c := { block [] with fw := { (block []).fw with nqBase := 64, nqLog2 := 4 } }
     c.inLookout = false ∧ c.fw.nqBase ≠ 0 ∧ (c.get Reg.HIF_NQ_TAIL_TAIL + 0x10000 - (0xFFF0#16).toNat) % 0x10000 ≤ 2 ^ c.fw.nqLog2 ∧
      2 ^ c.fw.nqLog2 < (c.get Reg.HIF_NQ_TAIL_TAIL + 0x10000 - (1#16).toNat) % 0x10000) ∧
    (block []).ringExists 63 = false ∧ splitFirst isOutputEvent (block []).bridge.inbox = none ∧
    (let c := outEvent (ring63 0 route63 id)
     c.inLookout = false ∧ splitFirst isOutputEvent c.bridge.inbox = some ((3, .event (BitVec.ofNat 64 (1023 * 2 ^ 54)) none), []) ∧ c.tripRecording = false ∧
      dbits (BitVec.ofNat 64 (1023 * 2 ^ 54)) 63 54 = 1023 ∧ c.get (Reg.HIF_EVRT_VALID 1023) = 1 ∧ c.get (Reg.HIF_EVRT_RING 1023) = 63 ∧
      c.ringExists 63 = true ∧ c.cqFree 63 = true) ∧
    (ring63 0 route63 (fun r => { r with reserved := 1 })).cqFree 63 = false ∧ (block []).get (Reg.HIF_EVRT_VALID 1023) = 0 := by decide +kernel

/-- A POSTED slot 15 that asks for QUERY, and an entry of ring 63 that does. -/
theorem w_TakeUps :
    (let c := { block [(⟨Reg.MBX_STATE, 31, 30⟩, 1), (Reg.HIF_FWSTATE_FW_STATE, 3)] with mem := [(mbxMem 15 0, 3), (mbxMem 15 1, 1), (mbxMem 15 6, 2)] }
     c.mbxState 15 = 1 ∧ c.awaits (.mailbox 15) = false ∧ c.slotForm 15 = [(false, ERR_PARAM)] ∧ (serviceCommands.any (fun x => x.1 == c.rdMem (mbxMem 15 6) 2)) = true) ∧
    (block []).mbxState 15 ≠ 1 ∧
    (let c := block [(⟨Reg.MBX_STATE, 31, 30⟩, 1), (Reg.HIF_FWSTATE_FW_STATE, 1)]
     c.mbxState 15 = 1 ∧ c.awaits (.mailbox 15) = false ∧ c.inLookout = false ∧ c.fwState ≠ 2 ∧ c.fwState ≠ 3) ∧
    (let c := { ring63 4 [] (fun r => { r with sqTail := 1 }) with mem := [(0x1000, 2)] }
     let e := c.sqEntry 63 (c.sqHead 63)
     EntryWaits c 63 ∧ c.rdMem (e + 3) 1 = 0 ∧ c.rdMem (e + 12) 4 = 0 ∧ (serviceCommands.any (fun x => x.1 == c.rdMem e 2)) = true) ∧
    ¬ EntryWaits (ring63 4 [] id) 63 := by decide +kernel

theorem w_HostWindows :
    (block []).inLookout = false ∧ (block []).expertOpen = false ∧ protectedAt (0x2000000000 + 0) = true ∧
    (let c := block [(Reg.HIF_EXP_STAT_OPEN, 1)]
     let d := { c with fw := { c.fw with agreed := 2 ^ 17 } }
     let r := d.get Reg.HIF_EXP_SEL_PAGE * 0x1000000 + (0x130000#24).toNat
     d.expertOpen = true ∧ d.inLookout = false ∧ r % 4 = 0 ∧ regAssigned r = true ∧ d.regFused r = false ∧ protectedAt (0x2000000000 + r) = false) ∧
    (let c := dram []
     let a := c.get Reg.HIF_BAR2_SEL_SEL * 2 ^ 32 + (0x7FFFFFF8#32).toNat
     c.inLookout = false ∧ c.get Reg.BOOT_STAT_PHASE ≠ 8 ∧ a % 64 + (8#13).toNat ≤ 64 ∧ DramServes c ∧ a < winBase ∧ a + (8#13).toNat ≤ c.usable) ∧
    (let at_ := fun hi lo : Nat => (block [(Reg.HIF_BAR2_SEL_SEL, hi)]).get Reg.HIF_BAR2_SEL_SEL * 2 ^ 32 + (BitVec.ofNat 32 lo).toNat
     (0x2002000000 ≤ at_ 0x20 0x2000000 ∧ at_ 0x20 0x2000000 < oasisBase) ∧ (oasisBase ≤ at_ (oasisBase / 2 ^ 32) (oasisBase % 2 ^ 32) ∧
      at_ (oasisBase / 2 ^ 32) (oasisBase % 2 ^ 32) < oasisBase + 0x400000) ∧
      (flashBase ≤ at_ (flashBase / 2 ^ 32) (flashBase % 2 ^ 32 + 0x1FFFFFFF) ∧ at_ (flashBase / 2 ^ 32) (flashBase % 2 ^ 32 + 0x1FFFFFFF) < flashBase + 0x20000000) ∧
      0x2000000000 ≤ at_ 0x20 0x1FFFFFC ∧ at_ 0x20 0x1FFFFFC < 0x2002000000) ∧
    (let c := block [(Reg.BOOT_STAT_PHASE, 8)]
     c.get Reg.BOOT_STAT_PHASE = 8 ∧ c.inLookout = false ∧ (0x1FFFF8#32).toNat + (List.replicate 8 1#8).length ≤ 0x200000 ∧ (0x1FFFF8#32).toNat < 0x200000) := by
  decide +kernel

theorem w_RegisterWrites :
    (PlainRegister 0x130000 ∧ 0x130000 % 4 = 0 ∧ (Reg.row? 0x130000).isSome = true ∧ (block []).inLookout = false) ∧
    (0x2000000 ≤ 0x2000003 ∧ 0x2000003 < 0x3000000 ∧ 0x2000003 % 4 ≠ 0) ∧ (0x3000000#32).toNat = cfgBase ∧ (0x3000004#32).toNat = cfgBase + 4 ∧ (3#32).toNat % 4 ≠ 0 ∧ regAssigned 0x180000 = false ∧ 0x180000 < 0x2000000 ∧
    (let c := block [(Reg.RST_FENCED_SLOTS 0, 1), (Reg.PWR_DOM_STAT_STATE 63, 2)]
     let slot := (0x10000010 - 0x10000000) / 0x10000
     0x10000000 ≤ 0x10000010 ∧ slot ≠ bridgeSlot ∧ c.windowOpen slot = false ∧
      (let last := (0x17F00010 - 0x10000000) / 0x10000
       last ≠ bridgeSlot ∧ c.windowOpen last = true ∧ c.clusterOn (last / 32) = true ∧ 0x17F00010 % 0x10000 = 0x10)) ∧
    (block []).fw.ops = [] := by decide +kernel

/-! ## Services -/

/-- A command in its plain form, and 48 argument bytes with these fields: offset, size, value. -/
def head31 : CmdHead := { major := 3, minor := 1, flags := 0, timeout := 0 }
def args (l : List (Nat × Nat × Nat)) : List Byte :=
  l.foldl (fun a x => a.take x.1 ++ natToBytes x.2.1 x.2.2 ++ a.drop (x.1 + x.2.1)) (List.replicate 48 0#8)

/-- Firmware is READY, every feature agreed on; 2 GiB of DRAM serve; cluster 0 is on and joined. -/
def ready (l : List (Reg.Fld × Nat)) (f : Fw → Fw) : Chip :=
  let c := dram ([(Reg.HIF_FWSTATE_FW_STATE, 3), (Reg.PWR_DOM_STAT_STATE 0, 2), (⟨Reg.BOOT_JOIN_LO, 31, 0⟩, 1)] ++ l)
  { c with fw := f { c.fw with agreed := 2 ^ 128 - 1, offered := 2 ^ 128 - 1 } }

/-- Job 15, on core 0, port 127 and channel 255, is in state `st`. -/
def job15 (st : Nat) (l : List (Reg.Fld × Nat)) : Chip :=
  ready ([(Reg.CL_PORT_STAT_STATE 127, 4)] ++ l)
    (fun w => { w with jobs := [(15, { Job.empty with state := st, part := 1, cores := [0], programs := [0], ports := [127], chans := [255], evrt := [(1023, 255)] })] })

theorem w_FirmwareAnswers :
    (let c := ready [] id
     Hears c 15 head31 ∧ (c.fwState = 2 ∨ c.fwState = 3) ∧ helloBad c ((args [(0, 16, 0xFF), (16, 8, 64), (24, 1, 12)]).take 32) = false ∧ head31.flags = 0 ∧
      c.fw.notices = [] ∧ helloBad c ((args [(16, 8, 63)]).take 32) = true ∧ c.fwState = 3 ∧ (args []).length = 48 ∧
      (∃ x ∈ serviceTable, serviceOf 0x02 = some x ∧ firstRefusal (c.commonChecks (.mailbox 15) head31 x (args [(0, 1, 5)]) ++
        c.serviceChecks (.mailbox 15) head31 0x02 (args [(0, 1, 5)])) ≠ OK) ∧
      (0x61#16).toNat ≠ 1 ∧ serviceOf (0x61#16).toNat = none ∧ Accepts c 15 head31 0x02 (args [(0, 1, 4)]) ∧ servesMajor 1 = false) ∧
    (let c := ready [(Reg.HIF_FWSTATE_FW_STATE, 2)] id
     Hears c 15 head31 ∧ c.fwState = 2) ∧
    (block [(Reg.PWR_STATE_STATE, 2)]).inLookout = true := by decide +kernel

theorem w_ShortServices1 : Accepts (ready [] id) 15 head31 0x10 (args [(0, 1, 63), (1, 1, 4), (2, 1, 12), (3, 1, 63), (4, 8, 0x1000), (12, 8, 0x2000), (20, 1, 1), (24, 4, 7)]) := by decide +kernel

theorem w_ShortServices2 : Accepts (ready [(Reg.RING_CFG_EN 63, 1)] id) 15 head31 0x11 (args [(0, 1, 63)]) := by decide +kernel

theorem w_ShortServices3 : Accepts (ready [] id) 15 head31 0x20 (args [(0, 1, 15), (8, 8, 2 ^ 63)]) := by decide +kernel

theorem w_ShortServices4 : (let c := job15 2 [(Reg.RING_CFG_EN 63, 1)]
     let x := c.job 15
     Accepts c 15 head31 0x22 (args [(0, 1, 15), (1, 1, 63)]) ∧ (∀ p ∈ x.chans, c.emitters p + x.chans.length ≤ 4) ∧ (∀ e ∈ x.evrt, e.1 < 1024 ∧ e.2 < 256) ∧ (∀ p ∈ x.ports, p < 128) ∧ (∀ p ∈ x.chans, p < 256) ∧
      (∀ i ∈ x.programs, c.pcore i < 2048) ∧ (∀ i ∈ x.cores, c.pcore i < 2048)) := by decide +kernel

theorem w_ShortServices5 : (let c := job15 3 []
     Accepts c 15 head31 0x23 (args [(0, 1, 15)]) ∧ (c.haltJob 15).jobIdle 15 = true ∧
      Accepts c 15 head31 0x30 (args [(0, 1, 1), (4, 4, 15), (8, 4, 9)]) ∧ (c.job 15).state = 3 ∧ (∀ p ∈ (c.job 15).ports, p < 128) ∧
      Accepts c 15 head31 0x30 (args [(4, 4, 127), (8, 4, 9)]) ∧ c.portState 127 = 4 ∧ Accepts c 15 head31 0x31 (args [(4, 4, 127)]) ∧ c.portState 127 ≠ 5) := by decide +kernel

theorem w_ShortServices6 : (let c := ready [(Reg.CL_PORT_STAT_STATE 127, 5)] id
     Accepts c 15 head31 0x31 (args [(4, 4, 127)]) ∧ c.portState 127 = 5 ∧ c.fw.pauses = []) := by decide +kernel

theorem w_ShortServices7 : (let c := ready [] id
     Accepts c 15 head31 0x30 (args [(4, 4, 127)]) ∧ c.portState 127 ≠ 4 ∧ c.portState 127 ≠ 5) := by decide +kernel

theorem w_ShortServices8 : (let c := ready [(Reg.BW_DELIV_C, 47)] id
     Accepts c 15 head31 0x40 (args [(0, 1, 4), (4, 4, 47)]) ∧ c.resSum 4 + 47 ≤ c.get Reg.BW_DELIV_C ∧
      Accepts c 15 head31 0x40 (args [(0, 1, 4), (4, 4, 48)]) ∧ c.get Reg.BW_DELIV_C < c.resSum 4 + 48) := by decide +kernel

theorem w_ShortServices9 : Accepts (ready [] id) 15 head31 0x41 (args [(0, 2, 60), (2, 1, 1)]) := by decide +kernel

theorem w_ShortServices10 : argOf (args [(0, 2, 60), (2, 1, 1)]) 2 1 = 1 := by decide +kernel

theorem w_ShortServices11 : Accepts (ready [] id) 15 head31 0x41 (args [(0, 2, 60)]) := by decide +kernel

theorem w_ShortServices12 : (ready [] id).power.cap.stage = 0 := by decide +kernel

theorem w_ShortServices13 : (let c := ready [] id
     let d : Chip := { c with power := { c.power with selfRefresh := true } }
     Accepts d 15 head31 0x58 (args []) ∧ d.power.selfRefresh = true) := by decide +kernel

theorem w_ShortServices14 : Accepts (ready [] id) 15 head31 0x60 (args [(0, 1, 1)]) := by decide +kernel

/-- An image of one section at 0x100000: eight bytes of synapse memory of core 0. -/
def image (c : Chip) : Chip :=
  let b := 0x100000
  let c := (((c.wrMem b 4 0x4A424457).wrMem (b + 4) 2 1).wrMem (b + 6) 2 1).wrMem (b + 0x18) 4 0x58
  let c := (((c.wrMem (b + 0x40) 2 2).wrMem (b + 0x48) 4 8).wrMem (b + 0x4C) 4 0x50).wrMem (b + 0x50) 8 9
  c.wrMem (b + 0x1C) 4 (c.imageCrc b 0x58).toNat

/-- A descriptor of a Dune run of two variables at 0x200000, with the coefficients at 0x300000. -/
def duneAt (c : Chip) (mode : Nat) : Chip :=
  let b := 0x200000
  let c := (((c.wrMem b 4 2).wrMem (b + 4) 1 8).wrMem (b + 5) 1 mode).wrMem (b + 6) 1 1
  let c := ((((c.wrMem (b + 8) 1 4).wrMem (b + 0x10) 4 0x3F800000).wrMem (b + 0x14) 4 0x3F800000).wrMem (b + 0x20) 4 0x300000).wrMem (b + 0x28) 4 0x301000
  let c := ((c.wrMem (b + 0x38) 4 0x302000).wrMem (b + 0x4C) 2 1).wrMem (b + 0x4E) 1 2
  c.wrMem 0x300000 4 0x3F800000

theorem w_LastingServices1 : Accepts (ready [] id) 15 head31 0x03 (args [(0, 8, 0x1000), (12, 4, 4)]) := by decide +kernel

theorem w_LastingServices2 : (let c := image (ready [] (fun w => { w with parts := [(1, 1)] }))
     Accepts c 15 head31 0x21 (args [(0, 1, 15), (1, 1, 1), (8, 8, 0x100000), (16, 4, 0x58)]) ∧ c.fw.pauses = []) := by decide +kernel

theorem w_LastingServices3 : Accepts (job15 5 []) 15 head31 0x24 (args [(0, 1, 15)]) := by decide +kernel

theorem w_LastingServices4 : (let a := args [(0, 1, 15), (8, 8, 0x1000), (16, 4, 0xFF000), (20, 4, 0x1000)]
     Accepts (job15 2 []) 15 head31 0x28 a ∧ Accepts (job15 2 []) 15 head31 0x29 a ∧ argOf a 24 1 = 0) := by decide +kernel

theorem w_LastingServices5 : Accepts (job15 2 []) 15 head31 0x29 (args [(0, 1, 15), (20, 4, 1), (24, 1, 1)]) := by decide +kernel

theorem w_LastingServices6 : Accepts (ready [] id) 15 head31 0x50 (args [(0, 1, 1), (1, 1, 63), (8, 8, 0x1000)]) := by decide +kernel

theorem w_LastingServices7 : Accepts (ready [] id) 15 head31 0x51 (args [(0, 2, 2032), (2, 1, 1)]) := by decide +kernel

theorem w_LastingServices8 : Accepts (ready [] id) 15 head31 0x59 (args [(0, 8, 0x1000)]) := by decide +kernel

theorem w_LastingServices9 : Accepts (ready [(Reg.CL_PORT_STAT_STATE 127, 4)] id) 15 head31 0x48 (args [(0, 1, 127), (4, 4, 7)]) := by decide +kernel

theorem w_LastingServices10 : (let c := duneAt (ready [] id) 2
     Accepts c 15 head31 0x38 (args [(0, 8, 0x200000)]) ∧ (c.duneDesc 0x200000 (.mailbox 15)).mode = 2) := by decide +kernel

theorem w_LastingServices11 : (let c := duneAt (ready [] id) 0
     let d := c.duneDesc 0x200000 (.mailbox 15)
     Accepts c 15 head31 0x38 (args [(0, 8, 0x200000)]) ∧ d.mode = 0 ∧ d.sweeps ≠ 0 ∧ ((c.coefWords d).foldl maxMag (0, 0)).1 ≠ 0) := by decide +kernel

theorem w_LastingServices12 : (let c := { ready [(Reg.DUNE_STAT_STATE, 2)] id with dune := { Dune.idle with active := true } }
     Accepts c 15 head31 0x39 (args []) ∧ c.dune.active = true ∧ c.get Reg.DUNE_STAT_STATE = 2 ∧ c.dune.waiting = false) := by decide +kernel

/-! ## Long operations and the cap -/

/-- An operation of slot 15 on job 15, core 0, `done` steps of `total` taken. -/
def op15 (code total done : Nat) (l : List (Nat × Nat × Nat)) : Op :=
  { origin := .mailbox 15, code := code, args := args ([(0, 1, 15), (1, 1, 1), (8, 8, 0x100000), (20, 4, 0x1800)] ++ l), expert := false, done := done, total := total,
    paused := false, res0 := 0, res1 := 0, freeze := 0, stepped := false, moved := 0, found := [] }

def withOps (c : Chip) (l : List Op) : Chip := { c with fw := { c.fw with ops := l } }

theorem w_LongOperationSteps :
    ((block []).fwUp = false ∧ (ready [] id).fw.ops = []) ∧
    (let x := { op15 0x28 2 0 [] with paused := true }
     let c := withOps (ready [] id) [x]
     c.fwUp = true ∧ c.fw.ops = [x] ∧ x.code ≠ 0x23 ∧ c.opHeld x = true) ∧
    (let c := withOps (job15 2 []) [op15 0x28 2 0 []]
     c.fwUp = true ∧ c.opHeld (op15 0x28 2 0 []) = false ∧ c.opHeld (op15 0x29 2 0 []) = false ∧ c.opHeld (op15 0x21 2 0 []) = false ∧ 0 + 1 < 2 ∧
      (op15 0x29 2 0 []).arg 24 1 = 0 ∧ DramServes c ∧ c.seated 0 = true ∧ c.windowOpen (c.pcore 0) = true ∧ c.clusterOn (c.pcore 0 / 32) = true ∧
      c.readCut (c.pcore 0) (op15 0x29 2 0 []) = 4096 ∧ 4096 ≤ c.synSize ∧ 0x100000 + 4096 ≤ c.usable ∧ 0x100000 + 4096 ≤ winBase) ∧
    (let c := withOps (job15 2 []) [op15 0x28 2 1 []]
     c.fwUp = true ∧ c.opHeld (op15 0x28 2 1 []) = false ∧ c.opHeld (op15 0x24 1 0 []) = false ∧ c.opHeld (op15 0x21 1 0 []) = false ∧ 2 ≤ 1 + 1) := by decide +kernel

/-- A pause of port 127 in effect, with a time. -/
def pause127 : PauseRec := { kind := 0, id := 127, origin := none, duration := 1, inEffect := true }

def capped (k : Cap) : Chip := let c := ready [] id; { c with power := { c.power with cap := k } }

/-- The sum of the samples with a new one; one sample alone is its own average. -/
def sumOf (k : Cap) (p : Nat) : Nat := ((p :: k.samples).take 100).foldl (· + ·) 0
def countOf (k : Cap) (p : Nat) : Nat := max ((p :: k.samples).take 100).length 1

theorem w_LimitsAndCap :
    ((block []).timeoutOf (.mailbox 15) = 0 ∧ (block []).fw.ops = [] ∧ (block []).fwUp = false ∧ ∀ r ∈ (block []).fw.pauses, r.duration = 0) ∧
    (let c := (withOps (ready [] id) [op15 0x21 2 0 []]).wrMem (mbxMem 15 0xC) 4 1
     c.fw.ops = [op15 0x21 2 0 []] ∧ (op15 0x21 2 0 []).origin = .mailbox 15 ∧ c.timeoutOf (.mailbox 15) ≠ 0) ∧
    (let c := ready [(Reg.CL_PORT_STAT_STATE 127, 5)] (fun w => { w with pauses := [pause127] })
     pause127 ∈ c.fw.pauses ∧ pause127.kind = 0 ∧ pause127.id = (127#32).toNat ∧ pause127.inEffect = true ∧ pause127.duration ≠ 0 ∧ 127 < c.clPorts ∧ c.portState 127 = 5) ∧
    (capped Cap.off).fwUp = true ∧ Cap.off.on = false ∧
    (let k : Cap := { Cap.off with on := true, watts := 60 }
     (capped k).fwUp = true ∧ 16 * k.watts * countOf k 961 < sumOf k 961 ∧ k.stage = 0 ∧ sumOf k 960 ≤ 16 * k.watts * countOf k 960 ∧
      1520 * k.watts * countOf k 960 ≤ 100 * sumOf k 960 ∧ sumOf k 912 ≤ 16 * k.watts * countOf k 912 ∧ 1520 * k.watts * countOf k 912 ≤ 100 * sumOf k 912) ∧
    (let k : Cap := { Cap.off with on := true, watts := 60, stage := 1, calm := 98 }
     100 * sumOf k 911 < 1520 * k.watts * countOf k 911 ∧ k.stage ≠ 0 ∧ k.calm + 1 < 100) ∧
    (let k : Cap := { Cap.off with on := true, watts := 60, stage := 1, calm := 99 }
     100 * sumOf k 911 < 1520 * k.watts * countOf k 911 ∧ k.stage = 1 ∧ 99 ≤ k.calm) := by decide +kernel

/-! ## Boot -/

theorem w_ResetSources :
    (let c := block [(Reg.OAS_BAT_CFG_CHG_EN, 1)]
     c.get Reg.OAS_BAT_CFG_CHG_EN = 1 ∧ c.get Reg.OAS_BAT_STAT_BAT_FAULT = 0 ∧ c.get Reg.OAS_BAT_STAT_BAT_REVERSED = 0 ∧ c.power.good = true) ∧
    (block [(Reg.OAS_BAT_STAT_BAT_FAULT, 1)]).get Reg.OAS_BAT_STAT_BAT_FAULT = 1 ∧ Chip.init.power.good = false := by decide +kernel

/-- Chip `c` while its reset lasts. -/
def held (c : Chip) : Chip := { c with power := { c.power with inReset := true } }

/-- A bundle of three empty sections at `b`, signed by nobody. -/
def bundleAt (c : Chip) (b : Nat) : Chip :=
  let c := ((c.wrMem b 4 0x4E424457).wrMem (b + 4) 2 1).wrMem (b + 6) 2 3
  ((c.wrMem (b + 0x20) 2 1).wrMem (b + 0x30) 2 2).wrMem (b + 0x40) 2 3

theorem w_BootStages :
    ((held (block [])).power.inReset = true ∧ (held (block [])).power.good = true ∧ variantOk (block []).variant = true) ∧
    variantOk (block [(Reg.FUSE_VARIANT_CODE, 4)]).variant = false ∧ (block []).power.inReset = false ∧
    (let c := block [(Reg.BOOT_STAT_PHASE, 1)]
     c.get Reg.BOOT_STAT_PHASE = 1 ∧ c.get Reg.BOOT_STAT_PHASE ≠ 8 ∧ c.get Reg.BOOT_CFG_MODE ≠ 2 ∧ c.bundleForm (slotBase 0) slotSize = false ∧
      c.bundleForm (slotBase 1) slotSize = false) ∧
    (let c := block [(Reg.BOOT_STAT_PHASE, 1), (Reg.BOOT_CFG_MODE, 2)]
     c.get Reg.BOOT_STAT_PHASE = 1 ∧ c.get Reg.BOOT_CFG_MODE = 2) ∧
    (let c := block [(Reg.BOOT_STAT_PHASE, 8)]
     c.get Reg.BOOT_STAT_PHASE = 8 ∧ c.get Reg.BOOT_STAT_PHASE ≠ 1 ∧ c.bundleForm (hcuMem 0) 0x200000 = false) := by decide +kernel

theorem fails_of_form {c : Chip} {b size : Nat} (h : c.bundleForm b size = false) : c.bundlePasses b size = false := by simp [Chip.bundlePasses, h]

/-- A bundle of the right form passes wherever its key's hash and its signature do: the two are constants of Config. -/
theorem w_BootStages_bundles :
    ∀ x ∈ [(slotBase 0, slotSize), (slotBase 1, slotSize), (hcuMem 0, 0x200000)],
      let c := bundleAt (block [(Reg.BOOT_STAT_PHASE, 1)]) x.1
      c.bundleForm x.1 x.2 = true ∧ c.rdMem (x.1 + 0xD) 1 = 0 ∧ bit (c.get Reg.FUSE_KEYREVOKE_REVOKED) 0 = false ∧ c.svnCount ≤ c.rdMem (x.1 + 0xC) 1 := by decide +kernel

theorem passes_of {c : Chip} {b size : Nat} (f : c.bundleForm b size = true) (k : c.rdMem (b + 0xD) 1 = 0) (r : bit (c.get Reg.FUSE_KEYREVOKE_REVOKED) 0 = false)
    (v : c.svnCount ≤ c.rdMem (b + 0xC) 1) (h : Config.sha384 (c.rdBytes (b + 0x100) 96) = c.keyHash 0)
    (e : ∀ m : List Byte, Config.ecdsaOk (c.rdBytes (b + 0x100) 96) m (c.rdBytes (b + 0x160) 96) = true) : c.bundlePasses b size = true := by
  simp [Chip.bundlePasses, f, k, r, v, h, e]

theorem slot_passes_of {c : Chip} {n : Nat} (h : c.bundlePasses (slotBase n) slotSize = true) (d : slotBase n + slotSize ≤ flashBase + Config.flashDensity) :
    c.slotPasses n = true := by simp [Chip.slotPasses, h, d]

theorem slot_fails_of {c : Chip} {n : Nat} (h : c.bundlePasses (slotBase n) slotSize = false) : c.slotPasses n = false := by simp [Chip.slotPasses, h]

/-- The autostart image: one section for core 0, ring 0 of 16 entries. -/
def autoImage (c : Chip) (joined : Nat) : Chip :=
  let b := autoBase
  let c := c.put ⟨Reg.BOOT_JOIN_LO, 31, 0⟩ joined
  let c := (((c.wrMem b 4 0x4A424457).wrMem (b + 4) 2 1).wrMem (b + 6) 2 1).wrMem (b + 0x18) 4 0x58
  let c := (((((c.wrMem (b + 0x20) 1 4).wrMem (b + 0x21) 1 4).wrMem (b + 0x22) 1 1).wrMem (b + 0x24) 8 0x1000).wrMem (b + 0x2C) 8 0x2000)
  let c := ((((c.wrMem (b + 0x40) 2 2).wrMem (b + 0x48) 4 8).wrMem (b + 0x4C) 4 0x50).wrMem (b + 0x50) 8 9)
  c.wrMem (b + 0x1C) 4 (c.imageCrc b 0x58).toNat

theorem w_FirmwareStarts :
    (block [(Reg.BOOT_STAT_PHASE, 4)]).get Reg.BOOT_STAT_PHASE = 4 ∧ (block []).get Reg.BOOT_STAT_PHASE ≠ 4 ∧
    (let c := block [(Reg.BOOT_STAT_PHASE, 5), (Reg.PWR_DOM_STAT_STATE 63, 2)]
     (st c).RegsWf ∧ 63 < c.clusters ∧ c.clusterOn 63 = true ∧ c.through 63 = false ∧ c.allDrained = true ∧ c.get Reg.BOOT_CFG_MODE = 0 ∧
      c.get Reg.BOOT_STAT_PHASE = 5 ∧ (16#5).toNat < 17 ∧ c.workCount < 384 ∧ c.fieldList.length < 256) ∧
    (let c := block [(Reg.BOOT_STAT_PHASE, 5), (Reg.BOOT_CFG_MODE, 3), (Reg.PWR_DOM_STAT_STATE 63, 2)]
     c.get Reg.BOOT_STAT_PHASE = 5 ∧ c.get Reg.BOOT_CFG_MODE = 3 ∧ c.allDrained = true ∧ c.get Reg.BOOT_CFG_AUTO = 0) := by decide +kernel

/-- Every cluster has joined but those whose router failed. -/
def bootedChip (f : Chip → Chip) : Chip :=
  f (autoImage (dram [(Reg.BOOT_STAT_PHASE, 6), (Reg.BOOT_CFG_AUTO, 1), (⟨Reg.BOOT_JOIN_HI, 31, 0⟩, 0xFFFFFFFF)]) 0xFFFFFFFF)

def autoStatusOf (c : Chip) : Nat := firstRefusal (c.autoChecks (imageClusters (c.imageSections autoBase)) (c.rdMem (autoBase + 0x18) 4))

theorem w_Autostart :
    (let c := bootedChip id
     c.autoDue = true ∧ c.get Reg.BOOT_STAT_PHASE = 6 ∧ (∀ k ∈ imageClusters (c.imageSections autoBase), k < c.clusters → c.through k = true) ∧
      (∀ k, k < c.clusters → c.through k = true) ∧ autoStatusOf c = OK) ∧
    (let c := bootedChip (fun c => c.wrMem (autoBase + 0x22) 1 0)
     c.autoDue = true ∧ c.imageForm autoBase (c.rdMem (autoBase + 0x18) 4) = false ∧ autoStatusOf c ≠ OK) ∧
    (let c := bootedChip (fun c => (c.put ⟨Reg.BOOT_JOIN_LO, 31, 0⟩ 0xFFFFFFFE).set (Reg.DMAP_CLUSTER_STAT_ROUTER_FAIL 0))
     c.autoDue = true ∧ c.joined 0 = false ∧ c.through 0 = true ∧ autoStatusOf c ≠ OK) ∧
    (block []).autoDue = false := by decide +kernel

/-! ## Power -/

def waitingFor (c : Chip) (l : List Nat) : Chip := { c with power := { c.power with waiting := l } }

theorem w_PowerDomains :
    (let c := block [(Reg.PWR_DOM_STAT_STATE 0, 1), (Reg.PWR_DOM_STAT_STATE 1, 1), (Reg.PWR_DOM_STAT_STATE 2, 1), (Reg.PWR_DOM_STAT_STATE 63, 1)]
     c.domPresent 69 = true ∧ c.domPresent 70 = false ∧ c.domState 5 = 0 ∧ c.votes 5 ||| 1 ≠ 0 ∧ 4 ≤ c.ramping ∧ c.domPresent 63 = true ∧ c.domState 63 = 1 ∧
      c.power.waiting = []) ∧
    (let c := block [(Reg.PWR_DOM_STAT_STATE 69, 3), (Reg.PWR_DOM_STAT_RET_EN 69, 1), (Reg.PWR_DOM_STAT_STATE 0, 3), (Reg.PWR_DOM_STAT_RET_EN 0, 0)]
     c.domPresent 69 = true ∧ c.domState 69 = 3 ∧ c.domState 69 ≠ 1 ∧ c.votes 69 = 0 ∧ c.get Reg.PWR_HYST_US ≠ 0 ∧ c.on (Reg.PWR_DOM_STAT_RET_EN 69) = true ∧
      c.domState 0 = 3 ∧ c.votes 0 = 0 ∧ c.on (Reg.PWR_DOM_STAT_RET_EN 0) = false) ∧
    (block [(Reg.PWR_HYST_US, 0)]).get Reg.PWR_HYST_US = 0 := by decide +kernel

theorem w_ClockChanges :
    (let c := block [(Reg.CLK_CTRL_PLL_EN, 1), (Reg.BOOT_STAT_PHASE, 3), (Reg.HIF_FWSTATE_FW_STATE, 1)]
     c.on Reg.CLK_CTRL_PLL_EN = true ∧ c.fwRuns = true ∧ ¬ c.on Reg.CLK_STAT_LOCK = true) ∧
    (let c := block [(Reg.CLK_CTRL_PLL_EN, 0), (Reg.CLK_STAT_LOCK, 1)]
     c.on Reg.CLK_CTRL_PLL_EN = false ∧ c.fwRuns = false ∧ c.on Reg.CLK_STAT_LOCK = true) := by decide +kernel

def charge (p : Nat) (l : List (Reg.Fld × Nat)) : Chip := block ([(Reg.OAS_BAT_CFG_CHG_EN, 1), (Reg.OAS_BAT_STAT_PHASE, p)] ++ l)

theorem w_BackupCell :
    (charge 1 []).chargePhase = 1 ∧ (charge 2 []).chargePhase = 2 ∧ (charge 3 []).chargePhase = 3 ∧ (charge 3 []).power.supply = 0 ∧ 1 ≤ (charge 1 []).chargePhase ∧
    (let c := { charge 0 [] with power := { (charge 0 []).power with charged := true } }
     c.power.supply = 0 ∧ c.chargePhase = 0 ∧ c.power.charged = true ∧ c.on Reg.OAS_BAT_CFG_CHG_EN = true ∧ c.on Reg.OAS_BAT_STAT_BAT_ABSENT = false ∧
      c.on Reg.OAS_BAT_STAT_BAT_REVERSED = false) ∧
    (let c := charge 0 [(Reg.OAS_BAT_STAT_BAT_ABSENT, 1)]
     c.power.supply = 0 ∧ c.on Reg.OAS_BAT_STAT_BAT_ABSENT = true ∧ c.get Reg.OAS_BAT_CFG_CHG_EN = 1 ∧ c.get Reg.OAS_BAT_STAT_BAT_FAULT = 0 ∧
      c.get Reg.OAS_BAT_STAT_BAT_REVERSED = 0 ∧ ¬ 1 ≤ c.chargePhase) ∧
    (let c := charge 0 [(Reg.OAS_BAT_STAT_BAT_REVERSED, 1)]
     c.on Reg.OAS_BAT_STAT_BAT_REVERSED = true ∧ c.get Reg.OAS_BAT_STAT_BAT_REVERSED ≠ 0) := by decide +kernel

theorem w_SupplyLoss :
    ((block []).power.supply = 0 ∧ 1400 ≤ (1400#12).toNat ∧ (block []).get Reg.OAS_BAT_STAT_BAT_ABSENT = 0 ∧ (block []).get Reg.OAS_BAT_STAT_BAT_REVERSED = 0) ∧
    ¬ 1400 ≤ (1399#12).toNat ∧
    (let c := { block [] with power := { (block []).power with supply := 1 } }
     c.power.supply = 1 ∧ c.power.supply ≠ 0) ∧ (block []).power.supply ≠ 1 := by decide +kernel

/-! ## Lookout -/

def lko (c : Chip) (f : Lookout → Lookout) : Chip := { c with power := { c.power with lko := f c.power.lko } }

/-- The chip sleeps, port 127 watched; the descriptor's timer is 1. -/
def sleep (l : List (Reg.Fld × Nat)) : Chip :=
  lko (block ([(Reg.PWR_STATE_STATE, 2), (Reg.HIF_FWSTATE_FW_STATE, 5)] ++ l))
    (fun x => { x with desc := List.replicate 12 0#8 ++ [1] ++ List.replicate 51 255#8, quiet := [127], runPorts := [127] })

theorem w_WakeSources :
    (let c := sleep [(Reg.FER_LINK_STAT_STATE 3, 5)]
     Asleep c ∧ bytesToNat ((c.power.lko.desc.drop 12).take 4) ≠ 0 ∧ c.watchedPort 127 = true ∧ c.power.lko.quiet.contains 127 = true ∧ 3 < c.links_ ∧ c.linkState 3 = 5) ∧
    (let c := sleep [(Reg.TRIP_CFG_PIN_EN, 1)]
     let d : Chip := { c with power := { c.power with selfRefresh := true } }
     Asleep d ∧ d.on Reg.TRIP_CFG_PIN_EN = true ∧ d.power.supply ≠ 1 ∧ d.power.selfRefresh = true) ∧
    (let c := lko (sleep [(Reg.PWR_STATE_STATE, 0)]) (fun x => { x with entering := true })
     c.inLookout = false ∧ c.power.lko.entering = true ∧ c.pinsIdle = false ∧ bytesToNat ((c.power.lko.desc.drop 12).take 4) ≠ 0 ∧ c.watchedPort 127 = true ∧
      c.power.lko.quiet.contains 127 = true) ∧
    (let c := block [(Reg.FER_LINK_STAT_STATE 0, 5)]
     c.inLookout = false ∧ c.power.lko.entering = false ∧ 0 < c.links_ ∧ c.linkState 0 = 5 ∧ c.linkState 1 ≠ 5 ∧ bytesToNat ((c.power.lko.desc.drop 12).take 4) = 0 ∧
      c.power.lko.quiet.contains 0 = false ∧ c.on Reg.TRIP_CFG_PIN_EN = false) := by decide +kernel

/-- The host asks for Lookout with a descriptor at 0x1000, with `period` in it. -/
def asking (period : Nat) (l : List (Reg.Fld × Nat)) : Chip :=
  let c := ready ([(⟨Reg.HIF_LKO_ADDR_LO, 31, 0⟩, 0x1000)] ++ l) (fun w => { w with jobs := [(15, { Job.empty with state := 3 })] })
  (c.wrMem 0x1004 4 period).wrMem 0x1008 4 50

theorem w_LookoutEntry :
    (let c := asking 10000000 []
     let a := c.lkoAddr
     c.power.lko.entering = false ∧ c.fwUp = true ∧ c.inLookout = false ∧ a ≠ 0 ∧ c.inDram a 64 = true ∧ c.lkoStatus a = OK ∧ c.get Reg.DUNE_STAT_STATE ≠ 2 ∧
      c.rotPhase ≠ 4 ∧ c.dune.active = false ∧ (c.votes 64).getLsbD 31 = false ∧ (∀ d, d < 70 → (c.votes d).getLsbD 31 = false) ∧ (c.job 15).state = 3) ∧
    (let c := asking 999 []
     c.inDram c.lkoAddr 64 = true ∧ c.lkoAddr ≠ 0 ∧ c.fwUp = true ∧ c.lkoStatus c.lkoAddr ≠ OK) ∧
    (let c := asking 1000 [(Reg.DUNE_STAT_STATE, 2)]
     c.lkoStatus c.lkoAddr = OK ∧ ¬ c.get Reg.DUNE_STAT_STATE ≠ 2) ∧
    (block []).fwUp = false := by decide +kernel

/-- Rule 63 alone is valid: field of type 1 of port 127, greater than 5, `run` windows more. -/
def rule63 (run : Nat) : List (Reg.Fld × Nat) :=
  [(⟨Reg.OAS_LKO_RULE 63 0, 31, 0⟩, 1 + 127 * 2 ^ 3 + 1 * 2 ^ 10 + 7 * 2 ^ 22), (⟨Reg.OAS_LKO_RULE 63 1, 31, 0⟩, 5), (⟨Reg.OAS_LKO_RULE 63 2, 31, 0⟩, run)]

def lkoFrame (v : Nat) : CellFrame := mkFrame 1 false 0 0 (BitVec.ofNat 160 v)

theorem w_LookoutWindows :
    (let c := sleep (rule63 1)
     let r := ruleOf c 63
     let good := fun v : Nat => (([(127#7, lkoFrame v)] : List (Port × CellFrame)).map (fun x => (x.1.toNat, x.2))).filter (fun x => c.sampledPort x.1)
     Asleep c ∧ LkoRule.valid r = true ∧ (∀ j, j < 64 → j ≠ 63 → LkoRule.valid (ruleOf c j) = false) ∧
      (frameCrc (lkoFrame 6) = frameCrcOf (lkoFrame 6) ∧ framePver (lkoFrame 6) = 1 ∧ frameType (lkoFrame 6) ≠ 3) ∧
      LkoRule.value r [] [] = none ∧ LkoRule.value r (good 6) [] = some 6 ∧ LkoRule.holds r 6 = true ∧ LkoRule.value r (good 5) [] = some 5 ∧
      LkoRule.holds r 5 = false ∧ smGet 0 c.power.lko.runs 63 < LkoRule.run r) ∧
    (let c := sleep (rule63 0)
     LkoRule.holds (ruleOf c 63) 6 = true ∧ LkoRule.run (ruleOf c 63) ≤ smGet 0 c.power.lko.runs 63) ∧
    (let c := sleep []
     Asleep c ∧ (∀ j, j < 64 → LkoRule.valid (ruleOf c j) = false) ∧ c.sampledPort 127 = true ∧ frameCrc (lkoFrame 6 ^^^ 1) ≠ frameCrcOf (lkoFrame 6 ^^^ 1)) ∧
    (block []).inLookout = false := by decide +kernel

theorem w_BrownoutAndHeat :
    ((block []).power.supply = 0 ∧ (block []).inLookout = false ∧ Asleep (sleep []) ∧ (sleep []).power.supply = 0) ∧
    (let c := { block [] with power := { (block []).power with supply := 1 } }
     c.power.supply = 1) ∧ Chip.init.power.supply = 2 ∧
    (let c := block [(Reg.PWR_DOM_STAT_STATE 65, 2), (Reg.PWR_DOM_STAT_STATE 0, 2)]
     let der := c.get Reg.PWR_THERM_CFG_DERATE
     c.domPresent 65 = true ∧ 2 ≤ c.domState 65 ∧ c.power.supply = 0 ∧ 620 ≤ (620#10).toNat ∧ (619#10).toNat < 620 ∧ der ≤ 619 ∧ c.get Reg.PWR_THERM_CFG_WARN ≤ 619 ∧
      2 ≤ c.domState 0 ∧ 0 ∉ c.power.derated ∧ (0#10).toNat < der ∧ (0#10).toNat ≤ der - 20) ∧
    (let c := sleep [(Reg.PWR_DOM_STAT_STATE 69, 2)]
     c.domPresent 69 = true ∧ 2 ≤ c.domState 69 ∧ c.get Reg.PWR_THERM_CFG_DERATE < 619) ∧
    ¬ 2 ≤ (block []).domState 0 := by decide +kernel

/-! ## Resets and fences -/

/-- The value RST_REQ takes for a scope, a mode and a target. -/
def resetReq (scope mode target : Nat) : Word := BitVec.ofNat 32 (scope + mode * 4 + target * 16)

theorem w_PartialResets :
    (let c := block []
     c.get Reg.RST_STAT_BUSY = 0 ∧ c.resetTarget (wbits (resetReq 1 0 63) 1 0) (wbits (resetReq 1 0 63) 13 4) = true ∧ wbits (resetReq 1 0 63) 1 0 ≠ 3 ∧
      wbits (resetReq 1 0 63) 2 2 = 0 ∧ c.dune.active = false ∧ c.rotPhase = 0 ∧ c.fw.reloads = [] ∧ c.resetTarget (wbits (resetReq 0 1 1023) 1 0) (wbits (resetReq 0 1 1023) 13 4) = true ∧
      wbits (resetReq 0 1 1023) 2 2 = 1 ∧ c.resetTarget (wbits (resetReq 3 0 0) 1 0) 0 = true ∧ wbits (resetReq 3 0 0) 1 0 = 3 ∧
      c.resetTarget (wbits (resetReq 1 0 64) 1 0) (wbits (resetReq 1 0 64) 13 4) = false) ∧
    (let c := { block [(Reg.RST_STAT_PHASE, 1), (Reg.RST_STAT_BUSY, 1)] with rst := { slots := [2032], clusters := [63], scope := 1, target := 63, fallback := false } }
     c.get Reg.RST_STAT_PHASE = 1 ∧ c.get Reg.RST_STAT_PHASE ≠ 2 ∧ c.rst.slots.all c.slotIdle = true ∧ (∀ k ∈ c.rst.clusters, k < 64) ∧ (∀ p ∈ c.rst.slots, p < 2048) ∧
      c.get Reg.RST_CFG_DRAIN_TO ≠ 0) ∧
    (block [(Reg.RST_STAT_PHASE, 2)]).get Reg.RST_STAT_PHASE = 2 ∧ (block [(Reg.RST_CFG_DRAIN_TO, 0)]).get Reg.RST_CFG_DRAIN_TO = 0 ∧
    (block []).get Reg.RST_STAT_PHASE ≠ 1 := by decide +kernel

theorem w_Fences :
    ¬ ((17#11).toNat % 32 < 17) ∧ ((2032#11).toNat / 32 < (block []).clusters ∧ (2032#11).toNat % 32 < 17) ∧
    (let c := block [(Reg.RST_CFG_AUTOFENCE, 1)]
     c.get Reg.RST_CFG_AUTOFENCE = 1 ∧ c.fenced 2032 = false ∧ c.dune.active = false) ∧ ¬ (block [(Reg.RST_CFG_AUTOFENCE, 0)]).get Reg.RST_CFG_AUTOFENCE = 1 ∧
    (let c := block [(Reg.RST_FENCED_SLOTS 63, 2 ^ 16), (Reg.RST_CFG_AUTOFENCE, 1)]
     c.fenced 2032 = true ∧ wbits 0x17F0#32 10 0 = 2032 ∧ wbits 0x17F0#32 12 12 = 1 ∧ wbits 0x7F0#32 10 0 = 2032 ∧ ¬ wbits 0x7F0#32 12 12 = 1 ∧
      c.logical? 2032 = none ∧ 2032 / 32 < c.clusters ∧ 2032 % 32 < 17) ∧ wbits 0x7F1#32 10 0 % 32 = 17 ∧ (block []).logical? 2031 ≠ none := by decide +kernel

/-- The fence of slot 0 waits for firmware; the spare of cluster 0 is free. -/
def fencing (p : Nat) (byCmd : Bool) (free : Nat) (multi : Bool) (jobs : Bool) : Chip :=
  let c := block [(Reg.HIF_FWSTATE_FW_STATE, 3), (Reg.DMAP_CLUSTER_STAT_SPARE_FREE 0, free), (Reg.DMAP_CLUSTER_STAT_SPARE 0, 16)]
  { c with fw := { c.fw with fences := [(p, 6, byCmd)], jobs := if jobs then [(15, { Job.empty with state := 3, cores := [0], multi := multi })] else [] } }

theorem w_EndedSubstitution :
    (let d := fencing 0 false 1 false false
     let c : Chip := { d with fw := { d.fw with fences := [(0, 0, false)] } }
     c.fw.fences = [(0, 0, false)] ∧ 0 < c.clusters ∧ c.fwUp = true ∧ c.allDrained = true ∧ c.logical? 0 = some 0) := by decide +kernel

theorem w_TestedSlot :
    (let c := { (fencing 16 false 0 false false).put (Reg.NI_MAP_ACTIVE_SLOT 0 0) 16 with rot := { Rotation.idle with old := 0, new := 16 } }
     let c := c.put Reg.DMAP_ROT_STAT_PHASE 5
     (st c).RegsWf ∧ c.fw.fences = [(16, 6, false)] ∧ c.fwUp = true ∧ c.allDrained = true ∧ c.logical? 16 = some 0 ∧ ¬ c.spareFree 0 = true ∧ c.rotPhase = 5 ∧
      c.rot.old / 32 = 0 ∧ c.logical? c.rot.old = none ∧ c.fenced c.rot.old = false ∧ c.gangCluster 0 = false ∧ c.rot.old ∉ c.rst.slots ∧ c.fw.ops = []) := by decide +kernel

theorem w_FenceFollowUp :
    (block []).fw.fences = [] ∧
    (let c := fencing 0 false 1 false false
     (st c).RegsWf ∧ c.fw.fences = [(0, 6, false)] ∧ c.fwUp = true ∧ c.allDrained = true ∧ 0 < c.clusters ∧ c.logical? 0 = some 0 ∧ c.spareFree 0 = true ∧
      c.fenced (c.spareOf 0) = false ∧ c.spareOf 0 ∉ c.rst.slots ∧ c.fw.ops = []) ∧
    (let c := fencing 0 false 0 true true
     ¬ c.rotPhase = 5 ∧ c.logical? 0 = some 0 ∧ ¬ c.spareFree 0 = true ∧ c.fw.ops = [] ∧ c.jobOfCore 0 = some 15 ∧ (c.job 15).multi = true) ∧
    (let c := fencing 0 false 0 false false
     ¬ c.spareFree 0 = true ∧ c.jobOfCore 0 = none) ∧
    (let c := fencing 16 false 1 false false
     c.fw.fences = [(16, 6, false)] ∧ 16 / 32 < c.clusters ∧ c.fwUp = true ∧ c.allDrained = true ∧ c.logical? 16 = none ∧ 16 = c.spareOf 0) := by decide +kernel

theorem w_Watchdog :
    (let c := block [(Reg.RST_HCU_WDT_PERIOD, 1), (Reg.HIF_FWSTATE_FW_STATE, 3), (⟨Reg.MBX_STATE, 31, 30⟩, 1)]
     c.get Reg.RST_HCU_WDT_PERIOD ≠ 0 ∧ c.fw.stopped = false ∧ c.fwState ≠ 0 ∧ c.fwState ≠ 5 ∧ c.fw.restarts < c.get Reg.RST_HCU_WDT_MAX ∧ c.dune.active = false ∧
      c.mbxState 15 = 1 ∧ c.fwState ≠ 4) ∧
    (let c := block [(Reg.RST_HCU_WDT_PERIOD, 1), (Reg.HIF_FWSTATE_FW_STATE, 2), (Reg.RST_HCU_WDT_MAX, 0)]
     c.get Reg.RST_HCU_WDT_MAX ≤ c.fw.restarts ∧ c.fwState ≠ 0) ∧
    (let c := block [(Reg.HIF_FWSTATE_FW_STATE, 4), (Reg.RST_HCU_WDT_PERIOD, 0)]
     c.fwState = 4 ∧ c.fw.stopped = false ∧ c.get Reg.RST_HCU_WDT_PERIOD = 0) := by decide +kernel

theorem w_RejectedResets :
    (block [(Reg.RST_STAT_BUSY, 1)]).get Reg.RST_STAT_BUSY = 1 ∧
    (wbits (resetReq 0 0 1023) 1 0 = 0 ∧ (block [(Reg.NI_MAP_ACTIVE_SLOT 63 1023, 17)]).seated (wbits (resetReq 0 0 1023) 13 4) = false) ∧
    (wbits (resetReq 1 0 64) 1 0 = 1 ∧ (block []).clusters ≤ wbits (resetReq 1 0 64) 13 4) ∧
    (let c := block []
     wbits (resetReq 2 0 15) 1 0 = 2 ∧ c.rd (Reg.RST_PART_MASK_LO 15) = 0 ∧ c.rd (Reg.RST_PART_MASK_HI 15) = 0 ∧ 16 ≤ wbits (resetReq 2 0 16) 13 4) ∧
    (wbits (resetReq 3 0 0) 1 0 = 3 ∧ (block [(Reg.RST_CTRL_LOCK, 1)]).get Reg.RST_CTRL_LOCK = 1) := by decide +kernel

/-! ## The rotation test -/

/-- A step of core 0 from slot 0 into slot 16, in `ph`. -/
def rotating (ph : Nat) (rounds : Nat) (l : List (Reg.Fld × Nat)) : Chip :=
  { block ([(Reg.DMAP_ROT_STAT_PHASE, ph), (Reg.DMAP_ROT_CFG_EN, 1), (Reg.DMAP_ROT_CFG_PERIOD, 1), (Reg.PWR_DOM_STAT_STATE 63, 2), (Reg.DMAP_CLUSTER_STAT_SPARE_FREE 63, 1),
      (Reg.DMAP_CLUSTER_STAT_SPARE 63, 16)] ++ l)
    with rot := { core := 0, old := 0, new := 16, rounds := rounds, taken := true, withdraw := 0 } }

theorem w_RotationSteps :
    (let c := rotating 0 0 []
     c.on Reg.DMAP_ROT_CFG_EN = true ∧ c.get Reg.DMAP_ROT_CFG_PERIOD ≠ 0 ∧ 63 < c.clusters ∧ c.clusterOn 63 = true ∧ c.spareFree 63 = true ∧ c.allDrained = true ∧
      c.rotPhase = 0 ∧ c.power.cap.stage < 2 ∧ c.inLookout = false ∧ c.nextSeated 63 = some 2016 ∧ c.dhalted 2016 = false ∧ c.rotPhase ≠ 1 ∧ c.rotPhase ≠ 5) ∧
    (let c := rotating 0 0 [(Reg.BDP_CORE_STAT_DHALT 2016, 1)]
     c.nextSeated 63 = some 2016 ∧ c.dhalted 2016 = true) ∧
    (let c := rotating 1 2 []
     c.rotPhase = 1 ∧ (1024#16).toNat ≤ 1024 ∧ 1024 < (1025#16).toNat ∧ c.rot.rounds + 1 < 4 ∧ 1 ≤ c.rotPhase ∧ c.rotPhase ≤ 3) ∧
    (let c := rotating 1 3 []
     c.rotPhase = 1 ∧ 4 ≤ c.rot.rounds + 1) ∧
    (let c := rotating 2 0 []
     let k := c.core c.rot.old
     c.rotPhase = 2 ∧ k.drift = [] ∧ k.mx = none ∧ k.slice = false ∧ k.outstanding = false ∧ c.allDrained = true) ∧
    (let c := rotating 3 0 []
     (st c).RegsWf ∧ (st c).MemoryWf ∧ c.rotPhase = 3 ∧ (c.core c.rot.old).pass = none ∧ c.allDrained = true ∧ c.rot.old / 32 < c.clusters ∧ c.rot.new / 32 = c.rot.old / 32 ∧
      c.rot.old % 32 < 17 ∧ c.rot.new % 32 < 17 ∧ c.rot.old ≠ c.rot.new ∧ c.rot.core / 16 = c.rot.old / 32) ∧
    (let c := rotating 5 0 [(Reg.NI_MAP_ACTIVE_SLOT 0 0, 16)]
     c.rotPhase = 5 ∧ c.rot.old < 2048 ∧ c.logical? c.rot.old = none ∧ c.workCount < 384 ∧ 3 < c.rotPhase) ∧
    (let c := rotating 5 0 []
     c.rotPhase = 5 ∧ c.logical? c.rot.old ≠ none) := by decide +kernel

/-! ## The sandglass -/

def withTrip (c : Chip) (f : Trip → Trip) : Chip := { c with trip := f c.trip }

/-- A record of kind 1. -/
def record1 : List Byte := 1#8 :: List.replicate 31 7#8

theorem w_SandglassTrips :
    (let c := withTrip (block [(Reg.TRIP_CTRL_EN, 1), (Reg.TRIP_CFG_PIN_EN, 1), (Reg.TRIP_STAT_STATE, 0)]) (fun t => { t with fifo := [record1], gap := true })
     c.power.selfRefresh = false ∧ c.trip.fifo = [record1] ∧ c.trip.gap = true ∧ c.get Reg.TRIP_STAT_HELD = 0 ∧ c.trip.copy = none ∧ c.tripRecording = true ∧
      c.pinsIdle = false ∧ c.on Reg.TRIP_CFG_PIN_EN = true ∧ c.power.supply ≠ 1) ∧
    (let c := withTrip (block [(Reg.TRIP_CTRL_EN, 1), (Reg.TRIP_STAT_HELD, 1), (Reg.TRIP_CFG_PIN_EN, 1)]) (fun t => { t with copy := some (131072, 131071, 5) })
     (st c).MemoryWf ∧ c.power.selfRefresh = false ∧ c.tripJoins = none ∧ c.get Reg.TRIP_STAT_HELD = 1 ∧ c.trip.copy = some (131072, 131071, 5) ∧ 0 < min 2048 (131072 - 131071) ∧ 131071 + min 2048 (131072 - 131071) ≤ 131072 ∧
      c.tripBase + 2 ^ 25 ≤ oasisBase) ∧
    (let c := withTrip (block [(Reg.TRIP_STAT_STATE, 2)]) (fun t => { t with copy := some (131072, 131072, 5) })
     c.get Reg.TRIP_STAT_STATE = 2 ∧ c.trip.copy = some (131072, 131072, 5) ∧ min 2048 (131072 - 131072) = 0 ∧ 131072 ≤ 131072) ∧
    (let c := block [(Reg.TRIP_CTRL_EN, 0)]
     c.power.selfRefresh = false ∧ c.tripRecording = false ∧ c.get Reg.TRIP_STAT_HELD ≠ 1 ∧ c.trip.copy = none ∧ c.get Reg.TRIP_STAT_STATE ≠ 2 ∧
      c.tripJoins = none ∧ c.on Reg.PMON_CTRL_SNAP_ON_TRIP = false ∧ c.trip.fifo = []) ∧
    (let c := withTrip (block [(Reg.TRIP_CFG_PIN_EN, 1)]) (fun t => { t with copy := some (7, 0, 5) })
     c.power.selfRefresh = false ∧ c.tripJoins = some 5 ∧ c.pinsIdle = false ∧ c.on Reg.TRIP_CFG_PIN_EN = true ∧ c.power.supply ≠ 1) ∧
    (let c := { block [] with power := { (block []).power with selfRefresh := true } }
     c.power.selfRefresh = true) := by decide +kernel

/-! ## The debug port -/

theorem w_TestAccess :
    Chip.init.power.good = false ∧
    (let c := block [(Reg.BDP_STAT_SCOPE, 0)]
     c.power.good = true ∧ c.get Reg.BDP_STAT_SCOPE = 0 ∧ c.get Reg.BDP_STAT_FAILS < 3 ∧ c.tap.challenge = none) ∧
    (let c := block [(Reg.BDP_STAT_FAILS, 3)]
     c.get Reg.BDP_STAT_FAILS = 3) ∧
    (let c := { block [(Reg.HIF_FWSTATE_FW_STATE, 3)] with tap := { (block []).tap with challenge := some 5 } }
     c.tap.challenge = some 5 ∧ c.unlockOk 5 3 [] = false ∧ c.fwRuns = true ∧ c.get Reg.BDP_STAT_FAILS < 3) := by decide +kernel

/-- A response of 96 bytes passes wherever its signature does: that is a constant of Config. -/
theorem w_TestAccess_passes {c : Chip} {ch : BitVec 256} {sig : List Byte} (n : sig.length = 96) (e : ∀ k m : List Byte, Config.ecdsaOk k m sig = true) :
    c.unlockOk ch 2#8 sig = true := by simp [Chip.unlockOk, n, e]

/-- An open port with core 0 selected. -/
def open0 (l : List (Reg.Fld × Nat)) : Chip := block ([(Reg.BDP_STAT_SCOPE, 2), (⟨Reg.BOOT_JOIN_LO, 31, 0⟩, 1)] ++ l)

theorem w_Breakpoints :
    (let c := open0 [(Reg.CORE_STAT_STATE 0, 1), (Reg.BDP_CORE_STAT_DBG_EN 0, 1), (Reg.BDP_BRK_CFG_TYPE 0 3, 1), (Reg.BDP_BRK_ADDR_ADDR 0 3, 0x18), (Reg.CORE_PC_PC 0, 0x18),
       (Reg.PWR_DOM_STAT_STATE 0, 2)]
     c.pcore 0 = 0 ∧ c.seated 0 = true ∧ c.seqRuns 0 = true ∧ c.boundaryDue 0 = false ∧ (c.core 0).reqs = [] ∧ c.get (Reg.BDP_CORE_STAT_DBG_EN 0) = 1 ∧
      (c.core 0).dbgSkip = false ∧ c.get (Reg.BDP_BRK_CFG_TYPE 0 3) = 1 ∧
      c.pc 0 / 2 ^ c.get (Reg.BDP_BRK_CFG_IGN 0 3) = c.get (Reg.BDP_BRK_ADDR_ADDR 0 3) % 2 ^ 16 / 2 ^ c.get (Reg.BDP_BRK_CFG_IGN 0 3)) ∧
    (let c := open0 [(Reg.BDP_BRK_CFG_TYPE 0 0, 4), (Reg.BDP_BRK_CFG_IGN 0 0, 15), (Reg.BDP_BRK_ADDR_ADDR 0 0, 0x7FFF)]
     c.get (Reg.BDP_BRK_CFG_TYPE 0 0) = 4 ∧ (c.greg 0 0 + (5#16).signExtend 32).toNat / 2 ^ c.get (Reg.BDP_BRK_CFG_IGN 0 0) =
      c.get (Reg.BDP_BRK_ADDR_ADDR 0 0) / 2 ^ c.get (Reg.BDP_BRK_CFG_IGN 0 0)) := by decide +kernel

theorem w_CoreDebugging :
    (let c := open0 [(Reg.CORE_STAT_STATE 0, 1), (Reg.BDP_CORE_STAT_DBG_EN 0, 1)]
     c.power.good = true ∧ c.get Reg.BDP_STAT_SCOPE ≠ 0 ∧ c.tapSlot = some 0 ∧ c.get (Reg.BDP_CORE_STAT_DBG_EN 0) = 1 ∧ c.seqLive 0 = true ∧ c.dhalted 0 = false ∧
      c.domPresent 69 = true) ∧
    (let c := block [(Reg.BDP_STAT_SCOPE, 1)]
     c.get Reg.BDP_STAT_SCOPE ≠ 0 ∧ c.tapSlot = none) ∧
    (let c := open0 [(Reg.BDP_CORE_STAT_DBG_EN 0, 0)]
     c.tapSlot = some 0 ∧ ¬ c.get (Reg.BDP_CORE_STAT_DBG_EN 0) = 1) ∧
    (let c := open0 [(Reg.BDP_CORE_STAT_DBG_EN 0, 1), (Reg.BDP_CORE_STAT_DHALT 0, 1)]
     c.tapSlot = some 0 ∧ c.get (Reg.BDP_CORE_STAT_DBG_EN 0) = 1 ∧ c.dhalted 0 = true ∧ c.seqLive 0 = false) := by decide +kernel

theorem w_MemoryDebugging :
    (let c := dram [(Reg.BDP_STAT_SCOPE, 1)]
     c.power.good = true ∧ c.get Reg.BDP_STAT_SCOPE ≠ 0 ∧ DramServes c ∧ (0x7FFFFFF8#48).toNat % 64 + 2 ^ (3#2).toNat ≤ 64 ∧ (0x7FFFFFF8#48).toNat < winBase ∧
      (0x7FFFFFF8#48).toNat + 2 ^ (3#2).toNat ≤ c.usable) := by decide +kernel

theorem w_IdentificationCode :
    (block []).power.good = true ∧ (block []).variant = 1 ∧ (block [(Reg.FUSE_VARIANT_CODE, 2)]).variant = 2 ∧ (block [(Reg.FUSE_VARIANT_CODE, 3)]).variant = 3 ∧
    (block [(Reg.FUSE_STEPPING_STEP, 0x11)]).get Reg.FUSE_STEPPING_STEP = 0x11 := by decide +kernel

/-! ## Ill-formed commands are refused by `Instr.wf` -/

def badHead : CmdHead := { head31 with timeout := 2 ^ 32 }
def ff : Option (List Byte) := some [1, 2]

theorem test_wf_slot : Instr.wf (.neuronPass 17#11) = false ∧ Instr.wf (.neuronPass 16#11) = true := by decide
theorem test_wf_fence_slot : Instr.wf (.sramUncorrectable 31#11 true) = false := by decide
theorem test_wf_quick_test : Instr.wf (.quickTest 0 true [(17#5, 0)]) = false ∧ Instr.wf (.quickTest 0 true [(16#5, 0)]) = true := by decide
theorem test_wf_full_start : Instr.wf (.fullStart [] [(17#11, 0)]) = false := by decide
theorem test_wf_long_step : Instr.wf (.longOpStep [(0x7FF#11, 0)]) = false := by decide
theorem test_wf_counter : Instr.wf (.pmonClr (.core 17#11 0)) = false ∧ Instr.wf (.pmonClr (.chip 31)) = true := by decide
theorem test_wf_domain : Instr.wf (.pwrVoteSet 70#7 1) = false ∧ Instr.wf (.pwrVoteSet 69#7 1) = true := by decide
theorem test_wf_master : Instr.wf (.bufPoolAlloc 0 14#4) = false ∧ Instr.wf (.bufPoolAlloc 0 13#4) = true := by decide
theorem test_wf_access_master : Instr.wf (.crossbarAccess 15#4 0 2#14 ff) = false ∧ Instr.wf (.crossbarAccess 0#4 0 2#14 ff) = true := by decide
theorem test_wf_data : Instr.wf (.bar2Access 0 3#13 ff) = false ∧ Instr.wf (.expertWindowAccess 0 0#13 none) = false ∧ Instr.wf (.bar2Access 0 2#13 ff) = true := by decide
theorem test_wf_origin :
    Instr.wf (.commandTimeout (.mailbox 16)) = false ∧ Instr.wf (.commandTimeout (.ring 64 0)) = false ∧ Instr.wf (.commandTimeout (.ring 63 (2 ^ 32))) = false ∧
    Instr.wf (.commandTimeout (.ring 63 7)) = true := by decide
theorem test_wf_head : Instr.wf (.query (.mailbox 0) badHead (args [])) = false ∧ Instr.wf (.query (.mailbox 0) head31 (args [])) = true := by decide
theorem test_wf_arguments : Instr.wf (.query (.mailbox 0) head31 [1]) = false := by decide
theorem test_wf_payload : Instr.wf (.hello (.mailbox 0) head31 (List.replicate 241 0#8)) = false := by decide
theorem test_wf_signature : Instr.wf (.unlockResp 1 []) = false := by decide

/-! ## Single steps, with results computed by hand from the rules -/

/-- Core 0 with g1 and g2. -/
def g12 (a b : Word) : Chip := ((running []).setReg 0 1 a).setReg 0 2 b

/-- g3 after a command. -/
def g3 (i : Instr) (c : Chip) : Word := after i c 0xDEADBEEF#32 (fun t => t.greg 0 3)

/-- R163: the sum wraps; what comes out of a product of two negative numbers is positive; a shift counts modulo 32. -/
theorem test_add_wraps : g3 (.add 0 3 1 2) (g12 0xFFFFFFFF 2) = 1 := by decide +kernel
theorem test_sub_borrows : g3 (.sub 0 3 1 2) (g12 1 2) = 0xFFFFFFFF#32 := by decide +kernel
theorem test_mulh_signed : g3 (.mulh 0 3 1 2) (g12 0x80000000 0x80000000) = 0x40000000#32 := by decide +kernel
theorem test_mulhu_unsigned : g3 (.mulhu 0 3 1 2) (g12 0xFFFFFFFF 0xFFFFFFFF) = 0xFFFFFFFE#32 := by decide +kernel
theorem test_sra_sign : g3 (.sra 0 3 1 2) (g12 0x80000000 4) = 0xF8000000#32 := by decide +kernel
theorem test_slt_signed : g3 (.slt 0 3 1 2) (g12 0xFFFFFFFF 0) = 1 ∧ g3 (.sltu 0 3 1 2) (g12 0xFFFFFFFF 0) = 0 := by decide +kernel
theorem test_min_signed : g3 (.min 0 3 1 2) (g12 0x80000000 1) = 0x80000000#32 ∧ g3 (.max 0 3 1 2) (g12 0x80000000 1) = 1 := by decide +kernel

/-- R158: g0 takes nothing. -/
theorem test_g0_discards : after (.add 0 0 1 2) (g12 3 4) 9 (fun t => t.greg 0 0) = 0 := by decide +kernel

/-- R164: the constant of ADDI is signed, that of ORI is not. -/
theorem test_addi_signed : g3 (.addi 0 3 1 0xFFFF) (g12 1 0) = 0 ∧ g3 (.ori 0 3 1 0xFFFF) (g12 0 0) = 0xFFFF#32 := by decide +kernel

/-- R165: LB extends its sign, LBU does not; SH stores the low half, the low byte first. -/
theorem test_lb_sign :
    (let c := (g12 0 0).wrMem (slotMem 0 5) 1 0x80
     g3 (.lb 0 3 1 5) c = 0xFFFFFF80#32 ∧ g3 (.lbu 0 3 1 5) c = 0x80#32) := by decide +kernel
theorem test_sh_low_half : after (.sh 0 2 1 6) (g12 0 0x12345678) 0 (fun t => t.rdMem (slotMem 0 4) 4) = 0x56780000 := by decide +kernel

/-- R166: BLT compares signed numbers, BLTU unsigned ones. -/
theorem test_blt_taken : after (.blt 0 1 2 3) (g12 0xFFFFFFFF 0) 0 (fun t => t.pc 0) = 16 ∧ after (.bltu 0 1 2 3) (g12 0xFFFFFFFF 0) 0 (fun t => t.pc 0) = 4 := by
  decide +kernel

/-- R289: a POST takes a FREE slot to POSTED and counts one that is not FREE. -/
theorem test_mbx_post :
    after (.mbxDb 0x8001) (block [(⟨Reg.MBX_STATE, 1, 0⟩, 2)]) (9, 9, 9) (fun t => (t.mbxState 0, t.mbxState 15, t.get Reg.MBX_VIOL_COUNT)) = (2, 1, 1) := by decide +kernel

/-- R433: the code of a UT-1024 of stepping 0x11. -/
theorem test_idcode : after .idcode (block [(Reg.FUSE_STEPPING_STEP, 0x11)]) [] (fun t => t.out) = [.tdo 0x10A108B5 32] := by decide +kernel

/-- R329: the CRC-32 with these parameters over the ASCII digits 1 to 9, its published check value. -/
theorem test_crc32 : crc32 [0x31, 0x32, 0x33, 0x34, 0x35, 0x36, 0x37, 0x38, 0x39] = 0xCBF43926#32 := by decide +kernel

/-- Reset holds no command, and a step of it answers a next state that holds none. -/
theorem test_reset_idles : State.reset.pending = [] ∧ (match step State.reset with | .next t => t.pending | _ => [.idcode]) = [] := by decide +kernel

/-- A step takes the command at the front and leaves the rest. -/
theorem test_step_takes_front : (match step { pending := [.idcode, .bypass], chip := block [] } with | .next t => t.pending | _ => []) = [.bypass] := by decide +kernel

/-- The instruction words of the worked example of chapter 7. -/
theorem test_words_of_example :
    iWord 0x01 7 0 0 = 0x04E00000#32 ∧ iWord 0x07 8 0 4 = 0x1D000004#32 ∧ iWord 0x02 6 5 0xFF = 0x08C500FF#32 ∧ iWord 0x11 6 0 0xFFFD = 0x44C0FFFD#32 ∧
    iWord 0x16 0 0 0xFFF9 = 0x5800FFF9#32 ∧ rWord 0x28 8 4 7 0 = 0xA1043800#32 ∧ rWord 0x20 9 4 0 2 = 0x81240002#32 := by decide +kernel

/-- The BNE of the example at 0x014 goes to 0x00C. -/
theorem test_bne_of_example : after (.bne 0 6 0 0xFFFD) (((running []).setReg 0 6 1).put (Reg.CORE_PC_PC 0) 0x14) 0 (fun t => t.pc 0) = 0xC := by decide +kernel

theorem w_TuplesAndBuffersComplete :
    (let c := delivered [(Reg.WADI_Q_STAT_STATE 0 3, 1)] (wadi 1)
     FirstArrived c 0 1 (wadi 1) [] ∧ c.swapping 0 = false ∧ c.queueOpen 0 (wadi 1).wadiQueue = true ∧
      wordsOf ((c.core 0).queue (wadi 1).wadiQueue) + (wadi 1).tuple.words.length ≤ 32) ∧
    (let pk := { wcredit15 with body := [mkFlit1 1 0 0 0x21 (15 + 2048)] }
     let c := delivered [(Reg.WADI_SPORT_CFG_BOUND 0 15, 1)] pk
     (0 : Nat) ≠ bridgeSlot ∧ FirstArrived c 0 5 pk [] ∧ pk.data.toNat % 16 = 15 ∧ c.get (Reg.WADI_SPORT_CFG_BOUND 0 15) = 1 ∧ bit pk.data.toNat 11 = true) ∧
    (let c := block [(Reg.PWR_DOM_STAT_STATE 0, 2)]
     c.windowOpen 0 = true ∧ c.get (Reg.WADI_CTRL_LOCK 0) = 0 ∧ (4#32).getLsbD 18 = false) ∧
    (let c := pool3 { taken := [1], waiters := [] }
     c.poolOn 3 = true ∧ (c.pool 3).waiters = [] ∧ (c.pool 3).taken.length < c.get (Reg.BUF_POOL_CFG_COUNT 3) ∧ (13#4).toNat < 14 ∧
      (0x30001#18).toNat / 65536 = 3 ∧ (0x30001#18).toNat % 65536 < c.get (Reg.BUF_POOL_CFG_COUNT 3) ∧ (0x30001#18).toNat % 65536 ∈ (c.pool 3).taken) ∧
    (let c := { block [(Reg.BUF_POOL_WAIT_TO_TO 3, 1)] with pools := [(3, { taken := [], waiters := [13] })] }
     c.poolOn 3 = false ∧ c.get (Reg.BUF_POOL_WAIT_TO_TO 3) ≠ 0 ∧ (13#4).toNat ∈ (c.pool 3).waiters) := by decide +kernel

theorem w_CountersComplete :
    (block [(Reg.PMON_CFG_EN (Reg.pmonChip 31), 1)]).get (Reg.PMON_CFG_EN (Reg.pmonChip 31)) = 1 ∧ (block [(Reg.PMON_STAT_PENDING, 1)]).get Reg.PMON_STAT_PENDING = 1 ∧
    (4#3).toNat < 5 ∧ wbits 0#32 7 0 = 0 ∧ (1#1).toNat < (block []).drams := by decide +kernel

theorem w_LimitsComplete :
    (let x := op15 0x24 2 1 []
     let c := (withOps (job15 2 []) [x]).wrMem (mbxMem 15 0xC) 4 1
     c.fwUp = true ∧ c.fw.ops = [x] ∧ c.opHeld x = false ∧ x.total ≤ x.done + 1 ∧ x.origin = .mailbox 15 ∧ x.expert = false ∧ x.code = 0x24 ∧ c.timeoutOf (.mailbox 15) ≠ 0 ∧
      c.power.cap.on = false) ∧
    (let c := ready [(Reg.CL_PORT_STAT_STATE 127, 5)] (fun w => { w with pauses := [pause127] })
     pause127 ∈ c.fw.pauses ∧ pause127.kind = 0 ∧ pause127.id = (127#32).toNat ∧ pause127.inEffect = true ∧ pause127.duration ≠ 0 ∧ 127 < c.clPorts ∧ c.portState 127 = 5) := by
  decide +kernel

theorem w_TripsComplete :
    (let c := withTrip (block [(Reg.TRIP_CTRL_EN, 1), (Reg.TRIP_STAT_STATE, 0)]) (fun t => { t with fifo := [record1] })
     c.power.selfRefresh = false ∧ c.trip.fifo = [record1] ∧ c.get Reg.TRIP_STAT_HELD = 0 ∧ c.trip.copy = none ∧ c.tripRecording = true) ∧
    (let c := withTrip (block []) (fun t => { t with copy := some (131072, 131071, 5) })
     (st c).MemoryWf ∧ c.power.selfRefresh = false ∧ c.trip.copy = some (131072, 131071, 5) ∧ 131071 < 131072 ∧ 131072 ≤ 131072 ∧ c.tripBase + 2 ^ 25 ≤ oasisBase) ∧
    (withTrip (block []) (fun t => { t with copy := some (7, 7, 5) })).trip.copy = some (7, 7, 5) := by decide +kernel

end Sys2Proof.Tests
end

section
/-! SUPPORT. What a command leaves, and fields of registers read through writes: the reading rules the proofs below share. -/

namespace Sys2Proof.Machine

/-! ## What a command leaves -/

theorem leaves_of_act {ins : Instr} {s : State} {f : Chip → Chip} {t : Chip} (hex : exec ins s = act f s) (h : f s.chip = t) : Leaves ins s t := by
  rw [Leaves, hex, act, h]

/-! ## Fields of registers, read through writes -/

/-- Writing field `f` leaves field `g`: another register, or other bits of the same one. -/
def Reg.Fld.apart (f g : Reg.Fld) : Bool := f.addr != g.addr || (f.lo ≤ f.hi && (g.hi < f.lo || f.hi < g.lo))

theorem Chip.get_put_apart (c : Chip) (f g : Reg.Fld) (v : Nat) (h : f.apart g = true) : (c.put f v).get g = c.get g := by
  simp only [Reg.Fld.apart, Bool.or_eq_true, Bool.and_eq_true, bne_iff_ne, decide_eq_true_eq] at h
  rcases h with h | ⟨h, hd⟩
  · exact Chip.get_put_addr c f g v (Ne.symm h)
  · exact Chip.get_put_disjoint c f g v h hd

/-- A field reads the number put into it where the number fits. -/
theorem Chip.get_put_fits (c : Chip) (f : Reg.Fld) (v : Nat) (h : (f.lo ≤ f.hi && f.hi < 32 && v < 2 ^ (f.hi + 1 - f.lo) : Bool) = true) :
    (c.put f v).get f = v := by
  simp only [Bool.and_eq_true, decide_eq_true_eq] at h
  obtain ⟨⟨hl, hw⟩, hv⟩ := h
  rw [Chip.get_put_same c f v hl hw, Nat.mod_eq_of_lt hv]

/-- A counter advances by `n` and stops at its maximum. -/
theorem Chip.get_bump (c : Chip) (f : Reg.Fld) (n : Nat) (h : (f.lo ≤ f.hi && f.hi < 32 : Bool) = true) : (c.bump f n).get f = counted c f n := by
  simp only [Bool.and_eq_true, decide_eq_true_eq] at h
  have hp : 0 < 2 ^ (f.hi + 1 - f.lo) := Nat.pow_pos (by decide)
  rw [Chip.bump, Chip.get_put_same _ _ _ h.1 h.2]
  exact Nat.mod_eq_of_lt (lt_of_le_of_lt (Nat.min_le_right _ _) (by omega))

theorem counted_congr {c d : Chip} {f : Reg.Fld} (h : c.get f = d.get f) (n : Nat) : counted c f n = counted d f n := by
  rw [counted, counted, h]

/-- A one-bit field that is not 1 is 0. -/
theorem Chip.get_eq_zero {c : Chip} {f : Reg.Fld} (hf : f.hi = f.lo) (h : c.get f ≠ 1) : c.get f = 0 := by
  have hlt := Chip.get_lt c f
  rw [hf, Nat.add_sub_cancel_left] at hlt
  omega

theorem Chip.on_iff {c : Chip} {f : Reg.Fld} : c.on f = true ↔ c.get f = 1 := by simp [Chip.on]

end Sys2Proof.Machine
end

section
/-! SUPPORT. Event counters of the chip and of a router, and the error responses of the crossbar (R18, R262), proved once. -/

namespace Sys2Proof.Machine

/-! ## Event counters of the chip and of a router -/

/-- Registers of the event counters of router `r` (R424). -/
def PmonRouterRegs (r a : Nat) : Prop := Reg.pmonRouter r 0 ≤ a ∧ a < Reg.pmonRouter r 4

theorem OnlyRegs.setPmonCount (c : Chip) (b v : Nat) : OnlyRegs c (c.setPmonCount b v) (fun a => a = Reg.PMON_CNT_LO b ∨ a = cntHigh b) :=
  (OnlyRegs.wr _ _ _ _ (.inl rfl)).trans (OnlyRegs.wr _ _ _ _ (.inr rfl))

/-- The overflow of a counter changes its configuration and, for a counter of the chip, the interrupt status. -/
theorem OnlyRegs.pmonWrap (c : Chip) (b : Nat) (k : Option Nat) (P : Nat → Prop) (h : P (Reg.PMON_CFG b))
    (hk : k.isSome = true → P Reg.PMON_IRQ_STATUS) : OnlyRegs c (c.pmonWrap b k) P := by
  have hset : OnlyRegs c (c.set (Reg.PMON_CFG_OVF b)) P := OnlyRegs.set _ _ _ h
  cases k with
  | none => exact hset
  | some n => exact hset.trans (OnlyRegs.ite (OnlyRegs.wr _ _ _ _ (hk rfl)) (OnlyRegs.refl _ _))

theorem OnlyRegs.pmonAdd_any (c : Chip) (b n : Nat) (k : Option Nat) (P : Nat → Prop) (h : ∀ a, CntRegs b a → P a)
    (hk : k.isSome = true → P Reg.PMON_IRQ_STATUS) : OnlyRegs c (c.pmonAdd b n k) P := by
  have hset : OnlyRegs c (c.setPmonCount b ((c.pmonCount b + n) % 2 ^ 48)) P :=
    (OnlyRegs.setPmonCount c b _).mono (fun a ha => h a (ha.elim (.inr ∘ .inl) (.inr ∘ .inr)))
  exact OnlyRegs.ite hset (hset.trans (OnlyRegs.pmonWrap _ _ _ _ (h _ (.inl rfl)) hk))

theorem OnlyRegs.tallyAt_any (c : Chip) (src n : Nat) (l : List (Nat × Option Nat)) (P : Nat → Prop)
    (h : ∀ x ∈ l, (∀ a, CntRegs x.1 a → P a) ∧ (x.2.isSome = true → P Reg.PMON_IRQ_STATUS)) : OnlyRegs c (c.tallyAt src n l) P := by
  induction l generalizing c with
  | nil => exact OnlyRegs.refl c P
  | cons x t ih =>
    obtain ⟨hx, ht⟩ := List.forall_mem_cons.mp h
    exact OnlyRegs.trans (OnlyRegs.ite (OnlyRegs.pmonAdd_any c x.1 n x.2 P hx.1 hx.2) (OnlyRegs.refl c P)) (ih _ ht)

/-- A source of the chip changes the chip's event counters only. -/
theorem OnlyRegs.tallyChip (c : Chip) (src n : Nat) : OnlyRegs c (c.tallyChip src n) PmonChipRegs := by
  refine OnlyRegs.tallyAt_any c src n _ _ fun x hx => ?_
  obtain ⟨i, hi, rfl⟩ := List.mem_map.mp hx
  rw [List.mem_range] at hi
  exact ⟨fun a ha => .inr (by simp only [CntRegs, Reg.pmonChip] at ha; omega), fun _ => .inl rfl⟩

/-- A source of a router changes the router's event counters only. -/
theorem OnlyRegs.tallyRouter (c : Chip) (r src n : Nat) : OnlyRegs c (c.tallyRouter r src n) (PmonRouterRegs r) := by
  refine OnlyRegs.tallyAt_any c src n _ _ fun x hx => ?_
  obtain ⟨i, hi, rfl⟩ := List.mem_map.mp hx
  rw [List.mem_range] at hi
  exact ⟨fun a ha => by simp only [CntRegs, PmonRouterRegs, Reg.pmonRouter] at ha ⊢; omega, by simp⟩

/-- The crossbar's own registers stand below the chip's event counters. -/
theorem not_pmonChipRegs {a : Nat} (h : a < 0x100010) : ¬ PmonChipRegs a := by
  simp only [PmonChipRegs, Reg.PMON_IRQ_STATUS]; omega

/-! ## Error responses (R18, R262) -/

theorem OnlyRegs.out {c d : Chip} {P : Nat → Prop} (h : OnlyRegs c d P) : d.out = c.out := by rw [h.eq]
theorem OnlyRegs.cores {c d : Chip} {P : Nat → Prop} (h : OnlyRegs c d P) : d.cores = c.cores := by rw [h.eq]
theorem OnlyRegs.fw {c d : Chip} {P : Nat → Prop} (h : OnlyRegs c d P) : d.fw = c.fw := by rw [h.eq]

/-- The registers an error response writes. -/
def ErrorRegs (a : Nat) : Prop :=
  a = Reg.XBAR_ERR_INFO ∨ a = Reg.XBAR_ERR_INFO_HI ∨ a = Reg.XBAR_ERR_CNT ∨ a = Reg.XBAR_IRQ_STATUS ∨ PmonChipRegs a

/-- What an error response records (R262), before its source is counted. -/
def Chip.errorNoted (c : Chip) (who target a : Nat) : Chip :=
  ((((((c.wr Reg.XBAR_ERR_INFO (BitVec.ofNat 32 a)).put Reg.XBAR_ERR_INFO_HI_ADDR_HI (a / 2 ^ 32)).put Reg.XBAR_ERR_INFO_HI_MASTER who).put
    Reg.XBAR_ERR_INFO_HI_TARGET target).bump Reg.XBAR_ERR_CNT_COUNT).set Reg.XBAR_IRQ_STATUS_ERR)

theorem Chip.busError_eq (c : Chip) (who target a n st : Nat) :
    c.busError who target a n st = ((c.errorNoted who target a).tallyChip 0x88, st, List.replicate n 0) := rfl

theorem OnlyRegs.errorNoted (c : Chip) (who target a : Nat) : OnlyRegs c (c.errorNoted who target a) ErrorRegs :=
  (((((OnlyRegs.wr c Reg.XBAR_ERR_INFO _ _ (.inl rfl)).trans (OnlyRegs.put _ Reg.XBAR_ERR_INFO_HI_ADDR_HI _ _ (.inr (.inl rfl)))).trans
    (OnlyRegs.put _ Reg.XBAR_ERR_INFO_HI_MASTER _ _ (.inr (.inl rfl)))).trans (OnlyRegs.put _ Reg.XBAR_ERR_INFO_HI_TARGET _ _ (.inr (.inl rfl)))).trans
    (OnlyRegs.bump _ Reg.XBAR_ERR_CNT_COUNT _ _ (.inr (.inr (.inl rfl))))).trans (OnlyRegs.set _ Reg.XBAR_IRQ_STATUS_ERR _ (.inr (.inr (.inr (.inl rfl)))))

theorem OnlyRegs.busError (c : Chip) (who target a n st : Nat) : OnlyRegs c (c.busError who target a n st).1 ErrorRegs :=
  (OnlyRegs.errorNoted c who target a).trans ((OnlyRegs.tallyChip _ _ _).mono fun _ h => .inr (.inr (.inr (.inr h))))

/-- The fields an error response leaves. -/
theorem Chip.errorNoted_fields (c : Chip) (who target a : Nat) (ht : target < 8) :
    let t := c.errorNoted who target a
    t.rd Reg.XBAR_ERR_INFO = BitVec.ofNat 32 a ∧ t.get Reg.XBAR_ERR_INFO_HI_ADDR_HI = a / 2 ^ 32 % 2 ^ 16 ∧
    t.get Reg.XBAR_ERR_INFO_HI_MASTER = who % 16 ∧ t.get Reg.XBAR_ERR_INFO_HI_TARGET = target ∧
    t.get Reg.XBAR_ERR_CNT_COUNT = counted c Reg.XBAR_ERR_CNT_COUNT 1 ∧ t.get Reg.XBAR_IRQ_STATUS_ERR = 1 := by
  refine ⟨?_, ?_, ?_, ?_, ?_, ?_⟩ <;>
    simp (disch := decide) only [Chip.errorNoted, Chip.set, Chip.bump_put, Chip.get_put_apart, Chip.get_wr_other, Chip.rd_put_other, Chip.rd_wr_same,
      Chip.get_put_same]
  · rfl
  · rfl
  · exact Nat.mod_eq_of_lt ht
  · exact Nat.mod_eq_of_lt (Nat.lt_of_le_of_lt (Nat.min_le_right _ _) (by decide))
  · rfl

/-- An error response refuses the access, also where the block it meets is `c` but for what an access of R18 counts. -/
theorem Chip.busError_refused {c d : Chip} (who target a n st : Nat) (ht : target < 8)
    (hcnt : d.get Reg.XBAR_ERR_CNT_COUNT = c.get Reg.XBAR_ERR_CNT_COUNT) (hm : d.mem = c.mem) (hc : d.cores = c.cores) :
    BusRefused c (d.busError who target a n st).1 who target a := by
  obtain ⟨h1, h2, h3, h4, h5, h6⟩ := Chip.errorNoted_fields d who target a ht
  have ht := OnlyRegs.tallyChip (d.errorNoted who target a) 0x88 1
  have hn := OnlyRegs.errorNoted d who target a
  rw [Chip.busError_eq]
  have keep : ∀ f : Reg.Fld, f.addr < 0x100010 → ((d.errorNoted who target a).tallyChip 0x88).get f = (d.errorNoted who target a).get f :=
    fun f hf => ht.get f (not_pmonChipRegs hf)
  refine ⟨(ht.2 _ (not_pmonChipRegs (by decide))).trans h1, (keep _ (by decide)).trans h2, (keep _ (by decide)).trans h3, (keep _ (by decide)).trans h4,
    ((keep _ (by decide)).trans h5).trans (counted_congr hcnt 1), (keep _ (by decide)).trans h6, ?_, ?_⟩
  · exact (ht.mem.trans hn.mem).trans hm
  · exact (ht.cores.trans hn.cores).trans hc

/-- An access that R18 names is refused. -/
theorem Chip.fusedError_refused (c : Chip) (who target a n : Nat) (ht : target < 8) : BusRefused c (c.fusedError who target a n).1 who target a := by
  unfold Chip.fusedError
  split <;> exact Chip.busError_refused _ _ _ _ _ ht rfl rfl rfl

theorem Chip.fusedError_out (c : Chip) (who target a n : Nat) :
    (c.fusedError who target a n).1.out = c.out ∧ (c.fusedError who target a n).2 = (ERR_RESOURCE, List.replicate n 0) := by
  unfold Chip.fusedError
  split <;> exact ⟨(OnlyRegs.busError _ _ _ _ _ _).out, rfl⟩

/-- A slot whose window is open serves every access. -/
theorem Chip.slotServe_open {c : Chip} {p : Nat} (h : c.windowOpen p = true) (who a n : Nat) (f : Chip → Answer) : c.slotServe p who a n f = f c := by
  simp only [Chip.windowOpen, Bool.and_eq_true, decide_eq_true_eq, Bool.not_eq_true'] at h
  obtain ⟨⟨⟨⟨hk, hp⟩, hf⟩, ha⟩, hon⟩ := h
  simp only [Chip.slotServe, hf, ha, hon, Nat.not_le.mpr hk, Nat.not_le.mpr hp]
  rfl

/-- A slot whose window is not open refuses every access: the read shows zeros. -/
theorem Chip.slotServe_closed {c : Chip} {p : Nat} (h : c.windowOpen p = false) (who a n : Nat) (f : Chip → Answer) :
    let r := c.slotServe p who a n f
    BusRefused c r.1 who 5 a ∧ r.1.out = c.out ∧ r.2.1 ≠ OK ∧ r.2.2 = List.replicate n 0 := by
  simp only [Chip.slotServe]
  split
  · exact ⟨Chip.fusedError_refused _ _ _ _ _ (by decide), (Chip.fusedError_out _ _ _ _ _).1,
      by rw [(Chip.fusedError_out _ _ _ _ _).2]; exact (by decide : ERR_RESOURCE ≠ OK), by rw [(Chip.fusedError_out _ _ _ _ _).2]⟩
  · rename_i hpres
    split
    · have ht := (OnlyRegs.bump c (Reg.NI_ABSORB_CNT_COUNT (p / 32)) 1 (fun a => Reg.XBAR_IRQ_EN < a) (by
          simp only [Reg.NI_ABSORB_CNT_COUNT, Reg.NI_ABSORB_CNT, Reg.XBAR_IRQ_EN]; omega)).trans
        ((OnlyRegs.tallyRouter _ (p / 32) 0x46 1).mono fun a ha => by simp only [PmonRouterRegs, Reg.pmonRouter, Reg.XBAR_IRQ_EN] at ha ⊢; omega)
      exact ⟨Chip.busError_refused _ _ _ _ _ (by decide) (ht.get _ (by decide)) ht.mem ht.cores, (OnlyRegs.busError _ _ _ _ _ _).out.trans ht.out,
        (by decide : ERR_FENCED ≠ OK), rfl⟩
    · rename_i hfen
      have hon : c.clusterOn (p / 32) = false := by
        simp only [not_or, Bool.not_eq_true, Nat.not_le] at hpres hfen
        simpa [Chip.windowOpen, hpres, hfen] using h
      rw [hon]
      exact ⟨Chip.busError_refused _ _ _ _ _ (by decide) rfl rfl rfl, (OnlyRegs.busError _ _ _ _ _ _).out, (by decide : ERR_NOT_READY ≠ OK), rfl⟩

/-- A window that is open is that of a slot of a present cluster. -/
theorem Chip.windowOpen_slot {c : Chip} {p : Nat} (h : c.windowOpen p = true) : p / 32 < c.clusters ∧ p % 32 < 17 := by
  simp only [Chip.windowOpen, Bool.and_eq_true, decide_eq_true_eq] at h
  obtain ⟨⟨⟨hkp, -⟩, -⟩, -⟩ := h
  exact hkp

theorem Chip.slotWrite_open {c : Chip} {p : Nat} (h : c.windowOpen p = true) (off : Nat) (f : Chip → Chip) : c.slotWrite p off f = f c := by
  rw [Chip.slotWrite, Chip.slotServe_open h]; rfl

/-- Firmware's write to a slot whose window is open takes place. -/
theorem leaves_slotWrite {ins : Instr} {s : State} {p off : Nat} {f : Chip → Chip} {t : Chip} (h : s.chip.windowOpen p = true)
    (hex : exec ins s = act (·.slotWrite p off f) s) (hf : f s.chip = t) : Leaves ins s t :=
  leaves_of_act hex ((Chip.slotWrite_open h off f).trans hf)

/-- Firmware's write to a slot whose window is not open is refused. -/
theorem slotRefused_of_closed {ins : Instr} {s : State} {p off : Nat} {f : Chip → Chip} (h : s.chip.windowOpen p = false)
    (hex : exec ins s = act (·.slotWrite p off f) s) : SlotRefused ins s p off :=
  ⟨_, hex, (Chip.slotServe_closed h _ _ _ _).1⟩

/-! ## Packets delivered to a slot -/

/-- The oldest delivered packet of a class is taken. -/
theorem Chip.takeArrived_some {c : Chip} {p cls : Nat} {pk : Packet} {rest : List Packet} (h : FirstArrived c p cls pk rest) (f : Chip → Packet → Chip) :
    c.takeArrived p cls f = f (c.setCore p { c.core p with arrived := rest }) pk := by
  simp only [Chip.takeArrived, FirstArrived] at h ⊢
  rw [h]; rfl

/-- While no swap is in progress in its cluster, a slot is not one that a swap has freed. -/
theorem Chip.oldSlot_of_settled {c : Chip} {p : Nat} (h : c.swapping (p / 32) = false) : c.oldSlot p = false := by
  rw [Chip.oldSlot, h, Bool.false_and]

end Sys2Proof.Machine
end

section
/-! SUPPORT. What reset leaves (O4). -/

namespace Sys2Proof.Machine

/-- The factory seating of R7: the active map's reset word seats logical core `i` in slot `i` of its cluster. -/
theorem regReset_activeMap (k i : Nat) (hk : k < 64) (hi : i < 1024) :
    regReset (Reg.NI_MAP_ACTIVE k i) = BitVec.ofNat 32 (i % 16) := by
  have h : instReset (Reg.NI_MAP_ACTIVE k i) = some (i % 16) := by
    have e : Reg.NI_MAP_ACTIVE k i = 0x1006000 + k * 0x10000 + i * 4 := rfl
    rw [e, instReset, Reg.XBAR_PORT_CFG, Reg.FUSE_VARIANT, Reg.HIF_MAGIC, Reg.BDP_STAT,
      if_neg (by omega), if_neg (by omega), if_neg (by omega), if_neg (by omega), if_pos (by omega)]
    congr 1
    omega
  simp only [regReset, h]

/-- Settles O4: the store lists no register and memory no byte, so every read answers the reset word. -/
theorem resetState : Obligations.ResetState := by
  have hrd : ∀ a, State.reset.chip.rd a = regReset a := fun _ => rfl
  refine ⟨Memory.wf_nil, ⟨List.Pairwise.nil, by simp [State.reset, Chip.init]⟩, by simp [State.QueueWf, State.reset], rfl, hrd,
    Memory.read_nil, ?_, fun k i hk hi => ?_⟩
  · rw [hrd]; rfl
  · simp only [Chip.activeSlot, Chip.get, Reg.NI_MAP_ACTIVE_SLOT, hrd, regReset_activeMap k i hk hi, wbits]
    simp only [BitVec.ushiftRight_zero, BitVec.toNat_ofNat]
    omega

end Sys2Proof.Machine
end

section
/-! SUPPORT. Instructions that complete or trap, and local loads and stores (O7). -/

namespace Sys2Proof.Machine

/-! ## Fields of an instruction word -/

theorem toNat_iWord (op : Nat) (d a : BitVec 5) (m : BitVec 16) :
    (iWord op d a m).toNat = ((op % 64 * 32 + d.toNat) * 32 + a.toNat) * 65536 + m.toNat := by
  have hd := d.isLt; have ha := a.isLt; have hm := m.isLt
  simp only [iWord, BitVec.toNat_append, BitVec.toNat_ofNat]
  rw [← Nat.shiftLeft_add_eq_or_of_lt hd, ← Nat.shiftLeft_add_eq_or_of_lt ha, ← Nat.shiftLeft_add_eq_or_of_lt hm]
  simp only [Nat.shiftLeft_eq]

/-- The fields of an I-format word are its parts. -/
theorem iWord_fields (op : Nat) (d a : BitVec 5) (m : BitVec 16) :
    fD (iWord op d a m) = d.toNat ∧ fA (iWord op d a m) = a.toNat ∧ sextI (iWord op d a m) = m.signExtend 32 := by
  have hd := d.isLt; have ha := a.isLt; have hm := m.isLt
  simp only [fD, fA, sextI, wbits, BitVec.toNat_ushiftRight, toNat_iWord, Nat.shiftRight_eq_div_pow]
  refine ⟨by omega, by omega, congrArg (BitVec.signExtend 32) (BitVec.eq_of_toNat_eq ?_)⟩
  simp only [BitVec.extractLsb'_toNat, toNat_iWord, Nat.shiftRight_zero]
  omega

theorem sextN_eq_signExtend (n : Nat) (hn : 0 < n) (v : Nat) : sextN n v = (BitVec.ofNat n v).signExtend 32 := by
  have h2 : 2 ^ n = 2 * 2 ^ (n - 1) := by rw [← Nat.pow_succ']; congr 1; omega
  simp only [sextN, BitVec.signExtend, BitVec.toInt_eq_toNat_cond, BitVec.toNat_ofNat, signed]
  congr 1
  split <;> split <;> omega

/-! ## How an instruction that a core issues ends -/

/-- What an exception that the core takes leaves (R188). -/
theorem Chip.raise_taken (c : Chip) (p cause info st : Nat) (hc : cause < 16) (hst : st < 256)
    (hen : c.on (Reg.CORE_CFG_EXC_EN p) = true) (hin : c.get (Reg.CORE_STAT_INEXC p) = 0) :
    let t := c.raise p (c.pc p) cause info st
    t.get (Reg.CORE_EPC_EPC p) = c.pc p / 4 * 4 ∧ t.get (Reg.CORE_CAUSE_CAUSE p) = cause ∧ t.get (Reg.CORE_CAUSE_STATUS p) = st ∧
    t.rd (Reg.CORE_EINFO p) = BitVec.ofNat 32 info ∧ t.get (Reg.CORE_STAT_INEXC p) = 1 ∧ t.pc p = c.get (Reg.CORE_EVEC_VEC p) ∧
    t.seqState p = 1 ∧ OnlyRegs c t (TrapRegs p) := by
  have hpc : c.pc p < 65536 := Chip.get_lt c (Reg.CORE_PC_PC p)
  have hvec : c.get (Reg.CORE_EVEC_VEC p) < 65536 := Chip.get_lt c _
  have hpc' : c.pc p / 4 * 4 < 65536 := by omega
  rw [Chip.on_iff] at hen
  let d := ((((((c.put (Reg.CORE_EPC_EPC p) (c.pc p / 4 * 4)).put (Reg.CORE_CAUSE_CAUSE p) cause).put (Reg.CORE_CAUSE_STATUS p) st).wr
    (Reg.CORE_EINFO p) (BitVec.ofNat 32 info)).put (Reg.CORE_STAT_INEXC p) 1).put (Reg.CORE_PC_PC p)
    (c.get (Reg.CORE_EVEC_VEC p))).put (Reg.CORE_STAT_STATE p) 1
  have e : c.raise p (c.pc p) cause info st = d := by
    simp (disch := (refine id ?_; simp [Reg.Fld.apart, Reg.CORE_EPC_EPC, Reg.CORE_CAUSE_CAUSE, Reg.CORE_CAUSE_STATUS, Reg.CORE_STAT_INEXC, Reg.CORE_CFG_EXC_EN, Reg.CORE_EVEC_VEC, Reg.CORE_EPC, Reg.CORE_CAUSE, Reg.CORE_EINFO, Reg.CORE_STAT, Reg.CORE_CFG, Reg.CORE_EVEC]))
      [d, Chip.raise, Chip.on, Chip.set, Chip.setPc, Chip.setSeqState, Chip.get_put_apart, Chip.get_wr_other, hen, hin]
  rw [e]
  refine ⟨?_, ?_, ?_, ?_, ?_, (?_ : d.get (Reg.CORE_PC_PC p) = _), (?_ : d.get (Reg.CORE_STAT_STATE p) = 1), ?_⟩
  case refine_8 =>
    simp only [d]
    repeat refine OnlyRegs.trans ?_ (OnlyRegs.put _ _ _ _ (by simp [TrapRegs, Reg.CORE_PC_PC, Reg.CORE_STAT_STATE, Reg.CORE_STAT_INEXC]))
    refine OnlyRegs.trans ?_ (OnlyRegs.wr _ _ _ _ (by simp [TrapRegs]))
    repeat refine OnlyRegs.trans ?_ (OnlyRegs.put _ _ _ _ (by simp [TrapRegs, Reg.CORE_EPC_EPC, Reg.CORE_CAUSE_CAUSE, Reg.CORE_CAUSE_STATUS]))
    exact OnlyRegs.refl c _
  all_goals
    simp only [d]
    generalize c.get (Reg.CORE_EVEC_VEC p) = vec at hvec ⊢
    generalize c.pc p = pc at hpc' ⊢
    simp (disch := (refine id ?_; simp [hc, hst, hpc', hvec, Reg.Fld.apart, Reg.CORE_EPC_EPC, Reg.CORE_CAUSE_CAUSE, Reg.CORE_CAUSE_STATUS, Reg.CORE_STAT_INEXC,
      Reg.CORE_EPC, Reg.CORE_CAUSE, Reg.CORE_EINFO, Reg.CORE_STAT, Reg.CORE_PC_PC, Reg.CORE_PC, Reg.CORE_STAT_STATE]))
      only [Chip.get_put_apart, Chip.get_wr_other, Chip.get_put_fits, Chip.rd_put_other, Chip.rd_wr_same]

/-- What an instruction that raises an exception leaves, where the core takes it. -/
theorem Chip.settle_trap (c : Chip) (p cause info st : Nat) (hc : cause < 16) (hst : st < 256) (h : TakesExceptions c p) :
    Trapped c (Chip.settle p (c.pc p) (.trap c cause info st)) p cause (BitVec.ofNat 32 info) st := by
  obtain ⟨hen, hin, hs⟩ := h
  let d := c.modCore p (fun k => { k with dbgSkip := false })
  obtain ⟨h1, h2, h3, h4, h5, h6, h7, h8⟩ := Chip.raise_taken d p cause info st hc hst hen hin
  have hk : d.core p = { c.core p with dbgSkip := false } := by simp [d, Chip.modCore]
  have he : Chip.settle p (c.pc p) (.trap c cause info st) = d.raise p (d.pc p) cause info st := by
    show (d.raise p (d.pc p) cause info st).endStep p = _
    rw [Chip.endStep, if_neg (by rw [h8.core, hk]; simpa using hs)]
  rw [he]
  refine ⟨h1, h2, h3, h4, h5, h6, h7, h8.2, fun q hq => ?_, ?_, regsCores_trans (d := d) rfl h8.regsCores⟩
  · rw [h8.core]; exact Chip.core_setCore_other _ _ _ _ hq
  · rw [h8.core, hk]

section
variable {ins : Instr} {s : State} {i : Nat} {w : Word} {sem : Sem}

/-- An issued instruction whose meaning completes, with an effect on memory and the slot's own registers alone, completes in
sequence. -/
theorem inSequence_of_done {c1 : Chip} (hex : exec ins s = act (·.runInstr i w sem) s) (free : Free s.chip i w)
    (hsem : sem s.chip (s.chip.pcore i) i w = .done c1) (hregs : c1.regs = s.chip.regs)
    (hstep : (c1.core (s.chip.pcore i)).stepping = (s.chip.core (s.chip.pcore i)).stepping) :
    InSequence ins s (s.chip.pcore i) c1 := by
  have hget := Chip.get_congr s.chip c1 hregs
  have hpc : c1.pc (s.chip.pcore i) = s.chip.pc (s.chip.pcore i) := hget _
  obtain ⟨h1, h2, h3, h4, h5⟩ := Chip.settle_done c1 (s.chip.pcore i) (s.chip.pc (s.chip.pcore i))
    (by rw [← free.1.live, Chip.seqLive, Chip.seqLive, Chip.seqState, Chip.seqState, hget]) (hstep.trans free.2)
  refine ⟨_, ?_, ?_, h2, h3, ?_, h5⟩
  · rw [Leaves, hex, act, Chip.runInstr_issues _ _ _ _ free.1, hsem]
  · simpa only [seqPc, pcPlus4, hpc] using h1
  · rw [h4, hpc]

/-- An issued instruction whose meaning raises a cause traps, where the core takes exceptions. -/
theorem traps_of_trap {cause info st : Nat} (hex : exec ins s = act (·.runInstr i w sem) s) (free : Free s.chip i w)
    (hsem : sem s.chip (s.chip.pcore i) i w = .trap s.chip cause info st) (hc : cause < 16) (hst : st < 256)
    (takes : TakesExceptions s.chip (s.chip.pcore i)) :
    Traps ins s (s.chip.pcore i) cause (BitVec.ofNat 32 info) st :=
  ⟨_, by rw [Leaves, hex, act, Chip.runInstr_issues _ _ _ _ free.1, hsem], Chip.settle_trap _ _ _ _ _ hc hst takes⟩

end

/-! ## Local loads and stores (R160, R165) -/

theorem Chip.memOk_iff (c : Chip) (x n : Nat) : c.memOk x n = true ↔ InSlotMemory c x n := by
  simp only [Chip.memOk, Bool.or_eq_true, Bool.and_eq_true, decide_eq_true_eq, or_assoc]
  rfl

theorem Chip.synSize_le (c : Chip) : c.synSize ≤ 0x100000 := by unfold Chip.synSize; split <;> omega

/-- An aligned access inside a memory of the slot, and no store to program memory, goes there. -/
theorem Chip.place160_mem {c : Chip} {x n : Nat} {store : Bool} (ha : x % n = 0) (hm : InSlotMemory c x n)
    (hs : store = true → x < 0x180000) (hn : 0 < n) : c.place160 x n store = .mem x := by
  have hsyn := c.synSize_le
  have hx : x + n ≤ 0x190000 := by rcases hm with h | h | h <;> omega
  unfold Chip.place160
  rw [if_neg (not_not.mpr ha), if_neg (by omega), if_neg (by omega),
    if_pos ⟨(c.memOk_iff x n).mpr hm, fun h => absurd (hs h.1) (Nat.not_lt.mpr h.2)⟩]

theorem Chip.place160_misaligned {c : Chip} {x n : Nat} {store : Bool} (ha : x % n ≠ 0) : c.place160 x n store = .bad MISALIGN := by
  rw [Chip.place160, if_pos ha]

/-- An aligned access outside the memories it may reach, and no word of the core registers, is refused. -/
theorem Chip.place160_refused {c : Chip} {x n : Nat} {store : Bool} (ha : x % n = 0)
    (hm : ¬ InSlotMemory c x n ∨ (store = true ∧ 0x180000 ≤ x)) (hr : n ≠ 4 ∨ x < 0x1F0000 ∨ 0x200000 ≤ x) :
    c.place160 x n store = .bad ACCESS := by
  have hno : ¬ (c.memOk x n = true ∧ ¬ (store = true ∧ progOff ≤ x)) := by
    rw [c.memOk_iff]
    rintro ⟨h, hs⟩
    exact hm.elim (absurd h) hs
  unfold Chip.place160
  rw [if_neg (not_not.mpr ha)]
  split
  · rfl
  · split
    · rw [if_neg (by omega)]
    · rfl

/-- What every load of the table runs. -/
theorem exec_loadRows {row} (hrow : row ∈ loadRows) (s : State) (i : CoreId) (d a : BitVec 5) (m : BitVec 16) :
    exec (row.1 i d a m) s = act (·.runInstr i.toNat (iWord row.2.1 d a m) (semLoad row.2.2.1 row.2.2.2)) s ∧ 0 < row.2.2.1 := by
  have h8 : sextN 8 = fun v => (BitVec.ofNat 8 v).signExtend 32 := funext (sextN_eq_signExtend 8 (by decide))
  have h16 : sextN 16 = fun v => (BitVec.ofNat 16 v).signExtend 32 := funext (sextN_eq_signExtend 16 (by decide))
  simp only [loadRows, List.mem_cons, List.not_mem_nil, or_false] at hrow
  rcases hrow with rfl | rfl | rfl | rfl | rfl
  · exact ⟨by rw [← h8]; rfl, Nat.one_pos⟩
  · exact ⟨rfl, Nat.one_pos⟩
  · exact ⟨by rw [← h16]; rfl, Nat.two_pos⟩
  · exact ⟨rfl, Nat.two_pos⟩
  · exact ⟨rfl, Nat.succ_pos 3⟩

/-- What every store of the table runs. -/
theorem exec_storeRows {row} (hrow : row ∈ storeRows) (s : State) (i : CoreId) (d a : BitVec 5) (m : BitVec 16) :
    exec (row.1 i d a m) s = act (·.runInstr i.toNat (iWord row.2.1 d a m) (semStore row.2.2)) s ∧ 0 < row.2.2 := by
  simp only [storeRows, List.mem_cons, List.not_mem_nil, or_false] at hrow
  rcases hrow with rfl | rfl | rfl
  · exact ⟨rfl, Nat.one_pos⟩
  · exact ⟨rfl, Nat.two_pos⟩
  · exact ⟨rfl, Nat.succ_pos 3⟩

section
variable {c : Chip} {p j n : Nat} {ext : Nat → Word} {op : Nat} {d a : BitVec 5} {m : BitVec 16}

/-- A load from a memory of the slot fills gD. -/
theorem semLoad_mem {off : Nat} (h : c.place160 (localAddr c p a m) n false = .mem off) :
    semLoad n ext c p j (iWord op d a m) = .done (c.setReg p d.toNat (ext (c.rdMem (slotMem p off) n))) := by
  obtain ⟨hd, ha, hs⟩ := iWord_fields op d a m
  rw [localAddr] at h
  simp only [semLoad, hd, ha, hs, h]

theorem semLoad_bad {cause : Nat} (h : c.place160 (localAddr c p a m) n false = .bad cause) :
    semLoad n ext c p j (iWord op d a m) = .trap c cause (localAddr c p a m) 0 := by
  obtain ⟨hd, ha, hs⟩ := iWord_fields op d a m
  rw [localAddr] at h ⊢
  simp only [semLoad, ha, hs, h]

/-- A store into a memory of the slot writes the low bytes of gD. -/
theorem semStore_mem {off : Nat} (h : c.place160 (localAddr c p a m) n true = .mem off) :
    semStore n c p j (iWord op d a m) = .done (c.wrMem (slotMem p off) n (c.greg p d.toNat).toNat) := by
  obtain ⟨hd, ha, hs⟩ := iWord_fields op d a m
  rw [localAddr] at h
  simp only [semStore, hd, ha, hs, h]

theorem semStore_bad {cause : Nat} (h : c.place160 (localAddr c p a m) n true = .bad cause) :
    semStore n c p j (iWord op d a m) = .trap c cause (localAddr c p a m) 0 := by
  obtain ⟨hd, ha, hs⟩ := iWord_fields op d a m
  rw [localAddr] at h ⊢
  simp only [semStore, ha, hs, h]

end

theorem localLoadsHold : LocalLoadsHold := by
  intro row hrow s i d a m p x free hal hmem
  obtain ⟨hex, hn⟩ := exec_loadRows hrow s i d a m
  refine inSequence_of_done hex free (semLoad_mem (Chip.place160_mem hal hmem (by simp) hn)) rfl ?_
  simp [Chip.setReg, Chip.modCore, p]

theorem localStoresHold : LocalStoresHold := by
  intro row hrow s i d a m p x n free hal hmem hx
  obtain ⟨hex, hn⟩ := exec_storeRows hrow s i d a m
  have hseq : InSequence (row.1 i d a m) s p (s.chip.wrMem (slotMem p x) n (s.chip.greg p d.toNat).toNat) := by
    exact inSequence_of_done hex free (semStore_mem (Chip.place160_mem hal hmem (fun _ => hx) hn)) rfl rfl
  refine ⟨hseq, ?_⟩
  obtain ⟨t, ht, -, -, -, -, hrest⟩ := hseq
  have hm : t.mem = s.chip.mem.writeNat (slotMem p x) n (s.chip.greg p d.toNat).toNat := congrArg Chip.mem hrest
  refine ⟨t, ht, ?_, fun y hy => ?_⟩
  · rw [hm, Memory.readNat_writeNat]
  · rw [hm, Memory.read_writeNat_other _ _ _ _ _ hy]

theorem localAccessRefusedHold : LocalAccessRefusedHold := by
  intro s i d a m p x judge takes
  constructor
  · intro row hrow free
    obtain ⟨hex, -⟩ := exec_loadRows hrow s i d a m
    refine ⟨fun hal => ?_, fun hal hm hr => ?_⟩
    · exact traps_of_trap hex free (semLoad_bad (Chip.place160_misaligned hal)) (by decide) (by decide) takes
    · exact traps_of_trap hex free (semLoad_bad (Chip.place160_refused hal hm hr)) (by decide) (by decide) takes
  · intro row hrow free
    obtain ⟨hex, -⟩ := exec_storeRows hrow s i d a m
    refine ⟨fun hal => ?_, fun hal hm hr => ?_⟩
    · exact traps_of_trap hex free (semStore_bad (Chip.place160_misaligned hal)) (by decide) (by decide) takes
    · exact traps_of_trap hex free (semStore_bad (Chip.place160_refused hal hm hr)) (by decide) (by decide) takes

/-- Settles O7: where a core issues, a load or store is placed by R160 and then completes or raises its cause. -/
theorem localAccesses : Obligations.LocalAccesses := ⟨localLoadsHold, localStoresHold, localAccessRefusedHold⟩

end Sys2Proof.Machine
end

section
/-! SUPPORT. Operations on sync objects (O19). -/

namespace Sys2Proof.Machine

/-! ## Sync objects (R224 to R230) -/

/-- The registers an operation on a sync object may change. -/
def SyncRegs (p j a : Nat) : Prop := a = Reg.SYNC_VALUE p j ∨ a = Reg.SYNC_STAT p j

theorem Chip.syncValue_setSyncValue (c : Chip) (p j v : Nat) : (c.setSyncValue p j v).syncValue p j = v % 2 ^ 32 := by
  rw [Chip.syncValue, Chip.setSyncValue, Chip.rd_wr_same, BitVec.toNat_ofNat]

theorem OnlyRegs.setSyncValue (c : Chip) (p j v : Nat) : OnlyRegs c (c.setSyncValue p j v) (· = Reg.SYNC_VALUE p j) := OnlyRegs.wr _ _ _ _ rfl

/-- The completion of a BARRIER (R224): VALUE 0, GEN one more, SAT set, BAR_OVR where SAT was still set. -/
def Chip.barrierDone (c : Chip) (p j : Nat) : Chip :=
  let d := (c.setSyncValue p j 0).put (Reg.SYNC_STAT_GEN p j) (c.get (Reg.SYNC_STAT_GEN p j) + 1)
  (if c.get (Reg.SYNC_STAT_SAT p j) = 1 then d.put (Reg.SYNC_STAT_BAR_OVR p j) 1 else d).put (Reg.SYNC_STAT_SAT p j) 1

theorem Chip.barrierCheck_full {c : Chip} {p j : Nat} (h : c.syncTarget p j ≠ 0 ∧ c.syncTarget p j ≤ c.syncValue p j) :
    c.barrierCheck p j = c.barrierDone p j := by
  have hne : ∀ v, (c.setSyncValue p j v).get (Reg.SYNC_STAT_GEN p j) = c.get (Reg.SYNC_STAT_GEN p j) ∧
      (c.setSyncValue p j v).get (Reg.SYNC_STAT_SAT p j) = c.get (Reg.SYNC_STAT_SAT p j) := fun v =>
    ⟨Chip.get_wr_other _ _ _ _ (by simp [Reg.SYNC_STAT_GEN, Reg.SYNC_STAT, Reg.SYNC_VALUE]),
     Chip.get_wr_other _ _ _ _ (by simp [Reg.SYNC_STAT_SAT, Reg.SYNC_STAT, Reg.SYNC_VALUE])⟩
  rw [Chip.barrierCheck, if_pos h, Chip.barrierDone]
  simp only [(hne 0).1, Chip.on, Chip.get_put_apart _ (Reg.SYNC_STAT_GEN p j) (Reg.SYNC_STAT_SAT p j) _ (by simp [Reg.Fld.apart, Reg.SYNC_STAT_GEN, Reg.SYNC_STAT_SAT]),
    (hne 0).2, beq_iff_eq, Chip.set_put]

/-- What the completion of a BARRIER leaves. -/
theorem Chip.barrierDone_spec (c : Chip) (p j : Nat) :
    let t := c.barrierDone p j
    t.syncValue p j = 0 ∧ t.get (Reg.SYNC_STAT_GEN p j) = (c.get (Reg.SYNC_STAT_GEN p j) + 1) % 2 ^ 16 ∧ t.get (Reg.SYNC_STAT_SAT p j) = 1 ∧
    t.get (Reg.SYNC_STAT_BAR_OVR p j) = (if c.get (Reg.SYNC_STAT_SAT p j) = 1 then 1 else c.get (Reg.SYNC_STAT_BAR_OVR p j)) ∧
    OnlyRegs c t (SyncRegs p j) := by
  have hfr : OnlyRegs c (c.barrierDone p j) (SyncRegs p j) :=
    (((OnlyRegs.setSyncValue c p j 0).mono fun _ h => .inl h).trans (OnlyRegs.put _ (Reg.SYNC_STAT_GEN p j) _ _ (.inr rfl))).trans
      ((OnlyRegs.ite (OnlyRegs.put _ (Reg.SYNC_STAT_BAR_OVR p j) _ _ (.inr rfl)) (OnlyRegs.refl _ _)).trans
        (OnlyRegs.put _ (Reg.SYNC_STAT_SAT p j) _ _ (.inr rfl)))
  refine ⟨?_, ?_, ?_, ?_, hfr⟩ <;> simp only [Chip.barrierDone, Chip.syncValue, Chip.setSyncValue] <;> split <;>
  simp (disch := (refine id ?_; simp [Reg.Fld.apart, Reg.SYNC_STAT_GEN, Reg.SYNC_STAT_SAT, Reg.SYNC_STAT_BAR_OVR, Reg.SYNC_STAT, Reg.SYNC_VALUE]))
    [Chip.get_put_apart, Chip.get_wr_other, Chip.get_put_fits, Chip.get_put_same, Chip.rd_put_other, Chip.rd_wr_same]

  · rfl
  · rfl

/-- An operation of R224 on a sync object: the new value, and the completion of a BARRIER that reaches its target. -/
theorem Chip.syncOp_spec (c : Chip) (p j op x : Nat) (hop : op < 3) :
    SyncDone c (c.syncOp p j op x) p j op x ∧ OnlyRegs c (c.syncOp p j op x) (SyncRegs p j) := by
  let v := syncNext (c.syncType p j) op (c.syncValue p j) x
  have hv : v < 2 ^ 32 := Nat.mod_lt _ (by decide)
  let d := c.setSyncValue p j v
  have hd : OnlyRegs c d (· = Reg.SYNC_VALUE p j) := OnlyRegs.setSyncValue c p j v
  have hdS : OnlyRegs c d (SyncRegs p j) := hd.mono fun _ h => .inl h
  have hval : d.syncValue p j = v := (Chip.syncValue_setSyncValue c p j v).trans (Nat.mod_eq_of_lt hv)
  have hstat : d.rd (Reg.SYNC_STAT p j) = c.rd (Reg.SYNC_STAT p j) := hd.2 _ (by simp [Reg.SYNC_STAT, Reg.SYNC_VALUE])
  have htype : d.syncType p j = c.syncType p j := hd.get _ (by simp [Reg.SYNC_CFG_TYPE, Reg.SYNC_CFG, Reg.SYNC_VALUE])
  have htgt : d.syncTarget p j = c.syncTarget p j := by
    rw [Chip.syncTarget, Chip.syncTarget, hd.2 _ (by simp [Reg.SYNC_TARGET, Reg.SYNC_VALUE])]
  have hres : c.syncOp p j op x = if d.syncType p j = 1 then d.barrierCheck p j else d := by
    rw [Chip.syncOp, if_neg (by omega)]; rfl
  have hget : ∀ f : Reg.Fld, f.addr = Reg.SYNC_STAT p j → d.get f = c.get f := fun f hf => by rw [Chip.get, Chip.get, hf, hstat]
  have kept : ∀ {t}, OnlyRegs c t (SyncRegs p j) →
      RegsKept c t (fun a => a = Reg.SYNC_VALUE p j ∨ a = Reg.SYNC_STAT p j ∨ a = Reg.SYNC_ALARM p j) :=
    fun h => h.2.mono fun _ ha => ha.imp_right .inl
  rw [hres, htype]
  by_cases hty : c.syncType p j = 1
  · rw [if_pos hty]
    by_cases hfull : c.syncTarget p j ≠ 0 ∧ c.syncTarget p j ≤ v
    · rw [Chip.barrierCheck_full (by rw [htgt, hval]; exact hfull)]
      obtain ⟨h1, h2, h3, h4, h5⟩ := Chip.barrierDone_spec d p j
      rw [hget _ rfl] at h2
      rw [hget _ rfl, hget _ rfl] at h4
      exact ⟨⟨fun _ => ⟨h1, h2, h3, h4⟩, fun hn => absurd ⟨hty, hfull⟩ hn, kept (hdS.trans h5)⟩, hdS.trans h5⟩
    · have hck : d.barrierCheck p j = d := by
        rw [Chip.barrierCheck, if_neg (by rw [htgt, hval]; exact hfull)]
      rw [hck]
      exact ⟨⟨fun h => absurd h.2 hfull, fun _ => ⟨hval, hstat⟩, kept hdS⟩, hdS⟩
  · rw [if_neg hty]
    exact ⟨⟨fun h => absurd h.1 hty, fun _ => ⟨hval, hstat⟩, kept hdS⟩, hdS⟩

/-- Writing the object's alarm after an operation leaves what the operation did. -/
theorem SyncDone.of_alarm {c d t : Chip} {p j op x : Nat} (h : SyncDone c d p j op x) (ht : OnlyRegs d t (· = Reg.SYNC_ALARM p j)) :
    SyncDone c t p j op x := by
  obtain ⟨hfull, hrest, hkept⟩ := h
  have hv : t.syncValue p j = d.syncValue p j := by
    rw [Chip.syncValue, Chip.syncValue, ht.2 _ (by simp [Reg.SYNC_ALARM, Reg.SYNC_VALUE])]
  have hs : t.rd (Reg.SYNC_STAT p j) = d.rd (Reg.SYNC_STAT p j) := ht.2 _ (by simp [Reg.SYNC_STAT, Reg.SYNC_ALARM])
  have hg : ∀ f : Reg.Fld, f.addr = Reg.SYNC_STAT p j → t.get f = d.get f := fun f hf => by rw [Chip.get, Chip.get, hf, hs]
  refine ⟨fun hf => ?_, fun hn => ?_, hkept.trans (ht.2.mono fun _ h => .inr (.inr h))⟩
  · rw [hv, hg _ rfl, hg _ rfl, hg _ rfl]; exact hfull hf
  · rw [hv, hs]; exact hrest hn

/-- A write to SYNC_ALARM arms the one-shot, or disarms it with 0 (R227). -/
theorem Chip.alarmWrite_spec (c : Chip) (p j : Nat) (v : Word) :
    let t := c.alarmWrite p j v
    t.get (Reg.SYNC_ALARM_ALARM p j) = v.toNat % 2 ^ 24 ∧
    t.get (Reg.SYNC_ALARM_ARMED p j) = (if v.toNat % 2 ^ 24 = 0 then 0 else 1) ∧ OnlyRegs c t (· = Reg.SYNC_ALARM p j) := by
  have hlt : v.toNat % 2 ^ 24 < 16777216 := Nat.mod_lt _ (by decide)
  refine ⟨?_, ?_, OnlyRegs.trans (OnlyRegs.put _ (Reg.SYNC_ALARM_ALARM p j) _ _ rfl) (OnlyRegs.put _ (Reg.SYNC_ALARM_ARMED p j) _ _ rfl)⟩
  · rw [Chip.alarmWrite, Chip.get_put_apart _ _ _ _ (by simp [Reg.Fld.apart, Reg.SYNC_ALARM_ALARM, Reg.SYNC_ALARM_ARMED]),
      Chip.get_put_fits _ _ _ (by simpa [Reg.SYNC_ALARM_ALARM] using hlt)]
  · rw [Chip.alarmWrite, Chip.get_put_fits]
    split <;> simp [Reg.SYNC_ALARM_ARMED]

/-- Settles O19: each command applies the operation of R224 to the object, or is refused by the slot. -/
theorem syncOperations : Obligations.SyncOperations := by
  intro s slot j v c p jj
  have op := fun o x (ho : o < 3) => Chip.syncOp_spec c p jj o x ho
  refine ⟨fun hw => ⟨?_, ?_, fun hv => ?_, fun hv => ?_, ?_⟩, fun hw => ⟨?_, ?_, ?_, ?_⟩, fun harm => ?_, fun pk rest hpk hsw hop => ?_⟩
  · exact ⟨_, leaves_slotWrite hw rfl rfl, (op 1 _ (by decide)).1, (op 1 _ (by decide)).2.1⟩
  · exact ⟨_, leaves_slotWrite hw rfl rfl, (op 0 _ (by decide)).1, (op 0 _ (by decide)).2.1⟩
  · exact ⟨_, leaves_slotWrite hw rfl (if_pos hv), (op 2 0 (by decide)).1, (op 2 0 (by decide)).2.1⟩
  · exact leaves_slotWrite hw rfl (if_neg (by rw [hv]; decide))
  · exact ⟨_, leaves_slotWrite hw rfl rfl, Chip.alarmWrite_spec c p jj v⟩
  · exact slotRefused_of_closed hw rfl
  · exact slotRefused_of_closed hw rfl
  · exact slotRefused_of_closed hw rfl
  · exact slotRefused_of_closed hw rfl
  · obtain ⟨hdone, hregs⟩ := op 2 0 (by decide)
    have hcl : OnlyRegs (c.syncOp p jj 2 0) ((c.syncOp p jj 2 0).clr (Reg.SYNC_ALARM_ARMED p jj)) (· = Reg.SYNC_ALARM p jj) := OnlyRegs.clr _ _ _ rfl
    refine ⟨_, leaves_of_act rfl (if_pos (Chip.on_iff.mpr harm)), SyncDone.of_alarm hdone hcl, ?_, ?_⟩
    · exact Chip.get_put_fits _ _ _ (by simp [Reg.SYNC_ALARM_ARMED])
    · exact ((hregs.mono (fun _ _ => trivial)).trans (hcl.mono (Q := fun _ => True) (fun _ _ => trivial))).1
  · let d := c.setCore p { c.core p with arrived := rest }
    obtain ⟨hdone, hregs⟩ := Chip.syncOp_spec d p (pk.op % 8) (pk.op / 8 % 4) pk.data.toNat hop
    have hex : exec (.syncPacket slot) s = act (fun c => c.takeArrived p 2 (fun c pk =>
        c.syncOp (c.movedTo p pk.dst) (pk.op % 8) (pk.op / 8 % 4) pk.data.toNat)) s := rfl
    refine ⟨_, leaves_of_act hex (Chip.takeArrived_some hpk _), ?_⟩
    have hmoved : d.movedTo p pk.dst = p := by
      rw [Chip.movedTo, if_neg (by rw [Chip.oldSlot_of_settled (c := d) hsw]; decide)]
    show SyncDone c (d.syncOp (d.movedTo p pk.dst) (pk.op % 8) (pk.op / 8 % 4) pk.data.toNat) p _ _ _ ∧ _
    rw [hmoved]
    exact ⟨hdone, (hregs.core p).trans (Chip.core_setCore_same _ _ _), hregs.mem⟩

end Sys2Proof.Machine
end

section
/-! SUPPORT. Tuple queues, credits that return (O18). -/

namespace Sys2Proof.Machine

/-! ## Router buffers -/

theorem Chip.buf_setBuf_same (c : Chip) (k input cls : Nat) (l : List Flit) : (c.setBuf k input cls l).buf k input cls = l := by
  simp [Chip.buf, Chip.setBuf, Chip.modRouter]

theorem Chip.buf_setBuf_other (c : Chip) {k input cls k' input' cls' : Nat} (l : List Flit)
    (h : k' ≠ k ∨ input' * 8 + cls' ≠ input * 8 + cls) : (c.setBuf k input cls l).buf k' input' cls' = c.buf k' input' cls' := by
  simp only [Chip.buf, Chip.setBuf, Chip.modRouter]
  by_cases hk : k' = k
  · subst hk
    rw [Chip.router_setRouter_same]
    exact smGet_smSet_other _ _ _ _ _ (h.resolve_left (fun hne => hne rfl))
  · rw [Chip.router_setRouter_other _ _ _ _ hk]

/-- Feeding an input changes routers only. -/
theorem Chip.feed_rest (c : Chip) (k input cls : Nat) (f : Flit) : { c.feed k input cls f with routers := c.routers } = c := by
  unfold Chip.feed; split <;> rfl

/-- An open input takes the packet at once. -/
theorem Chip.feed_open (c : Chip) {k input cls : Nat} (f : Flit) (h : OpenInput c k input cls) :
    c.feed k input cls f = c.setBuf k input cls (c.buf k input cls ++ [f]) := by
  rw [Chip.feed, if_pos (by simp [h.1, h.2])]; rfl

/-- A packet fed to an open input stands behind what its buffer held. -/
theorem packetEnters_feed (c : Chip) {k input cls : Nat} {P : Packet → Prop} (pk : Packet) (h : OpenInput c k input cls) (hP : P pk) :
    PacketEnters c (c.feed k input cls (.packet pk)) k input cls P := by
  rw [Chip.feed_open c _ h]
  exact ⟨⟨pk, hP, Chip.buf_setBuf_same _ _ _ _ _⟩, fun k' input' cls' _ _ _ hne => Chip.buf_setBuf_other _ _ (by omega)⟩

/-! ## Credits (R214) -/

theorem dbits_mkHdr_cls (route : BitVec 48) (cls : Nat) (sb db : Bool) (dslot epoch len : Nat) (hc : cls < 8) :
    dbits (mkHdr route cls sb db dslot epoch len) 18 16 = cls := by
  have hr : route.toNat / 8 < 2 ^ 45 := by have := route.isLt; omega
  have hr' : route.toNat % 8 < 8 := Nat.mod_lt _ (by decide)
  have hs : sb.toNat < 2 := Bool.toNat_lt sb
  have hd : db.toNat < 2 := Bool.toNat_lt db
  have hsl : dslot % 32 < 32 := Nat.mod_lt _ (by decide)
  have he : epoch % 16 < 16 := Nat.mod_lt _ (by decide)
  have hl : len % 4 < 4 := Nat.mod_lt _ (by decide)
  rw [dbits, mkHdr, BitVec.toNat_ofNat, Nat.mod_eq_of_lt hc]
  generalize route.toNat / 8 = a at *
  generalize route.toNat % 8 = b at *
  generalize dslot % 32 = e at *
  generalize epoch % 16 = f at *
  generalize len % 4 = g at *
  omega

/-- The first body flit as a number: below the data stand 32 bits, the operation in their top byte. -/
theorem toNat_mkFlit1 (src dst tag op : Nat) (data : Word) : ∃ low < 2 ^ 24,
    (mkFlit1 src dst tag op data).toNat = low + op % 256 * 2 ^ 24 + data.toNat * 2 ^ 32 := by
  have hd := data.isLt
  refine ⟨src % 1024 + dst % 1024 * 2 ^ 10 + tag % 16 * 2 ^ 20, by omega, ?_⟩
  rw [mkFlit1, BitVec.toNat_ofNat]
  exact Nat.mod_eq_of_lt (by omega)

theorem mkFlit1_op (src dst tag op : Nat) (data : Word) : dbits (mkFlit1 src dst tag op data) 31 24 = op % 256 := by
  obtain ⟨low, hlow, h⟩ := toNat_mkFlit1 src dst tag op data
  rw [dbits, h]
  omega

theorem mkFlit1_data (src dst tag op : Nat) (data : Word) : (mkFlit1 src dst tag op data).extractLsb' 32 32 = data := by
  obtain ⟨low, hlow, h⟩ := toNat_mkFlit1 src dst tag op data
  have hd := data.isLt
  refine BitVec.eq_of_toNat_eq ?_
  rw [BitVec.extractLsb'_toNat, h, Nat.shiftRight_eq_div_pow]
  omega

/-- The fields of the data of a WCREDIT. -/
theorem wcreditData_fields (port count : Nat) (orphan : Bool) (wadi : Nat) :
    let w := BitVec.ofNat 32 (port % 16 + count % 64 * 16 + orphan.toNat * 2 ^ 10 + false.toNat * 2 ^ 11 + wadi % 4096 * 2 ^ 12)
    wbits w 3 0 = port % 16 ∧ wbits w 9 4 = count % 64 ∧ wbits w 10 10 = orphan.toNat ∧ wbits w 11 11 = 0 := by
  have ho : orphan.toNat < 2 := Bool.toNat_lt orphan
  simp only [wbits, BitVec.toNat_ushiftRight, BitVec.toNat_ofNat, Nat.shiftRight_eq_div_pow, Bool.toNat_false]
  omega

/-- What a router originates into an open input: a packet of its class with the body given. -/
theorem originate_enters (c : Chip) {k cls dst : Nat} (toBridge : Bool) (body : List DWord) (h : OpenInput c k 21 cls) (hc : cls < 8) :
    PacketEnters c (c.originate k cls dst toBridge body) k 21 cls (fun x => x.cls = cls ∧ x.body = body) := by
  refine packetEnters_feed c _ h ?_
  cases toBridge <;> exact ⟨dbits_mkHdr_cls _ _ _ _ _ _ _ hc, rfl⟩

/-- The credits of a tuple stand in the router's own input, as a WCREDIT for its sending port. -/
theorem creditBack_goes (c : Chip) (k reader sender wadi : Nat) (sb orphan : Bool) (pk : Packet) (h : OpenInput c k 21 5) :
    CreditGoes c (c.creditBack k reader sender sb pk.wadiPort pk.tuple.words.length orphan wadi) k pk orphan.toNat := by
  obtain ⟨⟨x, ⟨hcls, hbody⟩, hbuf⟩, hother⟩ := originate_enters c (dst := sender) sb
    (wcreditBody reader (if sb then 0x3FF else sender) pk.wadiPort pk.tuple.words.length orphan false wadi) h (by decide)
  have hport : pk.wadiPort < 16 := by
    have : pk.op < 256 := Nat.mod_lt _ (by decide)
    rw [Packet.wadiPort]; omega
  have hlen : pk.tuple.words.length < 64 := by
    simp only [Packet.tuple, Packet.wadiData, List.length_take, List.length_cons, List.length_nil]; omega
  obtain ⟨f1, f2, f3, f4⟩ := wcreditData_fields pk.wadiPort pk.tuple.words.length orphan wadi
  have hflit : [x.flit 1] = x.body := by rw [Packet.flit, hbody]; rfl
  have hflit := (List.cons.inj (hflit.trans hbody)).1
  refine ⟨⟨x, ⟨hcls, ?_, ?_⟩, hbuf⟩, hother⟩
  · rw [Packet.op, hflit]; exact mkFlit1_op _ _ _ _ _
  · rw [Packet.data, hflit, mkFlit1_data]; exact ⟨f1.trans (Nat.mod_eq_of_lt hport), f2.trans (Nat.mod_eq_of_lt hlen), f3, f4⟩

theorem Chip.creditBack_rest (c : Chip) (k reader sender : Nat) (sb : Bool) (port count : Nat) (orphan : Bool) (wadi : Nat) :
    { c.creditBack k reader sender sb port count orphan wadi with routers := c.routers } = c := Chip.feed_rest _ _ _ _ _

/-- Only routers differ. -/
theorem get_of_routers {c d : Chip} (h : { d with routers := c.routers } = c) (f : Reg.Fld) : d.get f = c.get f :=
  Chip.get_congr c d (by have := congrArg Chip.regs h; exact this) f

theorem core_of_routers {c d : Chip} (h : { d with routers := c.routers } = c) (n : Nat) : d.core n = c.core n := by
  have hc : d.cores = c.cores := by have := congrArg Chip.cores h; exact this
  rw [Chip.core, Chip.core, hc]

/-! ## Tuples that arrive (R213, R218) -/

section
variable {c : Chip} {p : Nat} {pk : Packet}

theorem Chip.tupleArrive_room (hold : c.oldSlot p = false) (hopen : c.queueOpen p pk.wadiQueue = true)
    (hroom : wordsOf ((c.core p).queue pk.wadiQueue) + pk.tuple.words.length ≤ 32) :
    c.tupleArrive p pk = c.setCore p ((c.core p).setQueue pk.wadiQueue ((c.core p).queue pk.wadiQueue ++ [pk.tuple])) := by
  simp only [Chip.tupleArrive, hold, hopen, hroom, Bool.false_eq_true, if_false, Bool.not_true, or_true, if_true]
  rfl

theorem Chip.tupleArrive_full (hold : c.oldSlot p = false) (hopen : c.queueOpen p pk.wadiQueue = true)
    (hfull : 32 < wordsOf ((c.core p).queue pk.wadiQueue) + pk.tuple.words.length) :
    c.tupleArrive p pk = ((c.bump (Reg.WADI_Q_DISCARD_OVF p pk.wadiQueue) pk.tuple.words.length).set (Reg.WADI_Q_STAT_OVF p pk.wadiQueue)).creditTuple
      p pk.wadiQueue pk.tuple false := by
  simp only [Chip.tupleArrive, hold, hopen, Nat.not_le.mpr hfull, Bool.false_eq_true, if_false, Bool.not_true, or_self]

theorem Chip.tupleArrive_closed (hold : c.oldSlot p = false) (hclosed : c.queueOpen p pk.wadiQueue = false) :
    c.tupleArrive p pk = c.tupleOrphan (p / 32) p pk.wadiQueue pk.tuple := by
  simp only [Chip.tupleArrive, hold, hclosed, Bool.false_eq_true, if_false, Bool.not_false, if_true]

end

theorem tuplesArriveHold : TuplesArriveHold := by
  intro s slot pk rest c p q harr hsw
  let k : Core := { c.core p with arrived := rest }
  let d := c.setCore p k
  have hex : exec (.wadiTupleArrive slot) s = act (fun c => c.takeArrived p 1 (fun c pk => c.tupleArrive p pk)) s := rfl
  have hleaves : ∀ {t}, d.tupleArrive p pk = t → Leaves (.wadiTupleArrive slot) s t := fun h =>
    leaves_of_act hex ((Chip.takeArrived_some harr _).trans h)
  have hold : d.oldSlot p = false := Chip.oldSlot_of_settled (c := d) hsw
  have hk : d.core p = k := Chip.core_setCore_same _ _ _
  have hq : (d.core p).queue q = (c.core p).queue q := by rw [hk]; rfl
  have hqlt : q < 4 := Nat.mod_lt _ (by decide)
  refine ⟨fun hopen hroom => ?_, fun hopen hfull => ?_, fun hclosed => ?_⟩
  · refine ⟨_, hleaves (Chip.tupleArrive_room hold hopen (by rw [hq]; exact hroom)), ?_, fun x hx => ?_, fun _ => rfl, rfl⟩
    · rw [Chip.core_setCore_same, hk]; rfl
    · rw [Chip.core_setCore_other _ _ _ _ hx]; exact Chip.core_setCore_other _ _ _ _ hx
  · let b := d.bump (Reg.WADI_Q_DISCARD_OVF p q) pk.tuple.words.length
    let e := b.set (Reg.WADI_Q_STAT_OVF p q)
    have hrest := Chip.creditBack_rest e (p / 32) (e.logicalOf p) pk.tuple.src.toNat pk.tuple.sb pk.tuple.port pk.tuple.words.length false
      (e.logicalOf p * 4 + q)
    refine ⟨_, hleaves (Chip.tupleArrive_full hold hopen (by rw [hq]; exact hfull)), (core_of_routers hrest p).trans hk,
      (get_of_routers hrest _).trans ?_, (get_of_routers hrest _).trans ?_, fun hin => creditBack_goes e _ _ _ _ _ false pk hin⟩
    · exact Chip.get_put_fits b _ _ (by simp [Reg.WADI_Q_STAT_OVF])
    · refine (Chip.get_put_apart b _ _ _ (by simp [Reg.Fld.apart, Reg.WADI_Q_STAT_OVF, Reg.WADI_Q_DISCARD_OVF, Reg.WADI_Q_STAT, Reg.WADI_Q_DISCARD])).trans ?_
      exact Chip.get_bump d _ _ (by simp [Reg.WADI_Q_DISCARD_OVF])
  · let b := d.bump (Reg.WADI_Q_DISCARD_DRAINED p q) pk.tuple.words.length
    have hrest := Chip.creditBack_rest b (p / 32) (d.logicalOf p) pk.tuple.src.toNat pk.tuple.sb pk.tuple.port pk.tuple.words.length true
      (d.logicalOf p * 4 + q)
    refine ⟨_, hleaves (Chip.tupleArrive_closed hold hclosed), ?_, ?_, fun hin => ?_⟩
    · exact (core_of_routers hrest p).trans hk
    · exact (get_of_routers hrest _).trans (Chip.get_bump d _ _ (by simp [Reg.WADI_Q_DISCARD_DRAINED]))
    · exact creditBack_goes b _ _ _ _ _ true pk hin

/-! ## Credits that return (R214, R219) -/

/-- The registers of a send port. -/
theorem Chip.wcredit_bound (c : Chip) (p data : Nat) (hb : c.get (Reg.WADI_SPORT_CFG_BOUND p (data % 16)) = 1) :
    let port := data % 16
    let cap := c.get (Reg.WADI_SPORT_CFG_CREDITS p port)
    let t := c.wcredit p data
    t.get (Reg.WADI_SPORT_STAT_CRED p port) =
      (if bit data 11 then cap else min cap (c.get (Reg.WADI_SPORT_STAT_CRED p port) + data / 16 % 64)) ∧
    t.get (Reg.WADI_SPORT_STAT_ORPHAN p port) = (if bit data 10 then 1 else c.get (Reg.WADI_SPORT_STAT_ORPHAN p port)) ∧
    OnlyRegs c t (· = Reg.WADI_SPORT_STAT p port) := by
  intro port cap t
  let cred := if bit data 11 then cap else min cap (c.get (Reg.WADI_SPORT_STAT_CRED p port) + data / 16 % 64)
  let d := c.put (Reg.WADI_SPORT_STAT_CRED p port) cred
  have hcap : cap < 64 := Chip.get_lt c _
  have hcred : cred < 64 := by
    simp only [cred]; split
    · exact hcap
    · exact lt_of_le_of_lt (Nat.min_le_left _ _) hcap
  have hd : d.get (Reg.WADI_SPORT_STAT_CRED p port) = cred := Chip.get_put_fits _ _ _ (by simpa [Reg.WADI_SPORT_STAT_CRED] using hcred)
  have ht : t = if bit data 10 then d.set (Reg.WADI_SPORT_STAT_ORPHAN p port) else d := by
    simp only [t, Chip.wcredit]
    rw [if_pos (Chip.on_iff.mpr hb)]
  have happ : (Reg.WADI_SPORT_STAT_ORPHAN p port).apart (Reg.WADI_SPORT_STAT_CRED p port) = true := by
    simp [Reg.Fld.apart, Reg.WADI_SPORT_STAT_CRED, Reg.WADI_SPORT_STAT_ORPHAN]
  have happ' : (Reg.WADI_SPORT_STAT_CRED p port).apart (Reg.WADI_SPORT_STAT_ORPHAN p port) = true := by
    simp [Reg.Fld.apart, Reg.WADI_SPORT_STAT_CRED, Reg.WADI_SPORT_STAT_ORPHAN]
  rw [ht]
  refine ⟨?_, ?_, OnlyRegs.ite ?_ ?_⟩
  · split
    · exact (Chip.get_put_apart d _ _ _ happ).trans hd
    · exact hd
  · split
    · exact Chip.get_put_fits d _ _ (by simp [Reg.WADI_SPORT_STAT_ORPHAN])
    · exact Chip.get_put_apart c _ _ _ happ'
  · exact OnlyRegs.trans (OnlyRegs.put c _ _ _ rfl) (OnlyRegs.set d _ _ rfl)
  · exact OnlyRegs.put c _ _ _ rfl

theorem Chip.wcredit_unbound (c : Chip) (p data : Nat) (hb : c.get (Reg.WADI_SPORT_CFG_BOUND p (data % 16)) = 0) : c.wcredit p data = c := by
  rw [Chip.wcredit, if_neg (by rw [Chip.on_iff, hb]; decide)]

/-- The head of what has reached the bridge, where it is a WCREDIT, is the first one there. -/
theorem splitFirst_isWcredit {e : Nat} {pk : Packet} {l : List (Nat × Flit)} (hhead : l.head? = some (e, .packet pk)) (hcls : pk.cls = 5)
    (hop : pk.op = 0x21) : splitFirst isWcredit l = some ((e, .packet pk), l.tail) := by
  cases l with
  | nil => simp at hhead
  | cons x xs =>
    obtain rfl : x = (e, .packet pk) := by simpa using hhead
    simp [splitFirst, isWcredit, hcls, hop]

/-- WCREDIT at a core takes the oldest one delivered to it. -/
theorem exec_wcredit_core (s : State) {slot : PCore} (h : slot.toNat ≠ bridgeSlot) :
    exec (.wcredit slot) s = act (·.takeArrived slot.toNat 5 (fun c pk => c.wcredit slot.toNat pk.data.toNat)) s := by
  show execWcredit slot s = _
  simp only [execWcredit, act, if_neg h]

/-- WCREDIT at the bridge takes the first one that has reached it. -/
theorem leaves_wcredit_bridge {s : State} {slot : PCore} {e : Nat} {pk : Packet} {rest : List (Nat × Flit)} (h : slot.toNat = bridgeSlot)
    (hf : splitFirst isWcredit s.chip.bridge.inbox = some ((e, .packet pk), rest)) :
    Leaves (.wcredit slot) s (({ s.chip with bridge := { s.chip.bridge with inbox := rest } } : Chip).wcredit slot.toNat pk.data.toNat) := by
  show execWcredit slot s = _
  simp only [execWcredit, act, if_pos h, hf]
  rw [h]

theorem creditsReturnHold : CreditsReturnHold := by
  intro s slot pk rest c p port cap credited
  refine ⟨fun hp harr => ?_, fun e hp hhead hcls hop hb => ?_⟩
  · let d := c.setCore p { c.core p with arrived := rest }
    have hl : Leaves (.wcredit slot) s (d.wcredit p pk.data.toNat) :=
      leaves_of_act (exec_wcredit_core s hp) (Chip.takeArrived_some harr _)
    have hfr : OnlyRegs d (d.wcredit p pk.data.toNat) (· = Reg.WADI_SPORT_STAT p port) := by
      by_cases hb : d.get (Reg.WADI_SPORT_CFG_BOUND p port) = 1
      · exact (Chip.wcredit_bound d p _ hb).2.2
      · rw [Chip.wcredit, if_neg (by rw [Chip.on_iff]; exact hb)]
        exact OnlyRegs.refl _ _
    refine ⟨_, hl, (hfr.core p).trans (Chip.core_setCore_same _ _ _), fun x hx => (hfr.core x).trans (Chip.core_setCore_other _ _ _ _ hx),
      fun hb => ?_, fun hb => ?_⟩
    · obtain ⟨h1, h2, h3⟩ := Chip.wcredit_bound d p pk.data.toNat hb
      exact ⟨h1, h2, h3.2, h3.mem⟩
    · rw [Chip.wcredit_unbound d p _ hb]; exact fun _ => rfl
  · let d : Chip := { c with bridge := { c.bridge with inbox := c.bridge.inbox.tail } }
    have hl : Leaves (.wcredit slot) s (d.wcredit p pk.data.toNat) := leaves_wcredit_bridge hp (splitFirst_isWcredit hhead hcls hop)
    obtain ⟨h1, h2, h3⟩ := Chip.wcredit_bound d p pk.data.toNat hb
    exact ⟨_, hl, by rw [h3.eq], h1, h2, h3.2, h3.mem⟩

end Sys2Proof.Machine
end

section
/-! SUPPORT. Bindings of send ports, and the statement on tuple queues (O18). -/

namespace Sys2Proof.Machine

/-! ## Send ports (R210, R211, R219) -/

/-- A send port is unbound at reset. -/
theorem regReset_sportCfg (p n : Nat) (hn : n < 16) : regReset (Reg.WADI_SPORT_CFG p n) = 0 := by
  have ha : Reg.WADI_SPORT_CFG p n = 0x10000000 + p * 0x10000 + 0x5100 + n * 16 := rfl
  have hi : instReset (Reg.WADI_SPORT_CFG p n) = none := by
    rw [ha, instReset, Reg.XBAR_PORT_CFG, Reg.FUSE_VARIANT, Reg.HIF_MAGIC, Reg.BDP_STAT,
      if_neg (by omega), if_neg (by omega), if_neg (by omega), if_neg (by omega), if_neg (by omega)]
  have hk : Reg.lookupKey (Reg.WADI_SPORT_CFG p n) = (Reg.rows_core, 0x5100 + n * 16) := by
    rw [ha, Reg.lookupKey, if_pos (by omega)]
    exact congrArg (Prod.mk Reg.rows_core) (by omega)
  have hr : ∀ m < 16, ((Reg.rows_core.find? (·.hits (0x5100 + m * 16))).map (·.reset)).getD 0 = 0 := by decide
  have hrow := hr n hn
  rw [regReset, hi, Reg.row?, hk]
  revert hrow
  cases Reg.rows_core.find? (·.hits (0x5100 + n * 16)) with
  | none => intro _; rfl
  | some r => intro h; exact congrArg (BitVec.ofNat 32) h

/-- A register that is written and holds no reset word is listed with its word. -/
theorem mem_regs_wr_same (c : Chip) (a : Nat) (w : Word) (h : w ≠ regReset a) : (a, w) ∈ (c.wr a w).regs := by
  simp only [Chip.wr, if_neg h]
  exact List.mem_of_find?_eq_some (find_smSet_same c.regs a w)

theorem mem_smSet_other {l : SMap Word} {x : Nat × Word} {a : Nat} {w : Word} (h : x ∈ l) (hx : x.1 ≠ a) : x ∈ smSet l a w := by
  induction l with
  | nil => simp at h
  | cons y t ih =>
    simp only [smSet]
    split
    · exact List.mem_cons_of_mem _ h
    · split
      · next he =>
        rcases List.mem_cons.mp h with rfl | h
        · exact absurd he hx
        · exact List.mem_cons_of_mem _ h
      · rcases List.mem_cons.mp h with rfl | h
        · exact List.mem_cons_self
        · exact List.mem_cons_of_mem _ (ih h)

/-- A write to another register leaves the entry listed. -/
theorem mem_regs_wr_other {c : Chip} {x : Nat × Word} (a : Nat) (w : Word) (h : x ∈ c.regs) (hx : x.1 ≠ a) : x ∈ (c.wr a w).regs := by
  unfold Chip.wr
  split
  · exact List.mem_filter.mpr ⟨h, by simpa using hx⟩
  · exact mem_smSet_other h hx

theorem sportAt_sportCfg (p n : Nat) (hn : n < 16) : sportAt (Reg.WADI_SPORT_CFG p n) = some (p, n) := by
  have ha : Reg.WADI_SPORT_CFG p n = 0x10000000 + p * 0x10000 + 0x5100 + n * 16 := rfl
  rw [ha, sportAt, if_pos (by omega)]
  congr 2 <;> omega

/-- A field of the register as firmware wrote it. -/
theorem wbits_and_mask (v : Word) (hi lo : Nat) (h : hi < 19) : wbits (v &&& 0x7FFFF#32) hi lo = wbits v hi lo := by
  simp only [wbits, BitVec.toNat_ushiftRight, BitVec.toNat_and]
  apply Nat.eq_of_testBit_eq
  intro i
  rw [Nat.testBit_mod_two_pow, Nat.testBit_mod_two_pow, Nat.testBit_shiftRight, Nat.testBit_shiftRight, Nat.testBit_and]
  by_cases hi' : i < hi + 1 - lo
  · have : (BitVec.toNat 0x7FFFF#32).testBit (lo + i) = true := by
      rw [show BitVec.toNat 0x7FFFF#32 = 2 ^ 19 - 1 from rfl, Nat.testBit_two_pow_sub_one]
      exact decide_eq_true (by omega)
    rw [this, Bool.and_true]
  · simp only [hi', decide_false, Bool.false_and]

/-- No check fails: nothing is refused. -/
theorem firstRefusal_ok {l : List (Bool × Nat)} (h : ∀ x ∈ l, ¬ (x.1 = true ∧ x.2 ≠ OK)) : firstRefusal l = OK := by
  have hnone : refusalOrder.find? (fun st => l.any (fun x => x.1 && x.2 == st)) = none := by
    rw [List.find?_eq_none]
    intro st hst hany
    obtain ⟨x, hx, hb⟩ := List.any_eq_true.mp hany
    simp only [Bool.and_eq_true, beq_iff_eq] at hb
    have hne : st ≠ OK := by
      rintro rfl
      exact absurd hst (by decide)
    exact h x hx ⟨hb.1, by rw [hb.2]; exact hne⟩
  rw [firstRefusal, hnone]; rfl

/-- A check that fails with a status of R15's order refuses. -/
theorem firstRefusal_ne_ok {l : List (Bool × Nat)} {st : Nat} (h : (true, st) ∈ l) (hst : st ∈ refusalOrder) : firstRefusal l ≠ OK := by
  have hsome : (refusalOrder.find? (fun st => l.any (fun x => x.1 && x.2 == st))).isSome = true := by
    rw [List.find?_isSome]
    exact ⟨st, hst, List.any_eq_true.mpr ⟨_, h, by simp⟩⟩
  obtain ⟨st', hst'⟩ := Option.isSome_iff_exists.mp hsome
  have hmem := List.mem_of_find?_eq_some hst'
  rw [firstRefusal, hst']
  intro he
  rw [Option.getD_some] at he
  rw [he] at hmem
  exact absurd hmem (by decide)

/-- A member of a list is at most its sum. -/
theorem le_foldl_add {l : List Nat} {x : Nat} (h : x ∈ l) : x ≤ l.foldl (· + ·) 0 := by
  rw [← List.sum_eq_foldl_nat]
  exact List.single_le_sum (fun _ _ => Nat.zero_le _) x h

/-- What a binding that is stored leaves. -/
theorem Chip.sportCfgWrite_spec {c : Chip} {p n : Nat} (v : Word) (h : c.get (Reg.WADI_CTRL_LOCK p) = 0) :
    let t := c.sportCfgWrite p n v
    t.rd (Reg.WADI_SPORT_CFG p n) = v &&& 0x7FFFF#32 ∧ t.get (Reg.WADI_SPORT_STAT_CRED p n) = wbits v 17 12 ∧
    t.get (Reg.WADI_SPORT_STAT_ORPHAN p n) = 0 ∧ OnlyRegs c t (fun a => a = Reg.WADI_SPORT_CFG p n ∨ a = Reg.WADI_SPORT_STAT p n) ∧
    (v.getLsbD 18 = true → n < 16 → (Reg.WADI_SPORT_CFG p n, v &&& 0x7FFFF#32) ∈ t.regs) := by
  let d := c.wr (Reg.WADI_SPORT_CFG p n) (v &&& 0x7FFFF#32)
  have ht : c.sportCfgWrite p n v = (d.put (Reg.WADI_SPORT_STAT_CRED p n) (d.get (Reg.WADI_SPORT_CFG_CREDITS p n))).put (Reg.WADI_SPORT_STAT_ORPHAN p n) 0 := by
    rw [Chip.sportCfgWrite, if_neg (by rw [Chip.on_iff, h]; decide)]; rfl
  have hne : Reg.WADI_SPORT_CFG p n ≠ Reg.WADI_SPORT_STAT p n := by simp [Reg.WADI_SPORT_CFG, Reg.WADI_SPORT_STAT]
  have hcred : d.get (Reg.WADI_SPORT_CFG_CREDITS p n) = wbits v 17 12 :=
    (Chip.get_wr_same c _ (Reg.WADI_SPORT_CFG_CREDITS p n)).trans (wbits_and_mask v 17 12 (by decide))
  have hlt : wbits v 17 12 < 64 := wbits_lt v 17 12
  rw [ht, hcred]
  refine ⟨?_, ?_, ?_, ?_, fun hv hn => ?_⟩
  · rw [Chip.rd_put_other _ _ _ _ hne, Chip.rd_put_other _ _ _ _ hne, Chip.rd_wr_same]
  · rw [Chip.get_put_apart _ _ _ _ (by simp [Reg.Fld.apart, Reg.WADI_SPORT_STAT_CRED, Reg.WADI_SPORT_STAT_ORPHAN])]
    exact Chip.get_put_fits _ _ _ (by simpa [Reg.WADI_SPORT_STAT_CRED] using hlt)
  · exact Chip.get_put_fits _ _ _ (by simp [Reg.WADI_SPORT_STAT_ORPHAN])
  · exact ((OnlyRegs.wr c _ _ _ (.inl rfl)).trans (OnlyRegs.put d (Reg.WADI_SPORT_STAT_CRED p n) _ _ (.inr rfl))).trans
      (OnlyRegs.put _ (Reg.WADI_SPORT_STAT_ORPHAN p n) _ _ (.inr rfl))
  · have hw : v &&& 0x7FFFF#32 ≠ regReset (Reg.WADI_SPORT_CFG p n) := by
      rw [regReset_sportCfg p n hn]
      intro h0
      have := congrArg (fun w : Word => w.getLsbD 18) h0
      simp only [BitVec.getLsbD_and, hv] at this
      exact absurd this (by decide)
    exact mem_regs_wr_other _ _ (mem_regs_wr_other _ _ (mem_regs_wr_same c _ _ hw) hne) hne

theorem Chip.sportCfgWrite_locked {c : Chip} {p n : Nat} (v : Word) (h : c.get (Reg.WADI_CTRL_LOCK p) = 1) : c.sportCfgWrite p n v = c := by
  rw [Chip.sportCfgWrite, if_pos (Chip.on_iff.mpr h)]

/-- A path is judged by the variant alone, so by no register of a send port. -/
theorem pathCheck_congr {c d : Chip} (h : d.variant = c.variant) (k : Nat) (route : BitVec 48) : pathCheck d k route = pathCheck c k route := by
  have hl : d.links_ = c.links_ := by rw [Chip.links_, Chip.links_, h]
  have hk : d.clusters = c.clusters := by rw [Chip.clusters, Chip.clusters, h]
  have hf : feryoAt d = feryoAt c := by funext k; simp only [feryoAt, hl]
  have hn : neighbour d = neighbour c := by funext k dir; simp only [neighbour, hk]
  have hp : ∀ (l : List Nat) (k : Nat), pathAbsent d k l = pathAbsent c k l := by
    intro l
    induction l with
    | nil => intro k; rfl
    | cons x t ih => intro k; simp only [pathAbsent, hf, hn, ih]
  simp only [pathCheck, hp]

/-- The credits of every port bound to the queue (R211). -/
def Chip.queueCredits (c : Chip) (wadi : Nat) : Nat :=
  (((c.boundPorts (wadi / 4)).filter (fun sp => c.get (Reg.WADI_SPORT_CFG_WADI sp.1 sp.2) == wadi)).map
    (fun sp => c.get (Reg.WADI_SPORT_CFG_CREDITS sp.1 sp.2))).foldl (· + ·) 0

section
variable (c : Chip) (p n : Nat)

theorem mem_bindingChecks_path (hp : p ≠ bridgeSlot) :
    (pathCheck c (p / 32) (c.sportPath p n) != OK, pathCheck c (p / 32) (c.sportPath p n)) ∈ c.bindingChecks p n := by
  have h : (if p = bridgeSlot then cx (c.get (Reg.WADI_SPORT_CFG_WADI p n) / 64) else p / 32) = p / 32 := if_neg hp
  rw [Chip.bindingChecks, h]
  exact .head _

theorem mem_bindingChecks_seated : (!c.seated (c.get (Reg.WADI_SPORT_CFG_WADI p n) / 4), ERR_RESOURCE) ∈ c.bindingChecks p n := by
  exact .tail _ (.tail _ (.head _))

theorem mem_bindingChecks_credits : (decide (32 < c.queueCredits (c.get (Reg.WADI_SPORT_CFG_WADI p n))), ERR_RESOURCE) ∈ c.bindingChecks p n := by
  exact .tail _ (.tail _ (.tail _ (.head _)))

end

/-- A port that is listed as bound counts among the credits of its queue. -/
theorem Chip.credits_le_queueCredits {c : Chip} {p n : Nat} {w : Word} (hn : n < 16) (hmem : (Reg.WADI_SPORT_CFG p n, w) ∈ c.regs)
    (hrd : c.rd (Reg.WADI_SPORT_CFG p n) = w) (hb : w.getLsbD 18 = true) (hp : p = bridgeSlot ∨ (p / 32 < c.clusters ∧ p % 32 < 17)) :
    c.get (Reg.WADI_SPORT_CFG_CREDITS p n) ≤ c.queueCredits (c.get (Reg.WADI_SPORT_CFG_WADI p n)) := by
  have hw : c.get (Reg.WADI_SPORT_CFG_WADI p n) = wbits w 11 0 := by rw [Chip.get]; exact congrArg (wbits · 11 0) hrd
  have hbound : (p, n) ∈ c.boundPorts (c.get (Reg.WADI_SPORT_CFG_WADI p n) / 4) := by
    refine List.mem_filterMap.mpr ⟨_, hmem, ?_⟩
    rw [sportAt_sportCfg p n hn, Option.filter_some, if_pos]
    rcases hp with rfl | ⟨hk, hs⟩
    · simp [hb, hw]
    · simp [hb, hw, hk, hs]
  exact le_foldl_add (List.mem_map.mpr ⟨(p, n), List.mem_filter.mpr ⟨hbound, by simp⟩, rfl⟩)

/-- Firmware's write of a binding at a core's port goes through the core's window. -/
theorem exec_sportCfgWrite_core (s : State) {slot : PCore} (port : BitVec 4) (v : Word) (h : slot.toNat ≠ bridgeSlot) :
    exec (.wadiSportCfgWrite slot port v) s =
      act (·.slotWrite slot.toNat (0x5100 + 16 * port.toNat) (·.bindPort slot.toNat port.toNat v)) s := by
  show execWadiSportCfgWrite slot port v s = _
  simp only [execWadiSportCfgWrite, act, if_neg h]

/-- Firmware's write of a binding takes place, at a core whose window is open or at the bridge. -/
theorem leaves_sportCfgWrite {s : State} {slot : PCore} {port : BitVec 4} {v : Word} {t : Chip}
    (h : slot.toNat = bridgeSlot ∨ s.chip.windowOpen slot.toNat = true) (ht : s.chip.bindPort slot.toNat port.toNat v = t) :
    Leaves (.wadiSportCfgWrite slot port v) s t := by
  by_cases hb : slot.toNat = bridgeSlot
  · show execWadiSportCfgWrite slot port v s = _
    simp only [execWadiSportCfgWrite, act, if_pos hb, ht]
  · exact leaves_slotWrite (h.resolve_left hb) (exec_sportCfgWrite_core s port v hb) ht

theorem Chip.bindPort_locked {c : Chip} {p n : Nat} {v : Word} (h : c.get (Reg.WADI_CTRL_LOCK p) = 1) : c.bindPort p n v = c := by
  simp only [Chip.bindPort, Chip.sportCfgWrite_locked v h, ite_self]

theorem Chip.bindPort_refused {c : Chip} {p n : Nat} {v : Word} (hv : v.getLsbD 18 = true)
    (h : firstRefusal ((c.sportCfgWrite p n v).bindingChecks p n) ≠ OK) : c.bindPort p n v = c := by
  rw [Chip.bindPort, if_pos (by simp only [hv, Bool.true_and, bne_iff_ne]; exact h)]

theorem portBindingHold : PortBindingHold := by
  intro s slot port v c p n reached bad
  have hn : n < 16 := port.isLt
  refine ⟨fun hp hw => slotRefused_of_closed hw (exec_sportCfgWrite_core s port v hp), fun hr hl => ?_, fun hr hl hok => ?_, fun hr hv hbad => ?_⟩
  · exact leaves_sportCfgWrite hr (Chip.bindPort_locked hl)
  · obtain ⟨h1, h2, h3, h4, -⟩ := Chip.sportCfgWrite_spec (n := n) v hl
    refine ⟨_, leaves_sportCfgWrite hr (if_neg ?_), h1, h2, h3, h4⟩
    rcases hok with hv | hok
    · rw [hv, Bool.false_and]; decide
    · rw [firstRefusal_ok hok, bne_self_eq_false, Bool.and_false]; decide
  · by_cases hl : c.get (Reg.WADI_CTRL_LOCK p) = 1
    · exact leaves_sportCfgWrite hr (Chip.bindPort_locked hl)
    · let t := c.sportCfgWrite p n v
      obtain ⟨hcfg, -, -, hfr, hmem⟩ := Chip.sportCfgWrite_spec (n := n) v (Chip.get_eq_zero rfl hl)
      refine leaves_sportCfgWrite hr (Chip.bindPort_refused hv ?_)
      have hfield : ∀ hi lo, hi < 19 → wbits (t.rd (Reg.WADI_SPORT_CFG p n)) hi lo = wbits v hi lo := fun hi lo h => by
        rw [hcfg]; exact wbits_and_mask v hi lo h
      have hlow : ∀ f : Reg.Fld, f.addr < 0x10000000 → t.get f = c.get f := fun f hf => hfr.get f (by
        simp only [Reg.WADI_SPORT_CFG, Reg.WADI_SPORT_STAT, Reg.coreBase]; omega)
      have hvar : t.variant = c.variant := hlow _ (by decide)
      rcases hbad with hseat | hcred | ⟨hp, hpath⟩
      · refine firstRefusal_ne_ok (st := ERR_RESOURCE) ?_ (by decide)
        have hchk := mem_bindingChecks_seated t p n
        have hw : t.get (Reg.WADI_SPORT_CFG_WADI p n) = wbits v 11 0 := hfield 11 0 (by decide)
        have hs : t.seated (wbits v 11 0 / 4) = c.seated (wbits v 11 0 / 4) := by
          have := wbits_lt v 11 0
          rw [Chip.seated, Chip.seated, Chip.clusters, Chip.clusters, hvar, Chip.activeSlot, Chip.activeSlot,
            hlow _ (by simp only [Reg.NI_MAP_ACTIVE_SLOT, Reg.NI_MAP_ACTIVE]; omega)]
        rwa [hw, hs, hseat] at hchk
      · refine firstRefusal_ne_ok (st := ERR_RESOURCE) ?_ (by decide)
        have hchk := mem_bindingChecks_credits t p n
        have hle := Chip.credits_le_queueCredits (c := t) port.isLt (hmem hv port.isLt) hcfg (by rw [BitVec.getLsbD_and, hv]; decide)
          (hr.imp_right fun hw => by rw [Chip.clusters, hvar]; exact Chip.windowOpen_slot hw)
        have hc : t.get (Reg.WADI_SPORT_CFG_CREDITS p n) = wbits v 17 12 := hfield 17 12 (by decide)
        rwa [decide_eq_true (lt_of_lt_of_le (hc ▸ hcred) hle)] at hchk
      · have hpc : pathCheck t (p / 32) (t.sportPath p n) = pathCheck c (p / 32) (c.sportPath p n) := by
          have hp' : t.sportPath p n = c.sportPath p n := by
            rw [Chip.sportPath, Chip.sportPath, hfr.2 _ (by simp [Reg.WADI_SPORT_ROUTE_LO, Reg.WADI_SPORT_CFG, Reg.WADI_SPORT_STAT]),
              hfr.get _ (by simp [Reg.WADI_SPORT_ROUTE_HI_ROUTE_HI, Reg.WADI_SPORT_ROUTE_HI, Reg.WADI_SPORT_CFG, Reg.WADI_SPORT_STAT])]
          rw [hp', pathCheck_congr hvar]
        have hchk := mem_bindingChecks_path t p n hp
        rw [hpc] at hchk
        have hst : ∀ st ∈ [PATH_ILLEGAL, ERR_PARAM, ERR_RESOURCE], (st != OK) = true ∧ st ∈ refusalOrder := by decide
        rw [(hst _ hpath).1] at hchk
        exact firstRefusal_ne_ok hchk (hst _ hpath).2

/-- Settles O18: the queue takes or refuses the tuple, the port its credits, firmware's binding is checked as written. -/
theorem tupleQueues : Obligations.TupleQueues := ⟨tuplesArriveHold, creditsReturnHold, portBindingHold⟩

end Sys2Proof.Machine
end

section
/-! SUPPORT. Power domains and clocks (O47, refuted). -/

namespace Sys2Proof.Machine

/-- Firmware is up and the Feryo PHY's domain, without votes, ramps; the rest is as reset leaves it. -/
def ferRamping : State :=
  { pending := [], chip := (Chip.init.put Reg.HIF_FWSTATE_FW_STATE 2).put (Reg.PWR_DOM_STAT_STATE 67) 1 }

theorem ferRamping_premises : ferRamping.chip.domPresent 67 = true ∧ ferRamping.chip.domState 67 = 1 ∧ ferRamping.chip.power.waiting = [] := by
  decide

/-- The links' states that the end of the ramp leaves. -/
def linksAfterRamp : Option (List (Nat × Nat)) :=
  match exec (.domainRampDone 67#7) ferRamping with
  | .next t => some (t.chip.links.map (fun l => (l.1, t.chip.linkState l.1)))
  | _ => none

/-- Firmware writes LINK_EN as the PHY comes up (R346), so that each of the four links stands in TRAIN with a state of its own (R332). -/
theorem linksAfterRamp_eq : linksAfterRamp = some [(0, 1), (1, 1), (2, 1), (3, 1)] := by
  decide +kernel

theorem links_of_leaves (t : Chip) (h : Leaves (.domainRampDone 67#7) ferRamping t) : t.links ≠ [] := by
  intro h0
  have e := linksAfterRamp_eq
  rw [linksAfterRamp, h] at e
  simp [h0] at e

/-- Refutes O47: the clause of DOMAIN_RAMP_DONE that a ramp of the Feryo PHY leaves no link state. With firmware up, the
same step writes LINK_EN and every link enters TRAIN. -/
theorem not_powerAndClocks : ¬ Obligations.PowerAndClocks := by
  intro ⟨hpower, _⟩
  obtain ⟨_, _, _, hramp, _⟩ := hpower ferRamping 67#7 0#32
  obtain ⟨hpresent, hstate, hwait⟩ := ferRamping_premises
  obtain ⟨t, hleaves, _, _, _, _, hlinks, _⟩ := hramp hpresent hstate hwait
  exact links_of_leaves t hleaves (hlinks rfl)

end Sys2Proof.Machine
end

section
/-! SUPPORT. Firmware's answers to commands (O40). -/

namespace Sys2Proof.Machine

/-! ## Runs of bytes within what was written -/

/-- A run of bytes that no byte written touches reads as before. -/
theorem Memory.readBytes_writeBytes_apart (m : Memory) {a b n : Nat} {bs : List Byte} (h : b + n ≤ a ∨ a + bs.length ≤ b) :
    (m.writeBytes a bs).readBytes b n = m.readBytes b n :=
  Memory.readBytes_congr _ _ _ _ (fun x h1 h2 => Memory.read_writeBytes_other _ _ _ _ (by omega))

theorem Memory.readNat_writeNat_apart (m : Memory) {a b n k v : Nat} (h : b + k ≤ a ∨ a + n ≤ b) :
    (m.writeNat a n v).readNat b k = m.readNat b k := by
  rw [Memory.readNat, Memory.writeNat, Memory.readBytes_writeBytes_apart _ (by simpa using h)]
  rfl

theorem Memory.readNat_writeBytes_apart (m : Memory) {a b k : Nat} {bs : List Byte} (h : b + k ≤ a ∨ a + bs.length ≤ b) :
    (m.writeBytes a bs).readNat b k = m.readNat b k := by
  rw [Memory.readNat, Memory.readBytes_writeBytes_apart _ h]
  rfl

theorem Memory.writeBytes_append (p q : List Byte) (m : Memory) (a : Nat) :
    m.writeBytes a (p ++ q) = (m.writeBytes a p).writeBytes (a + p.length) q := by
  induction p generalizing m a with
  | nil => rfl
  | cons b t ih => simp [Memory.writeBytes, ih, Nat.add_assoc, Nat.add_comm 1]

/-- A field of a record that is written whole (R4). -/
theorem Memory.readNat_writeBytes_field (m : Memory) (a k v : Nat) (p r : List Byte) :
    (m.writeBytes a (p ++ (natToBytes k v ++ r))).readNat (a + p.length) k = v % 256 ^ k := by
  rw [Memory.writeBytes_append, Memory.writeBytes_append, Memory.readNat_writeBytes_apart _ (by simp)]
  exact Memory.readNat_writeNat _ _ _ _

/-! ## The reply in a mailbox slot (R290) -/

theorem Chip.msix_regs (c : Chip) (v : Nat) : (c.msix v).regs = c.regs := by unfold Chip.msix; split <;> rfl
theorem Chip.msix_mem (c : Chip) (v : Nat) : (c.msix v).mem = c.mem := by unfold Chip.msix; split <;> rfl
theorem Chip.msix_fw (c : Chip) (v : Nat) : (c.msix v).fw = c.fw := by unfold Chip.msix; split <;> rfl
theorem Chip.msix_cores (c : Chip) (v : Nat) : (c.msix v).cores = c.cores := by unfold Chip.msix; split <;> rfl

/-- What the reply writes into its slot's memory. -/
def Chip.replyBytes (c : Chip) (n major minor status : Nat) (payload : List Byte) : Memory :=
  let m := (((c.mem.writeNat (mbxMem n 0) 1 major).writeNat (mbxMem n 1) 1 minor).writeNat (mbxMem n 4) 2 payload.length).writeNat (mbxMem n 8) 1 status
  (m.writeNat (mbxMem n 9) 1 (m.readNat (mbxMem n 9) 1 % 2 + 2)).writeBytes (mbxMem n 0x10) payload

/-- The slot DONE with its reply, before the message is sent. -/
def Chip.replied (c : Chip) (n major minor status : Nat) (payload : List Byte) : Chip :=
  let c := (((c.wrMem (mbxMem n 0) 1 major).wrMem (mbxMem n 1) 1 minor).wrMem (mbxMem n 4) 2 payload.length).wrMem (mbxMem n 8) 1 status
  ((c.wrMem (mbxMem n 9) 1 (c.rdMem (mbxMem n 9) 1 % 2 + 2)).wrBytes (mbxMem n 0x10) payload).setMbxState n 2

section
variable (c : Chip) (n major minor status : Nat) (payload : List Byte)

theorem Chip.mbxReply_eq : c.mbxReply n major minor status payload =
    if (c.replied n major minor status payload).on Reg.HIF_IRQ_EN_MBX then (c.replied n major minor status payload).msix 0
    else c.replied n major minor status payload := rfl

theorem Chip.mbxReply_mem : (c.mbxReply n major minor status payload).mem = c.replyBytes n major minor status payload := by
  rw [Chip.mbxReply_eq, apply_ite Chip.mem, Chip.msix_mem, ite_self]
  rfl

theorem Chip.mbxReply_fw : (c.mbxReply n major minor status payload).fw = c.fw := by
  rw [Chip.mbxReply_eq, apply_ite Chip.fw, Chip.msix_fw, ite_self]
  rfl

theorem Chip.mbxReply_cores : (c.mbxReply n major minor status payload).cores = c.cores := by
  rw [Chip.mbxReply_eq, apply_ite Chip.cores, Chip.msix_cores, ite_self]
  rfl

theorem Chip.mbxReply_regs : (c.mbxReply n major minor status payload).regs = (c.setMbxState n 2).regs := by
  rw [Chip.mbxReply_eq, apply_ite Chip.regs, Chip.msix_regs, ite_self]
  rfl

theorem Chip.mbxReply_regsKept : RegsKept c (c.mbxReply n major minor status payload) (· = Reg.MBX_STATE) := by
  intro a ha
  rw [Chip.rd, Chip.mbxReply_regs]
  exact Chip.rd_wr_other _ _ _ _ ha

theorem Chip.mbxReply_state (hn : n < 16) : (c.mbxReply n major minor status payload).mbxState n = 2 := by
  rw [Chip.mbxState, Chip.rd, Chip.mbxReply_regs]
  have h := Chip.get_put_same c ⟨Reg.MBX_STATE, 2 * n + 1, 2 * n⟩ 2 (by simp) (by simp; omega)
  rw [show 2 * n + 1 + 1 - 2 * n = 2 by omega] at h
  exact h

theorem Chip.mbxReply_status : (c.mbxReply n major minor status payload).rdMem (mbxMem n 8) 1 = status % 256 := by
  rw [Chip.rdMem, Chip.mbxReply_mem, Chip.replyBytes, Memory.readNat_writeBytes_apart _ (by simp only [mbxMem]; omega),
    Memory.readNat_writeNat_apart _ (by simp only [mbxMem]; omega), Memory.readNat_writeNat, pow_one]

/-- The reply stays within the slot's 256 bytes. -/
theorem Chip.mbxReply_memKept (h : payload.length ≤ 0xF0) : MemKept c (c.mbxReply n major minor status payload) (mbxMem n 0) 0x100 := by
  intro x hx
  have hx' : x < 0x4000000000000 + n * 0x100 ∨ 0x4000000000000 + n * 0x100 + 0x100 ≤ x := hx
  rw [Chip.mbxReply_mem, Chip.replyBytes]
  simp only [mbxMem]
  rw [Memory.read_writeBytes_other _ _ _ _ (by omega), Memory.read_writeNat_other _ _ _ _ _ (by omega), Memory.read_writeNat_other _ _ _ _ _ (by omega),
    Memory.read_writeNat_other _ _ _ _ _ (by omega), Memory.read_writeNat_other _ _ _ _ _ (by omega), Memory.read_writeNat_other _ _ _ _ _ (by omega)]

/-- A field of the payload, where it stands in the slot. -/
theorem Chip.mbxReply_field (p r : List Byte) (k v : Nat) :
    (c.mbxReply n major minor status (p ++ (natToBytes k v ++ r))).rdMem (mbxMem n (0x10 + p.length)) k = v % 256 ^ k := by
  rw [Chip.rdMem, Chip.mbxReply_mem, Chip.replyBytes, show mbxMem n (0x10 + p.length) = mbxMem n 0x10 + p.length by simp only [mbxMem]; omega]
  exact Memory.readNat_writeBytes_field _ _ _ _ _ _

end

/-! ## A command that ends in its slot (R15, R310) -/

/-- A command of mailbox slot `n` that completes changes its slot, its state field, and nothing else. -/
theorem onlyReplies_of_complete {ins : Instr} {s : State} {n status r0 r1 : Nat} (code : Nat) (hn : n < 16) (hst : status < 256)
    (h : Leaves ins s (s.chip.complete (.mailbox n) code status r0 r1)) : OnlyReplies ins s n status r0 r1 := by
  refine ⟨_, h, ⟨Chip.mbxReply_state _ _ _ _ _ _ hn, ?_, ?_, ?_⟩, Chip.mbxReply_regsKept _ _ _ _ _ _,
    Chip.mbxReply_memKept _ _ _ _ _ _ (by simp), Chip.mbxReply_fw _ _ _ _ _ _, Chip.mbxReply_cores _ _ _ _ _ _⟩
  · exact (Chip.mbxReply_status _ _ _ _ _ _).trans (Nat.mod_eq_of_lt hst)
  · exact Chip.mbxReply_field _ _ _ _ _ [] _ 4 r0
  · have := Chip.mbxReply_field s.chip n (s.chip.rdMem (mbxMem n 0) 1) (s.chip.rdMem (mbxMem n 1) 1) status (natToBytes 4 r0) [] 8 r1
    rw [List.append_nil, natToBytes_length] at this
    exact this

/-- Every refusal of R15 is a status of one byte. -/
theorem firstRefusal_lt (l : List (Bool × Nat)) : firstRefusal l < 256 := by
  rw [firstRefusal]
  cases h : refusalOrder.find? (fun st => l.any (fun x => x.1 && x.2 == st)) with
  | none => decide
  | some st =>
    have hall : ∀ st ∈ refusalOrder, st < 256 := by decide
    exact hall st (List.mem_of_find?_eq_some h)

/-! ## Who answers (R290, R291, R294) -/

/-- Every command of the catalogue goes to its responder under its code. -/
theorem exec_serviceCommands {x} (hx : x ∈ serviceCommands) (o : Origin) (h : CmdHead) (a : List Byte) (s : State) :
    exec (x.2 o h a) s = act (·.respondTo o h x.1 a) s := by
  simp only [serviceCommands, List.mem_cons, List.not_mem_nil, or_false] at hx
  rcases hx with rfl | rfl | rfl | rfl | rfl | rfl | rfl | rfl | rfl | rfl | rfl | rfl | rfl | rfl | rfl | rfl | rfl | rfl | rfl | rfl | rfl | rfl | rfl <;> rfl

theorem serviceCommands_code {x} (hx : x ∈ serviceCommands) : x.1 ≠ 1 := by
  have h : ∀ k ∈ serviceCommands.map (·.1), k ≠ 1 := by decide
  exact h _ (List.mem_map_of_mem hx)

section
variable {c : Chip} {n : Nat} {h : CmdHead} {a : List Byte} {code : Nat}

theorem Chip.respondTo_lookout (o : Origin) (hl : c.inLookout = true) : c.respondTo o h code a = c := by
  unfold Chip.respondTo
  rw [if_pos (.inr hl)]

theorem Chip.respondTo_version (hn : n < 16) (hl : c.inLookout = false) (hfw : c.fwState = 2 ∨ c.fwState = 3) (hm : servesMajor h.major = false) :
    c.respondTo (.mailbox n) h code a = c.versionReply n := by
  unfold Chip.respondTo
  rw [if_neg (by simp [Origin.exists_, hn, hl]), if_pos hfw, hm]

theorem Chip.respondTo_hello (hh : Hears c n h) (hfw : c.fwState = 2 ∨ c.fwState = 3) :
    c.respondTo (.mailbox n) h 1 a = c.takeHello (.mailbox n) h a [] := by
  obtain ⟨hn, hl, hm⟩ := hh
  unfold Chip.respondTo
  rw [if_neg (by simp [Origin.exists_, hn, hl]), if_pos hfw, hm]
  rfl

theorem Chip.respondTo_early (hh : Hears c n h) (hfw : c.fwState = 2) (hcode : code ≠ 1) :
    c.respondTo (.mailbox n) h code a = c.complete (.mailbox n) code ERR_NOT_READY 0 0 := by
  obtain ⟨hn, hl, hm⟩ := hh
  unfold Chip.respondTo
  rw [if_neg (by simp [Origin.exists_, hn, hl]), if_pos (.inl hfw), hm]
  simp only [if_neg hcode, if_pos hfw]

theorem Chip.respondTo_ready (hh : Hears c n h) (hfw : c.fwState = 3) (hcode : code ≠ 1) :
    c.respondTo (.mailbox n) h code a = c.take (.mailbox n) h code a [] := by
  obtain ⟨hn, hl, hm⟩ := hh
  unfold Chip.respondTo
  rw [if_neg (by simp [Origin.exists_, hn, hl]), if_pos (.inr hfw), hm]
  simp only [if_neg hcode, if_neg (show c.fwState ≠ 2 by omega)]

theorem Chip.take_unknown (o : Origin) (hs : serviceOf code = none) : c.take o h code a [] = c.complete o code ERR_PARAM 0 0 := by
  rw [Chip.take, hs]
  rfl

theorem Chip.take_refused (o : Origin) {r : Service} (hs : serviceOf code = some r) (ha : a.length = 48)
    (hst : firstRefusal (c.commonChecks o h r a ++ c.serviceChecks o h code a) ≠ OK) :
    c.take o h code a [] = c.complete o code (firstRefusal (c.commonChecks o h r a ++ c.serviceChecks o h code a)) 0 0 := by
  rw [Chip.take, hs]
  simp only [ha, Nat.sub_self, List.replicate_zero, List.append_nil, List.nil_append]
  rw [if_pos hst]

theorem Chip.take_accepted (ha : Accepts c n h code a) : c.take (.mailbox n) h code a [] = c.acceptCommand (.mailbox n) h code a := by
  obtain ⟨-, -, -, hlen, hfault, r, -, hs, hok⟩ := ha
  rw [Chip.take, hs]
  simp only [hlen, Nat.sub_self, List.replicate_zero, List.append_nil, List.nil_append, hok]
  rw [if_neg (by simp), Option.isNone_iff_eq_none.mp hfault]

/-- QUERY changes nothing of its own (R313). -/
theorem Chip.acceptCommand_query (hflags : h.flags = 0) :
    c.acceptCommand (.mailbox n) h 0x02 a = c.complete (.mailbox n) 0x02 OK (c.queryResult a).1 (c.queryResult a).2 := by
  have hplain : h.expertForm = false := by rw [CmdHead.expertForm, hflags]; rfl
  show c.finishNow (.mailbox n) h 0x02 a = _
  rw [Chip.finishNow, if_pos hplain]
  rfl

/-! ## HELLO (R304, R305) -/

theorem Chip.takeHello_bad (hbad : helloBad c a = true ∨ h.flags ≠ 0) : c.takeHello (.mailbox n) h a [] = c.complete (.mailbox n) 1 ERR_PARAM 0 0 := by
  have he : (helloBad c a || h.flags != 0) = true := by simpa using hbad
  rw [Chip.takeHello, he, if_neg (by decide)]

theorem Chip.takeHello_good (hgood : helloBad c a = false) (hflags : h.flags = 0) : c.takeHello (.mailbox n) h a [] = c.hello n h.major h.minor a := by
  rw [Chip.takeHello, hgood, hflags, if_pos (by decide)]

end

/-- HELLO up to its reply: the features offered and agreed on, the notification queue placed, firmware READY. -/
def Chip.greeted (c : Chip) (a : List Byte) : Chip :=
  let c := c.setProfile.logged logHello (argOf a 0x1C 4) 0
  let c := if bit (argOf a 0x19 1) 0 ∧ c.fw.profile = 1 then c.force (argOf a 0x1C 4) else c
  let c : Chip := { c with fw := { c.fw with agreed := c.fw.offered &&& argOf a 0 16, nqBase := argOf a 0x10 8, nqLog2 := argOf a 0x18 1, nqHead := 0 } }
  (c.put Reg.HIF_NQ_TAIL_TAIL 0).setFwState 3

theorem Chip.hello_eq (c : Chip) (n major minor : Nat) (a : List Byte) :
    c.hello n major minor a = ((c.greeted a).mbxReply n major (min minor (minorOf major)) OK (c.greeted a).helloReply).flushNotices := rfl

/-- The chip that HELLO's registers are written on keeps the notices that wait and the cores. -/
theorem Chip.greeted_fw (c : Chip) (a : List Byte) :
    (c.greeted a).fw.agreed = (c.greeted a).fw.offered &&& argOf a 0 16 ∧ (c.greeted a).fw.nqBase = argOf a 0x10 8 ∧ (c.greeted a).fw.nqLog2 = argOf a 0x18 1 ∧
      (c.greeted a).fw.nqHead = 0 ∧ (c.greeted a).fw.notices = c.fw.notices ∧ (c.greeted a).cores = c.cores := by
  rw [Chip.greeted]
  split
  · exact ⟨rfl, rfl, rfl, rfl, rfl, rfl⟩
  · exact ⟨rfl, rfl, rfl, rfl, rfl, rfl⟩

theorem Chip.greeted_ready (c : Chip) (a : List Byte) : (c.greeted a).fwState = 3 ∧ (c.greeted a).get Reg.HIF_NQ_TAIL_TAIL = 0 := by
  rw [Chip.greeted]
  constructor
  · exact Chip.get_put_same _ _ _ (by decide) (by decide)
  · exact (Chip.get_put_addr _ _ _ _ (by decide)).trans (Chip.get_put_same _ _ _ (by decide) (by decide))

/-- With no notice waiting, none is sent. -/
theorem Chip.flushNotices_nil {c : Chip} (h : c.fw.notices = []) : c.flushNotices = c := by
  rw [Chip.flushNotices, h]
  show ({ c with fw := { c.fw with notices := [] } } : Chip) = c
  rw [← h]

theorem Chip.hello_spec {c : Chip} {n major minor : Nat} {a : List Byte} (hn : n < 16) (hnotices : c.fw.notices = []) :
    let t := c.hello n major minor a
    t.fwState = 3 ∧ t.fw.agreed = t.fw.offered &&& argOf a 0 16 ∧ t.fw.nqBase = argOf a 0x10 8 ∧ t.fw.nqLog2 = argOf a 0x18 1 ∧ t.fw.nqHead = 0 ∧
      t.get Reg.HIF_NQ_TAIL_TAIL = 0 ∧ t.mbxState n = 2 ∧ t.rdMem (mbxMem n 8) 1 = OK ∧ t.rdMem (mbxMem n 0x10) 16 = t.fw.agreed % 2 ^ 128 ∧ t.cores = c.cores := by
  obtain ⟨hagreed, hbase, hlog, hhead, hnot, hcores⟩ := c.greeted_fw a
  obtain ⟨hready, htail⟩ := c.greeted_ready a
  have hkept := Chip.mbxReply_regsKept (c.greeted a) n major (min minor (minorOf major)) OK (c.greeted a).helloReply
  have hget : ∀ f : Reg.Fld, f.addr ≠ Reg.MBX_STATE →
      ((c.greeted a).mbxReply n major (min minor (minorOf major)) OK (c.greeted a).helloReply).get f = (c.greeted a).get f :=
    fun f hf => by simp only [Chip.get, hkept f.addr hf]
  rw [Chip.hello_eq, Chip.flushNotices_nil (by rw [Chip.mbxReply_fw, hnot, hnotices])]
  simp only [Chip.mbxReply_fw, Chip.mbxReply_cores]
  refine ⟨(hget _ (by decide)).trans hready, hagreed, hbase, hlog, hhead, (hget _ (by decide)).trans htail, Chip.mbxReply_state _ _ _ _ _ _ hn,
    Chip.mbxReply_status _ _ _ _ _ _, ?_, hcores⟩
  simp only [Chip.helloReply, List.append_assoc]
  exact Chip.mbxReply_field _ _ _ _ _ [] _ 16 _

/-- Settles O40, each clause by who answers the command and how that answer ends in its slot. -/
theorem firmwareAnswers : Obligations.FirmwareAnswers := by
  intro s slot h a code c n o
  have hn : n < 16 := slot.isLt
  have hcmd : ∀ x ∈ serviceCommands, ∀ {t : Chip}, c.respondTo o h x.1 a = t → Leaves (x.2 o h a) s t :=
    fun x hx t ht => leaves_of_act (exec_serviceCommands hx o h a s) ht
  have hhello : ∀ {t : Chip}, c.respondTo o h 1 a = t → Leaves (.hello o h a) s t := fun ht => by
    have hex : exec (.hello o h a) s = act (·.respondTo o h 1 a) s := rfl
    exact leaves_of_act hex ht
  refine ⟨?_, ?_, ?_, ?_, ?_, ?_, ?_, ?_⟩
  · intro hears hfw hgood hflags hnotices
    exact ⟨_, hhello ((Chip.respondTo_hello hears hfw).trans (Chip.takeHello_good hgood hflags)), Chip.hello_spec hn hnotices⟩
  · intro hears hfw hbad
    exact onlyReplies_of_complete 1 hn (by decide) (hhello ((Chip.respondTo_hello hears hfw).trans (Chip.takeHello_bad hbad)))
  · intro hears hfw x hx
    exact onlyReplies_of_complete x.1 hn (by decide) (hcmd x hx (Chip.respondTo_early hears hfw (serviceCommands_code hx)))
  · intro hl hfw hm x hx
    exact ⟨_, hcmd x hx (Chip.respondTo_version hn hl hfw hm), Chip.mbxReply_state _ _ _ _ _ _ hn, Chip.mbxReply_status _ _ _ _ _ _⟩
  · intro hl x hx
    exact hcmd x hx (Chip.respondTo_lookout o hl)
  · intro hears hfw ha x hx r hr st hst
    exact onlyReplies_of_complete x.1 hn (firstRefusal_lt _)
      (hcmd x hx ((Chip.respondTo_ready hears hfw (serviceCommands_code hx)).trans (Chip.take_refused o hr ha hst)))
  · intro hears hfw hcode hr
    have hex : exec (.unknownCommand o h code a) s =
        act (fun c => if code.toNat = 1 ∨ (serviceOf code.toNat).isSome then c else c.respondTo o h code.toNat a) s := rfl
    refine onlyReplies_of_complete code.toNat hn (by decide) (leaves_of_act hex ?_)
    rw [if_neg (by simp [hcode, hr])]
    exact (Chip.respondTo_ready hears hfw hcode).trans (Chip.take_unknown o hr)
  · intro ha
    have ⟨hears, hfw, hflags, _⟩ := ha
    have hex : exec (.query o h a) s = act (·.respondTo o h 0x02 a) s := rfl
    exact onlyReplies_of_complete 0x02 hn (by decide) (leaves_of_act hex
      (((Chip.respondTo_ready hears hfw (by decide)).trans (Chip.take_accepted ha)).trans (Chip.acceptCommand_query hflags)))

end Sys2Proof.Machine
end

section
/-! SUPPORT. Event counters and bandwidth (O33, refuted). -/

namespace Sys2Proof.Machine

/-- A DRAM channel that delivered 1 GB/s, reserved by class 1, and that is no longer in use: what it delivers is 0 once D is
computed anew. The rest is as reset leaves it. -/
def overReserved : State :=
  { pending := [], chip := (Chip.init.put Reg.BW_DELIV_D 1).put (Reg.BW_RES_GBPS 1) 1 }

theorem overReserved_premises : 0 < overReserved.chip.drams ∧ overReserved.chip.on (Reg.DDR_STAT_REFX2 0) ≠ true := by
  decide

/-- What `resOf 8` reads once the doubled refresh rate has been taken up. There is no class 8 (R271): `BW_RES 8` is the
address of BW_IRQ_STATUS. -/
def resAfterRefresh : Option Nat :=
  match exec (.ddrRefreshChange 0#1 0#3 true) overReserved with
  | .next t => some (t.chip.resOf 8)
  | _ => none

/-- Class 1 is shed (R274), which sets its bit of BW_IRQ_STATUS. -/
theorem resAfterRefresh_eq : resAfterRefresh = some 2 := by
  decide +kernel

theorem overReserved_res : overReserved.chip.resOf 8 = 0 := by
  decide

/-- Refutes O33: what BandwidthFits says of a reservation is said of every number, and past the five classes of R271 it
meets BW_IRQ_STATUS, where the shedding of R274 sets a bit. -/
theorem not_countersAndBandwidth : ¬ Obligations.CountersAndBandwidth := by
  intro ⟨_, hbandwidth⟩
  obtain ⟨_, _, _, _, hrefresh, _⟩ := hbandwidth overReserved 0#3 0#32 0#1 0#3 true
  obtain ⟨hchannel, hrate⟩ := overReserved_premises
  obtain ⟨t, hleaves, _, _, _, hfits, _⟩ := hrefresh hchannel hrate
  obtain ⟨_, _, _, _, _, _, hres⟩ := hfits
  have hafter := resAfterRefresh_eq
  rw [resAfterRefresh, show exec (.ddrRefreshChange 0#1 0#3 true) overReserved = _ from hleaves] at hafter
  have hlost : t.resOf 8 = 2 := Option.some.inj hafter
  rw [hres 8, overReserved_res] at hlost
  exact absurd hlost (by decide)

end Sys2Proof.Machine
end

section
/-! SUPPORT. Captures that emit, and what records and reports leave of the fabric (O30). -/

namespace Sys2Proof.Machine

/-! ## What records and reports leave of the fabric -/

/-- Routers, and what waits at the bridge and the edge ports, stand as before. -/
def FabricKept (c d : Chip) : Prop := d.routers = c.routers ∧ d.bridge = c.bridge

theorem FabricKept.refl (c : Chip) : FabricKept c c := ⟨rfl, rfl⟩

theorem FabricKept.trans {c d e : Chip} (h : FabricKept c d) (h' : FabricKept d e) : FabricKept c e :=
  ⟨h'.1.trans h.1, h'.2.trans h.2⟩

theorem FabricKept.of_onlyRegs {c d : Chip} {P : Nat → Prop} (h : OnlyRegs c d P) : FabricKept c d := by
  rw [h.eq]; exact ⟨rfl, rfl⟩

theorem FabricKept.buf {c d : Chip} (h : FabricKept c d) (k input cls : Nat) : d.buf k input cls = c.buf k input cls := by
  simp only [Chip.buf, Chip.router, h.1]

section
variable {c d : Chip} (h : FabricKept c d)
include h

theorem FabricKept.wr (a : Nat) (w : Word) : FabricKept c (d.wr a w) := ⟨h.1, h.2⟩
theorem FabricKept.put (f : Reg.Fld) (v : Nat) : FabricKept c (d.put f v) := ⟨h.1, h.2⟩
theorem FabricKept.set (f : Reg.Fld) : FabricKept c (d.set f) := ⟨h.1, h.2⟩
theorem FabricKept.clr (f : Reg.Fld) : FabricKept c (d.clr f) := ⟨h.1, h.2⟩
theorem FabricKept.bump (f : Reg.Fld) (n : Nat) : FabricKept c (d.bump f n) := ⟨h.1, h.2⟩
theorem FabricKept.wrBytes (a : Nat) (bs : List Byte) : FabricKept c (d.wrBytes a bs) := ⟨h.1, h.2⟩
theorem FabricKept.withFw (w : Fw) : FabricKept c { d with fw := w } := ⟨h.1, h.2⟩
theorem FabricKept.withTrip (t : Trip) : FabricKept c { d with trip := t } := ⟨h.1, h.2⟩
theorem FabricKept.tallyChip (src n : Nat) : FabricKept c (d.tallyChip src n) := h.trans (.of_onlyRegs (OnlyRegs.tallyChip d src n))
theorem FabricKept.logged (code subject detail : Nat) (sticky : Bool) : FabricKept c (d.logged code subject detail sticky) := ⟨h.1, h.2⟩

theorem FabricKept.msix (v : Nat) : FabricKept c (d.msix v) := by
  unfold Chip.msix
  split <;> exact ⟨h.1, h.2⟩

theorem FabricKept.writeNotice (n : Notice) : FabricKept c (d.writeNotice n) := by
  unfold Chip.writeNotice
  dsimp only
  split
  · exact h.withFw _
  · split
    · exact h.withFw _
    · split
      · exact (((h.wrBytes _ _).withFw _).put _ _).msix 0
      · exact ((h.wrBytes _ _).withFw _).put _ _

theorem FabricKept.notify (code status subject arg0 arg1 : Nat) : FabricKept c (d.notify code status subject arg0 arg1) := by
  unfold Chip.notify
  dsimp only
  split
  · exact (h.logged _ _ _ _).writeNotice _
  · exact (h.logged _ _ _ _).withFw _

theorem FabricKept.snapOne (on : Bool) (b : Nat) : FabricKept c (d.snapOne on b) := by
  unfold Chip.snapOne
  split
  · exact ((h.wr _ _).wr _ _).set _
  · exact h.clr _

theorem FabricKept.foldl {α : Type} {f : Chip → α → Chip} (hf : ∀ {d} x, FabricKept c d → FabricKept c (f d x)) (l : List α) : FabricKept c (l.foldl f d) := by
  induction l generalizing d with
  | nil => exact h
  | cons x xs ih => exact ih (hf x h)

theorem FabricKept.snapshot : FabricKept c d.snapshot :=
  (h.foldl (fun _ h => h.snapOne _ _) _).foldl (fun _ h => (h.foldl (fun _ h => h.snapOne _ _) _).foldl (fun _ h => h.foldl (fun _ h => h.snapOne _ _) _) _) _

theorem FabricKept.tripWrite (r : List Byte) : FabricKept c (d.tripWrite r) := (((h.wrBytes _ _).wr _ _).withTrip _).tallyChip _ _

theorem FabricKept.tripMask (n mask : Nat) : FabricKept c (d.tripMask n mask) := (h.put _ _).wrBytes _ _

/-- A trip touches registers, the DRAM window, the sandglass and firmware's reports (R419 to R421). -/
theorem FabricKept.trip_ (mask : Nat) : FabricKept c (d.trip_ mask) := by
  have hsnap : FabricKept c (if d.on Reg.PMON_CTRL_SNAP_ON_TRIP then d.snapshot else d) := by
    split
    · exact h.snapshot
    · exact h
  unfold Chip.trip_
  split
  · exact h.withTrip _
  · split
    · exact h.tripMask _ _
    · generalize (if d.on Reg.PMON_CTRL_SNAP_ON_TRIP then d.snapshot else d) = e at hsnap ⊢
      dsimp only
      split
      · split
        · exact ((hsnap.tripWrite _).bump _ _).notify _ _ _ _ _
        · exact (hsnap.bump _ _).notify _ _ _ _ _
      · split
        · have hmark := ((hsnap.foldl (fun r h => h.tripWrite r) e.trip.fifo).withTrip { (e.trip.fifo.foldl Chip.tripWrite e).trip with fifo := [] }).tripWrite
          exact (((((((((hmark _).put _ _).set _).clr _).put _ _).put _ _).put _ _)).set _).withTrip _
        · exact hsnap

end

theorem FabricKept.tripPush (c : Chip) (r : List Byte) : FabricKept c (c.tripPush r) := by
  unfold Chip.tripPush
  split
  · exact .refl c
  · split
    · exact (((FabricKept.refl c).bump _ _).set _).withTrip _
    · exact (FabricKept.refl c).withTrip _

theorem FabricKept.recEvent (c : Chip) (src edge who : Nat) (ev : DWord) : FabricKept c (c.recEvent src edge who ev) := by
  unfold Chip.recEvent
  dsimp only
  split
  · exact (FabricKept.tripPush c _).trip_ _
  · exact FabricKept.tripPush c _

/-! ## A capture event at its edge port (R83, R86) -/

theorem Chip.drainCap_nil {c : Chip} {e : Nat} (h : smGet [] c.bridge.injCap e = []) (n : Nat) : c.drainCap e n = c := by
  cases n with
  | zero => rfl
  | succ n => rw [Chip.drainCap, h]

/-- The one capture event that waits enters its router's free buffer. -/
theorem Chip.drainCap_one {c : Chip} {e : Nat} {ev : DWord} (h : smGet [] c.bridge.injCap e = [ev]) (hroom : c.room e 19 0 = true) (n : Nat) :
    c.drainCap e (n + 1) = ({ c with bridge := { c.bridge with injCap := smSet c.bridge.injCap e [] } } : Chip).enter e 19 0 (.event ev none) := by
  rw [Chip.drainCap, h]
  simp only [if_pos hroom]
  exact Chip.drainCap_nil (smGet_smSet_same _ _ _ _) n

theorem Chip.ingestCap_enters {c : Chip} {e : Nat} (chan : Nat) (ev : DWord) (h : smGet [] c.bridge.injCap e = []) (hroom : c.room e 19 0 = true) :
    (c.ingestCap e chan ev).buf e 19 0 = c.buf e 19 0 ++ [.event ev none] := by
  have hkept : ∀ d : Chip, FabricKept d (((d.recEvent 0 e (chan + 256) ev).tallyChip 0x82).tallyChip 0x83) :=
    fun d => ((FabricKept.recEvent d 0 e _ ev).tallyChip _ _).tallyChip _ _
  have hbuf := fun d => (hkept d).buf e 19 0
  have hinj := fun d => congrArg (fun b : Bridge => smGet [] b.injCap e) (hkept d).2
  rw [Chip.ingestCap, h, Chip.drainCap_one ((hinj _).trans (smGet_smSet_same _ _ _ _))]
  · rw [Chip.enter, Chip.buf_setBuf_same]
    exact congrArg (· ++ _) (hbuf _)
  · rw [Chip.room, hbuf]
    exact hroom

/-! ## The capture (R78 to R87) -/

theorem Chip.countAt_put {c : Chip} (f : Reg.Fld) (v k age : Nat) (h : Reg.TMR_CH_COUNT k ≠ f.addr) : (c.put f v).countAt k age = c.countAt k age := by
  unfold Chip.countAt
  rw [Chip.rd_put_other _ _ _ _ h]
  rfl

/-- A queued capture changes the channel's status, its drop count and its queue only (R82). -/
theorem Chip.capQueue_kept (c : Chip) (k : Nat) (count stamp : Word) (rising : Bool) :
    FabricKept c (c.capQueue k count stamp rising) ∧
    RegsKept c (c.capQueue k count stamp rising) (fun a => a = Reg.CAP_CH_STAT k ∨ a = Reg.CAP_IRQ_STATUS ∨ a = Reg.CAP_CH_QDROP k) := by
  unfold Chip.capQueue
  dsimp only
  split
  · have h : OnlyRegs c (((c.set (Reg.CAP_CH_STAT_QOVF k)).set Reg.CAP_IRQ_STATUS_QOVF).bump (Reg.CAP_CH_QDROP_COUNT k))
        (fun a => a = Reg.CAP_CH_STAT k ∨ a = Reg.CAP_IRQ_STATUS ∨ a = Reg.CAP_CH_QDROP k) :=
      ((OnlyRegs.set _ _ _ (.inl rfl)).trans (.set _ _ _ (.inr (.inl rfl)))).trans (.bump _ _ _ _ (.inr (.inr rfl)))
    exact ⟨.of_onlyRegs h, h.2⟩
  · exact ⟨⟨rfl, rfl⟩, RegsKept.refl c _⟩

theorem Chip.capEmit_count {c : Chip} {k : Nat} (count : Word) (at_ : Time) (hemit : c.get (Reg.CAP_CH_CFG_EMIT k) = 1) (hen : c.get Reg.CAP_CTRL_EMIT_EN = 1)
    (hmode : c.get (Reg.CAP_CH_CFG_EMODE k) = 2) :
    c.capEmit k count at_ = c.ingestCap (k / 32) k (mkEvent (c.rd (Reg.CAP_CH_KEY k))
      (rescale ((count.toNat : Int) - signed 16 (c.get (Reg.CAP_CH_RESC_SUB k))) (c.get (Reg.CAP_CH_RESC_M k)) (c.get (Reg.CAP_CH_RESC2_S k)))
      (c.get (Reg.CAP_CH_RESC2_LANE k)) (tagOf at_)) := by
  have hx : ∀ stamp, c.capX k count stamp = some count.toNat := by
    intro stamp
    unfold Chip.capX
    rw [hmode]
    rfl
  unfold Chip.capEmit
  rw [if_neg (by simp [Chip.on, hemit, hen, hmode]), hx]

/-- The chip as an edge's level leaves it, before its capture is queued. -/
def Chip.edgeSeen (c : Chip) (k : Nat) (rising : Bool) : Chip :=
  (c.put (Reg.CAP_PAIR_STAT_LEVEL (c.srcPair k)) rising.toNat).modChan k (fun x => { x with edges := 0 })

/-- A capture in MODE 2 (R82): queued, then its event. -/
theorem Chip.capture_queued {c : Chip} {k : Nat} {rising : Bool} (h : Captures c k rising) (hmode : c.get (Reg.TMR_CH_CFG_MODE k) = 2) :
    let age := c.tickUnit * (c.get (Reg.CAP_CH_CFG_FLEN k) + 2)
    let at_ := c.time - BitVec.ofNat 48 age
    c.capture k rising = (((c.edgeSeen k rising).capQueue k (c.countAt k age) (at_.setWidth 32) rising).capEmit k (c.countAt k age) at_).modChan k
      (fun x => { x with stamps := ((at_.setWidth 32, (((c.edgeSeen k rising).capQueue k (c.countAt k age) (at_.setWidth 32) rising).capEmit k (c.countAt k age) at_).time)
        :: x.stamps).take 2 }) := by
  obtain ⟨-, -, hpair, hsrc, hflen, hen, hfault, hedge⟩ := h
  have hp : c.srcPair k < 64 := lt_of_lt_of_le hpair (by unfold Chip.pairs; split <;> omega)
  have hflen' : (c.put (Reg.CAP_PAIR_STAT_LEVEL (c.srcPair k)) rising.toNat).get (Reg.CAP_CH_CFG_FLEN k) = c.get (Reg.CAP_CH_CFG_FLEN k) :=
    Chip.get_put_addr _ _ _ _ (by simp only [Reg.CAP_CH_CFG_FLEN, Reg.CAP_CH_CFG, Reg.CAP_PAIR_STAT_LEVEL, Reg.CAP_PAIR_STAT]; omega)
  have hunit : (c.put (Reg.CAP_PAIR_STAT_LEVEL (c.srcPair k)) rising.toNat).tickUnit = c.tickUnit := by
    rw [Chip.tickUnit, Chip.on, Chip.get_put_addr _ _ _ _ (by simp only [Reg.CLK_STAT_LOCK, Reg.CLK_STAT, Reg.CAP_PAIR_STAT_LEVEL, Reg.CAP_PAIR_STAT]; omega)]
    rfl
  have hcount : ∀ age, (c.put (Reg.CAP_PAIR_STAT_LEVEL (c.srcPair k)) rising.toNat).countAt k age = c.countAt k age :=
    fun age => Chip.countAt_put _ _ _ _ (by simp only [Reg.TMR_CH_COUNT, Reg.CAP_PAIR_STAT_LEVEL, Reg.CAP_PAIR_STAT]; omega)
  have hcaught : (!((rising && bit (c.get (Reg.CAP_CH_CFG_EDGE k)) 0) || (!rising && bit (c.get (Reg.CAP_CH_CFG_EDGE k)) 1))) = false := by
    cases rising <;> simpa using hedge
  unfold Chip.capture
  dsimp only
  rw [if_neg (by simp [hmode, hpair, Chip.on, hsrc]), if_neg hflen, if_neg (by simp [Chip.on, hen, hfault]), hcaught, if_neg (by decide),
    if_neg (by simp [hmode]), if_neg (by simp [hmode]), hflen', hunit, hcount]
  rfl

/-- What an edge and its queued capture leave: the pair's level, the channel's status, drops and queue (R82). -/
theorem Chip.edgeSeen_capQueue_kept (c : Chip) (k : Nat) (count stamp : Word) (rising : Bool) :
    FabricKept c ((c.edgeSeen k rising).capQueue k count stamp rising) ∧ RegsKept c ((c.edgeSeen k rising).capQueue k count stamp rising)
      (fun a => a = Reg.CAP_PAIR_STAT (c.srcPair k) ∨ a = Reg.CAP_CH_STAT k ∨ a = Reg.CAP_IRQ_STATUS ∨ a = Reg.CAP_CH_QDROP k) := by
  obtain ⟨hfabric, hregs⟩ := Chip.capQueue_kept (c.edgeSeen k rising) k count stamp rising
  have hlevel := OnlyRegs.put c (Reg.CAP_PAIR_STAT_LEVEL (c.srcPair k)) rising.toNat (fun a => a = Reg.CAP_PAIR_STAT (c.srcPair k) ∨ a = Reg.CAP_CH_STAT k ∨
    a = Reg.CAP_IRQ_STATUS ∨ a = Reg.CAP_CH_QDROP k) (.inl rfl)
  exact ⟨(FabricKept.of_onlyRegs hlevel).trans hfabric, hlevel.2.trans (hregs.mono fun a => Or.inr)⟩

theorem captureEventsHold : CaptureEventsHold := by
  intro s k rising c n age count pay hcap hmode hemit hen hemode hinj hroom
  have hn : n < 256 := k.isLt
  have hp : c.srcPair n < 64 := lt_of_lt_of_le hcap.2.2.1 (by unfold Chip.pairs; split <;> omega)
  have hex : exec (.capture k rising) s = act (whilePins (whileRuns 69 (·.capture n rising))) s := rfl
  refine ⟨c.capture n rising, leaves_of_act hex ?_, ?_⟩
  · obtain ⟨hheld, hidle, -⟩ := hcap
    rw [whilePins, if_neg (by simpa using hidle), whileRuns, if_neg (by simpa using hheld)]
  · obtain ⟨hfabric, hregs⟩ := c.edgeSeen_capQueue_kept n count ((c.time - BitVec.ofNat 48 age).setWidth 32) rising
    have hqueued := c.capture_queued hcap hmode
    dsimp only at hqueued
    rw [hqueued]
    generalize (c.edgeSeen n rising).capQueue n _ _ rising = d at hfabric hregs ⊢
    have hrd : ∀ a, a = Reg.CAP_CTRL ∨ a = Reg.CAP_CH_CFG n ∨ a = Reg.CAP_CH_KEY n ∨ a = Reg.CAP_CH_RESC n ∨ a = Reg.CAP_CH_RESC2 n → d.rd a = c.rd a := by
      refine fun a ha => hregs a ?_
      simp only [Reg.CAP_CTRL, Reg.CAP_CH_CFG, Reg.CAP_CH_KEY, Reg.CAP_CH_RESC, Reg.CAP_CH_RESC2, Reg.CAP_PAIR_STAT, Reg.CAP_CH_STAT, Reg.CAP_IRQ_STATUS,
        Reg.CAP_CH_QDROP] at ha ⊢
      omega
    have hget : ∀ f : Reg.Fld, f.addr = Reg.CAP_CTRL ∨ f.addr = Reg.CAP_CH_CFG n ∨ f.addr = Reg.CAP_CH_KEY n ∨ f.addr = Reg.CAP_CH_RESC n ∨
        f.addr = Reg.CAP_CH_RESC2 n → d.get f = c.get f := fun f hf => by simp only [Chip.get, hrd f.addr hf]
    show ((d.capEmit n _ _).modChan n _).buf (n / 32) 19 0 = _
    rw [Chip.capEmit_count _ _ ((hget _ (by simp [Reg.CAP_CH_CFG_EMIT])).trans hemit) ((hget _ (by simp [Reg.CAP_CTRL_EMIT_EN])).trans hen)
      ((hget _ (by simp [Reg.CAP_CH_CFG_EMODE])).trans hemode), hrd _ (by simp), hget _ (by simp [Reg.CAP_CH_RESC_SUB]),
      hget _ (by simp [Reg.CAP_CH_RESC_M]), hget _ (by simp [Reg.CAP_CH_RESC2_S]), hget _ (by simp [Reg.CAP_CH_RESC2_LANE])]
    refine (Chip.ingestCap_enters n _ (by rw [hfabric.2]; exact hinj) (by rw [Chip.room, hfabric.buf]; exact hroom)).trans ?_
    rw [hfabric.buf]

end Sys2Proof.Machine
end

section
/-! SUPPORT. The configuration of capture channels, line pairs, and the statement on captures (O30). -/

namespace Sys2Proof.Machine

/-! ## The configuration of a channel (R73, R78, R86) -/

theorem wset_emit_clear (v : Word) : wset (v &&& 0x1FFFFFFF#32) 18 18 0 = v &&& 0x1FFBFFFF#32 := by
  have hmask : 0x1FFFFFFF#32 &&& ~~~wmask 18 18 = 0x1FFBFFFF#32 := by decide
  rw [wset, BitVec.and_assoc, hmask]
  exact BitVec.or_zero

/-- A field of one bit. -/
theorem wbits_single (w : Word) (i : Nat) : wbits w i i = (w.getLsbD i).toNat := by
  rw [wbits, BitVec.toNat_ushiftRight, Nat.shiftRight_eq_div_pow, show i + 1 - i = 1 by omega, pow_one, ← BitVec.testBit_toNat, Nat.toNat_testBit]

theorem wbits_emit (v : Word) : wbits (v &&& 0x1FFFFFFF#32) 18 18 = (v.getLsbD 18).toNat := by
  rw [wbits_single, BitVec.getLsbD_and, show (0x1FFFFFFF#32).getLsbD 18 = true from rfl, Bool.and_true]

section
variable {c : Chip} {k : Nat} {v : Word}

/-- The fifth emitter of a group (R86). -/
theorem Chip.capCfgWrite_refused (hpair : 8 * (k / 32) < c.pairs) (hv : v.getLsbD 18 = true) (hfour : 4 ≤ c.emitters k) :
    c.capCfgWrite k v = (((c.wr (Reg.CAP_CH_CFG k) (v &&& 0x1FFBFFFF#32)).put (Reg.CAP_CH_STAT_EMIT_REJ k) 1).capCfgErr k).set Reg.CAP_IRQ_STATUS_EMIT_LIMIT := by
  have hrej : wbits (v &&& 0x1FFFFFFF#32) 18 18 = 1 ∧ c.emitters k ≥ 4 := ⟨by rw [wbits_emit, hv]; rfl, hfour⟩
  unfold Chip.capCfgWrite
  dsimp only
  rw [if_pos hpair, if_pos hrej, if_pos hrej, if_pos hrej, wset_emit_clear]

theorem Chip.capCfgWrite_stored (hpair : 8 * (k / 32) < c.pairs) (h : v.getLsbD 18 = false ∨ c.emitters k < 4) :
    c.capCfgWrite k v = ((c.wr (Reg.CAP_CH_CFG k) (v &&& 0x1FFFFFFF#32)).put (Reg.CAP_CH_STAT_EMIT_REJ k) 0).capCfgErr k := by
  have hkeep : ¬ (wbits (v &&& 0x1FFFFFFF#32) 18 18 = 1 ∧ c.emitters k ≥ 4) := by
    rw [wbits_emit]
    rintro ⟨h1, h4⟩
    rcases h with h | h
    · rw [h] at h1
      exact absurd h1 (by decide)
    · omega
  unfold Chip.capCfgWrite
  dsimp only
  rw [if_pos hpair, if_neg hkeep, if_neg hkeep, if_neg hkeep]

end

theorem OnlyRegs.capCfgErr (c : Chip) (k : Nat) : OnlyRegs c (c.capCfgErr k) (· = Reg.CAP_CH_STAT k) := OnlyRegs.put _ _ _ _ rfl

/-- The word written and EMIT_REJ, once CFG_ERR has followed them (R78). -/
theorem Chip.capCfg_reads (c : Chip) (k : Nat) (w : Word) (rej : Nat) (hrej : rej < 2) :
    let t := ((c.wr (Reg.CAP_CH_CFG k) w).put (Reg.CAP_CH_STAT_EMIT_REJ k) rej).capCfgErr k
    t.rd (Reg.CAP_CH_CFG k) = w ∧ t.get (Reg.CAP_CH_STAT_EMIT_REJ k) = rej ∧ OnlyRegs c t (fun a => a = Reg.CAP_CH_CFG k ∨ a = Reg.CAP_CH_STAT k) := by
  have haddr : Reg.CAP_CH_CFG k ≠ Reg.CAP_CH_STAT k := by simp only [Reg.CAP_CH_CFG, Reg.CAP_CH_STAT]; omega
  refine ⟨?_, ?_, ((OnlyRegs.wr _ _ _ _ (.inl rfl)).trans (.put _ _ _ _ (.inr rfl))).trans ((OnlyRegs.capCfgErr _ k).mono fun a => Or.inr)⟩
  · rw [(OnlyRegs.capCfgErr _ k).2 _ haddr, Chip.rd_put_other _ _ _ _ haddr, Chip.rd_wr_same]
  · rw [Chip.capCfgErr, Chip.get_put_apart _ _ _ _ (by simp [Reg.Fld.apart, Reg.CAP_CH_STAT_CFG_ERR, Reg.CAP_CH_STAT_EMIT_REJ]),
      Chip.get_put_same _ _ _ (by simp [Reg.CAP_CH_STAT_EMIT_REJ]) (by simp [Reg.CAP_CH_STAT_EMIT_REJ])]
    exact Nat.mod_eq_of_lt hrej

theorem captureConfigurationHold : CaptureConfigurationHold := by
  intro s k v c n hpair
  have hex : exec (.capChCfgWrite k v) s = act (·.capCfgWrite n v) s := rfl
  refine ⟨fun h => ?_, fun hv hfour => ?_⟩
  · obtain ⟨hrd, hrej, honly⟩ := c.capCfg_reads n (v &&& 0x1FFFFFFF#32) 0 (by decide)
    exact ⟨_, leaves_of_act hex (Chip.capCfgWrite_stored hpair h), hrd, hrej, honly⟩
  · obtain ⟨hrd, hrej, honly⟩ := c.capCfg_reads n (v &&& 0x1FFBFFFF#32) 1 (by decide)
    refine ⟨_, leaves_of_act hex (Chip.capCfgWrite_refused hpair hv hfour), ?_, ?_, Chip.get_put_same _ _ _ (by decide) (by decide),
      (honly.mono ?_).trans (.set _ _ _ (.inr (.inr rfl)))⟩
    · rw [Chip.set, Chip.rd_put_other _ _ _ _ (by simp only [Reg.CAP_CH_CFG, Reg.CAP_IRQ_STATUS_EMIT_LIMIT, Reg.CAP_IRQ_STATUS]; omega)]
      exact hrd
    · rw [Chip.set, Chip.get_put_addr _ _ _ _ (by simp only [Reg.CAP_CH_STAT_EMIT_REJ, Reg.CAP_CH_STAT, Reg.CAP_IRQ_STATUS_EMIT_LIMIT, Reg.CAP_IRQ_STATUS]; omega)]
      exact hrej
    · exact fun a ha => ha.elim .inl (.inr ∘ .inl)

/-! ## Line faults and the polarity check (R88 to R90) -/

/-- A report changes no register but the tail of the notification queue (R323, R324). -/
theorem Chip.writeNotice_kept (c : Chip) (n : Notice) : RegsKept c (c.writeNotice n) (· = Reg.HIF_NQ_TAIL) ∧ (c.writeNotice n).fw.log = c.fw.log := by
  unfold Chip.writeNotice
  dsimp only
  split
  · exact ⟨RegsKept.refl c _, rfl⟩
  · split
    · exact ⟨RegsKept.refl c _, rfl⟩
    · split
      · refine ⟨fun a ha => ?_, ?_⟩
        · rw [Chip.rd, Chip.msix_regs]
          exact Chip.rd_put_other _ _ _ _ ha
        · rw [Chip.msix_fw]; rfl
      · exact ⟨fun a ha => Chip.rd_put_other _ _ _ _ ha, rfl⟩

theorem Chip.notify_kept (c : Chip) (code status subject arg0 arg1 : Nat) :
    RegsKept c (c.notify code status subject arg0 arg1) (· = Reg.HIF_NQ_TAIL) ∧
    (c.notify code status subject arg0 arg1).fw.log =
      c.fw.log ++ [{ code := code, subject := subject, detail := arg0 + arg1 * 2 ^ 32, sticky := false, time := c.time }] := by
  unfold Chip.notify
  dsimp only
  split
  · obtain ⟨hregs, hlog⟩ := Chip.writeNotice_kept (c.logged code subject (arg0 + arg1 * 2 ^ 32))
      { code := code, status := status, subject := subject, arg0 := arg0, arg1 := arg1 }
    exact ⟨hregs, hlog⟩
  · exact ⟨fun _ _ => rfl, rfl⟩

/-- The registers of a pair that enters a fault, before its report. -/
def Chip.pairMarked (c : Chip) (n code : Nat) : Chip :=
  (((c.put (Reg.CAP_PAIR_STAT_FAULT n) code).put (Reg.CAP_PAIR_STAT_LEVEL n) (c.get (Reg.CAP_PAIR_CFG_IDLE n))).bump (Reg.CAP_PAIR_FCNT_COUNT n)).set
    Reg.CAP_IRQ_STATUS_FAULT

theorem Chip.pairMarked_reads (c : Chip) {n code : Nat} (hcode : code < 8) :
    (c.pairMarked n code).get (Reg.CAP_PAIR_STAT_FAULT n) = code ∧ (c.pairMarked n code).get (Reg.CAP_PAIR_STAT_LEVEL n) = c.get (Reg.CAP_PAIR_CFG_IDLE n) ∧
    (c.pairMarked n code).get (Reg.CAP_PAIR_FCNT_COUNT n) = counted c (Reg.CAP_PAIR_FCNT_COUNT n) 1 ∧ (c.pairMarked n code).get Reg.CAP_IRQ_STATUS_FAULT = 1 := by
  have hidle : c.get (Reg.CAP_PAIR_CFG_IDLE n) < 2 := Chip.get_lt c (Reg.CAP_PAIR_CFG_IDLE n)
  have hstat : ∀ f : Reg.Fld, f.addr = Reg.CAP_PAIR_STAT n → (c.pairMarked n code).get f =
      ((c.put (Reg.CAP_PAIR_STAT_FAULT n) code).put (Reg.CAP_PAIR_STAT_LEVEL n) (c.get (Reg.CAP_PAIR_CFG_IDLE n))).get f := by
    intro f hf
    rw [Chip.pairMarked, Chip.set, Chip.get_put_addr _ _ _ _ (by rw [hf]; simp only [Reg.CAP_PAIR_STAT, Reg.CAP_IRQ_STATUS_FAULT, Reg.CAP_IRQ_STATUS]; omega),
      Chip.bump, Chip.get_put_addr _ _ _ _ (by rw [hf]; simp only [Reg.CAP_PAIR_STAT, Reg.CAP_PAIR_FCNT_COUNT, Reg.CAP_PAIR_FCNT]; omega)]
  refine ⟨?_, ?_, ?_, Chip.get_put_same _ _ _ (by decide) (by decide)⟩
  · rw [hstat _ rfl, Chip.get_put_apart _ _ _ _ (by simp [Reg.Fld.apart, Reg.CAP_PAIR_STAT_LEVEL, Reg.CAP_PAIR_STAT_FAULT])]
    exact Chip.get_put_fits _ _ _ (by simp [Reg.CAP_PAIR_STAT_FAULT, hcode])
  · rw [hstat _ rfl]
    exact Chip.get_put_fits _ _ _ (by simp [Reg.CAP_PAIR_STAT_LEVEL, hidle])
  · rw [Chip.pairMarked, Chip.set, Chip.get_put_addr _ _ _ _ (by simp only [Reg.CAP_PAIR_FCNT_COUNT, Reg.CAP_PAIR_FCNT, Reg.CAP_IRQ_STATUS_FAULT, Reg.CAP_IRQ_STATUS]; omega),
      Chip.get_bump _ _ _ rfl]
    have haddr : (Reg.CAP_PAIR_FCNT_COUNT n).addr ≠ Reg.CAP_PAIR_STAT n := by simp only [Reg.CAP_PAIR_FCNT_COUNT, Reg.CAP_PAIR_FCNT, Reg.CAP_PAIR_STAT]; omega
    exact counted_congr ((Chip.get_put_addr _ _ _ _ haddr).trans (Chip.get_put_addr _ _ _ _ haddr)) 1

/-- A pair that enters a fault (R89): its registers, and the one report. -/
theorem pairFaulted_pairEnter (c : Chip) {n code : Nat} (hn : n < 64) (hcode : code < 8) : PairFaulted c (c.pairEnter n code) n code := by
  obtain ⟨hregs, hlog⟩ := Chip.notify_kept (c.pairMarked n code) 0x0006 OK n code 0
  obtain ⟨hfault, hlevel, hcount, hirq⟩ := c.pairMarked_reads (n := n) hcode
  have hget : ∀ f : Reg.Fld, f.addr ≠ Reg.HIF_NQ_TAIL → (c.pairEnter n code).get f = (c.pairMarked n code).get f :=
    fun f hf => congrArg (wbits · f.hi f.lo) (hregs f.addr hf)
  refine ⟨(hget _ ?_).trans hfault, (hget _ ?_).trans hlevel, (hget _ ?_).trans hcount, (hget _ (by decide)).trans hirq, _, hlog, rfl, rfl, rfl⟩
  all_goals
    simp only [Reg.CAP_PAIR_STAT_FAULT, Reg.CAP_PAIR_STAT_LEVEL, Reg.CAP_PAIR_STAT, Reg.CAP_PAIR_FCNT_COUNT, Reg.CAP_PAIR_FCNT, Reg.HIF_NQ_TAIL]
    omega

section
variable {s : State} {p : Pair}

/-- A line condition of kind `kind` is declared: the pair is enabled and its window is not 0 (R88, R12). -/
def LineDeclared (c : Chip) (n : Nat) (kind : LineFault) : Prop :=
  n < c.pairs ∧ c.unitHeld 69 = false ∧ c.pinsIdle = false ∧ c.get (Reg.CAP_PAIR_CFG_EN n) = 1 ∧
  ¬ ((kind = .open_ ∧ c.get Reg.CAP_CFG_OPEN_WIN = 0) ∨ (kind = .short ∧ c.get Reg.CAP_CFG_SHORT_WIN = 0))

theorem leaves_pairFault {kind : LineFault} (h : LineDeclared s.chip p.toNat kind) : Leaves (.pairFault p kind) s
    (if s.chip.get (Reg.CAP_PAIR_STAT_FAULT p.toNat) = 0 then s.chip.pairEnter p.toNat (lineCode kind)
      else if lineRank (lineCode kind) < lineRank (s.chip.get (Reg.CAP_PAIR_STAT_FAULT p.toNat)) then s.chip.put (Reg.CAP_PAIR_STAT_FAULT p.toNat) (lineCode kind)
      else s.chip) := by
  obtain ⟨hn, hheld, hidle, hen, hwin⟩ := h
  show execPairFault p kind s = _
  simp only [execPairFault, act, whilePins, whileRuns, hidle, hheld]
  rw [if_neg (by decide), if_neg (by decide), if_neg (by simp [hn, Chip.on, hen, hwin])]

theorem pairFaulted_of_line {kind : LineFault} (h : LineDeclared s.chip p.toNat kind) (hnone : s.chip.get (Reg.CAP_PAIR_STAT_FAULT p.toNat) = 0) :
    ∃ t, Leaves (.pairFault p kind) s t ∧ PairFaulted s.chip t p.toNat (lineCode kind) := by
  have hleaves := leaves_pairFault h
  rw [if_pos hnone] at hleaves
  exact ⟨_, hleaves, pairFaulted_pairEnter _ p.isLt (by cases kind <;> decide)⟩

/-- A polarity check that is under way on a pair without a fault (R90). -/
def CheckRuns (c : Chip) (n : Nat) : Prop :=
  n < c.pairs ∧ c.unitHeld 69 = false ∧ c.get (Reg.CAP_PAIR_CFG_EN n) = 1 ∧ c.get (Reg.CAP_PAIR_STAT_CHECKED n) = 0 ∧ c.get Reg.CAP_CFG_IDLE_WIN ≠ 0 ∧
  c.get (Reg.CAP_PAIR_STAT_FAULT n) = 0

/-- What a pair that showed the level opposite to IDLE comes to (R90). -/
def Chip.polarityOpposite (c : Chip) (n : Nat) : Chip :=
  if c.on (Reg.CAP_PAIR_CFG_POL_AUTO n) then
    ((c.set (Reg.CAP_PAIR_STAT_CHECKED n)).set (Reg.CAP_PAIR_STAT_INVERTED n)).put (Reg.CAP_PAIR_STAT_LEVEL n) (c.get (Reg.CAP_PAIR_CFG_IDLE n))
  else c.pairEnter n 5

theorem leaves_polarityCheckEnd (h : CheckRuns s.chip p.toNat) :
    Leaves (.polarityCheckEnd p .steadyIdle) s (s.chip.set (Reg.CAP_PAIR_STAT_CHECKED p.toNat)) ∧
    Leaves (.polarityCheckEnd p .steadyOpposite) s (s.chip.polarityOpposite p.toNat) ∧ Leaves (.polarityCheckEnd p .edge) s s.chip := by
  obtain ⟨hn, hheld, hen, hchecked, hwin, hfault⟩ := h
  have hruns : ¬ (¬ p.toNat < s.chip.pairs ∨ ¬ s.chip.on (Reg.CAP_PAIR_CFG_EN p.toNat) = true ∨ s.chip.on (Reg.CAP_PAIR_STAT_CHECKED p.toNat) = true ∨
      s.chip.get Reg.CAP_CFG_IDLE_WIN = 0 ∨ s.chip.get (Reg.CAP_PAIR_STAT_FAULT p.toNat) ≠ 0) := by
    simp [hn, Chip.on, hen, hchecked, hwin, hfault]
  refine ⟨?_, ?_, ?_⟩
  · show execPolarityCheckEnd p .steadyIdle s = _
    simp only [execPolarityCheckEnd, act, whileRuns, hheld]
    rw [if_neg (by decide), if_neg hruns]
  · show execPolarityCheckEnd p .steadyOpposite s = _
    simp only [execPolarityCheckEnd, act, whileRuns, hheld]
    rw [if_neg (by decide), if_neg hruns]
    rfl
  · show execPolarityCheckEnd p .edge s = _
    simp only [execPolarityCheckEnd, act, whileRuns, hheld]
    rw [if_neg (by decide), if_neg hruns]

theorem leaves_pairFaultRelease (level : Bool) (hn : p.toNat < s.chip.pairs) (hheld : s.chip.unitHeld 69 = false)
    (hfault : s.chip.get (Reg.CAP_PAIR_STAT_FAULT p.toNat) ≠ 0) : Leaves (.pairFaultRelease p level) s
      ((s.chip.put (Reg.CAP_PAIR_STAT_FAULT p.toNat) 0).put (Reg.CAP_PAIR_STAT_LEVEL p.toNat) level.toNat) := by
  show execPairFaultRelease p level s = _
  simp only [execPairFaultRelease, act, whileRuns, hheld]
  rw [if_neg (by decide), if_pos ⟨hn, hfault⟩]

end

section
variable (c : Chip) (n : Nat)

theorem Chip.polarityInverted_reads :
    let t := ((c.set (Reg.CAP_PAIR_STAT_CHECKED n)).set (Reg.CAP_PAIR_STAT_INVERTED n)).put (Reg.CAP_PAIR_STAT_LEVEL n) (c.get (Reg.CAP_PAIR_CFG_IDLE n))
    t.get (Reg.CAP_PAIR_STAT_CHECKED n) = 1 ∧ t.get (Reg.CAP_PAIR_STAT_INVERTED n) = 1 ∧ OnlyRegs c t (· = Reg.CAP_PAIR_STAT n) := by
  refine ⟨?_, ?_, ((OnlyRegs.set _ _ (· = Reg.CAP_PAIR_STAT n) rfl).trans (.set _ _ _ rfl)).trans (.put _ _ _ _ rfl)⟩
  · rw [Chip.get_put_apart _ _ _ _ (by simp [Reg.Fld.apart, Reg.CAP_PAIR_STAT_LEVEL, Reg.CAP_PAIR_STAT_CHECKED]), Chip.set,
      Chip.get_put_apart _ _ _ _ (by simp [Reg.Fld.apart, Reg.CAP_PAIR_STAT_INVERTED, Reg.CAP_PAIR_STAT_CHECKED])]
    exact Chip.get_put_fits _ _ _ rfl
  · rw [Chip.get_put_apart _ _ _ _ (by simp [Reg.Fld.apart, Reg.CAP_PAIR_STAT_LEVEL, Reg.CAP_PAIR_STAT_INVERTED])]
    exact Chip.get_put_fits _ _ _ rfl

theorem Chip.pairReleased_reads (level : Bool) :
    let t := (c.put (Reg.CAP_PAIR_STAT_FAULT n) 0).put (Reg.CAP_PAIR_STAT_LEVEL n) level.toNat
    t.get (Reg.CAP_PAIR_STAT_FAULT n) = 0 ∧ t.get (Reg.CAP_PAIR_STAT_LEVEL n) = level.toNat ∧ OnlyRegs c t (· = Reg.CAP_PAIR_STAT n) := by
  refine ⟨?_, Chip.get_put_fits _ _ _ (by cases level <;> rfl), (OnlyRegs.put _ _ _ (· = Reg.CAP_PAIR_STAT n) rfl).trans (.put _ _ _ _ rfl)⟩
  rw [Chip.get_put_apart _ _ _ _ (by simp [Reg.Fld.apart, Reg.CAP_PAIR_STAT_LEVEL, Reg.CAP_PAIR_STAT_FAULT])]
  exact Chip.get_put_fits _ _ _ rfl

theorem Chip.pairEnabled_reads :
    let t := ((c.set (Reg.CAP_PAIR_CFG_EN n)).clr (Reg.CAP_PAIR_STAT_CHECKED n)).clr (Reg.CAP_PAIR_STAT_INVERTED n)
    t.get (Reg.CAP_PAIR_CFG_EN n) = 1 ∧ t.get (Reg.CAP_PAIR_STAT_CHECKED n) = 0 ∧ t.get (Reg.CAP_PAIR_STAT_INVERTED n) = 0 ∧
      OnlyRegs c t (fun a => a = Reg.CAP_PAIR_CFG n ∨ a = Reg.CAP_PAIR_STAT n) := by
  have haddr : (Reg.CAP_PAIR_CFG_EN n).addr ≠ Reg.CAP_PAIR_STAT n := by simp only [Reg.CAP_PAIR_CFG_EN, Reg.CAP_PAIR_CFG, Reg.CAP_PAIR_STAT]; omega
  refine ⟨?_, ?_, Chip.get_put_fits _ _ _ rfl, ((OnlyRegs.set _ _ _ (.inl rfl)).trans (.clr _ _ _ (.inr rfl))).trans (.clr _ _ _ (.inr rfl))⟩
  · rw [Chip.clr, Chip.get_put_addr _ _ _ _ haddr, Chip.clr, Chip.get_put_addr _ _ _ _ haddr]
    exact Chip.get_put_fits _ _ _ rfl
  · rw [Chip.clr, Chip.get_put_apart _ _ _ _ (by simp [Reg.Fld.apart, Reg.CAP_PAIR_STAT_INVERTED, Reg.CAP_PAIR_STAT_CHECKED])]
    exact Chip.get_put_fits _ _ _ rfl

end

/-- CM_LOW stands first in the table of R88. -/
theorem lineRank_pos {code : Nat} (h : code ≠ 3) : 0 < lineRank code := by
  rw [lineRank, if_neg h]
  split_ifs <;> decide

theorem capturePairsHold : CapturePairsHold := by
  intro s p level c n hn hheld hidle
  refine ⟨fun hen hnone => ?_, fun hen hfault hlow => ?_, fun hfault => ?_, fun hoff => ?_⟩
  · refine ⟨pairFaulted_of_line ⟨hn, hheld, hidle, hen, by simp⟩ hnone, pairFaulted_of_line ⟨hn, hheld, hidle, hen, by simp⟩ hnone,
      fun hwin => pairFaulted_of_line ⟨hn, hheld, hidle, hen, by simpa using hwin⟩ hnone,
      fun hwin => pairFaulted_of_line ⟨hn, hheld, hidle, hen, by simpa using hwin⟩ hnone, fun hchecked hwin => ?_⟩
    obtain ⟨hsteady, hopposite, hedge⟩ := leaves_polarityCheckEnd (s := s) (p := p) ⟨hn, hheld, hen, hchecked, hwin, hnone⟩
    refine ⟨⟨_, hsteady, Chip.get_put_same _ _ _ (by simp [Reg.CAP_PAIR_STAT_CHECKED]) (by simp [Reg.CAP_PAIR_STAT_CHECKED]), .set _ _ _ rfl⟩, fun hauto => ?_, fun hauto => ?_, hedge⟩
    · rw [Chip.polarityOpposite, if_pos (Chip.on_iff.mpr hauto)] at hopposite
      obtain ⟨hch, hinv, honly⟩ := c.polarityInverted_reads n
      exact ⟨_, hopposite, hch, hinv, honly⟩
    · rw [Chip.polarityOpposite, if_neg (fun hon => by rw [Chip.on_iff.mp hon] at hauto; exact absurd hauto (by decide))] at hopposite
      exact ⟨_, hopposite, pairFaulted_pairEnter _ p.isLt (by decide)⟩
  · have hleaves := leaves_pairFault (s := s) (p := p) (kind := .cmLow) ⟨hn, hheld, hidle, hen, by simp⟩
    rw [if_neg hfault, show lineRank (lineCode .cmLow) = 0 from rfl, if_pos (lineRank_pos hlow)] at hleaves
    exact ⟨_, hleaves, Chip.get_put_fits _ _ _ rfl, .put _ _ _ _ rfl⟩
  · exact ⟨_, leaves_pairFaultRelease level hn hheld hfault, c.pairReleased_reads n level⟩
  · have hex : exec (.capPairEnable p) s = act (·.pairEnable n) s := rfl
    exact ⟨_, leaves_of_act hex (if_pos ⟨hn, hoff⟩), c.pairEnabled_reads n⟩

/-- Settles O30: a capture's event, the channel's configuration, and the pairs. -/
theorem captures : Obligations.Captures := ⟨captureEventsHold, captureConfigurationHold, capturePairsHold⟩

end Sys2Proof.Machine
end

section
/-! SUPPORT. Instructions that complete with other registers changed or wait, operations of a program on sync objects (O14). -/

namespace Sys2Proof.Machine

/-! ## Fields of an R-format word -/

theorem toNat_rWord (op : Nat) (d a b : BitVec 5) (f : BitVec 11) :
    (rWord op d a b f).toNat = (((op % 64 * 32 + d.toNat) * 32 + a.toNat) * 32 + b.toNat) * 2048 + f.toNat := by
  have hd := d.isLt; have ha := a.isLt; have hb := b.isLt; have hf := f.isLt
  simp only [rWord, BitVec.toNat_append, BitVec.toNat_ofNat]
  rw [← Nat.shiftLeft_add_eq_or_of_lt hd, ← Nat.shiftLeft_add_eq_or_of_lt ha, ← Nat.shiftLeft_add_eq_or_of_lt hb,
    ← Nat.shiftLeft_add_eq_or_of_lt hf]
  simp only [Nat.shiftLeft_eq]

/-- The fields of an R-format word are its parts. -/
theorem rWord_fields (op : Nat) (d a b : BitVec 5) (f : BitVec 11) :
    fD (rWord op d a b f) = d.toNat ∧ fA (rWord op d a b f) = a.toNat ∧ fB (rWord op d a b f) = b.toNat ∧ fF (rWord op d a b f) = f.toNat := by
  have hd := d.isLt; have ha := a.isLt; have hb := b.isLt; have hf := f.isLt
  simp only [fD, fA, fB, fF, wbits, BitVec.toNat_ushiftRight, toNat_rWord, Nat.shiftRight_eq_div_pow]
  refine ⟨?_, ?_, ?_, ?_⟩ <;> omega

/-- The bits of a word above the lowest `n` are 0 exactly where the word fits in `n` bits. -/
theorem wbits_top_eq_zero_iff (w : Word) (n : Nat) (hn : n < 32) : wbits w 31 n = 0 ↔ w.toNat < 2 ^ n := by
  have hw : w.toNat < 2 ^ n * 2 ^ (32 - n) := by rw [← Nat.pow_add, show n + (32 - n) = 32 by omega]; exact w.isLt
  rw [wbits, BitVec.toNat_ushiftRight, Nat.shiftRight_eq_div_pow, Nat.mod_eq_of_lt (Nat.div_lt_of_lt_mul hw),
    Nat.div_eq_zero_iff_lt (Nat.two_pow_pos n)]

/-! ## How an instruction that a core issues ends -/

section
variable {ins : Instr} {s : State} {i : Nat} {w : Word} {sem : Sem}

/-- An issued instruction whose meaning completes, and leaves CORE_PC, CORE_STAT and the mark of a STEP of its slot, completes in
sequence. -/
theorem inSequence_of_kept {c1 : Chip} {P : Nat → Prop} (hex : exec ins s = act (·.runInstr i w sem) s) (free : Free s.chip i w)
    (hsem : sem s.chip (s.chip.pcore i) i w = .done c1) (hkept : RegsKept s.chip c1 P)
    (hpc : ¬ P (Reg.CORE_PC (s.chip.pcore i))) (hstat : ¬ P (Reg.CORE_STAT (s.chip.pcore i)))
    (hstep : (c1.core (s.chip.pcore i)).stepping = (s.chip.core (s.chip.pcore i)).stepping) :
    InSequence ins s (s.chip.pcore i) c1 := by
  have hget : ∀ f : Reg.Fld, ¬ P f.addr → c1.get f = s.chip.get f := fun f hf => by rw [Chip.get, Chip.get, hkept _ hf]
  have hpc' : c1.pc (s.chip.pcore i) = s.chip.pc (s.chip.pcore i) := hget _ hpc
  have hlive : c1.seqLive (s.chip.pcore i) = true := by
    rw [← free.1.live, Chip.seqLive, Chip.seqLive, Chip.seqState, Chip.seqState, hget (Reg.CORE_STAT_STATE _) hstat]
  obtain ⟨h1, h2, h3, h4, h5⟩ := Chip.settle_done c1 (s.chip.pcore i) (s.chip.pc (s.chip.pcore i)) hlive (hstep.trans free.2)
  refine ⟨_, ?_, ?_, h2, h3, ?_, h5⟩
  · rw [Leaves, hex, act, Chip.runInstr_issues _ _ _ _ free.1, hsem]
  · simpa only [seqPc, pcPlus4, hpc'] using h1
  · rw [h4, hpc']

/-- An issued instruction whose meaning waits with the effect `c1` leaves `c1` with the sequencer waiting. -/
theorem leaves_of_stall {c1 : Chip} (hex : exec ins s = act (·.runInstr i w sem) s) (free : Free s.chip i w)
    (hsem : sem s.chip (s.chip.pcore i) i w = .stall c1) : Leaves ins s (c1.setSeqState (s.chip.pcore i) 2) := by
  rw [Leaves, hex, act, Chip.runInstr_issues _ _ _ _ free.1, hsem]
  rfl

theorem Chip.seqState_setSeqState (c : Chip) (p v : Nat) (h : v < 4) : (c.setSeqState p v).seqState p = v :=
  Chip.get_put_fits _ _ _ (by simpa [Reg.CORE_STAT_STATE] using h)

/-- An issued instruction whose meaning waits without an effect waits. -/
theorem waits_of_stall (hex : exec ins s = act (·.runInstr i w sem) s) (free : Free s.chip i w)
    (hsem : sem s.chip (s.chip.pcore i) i w = .stall s.chip) : Waits ins s (s.chip.pcore i) :=
  ⟨_, leaves_of_stall hex free hsem, Chip.seqState_setSeqState _ _ _ (by decide), OnlyRegs.put _ _ _ _ rfl⟩

/-- An issued instruction whose meaning is ILLEGAL raises it with the word in CORE_EINFO. -/
theorem traps_of_illegal (hex : exec ins s = act (·.runInstr i w sem) s) (free : Free s.chip i w)
    (hsem : sem s.chip (s.chip.pcore i) i w = illegal s.chip w) (takes : TakesExceptions s.chip (s.chip.pcore i)) :
    Traps ins s (s.chip.pcore i) ILLEGAL w 0 := by
  have h := traps_of_trap hex free hsem (by decide) (by decide) takes
  rwa [BitVec.ofNat_toNat, BitVec.setWidth_eq] at h

end

theorem Chip.core_modCore_same (c : Chip) (p : Nat) (f : Core → Core) : (c.modCore p f).core p = f (c.core p) :=
  Chip.core_setCore_same _ _ _

theorem Chip.setReg_stepping (c : Chip) (p r : Nat) (v : Word) : ((c.setReg p r v).core p).stepping = (c.core p).stepping := by
  simp [Chip.setReg, Chip.core_modCore_same]

theorem not_pmonOf_pc (p : Nat) : ¬ PmonOf p (Reg.CORE_PC p) := by simp only [PmonOf, Reg.CORE_PC]; omega
theorem not_pmonOf_stat (p : Nat) : ¬ PmonOf p (Reg.CORE_STAT p) := by simp only [PmonOf, Reg.CORE_STAT]; omega

/-! ## SOP (R173, R224) -/

/-- The object that gA names as core × 8 + object. -/
theorem objectOf (n j : Nat) (hn : n < 1024) (hj : j < 8) :
    wbits (BitVec.ofNat 32 (n * 8 + j)) 31 13 = 0 ∧ (BitVec.ofNat 32 (n * 8 + j)).toNat / 8 = n ∧ (BitVec.ofNat 32 (n * 8 + j)).toNat % 8 = j := by
  have h : (BitVec.ofNat 32 (n * 8 + j)).toNat = n * 8 + j := by rw [BitVec.toNat_ofNat]; omega
  refine ⟨(wbits_top_eq_zero_iff _ _ (by decide)).mpr (by omega), by omega, by omega⟩

/-- SOP on an object of the core itself. -/
theorem semSop_own {c : Chip} {p i j : Nat} {d a b : BitVec 5} {f : BitVec 11} (hj : j < 8) (hi : i < 1024) (hf : f.toNat < 3)
    (hobj : c.greg p a.toNat = BitVec.ofNat 32 (i * 8 + j)) :
    semSop c p i (rWord 0x23 d a b f) =
      .done (((c.tallyCore p 0x24).syncOp p j f.toNat (c.greg p b.toNat).toNat).setReg p d.toNat (BitVec.ofNat 32 OK)) := by
  obtain ⟨hd, ha, hb, hff⟩ := rWord_fields 0x23 d a b f
  obtain ⟨hres, hcore, hnum⟩ := objectOf i j hi hj
  have hop : f.toNat % 4 = f.toNat := Nat.mod_eq_of_lt (by omega)
  have hlegal : ¬ (f.toNat = 3 ∨ f.toNat / 4 ≠ 0 ∨ wbits (BitVec.ofNat 32 (i * 8 + j)) 31 13 ≠ 0) := by
    rw [hres]; omega
  simp only [semSop, withStatus, hd, ha, hb, hff, hobj, hop, if_neg hlegal, hcore, hnum, if_pos]

/-- An operation on an object that is no BARRIER changes its value alone. -/
theorem Chip.syncOp_plain {c : Chip} {p j op x : Nat} (hop : op < 3) (hty : c.syncType p j ≠ 1) :
    c.syncOp p j op x = c.setSyncValue p j (syncNext (c.syncType p j) op (c.syncValue p j) x) := by
  have htype : ∀ v, (c.setSyncValue p j v).syncType p j = c.syncType p j := fun v =>
    (OnlyRegs.setSyncValue c p j v).get _ (by simp [Reg.SYNC_CFG_TYPE, Reg.SYNC_CFG, Reg.SYNC_VALUE])
  rw [Chip.syncOp, if_neg (by omega)]
  simp only [htype, if_neg hty, syncNext]

/-- R173, R224: SOP on an object of the core itself. -/
theorem sopInSequence {s : State} {i : CoreId} {d a b : BitVec 5} {f : BitVec 11} {j : Nat} (hj : j < 8) (hf : f.toNat < 3)
    (hobj : s.chip.greg (s.chip.pcore i.toNat) a.toNat = BitVec.ofNat 32 (i.toNat * 8 + j))
    (hty : s.chip.syncType (s.chip.pcore i.toNat) j ≠ 1) (free : Free s.chip i.toNat (rWord 0x23 d a b f)) :
    let p := s.chip.pcore i.toNat
    ∃ c1, InSequence (.sop i d a b f) s p c1 ∧
      c1.syncValue p j = syncNext (s.chip.syncType p j) f.toNat (s.chip.syncValue p j) (s.chip.greg p b.toNat).toNat ∧
      c1.core p = (s.chip.core p).setReg d.toNat 0 ∧ RegsKept s.chip c1 (fun y => y = Reg.SYNC_VALUE p j ∨ PmonOf p y) := by
  intro p
  let c := s.chip
  let c0 := c.tallyCore p 0x24
  let x := (c.greg p b.toNat).toNat
  have tally : OnlyRegs c c0 (PmonOf p) := OnlyRegs.tallyCore c p 0x24 1 _ fun _ h => h
  have htype : c0.syncType p j = c.syncType p j := tally.get _ (by simp only [PmonOf, Reg.SYNC_CFG_TYPE, Reg.SYNC_CFG]; omega)
  have hval : c0.syncValue p j = c.syncValue p j := by
    rw [Chip.syncValue, Chip.syncValue, tally.2 _ (by simp only [PmonOf, Reg.SYNC_VALUE]; omega)]
  have hplain := Chip.syncOp_plain (x := x) hf (c := c0) (by rwa [htype])
  have op : OnlyRegs c0 (c0.syncOp p j f.toNat x) (· = Reg.SYNC_VALUE p j) := by rw [hplain]; exact OnlyRegs.setSyncValue _ _ _ _
  have both : OnlyRegs c (c0.syncOp p j f.toNat x) (fun y => y = Reg.SYNC_VALUE p j ∨ PmonOf p y) :=
    (tally.mono fun _ h => .inr h).trans (op.mono fun _ h => .inl h)
  have hpc : ¬ (Reg.CORE_PC p = Reg.SYNC_VALUE p j ∨ PmonOf p (Reg.CORE_PC p)) := by
    simp only [PmonOf, Reg.CORE_PC, Reg.SYNC_VALUE]; omega
  have hstat : ¬ (Reg.CORE_STAT p = Reg.SYNC_VALUE p j ∨ PmonOf p (Reg.CORE_STAT p)) := by
    simp only [PmonOf, Reg.CORE_STAT, Reg.SYNC_VALUE]; omega
  have hcore : ((c0.syncOp p j f.toNat x).setReg p d.toNat (BitVec.ofNat 32 OK)).core p = (c.core p).setReg d.toNat 0 := by
    rw [Chip.setReg, Chip.core_modCore_same, both.core]; rfl
  refine ⟨_, inSequence_of_kept rfl free (semSop_own hj i.isLt hf hobj) both.2 hpc hstat ?_, ?_, hcore, both.2⟩
  · rw [hcore, Core.setReg_stepping]
  · show (c0.syncOp p j f.toNat x).syncValue p j = _
    rw [hplain, Chip.syncValue_setSyncValue, htype, hval]
    exact Nat.mod_eq_of_lt (Nat.mod_lt _ (by decide))

/-! ## SWAIT (R174, R225) -/

/-- Consumption changes the object's value and SAT alone. -/
theorem OnlyRegs.consume (c : Chip) (p j : Nat) : OnlyRegs c (c.consume p j) (SyncRegs p j) := by
  have value : ∀ v, OnlyRegs c (c.setSyncValue p j v) (SyncRegs p j) := fun v => OnlyRegs.wr _ _ _ _ (.inl rfl)
  unfold Chip.consume
  dsimp only
  split
  · exact OnlyRegs.ite (value _) (OnlyRegs.refl _ _)
  · exact OnlyRegs.clr _ _ _ (.inr rfl)
  · exact OnlyRegs.ite (value _) (OnlyRegs.refl _ _)
  · exact OnlyRegs.refl _ _

section
variable {c : Chip} {p i j : Nat} {d a : BitVec 5}

theorem semSwait_satisfied (hj : j < 8) (h : c.satisfied p j = true) :
    semSwait c p i (rWord 0x24 d a 0 (BitVec.ofNat 11 j)) =
      .done (((c.consume p j).setReg p d.toNat (c.rd (Reg.SYNC_VALUE p j))).setReg p a.toNat 0) := by
  obtain ⟨hd, ha, -, hf⟩ := rWord_fields 0x24 d a 0 (BitVec.ofNat 11 j)
  have hnum : (BitVec.ofNat 11 j).toNat = j := by rw [BitVec.toNat_ofNat]; omega
  have hmod : j % 8 = j := Nat.mod_eq_of_lt hj
  have hlegal : ¬ j / 128 ≠ 0 := by omega
  simp only [semSwait, hd, ha, hf, hnum, hmod, h, if_neg hlegal, if_true, Chip.syncValue, BitVec.ofNat_toNat, BitVec.setWidth_eq]

theorem semSwait_unsatisfied (hj : j < 8) (h : c.satisfied p j = false) :
    semSwait c p i (rWord 0x24 d a 0 (BitVec.ofNat 11 j)) = .stall c := by
  obtain ⟨-, -, -, hf⟩ := rWord_fields 0x24 d a 0 (BitVec.ofNat 11 j)
  have hnum : (BitVec.ofNat 11 j).toNat = j := by rw [BitVec.toNat_ofNat]; omega
  have hmod : j % 8 = j := Nat.mod_eq_of_lt hj
  have hlegal : ¬ j / 128 ≠ 0 := by omega
  have hlimit : bit j 3 = false := by
    rw [bit, Nat.div_eq_of_lt (by simpa using hj)]; rfl
  simp only [semSwait, hf, hnum, hmod, h, if_neg hlegal, hlimit, Bool.false_and, Bool.false_eq_true, if_false]

end

theorem swaitInSequence {s : State} {i : CoreId} {d a : BitVec 5} {j : Nat} (hj : j < 8)
    (free : Free s.chip i.toNat (rWord 0x24 d a 0 (BitVec.ofNat 11 j))) (h : s.chip.satisfied (s.chip.pcore i.toNat) j = true) :
    let p := s.chip.pcore i.toNat
    InSequence (.swait i d a 0 (BitVec.ofNat 11 j)) s p
      (((s.chip.consume p j).setReg p d.toNat (s.chip.rd (Reg.SYNC_VALUE p j))).setReg p a.toNat 0) := by
  intro p
  have kept := OnlyRegs.consume s.chip p j
  refine inSequence_of_kept (P := SyncRegs p j) rfl free (semSwait_satisfied hj h) kept.2 ?_ ?_ ?_
  · simp only [SyncRegs, p, Reg.CORE_PC, Reg.SYNC_VALUE, Reg.SYNC_STAT]; omega
  · simp only [SyncRegs, p, Reg.CORE_STAT, Reg.SYNC_VALUE, Reg.SYNC_STAT]; omega
  · rw [Chip.setReg_stepping, Chip.setReg_stepping, kept.core]

/-! ## WFE (R175) -/

section
variable {s : State} {i : CoreId} {d a b : BitVec 5} {f : BitVec 11}

/-- What WFE does, by its mask and the sources of it that are ready. -/
theorem semWfe_eq (c : Chip) (p j : Nat) :
    semWfe c p j (rWord 0x25 d a b f) =
      if c.greg p a.toNat = 0 then illegal c (rWord 0x25 d a b f)
      else if c.greg p a.toNat &&& BitVec.ofNat 32 (c.readyMask p j) = 0 then .stall c
      else if (c.greg p a.toNat).toNat < 2 ^ 13 then .done (c.setReg p d.toNat (c.greg p a.toNat &&& BitVec.ofNat 32 (c.readyMask p j)))
      else illegal c (rWord 0x25 d a b f) := by
  obtain ⟨hd, ha, -, -⟩ := rWord_fields 0x25 d a b f
  simp only [semWfe, hd, ha, ne_eq, wbits_top_eq_zero_iff _ 13 (by decide), ite_not]

theorem wfeHolds (free : Free s.chip i.toNat (rWord 0x25 d a b f)) :
    let p := s.chip.pcore i.toNat
    let m := s.chip.greg p a.toNat
    let r := m &&& BitVec.ofNat 32 (s.chip.readyMask p i.toNat)
    (m = 0 ∨ (r ≠ 0 ∧ 2 ^ 13 ≤ m.toNat) → TakesExceptions s.chip p → Traps (.wfe i d a b f) s p ILLEGAL (rWord 0x25 d a b f) 0) ∧
    (m ≠ 0 → r = 0 → Waits (.wfe i d a b f) s p) ∧
    (m.toNat < 2 ^ 13 → r ≠ 0 → InSequence (.wfe i d a b f) s p (s.chip.setReg p d.toNat r)) := by
  intro p m r
  have hsem := semWfe_eq (d := d) (a := a) (b := b) (f := f) s.chip p i.toNat
  refine ⟨fun hbad takes => traps_of_illegal rfl free ?_ takes, fun hm hr => waits_of_stall rfl free ?_, fun hm hr => ?_⟩
  · rcases hbad with hm | ⟨hr, hm⟩
    · rw [hsem, if_pos hm]
    · rw [hsem, if_neg (c := r = 0) hr, if_neg (Nat.not_lt.mpr hm), ite_self]
  · rw [hsem, if_neg hm, if_pos hr]
  · have hm0 : m ≠ 0 := fun h => hr (by simp [r, h])
    have hdone : semWfe s.chip p i.toNat (rWord 0x25 d a b f) = .done (s.chip.setReg p d.toNat r) := by
      rw [hsem, if_neg hm0, if_neg hr, if_pos hm]
    exact inSequence_of_done rfl free hdone rfl (Chip.setReg_stepping _ _ _ _)

end

theorem syncInstructionsHold : SyncInstructionsHold := by
  intro s i d a b f j p m hj
  refine ⟨fun hf hobj hty free => sopInSequence hj hf hobj hty free, fun free => ⟨swaitInSequence hj free, fun h => ?_⟩, fun free => wfeHolds free⟩
  exact waits_of_stall rfl free (semSwait_unsatisfied hj h)

end Sys2Proof.Machine
end

section
/-! SUPPORT. Passes of the matrix unit and events that a program starts (O14). -/

namespace Sys2Proof.Machine

/-! ## MXPASS (R32, R131, R176, R177) -/

/-- The registers that reading weight slices of slot `p` may change: the event counters, and what a slice of a wrong format leaves. -/
def SliceRegs (p a : Nat) : Prop := PmonOf p a ∨ a = Reg.MX_FMT_ERR p ∨ a = Reg.MX_STAT p

theorem OnlyRegs.readSlice (c : Chip) (p addr : Nat) (w8 : Bool) : OnlyRegs c (c.readSlice p addr w8).1 (SliceRegs p) := by
  have tally : ∀ (d : Chip) (src : Nat), OnlyRegs d (d.tallyCore p src) (SliceRegs p) := fun d src => OnlyRegs.tallyCore d p src 1 _ fun _ h => .inl h
  unfold Chip.readSlice
  dsimp only
  have read := (tally c 0x14).trans (OnlyRegs.ite (q := addr / 64 = (addr + sliceSize w8 - 1) / 64) (OnlyRegs.refl _ _) (tally _ 0x15))
  generalize (if addr / 64 = (addr + sliceSize w8 - 1) / 64 then c.tallyCore p 0x14 else (c.tallyCore p 0x14).tallyCore p 0x15) = d at read ⊢
  split
  · exact (read.trans (OnlyRegs.bump _ _ 1 _ (.inr (.inl rfl)))).trans (OnlyRegs.set _ _ _ (.inr (.inr rfl)))
  · exact read

theorem OnlyRegs.denseSlices (c : Chip) (p : Nat) (m : MxArgs) (base blocks : Nat) (w8 : Bool) (k n : Nat) :
    OnlyRegs c (c.denseSlices p m base blocks w8 k n).1 (SliceRegs p) := by
  induction n generalizing c k with
  | zero => exact OnlyRegs.refl _ _
  | succ n ih => exact (OnlyRegs.readSlice c p _ w8).trans (ih _ _)

/-- A sum over slices has as many lanes as it started with, where every step takes an activation for each. -/
theorem Chip.denseSum_length (c : Chip) (l acts stride : Nat) (acc : List (List Int)) (k : Nat) (ws : List (List Int)) (h : acc.length = l) :
    (c.denseSum l acts stride acc k ws).length = l := by
  induction ws generalizing acc k with
  | nil => exact h
  | cons w ws ih =>
    refine ih _ _ ?_
    simp only [accStep, List.length_zipWith, h, Chip.activations, Chip.rdBytes, List.length_map, Memory.readBytes_length, Nat.min_self]

section
variable {c : Chip} {p i : Nat} {d a b : BitVec 5}

/-- What MXPASS without FUNCT does, by what stands in its way. -/
theorem semMxpass_eq :
    semMxpass c p i (rWord 0x28 d a b 0) =
      if (c.core p).slice then .stall (c.modCore p (fun k => { k with mxWait := some (c.pc p) }))
      else if c.mxStalls p i then .stall c
      else if wbits (c.greg p a.toNat) 15 14 ≠ 0 ∨ wbits (c.greg p b.toNat) 31 16 ≠ 0 ∨ wbits (c.greg p d.toNat) 31 19 ≠ 0 then
        illegal c (rWord 0x28 d a b 0)
      else
        let m : MxArgs := MxArgs.mk (wbits (c.greg p a.toNat) 4 0) (wbits (c.greg p a.toNat) 13 5) (wbits (c.greg p a.toNat) 31 16)
          (wbits (c.greg p b.toNat) 15 0) (wbits (c.greg p d.toNat) 18 0) false
        if c.mxOk p i m then .done (c.mxStart p i m) else .trap c MXCFG (rWord 0x28 d a b 0).toNat 0 := by
  obtain ⟨hd, ha, hb, hf⟩ := rWord_fields 0x28 d a b 0
  have h0 : (0 : BitVec 11).toNat / 2 = 0 := rfl
  have hgang : bit (0 : BitVec 11).toNat 0 = false := rfl
  simp only [semMxpass, hd, ha, hb, hf, h0, hgang, ne_eq, not_true_eq_false, if_false]

/-- With operands whose reserved bits are 0 and nothing in its way, MXPASS starts its pass or raises MXCFG. -/
theorem semMxpass_clear (hstall : c.mxStalls p i = false) (hslice : (c.core p).slice = false) (ha : wbits (c.greg p a.toNat) 15 14 = 0)
    (hb : (c.greg p b.toNat).toNat < 2 ^ 16) (hd : (c.greg p d.toNat).toNat < 2 ^ 19) :
    semMxpass c p i (rWord 0x28 d a b 0) =
      let m : MxArgs := MxArgs.mk (wbits (c.greg p a.toNat) 4 0) (wbits (c.greg p a.toNat) 13 5) (wbits (c.greg p a.toNat) 31 16)
          (wbits (c.greg p b.toNat) 15 0) (wbits (c.greg p d.toNat) 18 0) false
      if c.mxOk p i m then .done (c.mxStart p i m) else .trap c MXCFG (rWord 0x28 d a b 0).toNat 0 := by
  have hb' := (wbits_top_eq_zero_iff _ 16 (by decide)).mpr hb
  have hd' := (wbits_top_eq_zero_iff _ 19 (by decide)).mpr hd
  simp only [semMxpass_eq, hstall, hslice, ha, hb', hd', ne_eq, not_true_eq_false, or_self, if_false, Bool.false_eq_true]

/-- A pass of one core, started: what stands in its matrix unit, and the registers its slices may have changed. -/
theorem Chip.mxStart_spec (c : Chip) (p i : Nat) (m : MxArgs) (hg : m.gang = false) :
    ∃ x : MxPass, (c.mxStart p i m).core p = { c.core p with mx := some x } ∧ x.gang = false ∧ x.pop = c.rangePop p m.range ∧ x.block = m.block ∧
      x.lane = 0 ∧ x.next = 0 ∧ x.heldEv = none ∧ x.owner = i ∧ x.desc = c.popDesc p x.pop ∧ x.acc.length = c.lanes p ∧
      (c.mxStart p i m).mem = c.mem ∧ RegsKept c (c.mxStart p i m) (SliceRegs p) := by
  let blocks := blocksOf (c.get (Reg.NE_POP_RANGE_COUNT p (c.rangePop p m.range)))
  let d := ((c.tallyCore p 0x1D m.steps).denseSlices p m (c.rangeBase p m.range) blocks (c.rangeW8 p m.range) 0 m.steps)
  have tally : OnlyRegs c (c.tallyCore p 0x1D m.steps) (SliceRegs p) := OnlyRegs.tallyCore c p 0x1D _ _ fun _ h => .inl h
  have kept : OnlyRegs c d.1 (SliceRegs p) := tally.trans (OnlyRegs.denseSlices _ p m _ _ _ 0 _)
  have hlanes : (c.tallyCore p 0x1D m.steps).lanes p = c.lanes p :=
    congrArg (2 ^ ·) (tally.get _ (by simp only [SliceRegs, PmonOf, Reg.NE_CFG_LANES, Reg.NE_CFG, Reg.MX_FMT_ERR, Reg.MX_STAT]; omega))
  have hpop : c.rangePop p m.range < 16 := Chip.get_lt c _
  have hdesc : d.1.popDesc p (c.rangePop p m.range) = c.popDesc p (c.rangePop p m.range) := by
    refine List.map_congr_left fun k hk => kept.2 _ ?_
    have hk := List.mem_range.mp hk
    simp only [SliceRegs, PmonOf, Reg.NE_POP_RANGE, Reg.MX_FMT_ERR, Reg.MX_STAT]
    omega
  have hstart : c.mxStart p i m = d.1.beginPass p false (c.rangePop p m.range) m.block i
      (d.1.denseSum (c.lanes p) (slotMem p (stateOff + m.area)) (c.lanes p) (accZero (c.lanes p)) 0 d.2) := by
    simp only [Chip.mxStart, hg, Bool.false_eq_true, if_false, hlanes, d, blocks]
  rw [hstart, Chip.beginPass, Chip.core_modCore_same, kept.core]
  exact ⟨_, rfl, rfl, rfl, rfl, rfl, rfl, rfl, rfl, hdesc, Chip.denseSum_length _ _ _ _ _ _ _ (List.length_replicate ..), kept.mem, kept.2⟩

end

section
variable {s : State} {i : CoreId} {d a b : BitVec 5}

/-- MXPASS behind a Dune slice waits, and its slot grants no further slice before it (R32). -/
theorem mxpassBehindSlice (free : Free s.chip i.toNat (rWord 0x28 d a b 0)) (hslice : (s.chip.core (s.chip.pcore i.toNat)).slice = true) :
    let p := s.chip.pcore i.toNat
    ∃ t, Leaves (.mxpass i d a b 0) s t ∧ t.core p = { s.chip.core p with mxWait := some (s.chip.pc p) } ∧ t.seqState p = 2 ∧
      t.matrixIdle p = false ∧ t.mem = s.chip.mem := by
  intro p
  let c1 := s.chip.modCore p (fun k => { k with mxWait := some (s.chip.pc p) })
  have hcore : (c1.setSeqState p 2).core p = { s.chip.core p with mxWait := some (s.chip.pc p) } :=
    Chip.core_modCore_same s.chip p (fun k => { k with mxWait := some (s.chip.pc p) })
  have hsem : semMxpass s.chip p i.toNat (rWord 0x28 d a b 0) = .stall c1 := by rw [semMxpass_eq, if_pos hslice]
  refine ⟨_, leaves_of_stall rfl free hsem, hcore, Chip.seqState_setSeqState _ _ _ (by decide), ?_, rfl⟩
  rw [Chip.matrixIdle]
  simp only [hcore, p, hslice, Bool.not_true, Bool.and_false]

/-- A pass that R177 admits is started, in sequence. -/
theorem mxpassStarts {m : MxArgs} (free : Free s.chip i.toNat (rWord 0x28 d a b 0)) (hg : m.gang = false)
    (hsem : semMxpass s.chip (s.chip.pcore i.toNat) i.toNat (rWord 0x28 d a b 0) = .done (s.chip.mxStart (s.chip.pcore i.toNat) i.toNat m)) :
    let p := s.chip.pcore i.toNat
    ∃ c1 x, InSequence (.mxpass i d a b 0) s p c1 ∧ c1.core p = { s.chip.core p with mx := some x } ∧ x.gang = false ∧
      x.pop = s.chip.rangePop p m.range ∧ x.block = m.block ∧ x.lane = 0 ∧ x.next = 0 ∧ x.heldEv = none ∧ x.owner = i.toNat ∧
      x.desc = s.chip.popDesc p x.pop ∧ x.acc.length = s.chip.lanes p ∧ c1.mem = s.chip.mem := by
  intro p
  obtain ⟨x, hcore, h1, h2, h3, h4, h5, h6, h7, h8, h9, hmem, hkept⟩ := s.chip.mxStart_spec p i.toNat m hg
  refine ⟨_, x, inSequence_of_kept rfl free hsem hkept ?_ ?_ (by rw [hcore]), hcore, h1, h2, h3, h4, h5, h6, h7, h8, h9, hmem⟩
  · simp only [SliceRegs, PmonOf, Reg.CORE_PC, Reg.MX_FMT_ERR, Reg.MX_STAT, p]; omega
  · simp only [SliceRegs, PmonOf, Reg.CORE_STAT, Reg.MX_FMT_ERR, Reg.MX_STAT, p]; omega

end

/-! ## EVSEND (R179) -/

/-- The event enters the queue that goes to the fabric. -/
def Chip.routed (c : Chip) (p : Nat) (ev : DWord) : Chip := c.modCore p (fun k => { k with outq := k.outq ++ [ev] })

/-- The event enters the queue that comes back to the core. -/
def Chip.looped (c : Chip) (p : Nat) (ev : DWord) : Chip :=
  c.modCore p (fun k => { k with loopq := k.loopq ++ [{ ev := ev, age := k.age, served := [] }], age := k.age + 1 })

theorem Chip.emitTo_eq (c : Chip) (p dest : Nat) (ev : DWord) (h : dest ≠ 0) :
    c.emitTo p dest ev =
      (let d := if dest % 2 = 1 then c.routed p ev else c
       if dest / 2 = 1 then (d.looped p ev).tallyCore p 0x11 else d).tallyCore p 0x18 := by
  rw [Chip.emitTo, if_neg h]
  rfl

/-- An event enters the queues `dest` names; besides, only the event counters of the slot differ. -/
theorem Chip.emitTo_spec (c : Chip) (p dest : Nat) (ev : DWord) (h1 : 1 ≤ dest) (h3 : dest ≤ 3) :
    let k := c.core p
    let t := c.emitTo p dest ev
    (t.core p).outq = k.outq ++ (if dest % 2 = 1 then [ev] else []) ∧
    (t.core p).loopq.map (·.ev) = k.loopq.map (·.ev) ++ (if 2 ≤ dest then [ev] else []) ∧
    { t.core p with outq := k.outq, loopq := k.loopq, age := k.age } = k ∧ RegsKept c t (PmonOf p) := by
  intro k t
  have tally : ∀ (d : Chip) (src : Nat), OnlyRegs d (d.tallyCore p src) (PmonOf p) := fun d src => OnlyRegs.tallyCore d p src 1 _ fun _ h => h
  have routed : ∀ d : Chip, (d.routed p ev).core p = { d.core p with outq := (d.core p).outq ++ [ev] } := fun _ => Chip.core_modCore_same _ _ _
  have looped : ∀ d : Chip, (d.looped p ev).core p =
      { d.core p with loopq := (d.core p).loopq ++ [{ ev := ev, age := (d.core p).age, served := [] }], age := (d.core p).age + 1 } :=
    fun _ => Chip.core_modCore_same _ _ _
  have hdest : (dest % 2 = 1 ∧ dest / 2 = 0) ∨ (dest % 2 = 0 ∧ dest / 2 = 1) ∨ (dest % 2 = 1 ∧ dest / 2 = 1) := by omega
  have ht : t = _ := Chip.emitTo_eq c p dest ev (by omega)
  rcases hdest with ⟨hr, hl⟩ | ⟨hr, hl⟩ | ⟨hr, hl⟩
  · have e : t = (c.routed p ev).tallyCore p 0x18 := by rw [ht, hr, hl]; rfl
    have hcore : t.core p = { k with outq := k.outq ++ [ev] } := by rw [e, (tally _ _).core, routed]
    rw [hcore, hr, if_neg (show ¬ 2 ≤ dest by omega), e]
    exact ⟨rfl, (List.append_nil _).symm, rfl, (tally (c.routed p ev) _).2⟩
  · have e : t = ((c.looped p ev).tallyCore p 0x11).tallyCore p 0x18 := by rw [ht, hr, hl]; rfl
    have hcore := (tally _ 0x18).core (c := (c.looped p ev).tallyCore p 0x11) p
    rw [← e, (tally _ _).core, looped] at hcore
    rw [hcore, hr, if_pos (show 2 ≤ dest by omega), e]
    exact ⟨(List.append_nil _).symm, List.map_append, rfl, (tally (c.looped p ev) _).2.trans (tally _ _).2⟩
  · have e : t = (((c.routed p ev).looped p ev).tallyCore p 0x11).tallyCore p 0x18 := by rw [ht, hr, hl]; rfl
    have hcore := (tally _ 0x18).core (c := ((c.routed p ev).looped p ev).tallyCore p 0x11) p
    rw [← e, (tally _ _).core, looped, routed] at hcore
    rw [hcore, hr, if_pos (show 2 ≤ dest by omega), e]
    exact ⟨rfl, List.map_append, rfl, (tally ((c.routed p ev).looped p ev) _).2.trans (tally _ _).2⟩

section
variable {c : Chip} {p i dest : Nat} {a b : BitVec 5}

/-- What EVSEND to `dest` does, by the room in the queues and the operand gB. -/
theorem semEvsend_eq (h1 : 1 ≤ dest) (h3 : dest ≤ 3) :
    semEvsend c p i (rWord 0x2A 0 a b (BitVec.ofNat 11 dest)) =
      if !(c.core p).emitRoom dest then .stall c
      else if wbits (c.greg p b.toNat) 31 13 ≠ 0 ∨ c.lanes p ≤ wbits (c.greg p b.toNat) 12 8 then
        illegal c (rWord 0x2A 0 a b (BitVec.ofNat 11 dest))
      else .done (c.emitTo p dest (mkEvent (c.greg p a.toNat) ((c.greg p b.toNat).extractLsb' 0 8) (wbits (c.greg p b.toNat) 12 8) (tagOf c.time))) := by
  obtain ⟨-, ha, hb, hf⟩ := rWord_fields 0x2A 0 a b (BitVec.ofNat 11 dest)
  have hnum : (BitVec.ofNat 11 dest).toNat = dest := by rw [BitVec.toNat_ofNat]; omega
  have hmod : dest % 4 = dest := by omega
  have hlegal : ¬ (dest / 4 ≠ 0 ∨ dest = 0) := by omega
  simp only [semEvsend, ha, hb, hf, hnum, hmod, if_neg hlegal]

end

theorem passesAndEventsHold : PassesAndEventsHold := by
  intro s i d a b dest p k ga gb gd args
  constructor
  · intro free
    have hword : BitVec.ofNat 32 (rWord 0x28 d a b 0).toNat = rWord 0x28 d a b 0 := by rw [BitVec.ofNat_toNat, BitVec.setWidth_eq]
    refine ⟨fun hslice hstall => ?_, fun hslice => mxpassBehindSlice free hslice, fun hstall hslice ha hb hd => ⟨fun hno takes => ?_, fun hok => ?_⟩⟩
    · have hsem : semMxpass s.chip p i.toNat (rWord 0x28 d a b 0) = .stall s.chip := by
        rw [semMxpass_eq, if_neg (ne_true_of_eq_false hslice), if_pos hstall]
      exact waits_of_stall rfl free hsem
    · have hsem : semMxpass s.chip p i.toNat (rWord 0x28 d a b 0) = .trap s.chip MXCFG (rWord 0x28 d a b 0).toNat 0 :=
        (semMxpass_clear hstall hslice ha hb hd).trans (if_neg (ne_true_of_eq_false hno))
      rw [← hword]
      exact traps_of_trap rfl free hsem (by decide) (by decide) takes
    · exact mxpassStarts (m := args) free rfl ((semMxpass_clear hstall hslice ha hb hd).trans (if_pos hok))
  · intro h1 h3 free ins ev
    refine ⟨fun hroom => ?_, fun hroom hb hlane => ?_⟩
    · have hsem : semEvsend s.chip p i.toNat (rWord 0x2A 0 a b (BitVec.ofNat 11 dest)) = .stall s.chip := by
        rw [semEvsend_eq h1 h3, if_pos (by rw [show s.chip.core p = k from rfl, hroom]; rfl)]
      exact waits_of_stall rfl free hsem
    · obtain ⟨hout, hloop, hrest, hkept⟩ := s.chip.emitTo_spec p dest ev h1 h3
      have hsem : semEvsend s.chip p i.toNat (rWord 0x2A 0 a b (BitVec.ofNat 11 dest)) = .done (s.chip.emitTo p dest ev) := by
        have hb' : wbits gb 31 13 = 0 := (wbits_top_eq_zero_iff _ 13 (by decide)).mpr hb
        have hlegal : ¬ (wbits gb 31 13 ≠ 0 ∨ s.chip.lanes p ≤ wbits gb 12 8) := by omega
        rw [semEvsend_eq h1 h3, if_neg (by rw [show s.chip.core p = k from rfl, hroom]; decide), if_neg hlegal]
      have hstep : ((s.chip.emitTo p dest ev).core p).stepping = k.stepping := by
        have := congrArg Core.stepping hrest
        exact this
      exact ⟨_, inSequence_of_kept rfl free hsem hkept (not_pmonOf_pc _) (not_pmonOf_stat _) hstep, hout, hloop, hrest, hkept⟩

/-- Settles O14: each instruction's meaning is read off its word, and its effect leaves CORE_PC and CORE_STAT to the sequencer. -/
theorem syncAndPassInstructions : Obligations.SyncAndPassInstructions := ⟨syncInstructionsHold, passesAndEventsHold⟩

end Sys2Proof.Machine
end

section
/-! SUPPORT. What the work around a fence leaves: registers below a bound, the fences that wait, the jobs, a test of rotation (O52). -/

namespace Sys2Proof.Machine

/-! ## The store of registers in order -/

theorem pairwise_smSet {l : SMap Word} (a : Nat) (w : Word) (h : l.Pairwise (fun x y => x.1 < y.1)) :
    (smSet l a w).Pairwise (fun x y => x.1 < y.1) := by
  have hmem : ∀ (l : SMap Word) (x : Nat × Word), x ∈ smSet l a w → x.1 = a ∨ x ∈ l := by
    intro l x hx
    induction l with
    | nil => simp only [smSet, List.mem_singleton] at hx; exact .inl (congrArg Prod.fst hx)
    | cons y t ih =>
      simp only [smSet] at hx
      split at hx
      · exact (List.mem_cons.mp hx).imp (congrArg Prod.fst) id
      · split at hx
        · exact (List.mem_cons.mp hx).imp (congrArg Prod.fst) (List.mem_cons_of_mem _)
        · rcases List.mem_cons.mp hx with rfl | hx
          · exact .inr (List.mem_cons_self ..)
          · exact (ih hx).imp id (List.mem_cons_of_mem _)
  induction l with
  | nil => exact List.pairwise_singleton _ _
  | cons y t ih =>
    obtain ⟨hy, ht⟩ := List.pairwise_cons.mp h
    simp only [smSet]
    split
    · rename_i hlt
      refine List.pairwise_cons.mpr ⟨fun x hx => ?_, h⟩
      rcases List.mem_cons.mp hx with rfl | hx
      · exact hlt
      · exact Nat.lt_trans hlt (hy x hx)
    · rename_i hge
      split
      · rename_i heq
        exact List.pairwise_cons.mpr ⟨fun x hx => heq ▸ hy x hx, ht⟩
      · rename_i hne
        refine List.pairwise_cons.mpr ⟨fun x hx => ?_, ih ht⟩
        rcases hmem t x hx with hx | hx
        · show y.1 < x.1
          omega
        · exact hy x hx

/-- The store of registers stands in rising order of addresses. -/
def Chip.Sorted (c : Chip) : Prop := c.regs.Pairwise (fun x y => x.1 < y.1)

theorem Chip.Sorted.wr {c : Chip} (h : c.Sorted) (a : Nat) (w : Word) : (c.wr a w).Sorted := by
  simp only [Chip.Sorted, Chip.wr]
  split
  · exact h.filter _
  · exact pairwise_smSet a w h

theorem Chip.Sorted.dropRegs {c : Chip} (h : c.Sorted) (p : Nat → Bool) : (c.dropRegs p).Sorted := h.filter _

theorem Chip.rd_dropRegs_other (c : Chip) (p : Nat → Bool) (a : Nat) (h : p a = false) : (c.dropRegs p).rd a = c.rd a := by
  simp only [Chip.rd, Chip.dropRegs, List.find?_filter]
  congr 1
  refine congrArg (fun q => List.find? q c.regs) (funext fun r => ?_)
  by_cases hr : r.1 = a <;> simp [hr, h]

theorem Chip.rd_dropRegs_dropped (c : Chip) (p : Nat → Bool) (a : Nat) (h : p a = true) : (c.dropRegs p).rd a = regReset a := by
  have hnone : (c.dropRegs p).regs.find? (·.1 == a) = none := by
    rw [List.find?_eq_none]
    intro r hr
    obtain ⟨-, hr⟩ := List.mem_filter.mp hr
    intro he
    rw [beq_iff_eq.mp he, h] at hr
    cases hr
  rw [Chip.rd, hnone]

/-! ## A Dune run that ends (R252) -/

/-- A Dune run is over, before its completion. -/
def Chip.duneOver (c : Chip) (status : Nat) : Chip :=
  let d := c.dune
  let c := c.releaseSlices.wrBytes d.resAddr (c.duneResult status)
  let c := ((c.duneState 0).put Reg.DUNE_STAT_LAST status).set Reg.DUNE_IRQ_STATUS_DONE
  let c := ((c.clr Reg.DUNE_STAT_ROT).clr Reg.DUNE_STAT_MULTI).pauseOver 2 0
  { c with dune := { Dune.idle with grants := d.grants }, fresh := if d.best.isNone then c.fresh + 1 else c.fresh }

theorem Chip.duneEnd_eq (c : Chip) (status : Nat) :
    c.duneEnd status =
      if c.dune.active = false then c
      else if (c.duneOver status).fwUp then (c.duneOver status).complete c.dune.origin 0x0038 status status 0
      else { c.duneOver status with fw := { (c.duneOver status).fw with broken := (c.duneOver status).fw.broken ++ [(c.dune.origin, 0x0038)] } } := rfl

/-! ## What stands -/

/-- Between `c` and `d` every register below `n` reads as before but those of the rotation test, whose phase 5 goes on; the store of
registers stays in order; the reset under way, the fences that wait, the starts that wait and the jobs are the same. -/
structure Stands (n : Nat) (c d : Chip) : Prop where
  beyond : 0x20010 ≤ n
  regs : ∀ a, a < n → a ≠ Reg.DMAP_ROT_STAT → a ≠ Reg.DMAP_ROT_CNT → d.rd a = c.rd a
  tested : c.rotPhase = 5 → d.rotPhase = 5
  sorted : c.Sorted → d.Sorted
  rst : d.rst = c.rst
  fences : d.fw.fences = c.fw.fences
  reloads : d.fw.reloads = c.fw.reloads
  jobs : d.fw.jobs = c.fw.jobs

namespace Stands

theorem refl {n : Nat} (c : Chip) (hn : 0x20010 ≤ n) : Stands n c c := ⟨hn, fun _ _ _ _ => rfl, id, id, rfl, rfl, rfl, rfl⟩

theorem trans {n : Nat} {c d e : Chip} (h : Stands n c d) (h' : Stands n d e) : Stands n c e :=
  ⟨h.beyond, fun a ha hs hc => (h'.regs a ha hs hc).trans (h.regs a ha hs hc), h'.tested ∘ h.tested, h'.sorted ∘ h.sorted, h'.rst.trans h.rst,
   h'.fences.trans h.fences, h'.reloads.trans h.reloads, h'.jobs.trans h.jobs⟩

theorem get {n : Nat} {c d : Chip} (h : Stands n c d) (f : Reg.Fld) (hf : f.addr < n) (hs : f.addr ≠ Reg.DMAP_ROT_STAT) (hc : f.addr ≠ Reg.DMAP_ROT_CNT) :
    d.get f = c.get f := by rw [Chip.get, Chip.get, h.regs _ hf hs hc]

section
variable {n : Nat} {c d : Chip} (h : Stands n c d)
include h

/-- A change outside the registers, the reset under way and what firmware keeps of fences and jobs. -/
theorem same (e : Chip) (hregs : e.regs = d.regs := by rfl) (hrst : e.rst = d.rst := by rfl) (hf : e.fw.fences = d.fw.fences := by rfl)
    (hr : e.fw.reloads = d.fw.reloads := by rfl) (hj : e.fw.jobs = d.fw.jobs := by rfl) : Stands n c e :=
  h.trans ⟨h.beyond, fun a _ _ _ => Chip.rd_congr d e hregs a, fun hp => (Chip.get_congr d e hregs _).trans hp,
    fun hs => by rw [Chip.Sorted, hregs]; exact hs, hrst, hf, hr, hj⟩

theorem wr {a : Nat} (w : Word) (ha : n ≤ a) : Stands n c (d.wr a w) := by
  have hb := h.beyond
  refine h.trans ⟨hb, fun x hx _ _ => Chip.rd_wr_other _ _ _ _ (by omega), fun hp => ?_, fun hs => hs.wr a w, rfl, rfl, rfl, rfl⟩
  rw [Chip.rotPhase, Chip.get_wr_other _ _ _ _ (by simp only [Reg.DMAP_ROT_STAT_PHASE, Reg.DMAP_ROT_STAT]; omega)]
  exact hp

theorem put {f : Reg.Fld} (v : Nat) (ha : n ≤ f.addr) : Stands n c (d.put f v) := h.wr _ ha
theorem set {f : Reg.Fld} (ha : n ≤ f.addr) : Stands n c (d.set f) := h.wr _ ha
theorem clr {f : Reg.Fld} (ha : n ≤ f.addr) : Stands n c (d.clr f) := h.wr _ ha
theorem bump {f : Reg.Fld} (k : Nat) (ha : n ≤ f.addr) : Stands n c (d.bump f k) := h.wr _ ha

theorem dropRegs {p : Nat → Bool} (hp : ∀ a, a < n → p a = false) : Stands n c (d.dropRegs p) := by
  have hb := h.beyond
  have hother : ∀ a, a < n → (d.dropRegs p).rd a = d.rd a := fun a ha => Chip.rd_dropRegs_other _ _ _ (hp a ha)
  refine h.trans ⟨hb, fun x hx _ _ => hother x hx, fun hp' => ?_, fun hs => hs.dropRegs p, rfl, rfl, rfl, rfl⟩
  rw [Chip.rotPhase, Chip.get, hother _ (by simp only [Reg.DMAP_ROT_STAT_PHASE, Reg.DMAP_ROT_STAT]; omega)]
  exact hp'

theorem modCore (s : Nat) (f : Core → Core) : Stands n c (d.modCore s f) := h.same _
theorem setCore (s : Nat) (k : Core) : Stands n c (d.setCore s k) := h.same _
theorem wrMem (a k v : Nat) : Stands n c (d.wrMem a k v) := h.same _
theorem wrBytes (a : Nat) (bs : List Byte) : Stands n c (d.wrBytes a bs) := h.same _
theorem setRing (k : Nat) (r : Ring) : Stands n c (d.setRing k r) := h.same _
theorem logged (code subject detail : Nat) (sticky : Bool) : Stands n c (d.logged code subject detail sticky) := h.same _

theorem msix (v : Nat) : Stands n c (d.msix v) := by
  unfold Chip.msix
  split <;> exact h.same _

theorem msixIf (q : Prop) [Decidable q] (v : Nat) : Stands n c (if q then d.msix v else d) := by
  split
  · exact h.msix v
  · exact h

theorem ite {e : Chip} {q : Prop} [Decidable q] (h' : Stands n c e) : Stands n c (if q then d else e) := by
  split <;> assumption

theorem foldl {α : Type} {f : Chip → α → Chip} (hf : ∀ {d} x, Stands n c d → Stands n c (f d x)) (l : List α) : Stands n c (l.foldl f d) := by
  induction l generalizing d with
  | nil => exact h
  | cons x t ih => exact ih (hf x h)

/-- What only changes routers. -/
theorem routers {e : Chip} (he : { e with routers := d.routers } = d) : Stands n c e := by
  have hregs := congrArg Chip.regs he
  have hrst := congrArg Chip.rst he
  have hfw := congrArg Chip.fw he
  exact h.same e hregs hrst (congrArg Fw.fences hfw) (congrArg Fw.reloads hfw) (congrArg Fw.jobs hfw)

/-- A step of rotation that is abandoned was not in its test (R373). -/
theorem rotAbandon (hp : d.rotPhase ≠ 5) : Stands n c d.rotAbandon := by
  have hb := h.beyond
  have hregs : OnlyRegs d ((d.bump Reg.DMAP_ROT_CNT_ABANDONED).put Reg.DMAP_ROT_STAT_PHASE 0) (fun a => a = Reg.DMAP_ROT_STAT ∨ a = Reg.DMAP_ROT_CNT) :=
    (OnlyRegs.bump _ _ _ _ (.inr rfl)).trans (OnlyRegs.put _ _ _ _ (.inl rfl))
  refine h.trans ⟨hb, fun a _ hs hc => ?_, fun h5 => absurd h5 hp, fun hs => (hs.wr _ _).wr _ _, rfl, rfl, rfl, rfl⟩
  exact hregs.2 a fun ha => ha.elim hs hc

theorem rotLoses (p : Nat → Bool) : Stands n c (d.rotLoses p) := by
  unfold Chip.rotLoses
  dsimp only
  split
  · rename_i hph
    exact h.rotAbandon fun (h5 : d.get Reg.DMAP_ROT_STAT_PHASE = 5) => by omega
  · exact h

/-! ### Reports and the ends of commands -/

theorem writeNotice (x : Notice) (hn : n ≤ 0x2000000) : Stands n c (d.writeNotice x) := by
  unfold Chip.writeNotice
  dsimp only
  split
  · exact h.same _
  · split
    · exact h.same _
    · exact (((h.wrBytes _ _).same _).put _ (by simp only [Reg.HIF_NQ_TAIL_TAIL, Reg.HIF_NQ_TAIL]; omega)).msixIf _ 0

theorem notify (code status subject arg0 arg1 : Nat) (hn : n ≤ 0x2000000) : Stands n c (d.notify code status subject arg0 arg1) := by
  unfold Chip.notify
  dsimp only
  split
  · exact (h.logged _ _ _ _).writeNotice _ hn
  · exact h.same _

theorem mbxReply (k major minor status : Nat) (payload : List Byte) (hn : n ≤ 0x2000000) : Stands n c (d.mbxReply k major minor status payload) := by
  unfold Chip.mbxReply
  dsimp only
  exact (((((((h.wrMem _ _ _).wrMem _ _ _).wrMem _ _ _).wrMem _ _ _).wrMem _ _ _).wrBytes _ payload).wr _
    (by simp only [Reg.MBX_STATE]; omega)).msixIf _ 0

theorem cqSignal (k : Nat) : Stands n c (d.cqSignal k) := by
  unfold Chip.cqSignal
  exact Stands.ite ((h.setRing k _).msix _) h

theorem cqPush (k kind status w4 w8 wc w10 : Nat) (hn : n ≤ 0x2000000) : Stands n c (d.cqPush k kind status w4 w8 wc w10) := by
  exact (((h.wrBytes _ _).put _ (by simp only [Reg.RING_MIRROR_CQ_TAIL, Reg.RING_MIRROR]; omega)).setRing k _).cqSignal k

theorem complete (o : Origin) (code status r0 r1 : Nat) (hn : n ≤ 0x2000000) : Stands n c (d.complete o code status r0 r1) := by
  cases o with
  | mailbox k => exact h.mbxReply _ _ _ _ _ hn
  | ring k tag => exact (h.setRing _ _).cqPush _ _ _ _ _ _ _ hn
  | internal => exact h

theorem pauseOver (kind id : Nat) (hn : n ≤ 0x2000000) : Stands n c (d.pauseOver kind id) := by
  unfold Chip.pauseOver
  dsimp only
  refine Stands.foldl (h.same _) (fun {d} r hd => ?_) _
  split
  · exact hd.complete _ _ _ _ _ hn
  · exact hd

/-! ### Queues that drain, halts, and what is written into a slot -/

theorem creditBack (k reader sender : Nat) (sb : Bool) (port count : Nat) (orphan : Bool) (wadi : Nat) :
    Stands n c (d.creditBack k reader sender sb port count orphan wadi) := h.routers (Chip.creditBack_rest _ _ _ _ _ _ _ _ _)

theorem drainQueue (s q : Nat) (hn : n ≤ 0x10000000) : Stands n c (d.drainQueue s q) := by
  unfold Chip.drainQueue
  refine Stands.foldl (((h.clr ?_).modCore s _).bump _ ?_) (fun t hd => hd.creditBack _ _ _ _ _ _ _ _) _
  · simp only [Reg.WADI_Q_STAT_STATE, Reg.WADI_Q_STAT, Reg.coreBase]; omega
  · simp only [Reg.WADI_Q_DISCARD_DRAINED, Reg.WADI_Q_DISCARD, Reg.coreBase]; omega

theorem drainQueues (s : Nat) (hn : n ≤ 0x10000000) : Stands n c (d.drainQueues s) := h.foldl (fun q hd => hd.drainQueue s q hn) _

theorem enterHalt (s hcause : Nat) (hn : n ≤ 0x10000000) : Stands n c (d.enterHalt s hcause) := by
  have hcore : n ≤ Reg.coreBase s := by simp only [Reg.coreBase]; omega
  have hstat : n ≤ Reg.CORE_STAT s := Nat.le_trans hcore (Nat.le_add_right _ _)
  have hbdp : n ≤ Reg.BDP_CORE_STAT s := Nat.le_trans hcore (Nat.le_add_right _ _)
  unfold Chip.enterHalt
  exact ((((((h.put _ hstat).put _ hstat).clr hstat).clr hbdp).clr hbdp).modCore s _).drainQueues s hn

theorem haltRequest (s : Nat) (report : Bool) (hn : n ≤ 0x2000000) : Stands n c (d.haltRequest s report) := by
  have halted := h.enterHalt s 3 (by omega)
  unfold Chip.haltRequest
  exact Stands.ite (Stands.ite (halted.notify _ _ _ _ _ hn) halted) h

theorem runRequest (s : Nat) (hn : n ≤ 0x10000000) : Stands n c (d.runRequest s) := by
  unfold Chip.runRequest
  exact Stands.ite (h.put _ (by simp only [Reg.CORE_STAT_STATE, Reg.CORE_STAT, Reg.coreBase]; omega)) h

theorem stopCore (s : Nat) (hn : n ≤ 0x10000000) : Stands n c (d.stopCore s) := by
  unfold Chip.stopCore
  exact Stands.ite (h.enterHalt s 3 hn) h

theorem plainWrite (a : Nat) (v : Word) (locked : Bool) (ha : n ≤ a) : Stands n c (d.plainWrite a v locked) := by
  unfold Chip.plainWrite
  split
  · exact h
  · exact h.wr _ ha

theorem pmonCfgWrite (b scope : Nat) (v : Word) (hb : n ≤ b) : Stands n c (d.pmonCfgWrite b scope v) := by
  have hlow : n ≤ Reg.PMON_CNT_LO b := Nat.le_trans hb (Nat.le_add_right _ _)
  unfold Chip.pmonCfgWrite
  dsimp only
  split
  · exact (((h.wr _ hb).put _ hb).wr _ hlow).wr _ (Nat.le_trans hlow (Nat.le_add_right _ _))
  · exact (h.wr _ hb).put _ hb

theorem barrierCheck (s i : Nat) (hn : n ≤ 0x10000000) : Stands n c (d.barrierCheck s i) := by
  have hcore : n ≤ Reg.coreBase s := by simp only [Reg.coreBase]; omega
  have hval : n ≤ Reg.SYNC_VALUE s i := by simp only [Reg.SYNC_VALUE]; omega
  have hstat : n ≤ Reg.SYNC_STAT s i := by simp only [Reg.SYNC_STAT]; omega
  by_cases hfull : d.syncTarget s i ≠ 0 ∧ d.syncTarget s i ≤ d.syncValue s i
  · have hgen := (h.wr (0 : Word) hval).put (f := Reg.SYNC_STAT_GEN s i) (d.get (Reg.SYNC_STAT_GEN s i) + 1) hstat
    rw [Chip.barrierCheck_full hfull]
    exact (Stands.ite (hgen.put 1 hstat) hgen).put (f := Reg.SYNC_STAT_SAT s i) 1 hstat
  · rw [Chip.barrierCheck, if_neg hfull]
    exact h

theorem syncOp (s i op x : Nat) (hn : n ≤ 0x10000000) : Stands n c (d.syncOp s i op x) := by
  have hset : ∀ v, Stands n c (d.setSyncValue s i v) := fun v => h.wr _ (by simp only [Reg.SYNC_VALUE, Reg.coreBase]; omega)
  unfold Chip.syncOp
  exact Stands.ite h (Stands.ite ((hset _).barrierCheck s i hn) (hset _))

theorem sportCfgWrite (s port : Nat) (v : Word) (hn : n ≤ 0x10000000) : Stands n c (d.sportCfgWrite s port v) := by
  have hcfg : n ≤ Reg.WADI_SPORT_CFG s port := by simp only [Reg.WADI_SPORT_CFG, Reg.coreBase]; omega
  have hstat : n ≤ Reg.WADI_SPORT_STAT s port := by simp only [Reg.WADI_SPORT_STAT, Reg.coreBase]; omega
  unfold Chip.sportCfgWrite
  exact Stands.ite h (((h.wr _ hcfg).put _ hstat).clr hstat)

theorem alarmWrite (s i : Nat) (v : Word) (hn : n ≤ 0x10000000) : Stands n c (d.alarmWrite s i v) := by
  have ha : n ≤ Reg.SYNC_ALARM s i := by simp only [Reg.SYNC_ALARM, Reg.coreBase]; omega
  exact (h.put _ ha).put _ ha

theorem bdpWrite (s off : Nat) (v : Word) (hn : n ≤ 0x10000000) : Stands n c (d.bdpWrite s off v) := by
  have hcore : n ≤ Reg.coreBase s := by simp only [Reg.coreBase]; omega
  have hstat : n ≤ Reg.BDP_CORE_STAT s := Nat.le_trans hcore (Nat.le_add_right _ _)
  unfold Chip.bdpWrite
  dsimp only
  split
  · exact ((h.put _ hstat).put _ hstat).put _ hstat
  · split
    · exact h.wr _ (Nat.le_trans hcore (Nat.le_add_right _ _))
    · exact h

theorem neCfgWrite (s : Nat) (v : Word) (hn : n ≤ 0x10000000) : Stands n c (d.neCfgWrite s v) := by
  unfold Chip.neCfgWrite
  exact h.plainWrite _ _ _ (by simp only [Reg.NE_CFG, Reg.coreBase]; omega)

theorem writePc (s : Nat) (v : Word) (hn : n ≤ 0x10000000) : Stands n c (d.writePc s v) := by
  unfold Chip.writePc
  exact (h.wr _ (by simp only [Reg.CORE_PC, Reg.coreBase]; omega)).modCore s _

/-- A write to a core register changes no register below the core windows, but what its halt reports. -/
theorem coreRegWrite (s off : Nat) (v : Word) (who : Nat) (hn : n ≤ 0x2000000) : Stands n c (d.coreRegWrite s off v who) := by
  have hn' : n ≤ 0x10000000 := by omega
  have hcore : ∀ k, n ≤ Reg.coreBase s + k := fun k => by simp only [Reg.coreBase]; omega
  have plain : ∀ v l, Stands n c (d.plainWrite (Reg.coreBase s + off) v l) := fun v l => h.plainWrite _ v l (hcore off)
  have word : ∀ w, Stands n c (d.wr (Reg.coreBase s + off) w) := fun w => h.wr w (hcore off)
  have halted : Stands n c (if v.getLsbD 1 then d.haltRequest s true else d) := Stands.ite (h.haltRequest s true hn) h
  unfold Chip.coreRegWrite
  dsimp only
  refine Stands.ite (Stands.ite (h.pmonCfgWrite _ _ _ ?_) h) (Stands.ite ?_ (Stands.ite ?_ (Stands.ite (word _) ?_)))
  · simp only [Reg.pmonCore, Reg.coreBase]; omega
  · exact Stands.ite (halted.runRequest s hn') halted
  · exact Stands.ite (h.writePc s v hn') h
  refine Stands.ite (h.neCfgWrite s v hn') (Stands.ite (h.wrMem _ _ _) (Stands.ite (word _) ?_))
  refine Stands.ite (Stands.ite h (Stands.ite (h.sportCfgWrite s _ v hn') (plain _ _))) ?_
  have sync : ∀ i op x, Stands n c (d.syncOp s i op x) := fun i op x => h.syncOp s i op x hn'
  refine Stands.ite (Stands.ite (sync _ _ _) (Stands.ite (sync _ _ _) (Stands.ite ?_ (Stands.ite (h.alarmWrite s _ v hn') (plain _ _))))) ?_
  · exact Stands.ite (sync _ _ _) h
  · exact Stands.ite (Stands.ite (h.bdpWrite s off v hn') h) (plain _ _)

theorem coreWordsWrite (s off who : Nat) (bs : List Byte) (hn : n ≤ 0x2000000) : Stands n c (d.coreWordsWrite s off who bs) := by
  have words : Stands n c _ := h.foldl (fun i hd => hd.coreRegWrite s (off + 4 * i) (BitVec.ofNat 32 (bytesToNat ((bs.drop (4 * i)).take 4))) who hn)
    (List.range (bs.length / 4))
  unfold Chip.coreWordsWrite
  exact Stands.ite (words.rotLoses _) words

theorem putCore (s : Nat) (x : Section) (hn : n ≤ 0x2000000) : Stands n c (d.putCore s x) := by
  have stopped := h.stopCore s (by omega)
  unfold Chip.putCore
  exact Stands.ite (stopped.wrBytes _ _) (Stands.ite (h.wrBytes _ _) (Stands.ite (h.wrBytes _ _) (stopped.coreWordsWrite s _ _ _ hn)))

theorem blankSlot (s : Nat) (hn : n ≤ 0x10000000) : Stands n c (d.blankSlot s) := by
  unfold Chip.blankSlot
  refine Stands.setCore (Stands.dropRegs (h.same _) fun a ha => ?_) s _
  have : ¬ Reg.coreBase s ≤ a := by simp only [Reg.coreBase]; omega
  simp only [inCore, this, decide_false, Bool.false_and]

/-! ### The end of a Dune run (R252) -/

theorem releaseSlices : Stands n c d.releaseSlices := by
  unfold Chip.releaseSlices
  exact h.foldl (fun i hd => hd.modCore _ _) _

theorem duneOver (status : Nat) (hn : n ≤ 0x100000) : Stands n c (d.duneOver status) := by
  have hstat : n ≤ Reg.DUNE_STAT := by simp only [Reg.DUNE_STAT]; omega
  have hirq : n ≤ Reg.DUNE_IRQ_STATUS := by simp only [Reg.DUNE_IRQ_STATUS]; omega
  unfold Chip.duneOver Chip.duneState
  exact Stands.same (Stands.pauseOver ((((((h.releaseSlices.wrBytes _ _).put _ hstat).put _ hstat).set hirq).clr hstat).clr hstat) 2 0 (by omega)) _

theorem duneEnd (status : Nat) (hn : n ≤ 0x100000) : Stands n c (d.duneEnd status) := by
  have ended := h.duneOver status hn
  rw [Chip.duneEnd_eq]
  exact Stands.ite h (Stands.ite (ended.complete _ _ _ _ _ (by omega)) (ended.same _))

theorem duneLoses (p : Nat → Bool) (hn : n ≤ 0x100000) : Stands n c (d.duneLoses p) := by
  unfold Chip.duneLoses
  exact Stands.ite (h.duneEnd _ hn) h

theorem endGang (k : Nat) : Stands n c (d.endGang k) := h.foldl (fun _ hd => hd.modCore _ _) _

end

end Stands

end Sys2Proof.Machine
end

section
/-! SUPPORT. Fences set and lifted (O52). -/

namespace Sys2Proof.Machine

/-! ## What a run of operations keeps -/

/-- What every operation of a list keeps, the list keeps. -/
theorem foldl_kept {α β : Type} {f : Chip → α → Chip} (g : Chip → β) (h : ∀ d x, g (f d x) = g d) (l : List α) (c : Chip) : g (l.foldl f c) = g c := by
  induction l generalizing c with
  | nil => rfl
  | cons x t ih => exact (ih (f c x)).trans (h c x)

/-- The general registers of slot `q`'s program. -/
def Chip.programRegs (c : Chip) (q : Nat) : Vector Word 31 := (c.core q).g

theorem Chip.programRegs_of_cores {c d : Chip} (h : d.cores = c.cores) (q : Nat) : d.programRegs q = c.programRegs q := by
  rw [Chip.programRegs, Chip.programRegs, Chip.core, Chip.core, h]

theorem Chip.programRegs_modCore {c : Chip} {s : Nat} {f : Core → Core} (q : Nat) (hf : ∀ k, (f k).g = k.g := by intro; rfl) : (c.modCore s f).programRegs q = c.programRegs q := by
  by_cases hq : q = s
  · subst hq
    rw [Chip.programRegs, Chip.core_modCore_same]
    exact hf _
  · exact congrArg Core.g (Chip.core_setCore_other _ _ _ _ hq)

theorem Chip.cqSignal_cores (c : Chip) (k : Nat) : (c.cqSignal k).cores = c.cores := by
  unfold Chip.cqSignal
  dsimp only
  split
  · exact Chip.msix_cores _ _
  · rfl

theorem Chip.cqPush_cores (c : Chip) (k kind status w4 w8 wc w10 : Nat) : (c.cqPush k kind status w4 w8 wc w10).cores = c.cores :=
  Chip.cqSignal_cores _ k

theorem Chip.complete_cores (c : Chip) (o : Origin) (code status r0 r1 : Nat) : (c.complete o code status r0 r1).cores = c.cores := by
  cases o with
  | mailbox k => exact Chip.mbxReply_cores _ _ _ _ _ _
  | ring k tag => exact Chip.cqPush_cores _ _ _ _ _ _ _ _
  | internal => rfl

theorem Chip.pauseOver_cores (c : Chip) (kind id : Nat) : (c.pauseOver kind id).cores = c.cores := by
  unfold Chip.pauseOver
  refine (foldl_kept Chip.cores (fun d r => ?_) _ _).trans rfl
  split
  · exact Chip.complete_cores _ _ _ _ _ _
  · rfl

/-- The end of a Dune run leaves the general registers of every program. -/
theorem Chip.duneEnd_programRegs (c : Chip) (status q : Nat) : (c.duneEnd status).programRegs q = c.programRegs q := by
  have released : c.releaseSlices.programRegs q = c.programRegs q := by
    unfold Chip.releaseSlices
    refine foldl_kept (Chip.programRegs · q) (fun d i => ?_) _ _
    exact Chip.programRegs_modCore q
  have ended : (c.duneOver status).cores = c.releaseSlices.cores := Chip.pauseOver_cores _ _ _
  rw [Chip.duneEnd_eq]
  split
  · rfl
  · refine Eq.trans (Chip.programRegs_of_cores ?_ q) released
    split
    · exact (Chip.complete_cores _ _ _ _ _ _).trans ended
    · exact ended

theorem Chip.rotLoses_cores (c : Chip) (p : Nat → Bool) : (c.rotLoses p).cores = c.cores := by
  unfold Chip.rotLoses
  dsimp only
  split <;> rfl

theorem Chip.rotLoses_mem (c : Chip) (p : Nat → Bool) : (c.rotLoses p).mem = c.mem := by
  unfold Chip.rotLoses
  dsimp only
  split <;> rfl

/-! ## A fence (R412) -/

/-- The mark of a fence in RST_FENCED. -/
def Chip.fenceMark (c : Chip) (s : Nat) : Chip :=
  c.put (Reg.RST_FENCED_SLOTS (s / 32)) (c.get (Reg.RST_FENCED_SLOTS (s / 32)) ||| 2 ^ (s % 32))

/-- A fence of slot `s` before it resets the slot: a Dune run, a rotation step and a gang pass that need the slot are over. -/
def Chip.fenceEnds (c : Chip) (s : Nat) : Chip :=
  (((c.fenceMark s).duneLoses (fun i => (c.fenceMark s).pcore i == s)).rotLoses (· == s / 32)).endGang (s / 32)

/-- The registers of the slot that a fence writes, before the queues are DRAINED. -/
def Chip.fenceHeld (c : Chip) (s : Nat) : Chip :=
  ((((c.setCore s { Core.init with g := (c.core s).g }).put (Reg.CORE_STAT_STATE s) 3).put (Reg.BDP_CORE_STAT_DHALT s) 0).put
    (Reg.BDP_CORE_STAT_BPHIT s) 0).put (Reg.CORE_STAT_HOLD s) 0

/-- The addresses of the slot's WADI_Q_STAT. -/
def queueStats (s a : Nat) : Bool := (List.range 4).any (fun q => a == Reg.WADI_Q_STAT s q)

theorem queueStats_eq_false {s a : Nat} (h : ∀ q, q < 4 → a ≠ Reg.WADI_Q_STAT s q) : queueStats s a = false := by
  simpa [queueStats] using h

/-- The reset of a fenced slot. -/
def Chip.fenceSlot (c : Chip) (s : Nat) : Chip :=
  { (c.fenceHeld s).dropRegs (queueStats s) with
    rst := { c.rst with slots := c.rst.slots.filter (· != s) } }

theorem Chip.fence_eq (c : Chip) (s : Nat) : c.fence s = (c.fenceEnds s).fenceSlot s := rfl

theorem Chip.rd_withRst (c : Chip) (r : RstRun) (a : Nat) : ({ c with rst := r } : Chip).rd a = c.rd a := rfl

theorem Chip.fenceSlot_rd (c : Chip) (s a : Nat) (h : ∀ q, q < 4 → a ≠ Reg.WADI_Q_STAT s q) : (c.fenceSlot s).rd a = (c.fenceHeld s).rd a := by
  rw [Chip.fenceSlot, Chip.rd_withRst, Chip.rd_dropRegs_other _ _ _ (queueStats_eq_false h)]

theorem Reg.coreStat_ne_bdp (s : Nat) : Reg.CORE_STAT s ≠ Reg.BDP_CORE_STAT s := by
  simp only [Reg.CORE_STAT, Reg.BDP_CORE_STAT, Reg.coreBase]; omega

theorem Chip.fenceSlot_seqState (c : Chip) (s : Nat) : (c.fenceSlot s).seqState s = 3 := by
  have hne := Reg.coreStat_ne_bdp s
  rw [Chip.seqState, Chip.get, Chip.fenceSlot_rd c s _ fun q hq => by simp only [Reg.CORE_STAT_STATE, Reg.CORE_STAT, Reg.WADI_Q_STAT]; omega]
  rw [← Chip.get, Chip.fenceHeld, Chip.get_put_apart _ _ _ _ (by simp [Reg.Fld.apart, Reg.CORE_STAT_STATE, Reg.CORE_STAT_HOLD]),
    Chip.get_put_apart _ _ _ _ (by simp [Reg.Fld.apart, Reg.CORE_STAT_STATE, Reg.BDP_CORE_STAT_BPHIT]),
    Chip.get_put_apart _ _ _ _ (by simp [Reg.Fld.apart, Reg.CORE_STAT_STATE, Reg.BDP_CORE_STAT_DHALT, hne.symm]),
    Chip.get_put_fits _ _ _ (by simp [Reg.CORE_STAT_STATE])]

theorem Chip.fenceSlot_dhalted (c : Chip) (s : Nat) : (c.fenceSlot s).dhalted s = false := by
  have hne := Reg.coreStat_ne_bdp s
  rw [Chip.dhalted, Chip.on, Chip.get, Chip.fenceSlot_rd c s _ fun q hq => by simp only [Reg.BDP_CORE_STAT_DHALT, Reg.BDP_CORE_STAT, Reg.WADI_Q_STAT]; omega]
  rw [← Chip.get, Chip.fenceHeld, Chip.get_put_apart _ _ _ _ (by simp [Reg.Fld.apart, Reg.BDP_CORE_STAT_DHALT, Reg.CORE_STAT_HOLD]),
    Chip.get_put_apart _ _ _ _ (by simp [Reg.Fld.apart, Reg.BDP_CORE_STAT_DHALT, Reg.BDP_CORE_STAT_BPHIT]),
    Chip.get_put_fits _ _ _ (by simp [Reg.BDP_CORE_STAT_DHALT])]
  rfl

theorem Chip.fenceSlot_low (c : Chip) (s a : Nat) (ha : a < 0x10000000) : (c.fenceSlot s).rd a = c.rd a := by
  have hs : a ≠ Reg.CORE_STAT s := by simp only [Reg.CORE_STAT, Reg.coreBase]; omega
  have hb : a ≠ Reg.BDP_CORE_STAT s := by simp only [Reg.BDP_CORE_STAT, Reg.coreBase]; omega
  rw [Chip.fenceSlot_rd c s a fun q _ => by simp only [Reg.WADI_Q_STAT, Reg.coreBase]; omega]
  exact (Chip.rd_put_other _ (Reg.CORE_STAT_HOLD s) _ _ hs).trans ((Chip.rd_put_other _ (Reg.BDP_CORE_STAT_BPHIT s) _ _ hb).trans
    ((Chip.rd_put_other _ (Reg.BDP_CORE_STAT_DHALT s) _ _ hb).trans (Chip.rd_put_other _ (Reg.CORE_STAT_STATE s) _ _ hs)))

theorem Chip.fenceSlot_core (c : Chip) (s : Nat) : (c.fenceSlot s).core s = { Core.init with g := (c.core s).g } :=
  Chip.core_setCore_same c s _

theorem Chip.fenceSlot_mem (c : Chip) (s : Nat) : (c.fenceSlot s).mem = c.mem := rfl
theorem Chip.fenceSlot_fw (c : Chip) (s : Nat) : (c.fenceSlot s).fw = c.fw := rfl
theorem Chip.fenceSlot_slots (c : Chip) (s : Nat) : (c.fenceSlot s).rst.slots = c.rst.slots.filter (· != s) := rfl

/-- What a fence leaves before it resets the slot: below the cores' and the engines' registers only the slot's mark and the rotation test's differ. -/
theorem Stands.fenceEnds (c : Chip) (s : Nat) : Stands 0x100000 (c.fenceMark s) (c.fenceEnds s) :=
  (((Stands.refl _ (by decide)).duneLoses _ (by decide)).rotLoses _).endGang _

theorem Chip.fenceEnds_programRegs (c : Chip) (s q : Nat) : (c.fenceEnds s).programRegs q = c.programRegs q := by
  have gang : ∀ d k, (Chip.endGang d k).programRegs q = d.programRegs q := by
    intro d k
    refine foldl_kept (Chip.programRegs · q) (fun d i => Chip.programRegs_modCore q fun x => ?_) _ _
    split
    · split <;> rfl
    · rfl
  have dune : ∀ d p, (Chip.duneLoses d p).programRegs q = d.programRegs q := by
    intro d p
    unfold Chip.duneLoses
    split
    · exact Chip.duneEnd_programRegs _ _ _
    · rfl
  exact (gang _ _).trans ((Chip.programRegs_of_cores (Chip.rotLoses_cores _ _) q).trans (dune _ _))

theorem Chip.fenceEnds_mem (c : Chip) (s : Nat) (h : c.dune.active = false) : (c.fenceEnds s).mem = c.mem := by
  have gang : ∀ d k, (Chip.endGang d k).mem = d.mem := by
    intro d k
    unfold Chip.endGang
    refine foldl_kept Chip.mem (fun d x => ?_) _ _
    rfl
  have dune : (c.fenceMark s).duneLoses (fun i => (c.fenceMark s).pcore i == s) = c.fenceMark s := by
    rw [Chip.duneLoses, show (c.fenceMark s).dune.active = false from h]; rfl
  rw [Chip.fenceEnds, gang, Chip.rotLoses_mem, dune]
  rfl

/-- The bit of the slot in RST_FENCED once the mark is set. -/
theorem Chip.fenceMark_fenced (c : Chip) (s : Nat) (hs : s % 32 < 17) :
    (c.fenceMark s).get (Reg.RST_FENCED_SLOTS (s / 32)) = c.get (Reg.RST_FENCED_SLOTS (s / 32)) ||| 2 ^ (s % 32) := by
  have hlt : c.get (Reg.RST_FENCED_SLOTS (s / 32)) < 2 ^ 17 := Chip.get_lt _ _
  have hpow : 2 ^ (s % 32) < 2 ^ 17 := Nat.pow_lt_pow_right (by decide) hs
  exact Chip.get_put_fits _ _ _ (by simpa [Reg.RST_FENCED_SLOTS] using Nat.or_lt_two_pow hlt hpow)

theorem bit_eq_testBit (v i : Nat) : bit v i = v.testBit i := by
  rw [Nat.testBit_eq_decide_div_mod_eq, bit]
  rfl

/-- Below the engines' and the cores' registers a fence changes the slot's mark and the rotation test's registers alone. -/
theorem Chip.fence_low (c : Chip) (s a : Nat) (ha : a < 0x100000) (hs : a ≠ Reg.DMAP_ROT_STAT) (hc : a ≠ Reg.DMAP_ROT_CNT) :
    (c.fence s).rd a = (c.fenceMark s).rd a := by
  rw [Chip.fence_eq, Chip.fenceSlot_low _ _ _ (by omega), (Stands.fenceEnds c s).regs a ha hs hc]

theorem Chip.fence_fenced (c : Chip) (s : Nat) (hk : s / 32 < 64) (hs : s % 32 < 17) : (c.fence s).fenced s = true := by
  have hrd := Chip.fence_low c s (Reg.RST_FENCED (s / 32)) (by simp only [Reg.RST_FENCED]; omega)
    (by simp only [Reg.RST_FENCED, Reg.DMAP_ROT_STAT]; omega) (by simp only [Reg.RST_FENCED, Reg.DMAP_ROT_CNT]; omega)
  have hget : (c.fence s).get (Reg.RST_FENCED_SLOTS (s / 32)) = (c.fenceMark s).get (Reg.RST_FENCED_SLOTS (s / 32)) := by
    rw [Chip.get, Chip.get, Reg.RST_FENCED_SLOTS, hrd]
  rw [Chip.fenced, hget, Chip.fenceMark_fenced c s hs, bit_eq_testBit, Nat.testBit_or, Nat.testBit_two_pow_self, Bool.or_true]

/-- What a fence leaves (R412). -/
theorem Chip.fencedSlot_fence (c : Chip) (s : Nat) (hk : s / 32 < 64) (hs : s % 32 < 17) : FencedSlot c (c.fence s) s := by
  refine ⟨Chip.fence_fenced c s hk hs, ?_, ?_, ?_, ?_, fun h => ?_⟩ <;> rw [Chip.fence_eq]
  · exact Chip.fenceSlot_seqState _ _
  · have hregs : ((c.fenceEnds s).core s).g = (c.core s).g := Chip.fenceEnds_programRegs c s s
    rw [Chip.fenceSlot_core, hregs]
  · rw [Chip.fenceSlot_slots, (Stands.fenceEnds c s).rst]
    rfl
  · exact Chip.fenceSlot_dhalted _ _
  · rw [Chip.fenceSlot_mem, Chip.fenceEnds_mem c s h]

theorem Chip.fence_fences (c : Chip) (s : Nat) : (c.fence s).fw.fences = c.fw.fences := by
  rw [Chip.fence_eq, Chip.fenceSlot_fw, (Stands.fenceEnds c s).fences]
  rfl

theorem FencedSlot.withFw {c t : Chip} {s : Nat} (h : FencedSlot c t s) (w : Fw) : FencedSlot c { t with fw := w } s := h

/-- A fence that firmware has to follow up. -/
theorem Chip.fenceFor_spec {c : Chip} {s : Nat} (kind : Nat) (byCmd : Bool) (hk : s / 32 < 64) (hs : s % 32 < 17) (hfree : c.fenced s = false) :
    FencedSlot c (c.fenceFor s kind byCmd) s ∧ (c.fenceFor s kind byCmd).fw.fences = c.fw.fences ++ [(s, kind, byCmd)] ∧
    (c.fenceFor s kind byCmd).regs = (c.fence s).regs := by
  have hres : c.fenceFor s kind byCmd = { c.fence s with fw := { (c.fence s).fw with fences := (c.fence s).fw.fences ++ [(s, kind, byCmd)] } } := by
    rw [Chip.fenceFor, if_neg (ne_true_of_eq_false hfree)]
  rw [hres]
  exact ⟨FencedSlot.withFw (Chip.fencedSlot_fence c s hk hs) _, congrArg (· ++ [(s, kind, byCmd)]) (Chip.fence_fences c s), rfl⟩

/-- What a fence leaves, said of a block that differs before it in registers other than the slot's alone. -/
theorem FencedSlot.of_onlyRegs {c d t : Chip} {s : Nat} {P : Nat → Prop} (h : OnlyRegs c d P) (hf : FencedSlot d t s) : FencedSlot c t s := by
  obtain ⟨hfenced, hstate, hcore, hslots, hdhalt, hmem⟩ := hf
  have hdune : d.dune = c.dune := by rw [h.eq]
  have hrst : d.rst = c.rst := by rw [h.eq]
  exact ⟨hfenced, hstate, by rw [hcore, h.core], by rw [hslots, hrst], hdhalt, fun hd => (hmem (by rw [hdune]; exact hd)).trans h.mem⟩

/-! ## Uncorrectable errors (R412, R415) -/

theorem Chip.clusters_le (c : Chip) : c.clusters ≤ 64 := by
  unfold Chip.clusters
  split
  · decide
  · split <;> decide

/-- The error, counted where it is one of bonded memory. -/
def Chip.eccCounted (c : Chip) (k : Nat) (bonded : Bool) : Chip := if bonded then c.bump (Reg.RST_SRAM_ECC_UNCORR k) else c

theorem OnlyRegs.eccCounted (c : Chip) (k : Nat) (bonded : Bool) : OnlyRegs c (c.eccCounted k bonded) (· = Reg.RST_SRAM_ECC k) :=
  OnlyRegs.ite (OnlyRegs.bump _ _ _ _ rfl) (OnlyRegs.refl _ _)

theorem Chip.eccCounted_count (c : Chip) (k : Nat) (bonded : Bool) :
    (c.eccCounted k bonded).get (Reg.RST_SRAM_ECC_UNCORR k) = counted c (Reg.RST_SRAM_ECC_UNCORR k) bonded.toNat := by
  have hlt : c.get (Reg.RST_SRAM_ECC_UNCORR k) < 2 ^ 16 := Chip.get_lt _ _
  cases bonded with
  | true => exact Chip.get_bump _ _ _ (by simp [Reg.RST_SRAM_ECC_UNCORR])
  | false =>
    show c.get _ = min (c.get _ + 0) (2 ^ 16 - 1)
    omega

section
variable {s : State} {p : PCore} {bonded : Bool}

/-- What an uncorrectable error of an existing slot does. -/
theorem leaves_sramUncorrectable (h : p.toNat / 32 < s.chip.clusters ∧ p.toNat % 32 < 17) {t : Chip}
    (ht : (if (s.chip.eccCounted (p.toNat / 32) bonded).on Reg.RST_CFG_AUTOFENCE ∧ (s.chip.eccCounted (p.toNat / 32) bonded).fenced p.toNat = false then
      ((s.chip.eccCounted (p.toNat / 32) bonded).set Reg.RST_IRQ_STATUS_AUTOFENCE).fenceFor p.toNat 6 false else s.chip.eccCounted (p.toNat / 32) bonded) = t) :
    Leaves (.sramUncorrectable p bonded) s t :=
  leaves_of_act rfl ((if_pos h).trans ht)

theorem Chip.eccCounted_auto (c : Chip) (k : Nat) (bonded : Bool) : (c.eccCounted k bonded).on Reg.RST_CFG_AUTOFENCE = c.on Reg.RST_CFG_AUTOFENCE := by
  rw [Chip.on, Chip.on, (OnlyRegs.eccCounted c k bonded).get _ (by simp only [Reg.RST_CFG_AUTOFENCE, Reg.RST_CFG, Reg.RST_SRAM_ECC]; omega)]

theorem Chip.eccCounted_fenced (c : Chip) (k : Nat) (bonded : Bool) (n : Nat) : (c.eccCounted k bonded).fenced n = c.fenced n := by
  rw [Chip.fenced, Chip.fenced, (OnlyRegs.eccCounted c k bonded).get _ (by simp only [Reg.RST_FENCED_SLOTS, Reg.RST_FENCED, Reg.RST_SRAM_ECC]; omega)]

/-- AUTOFENCE fences the slot of the error. -/
theorem Chip.autofence_spec {c : Chip} {n : Nat} (bonded : Bool) (hk : n / 32 < 64) (hs : n % 32 < 17) (hfree : c.fenced n = false) :
    let t := ((c.eccCounted (n / 32) bonded).set Reg.RST_IRQ_STATUS_AUTOFENCE).fenceFor n 6 false
    t.get (Reg.RST_SRAM_ECC_UNCORR (n / 32)) = counted c (Reg.RST_SRAM_ECC_UNCORR (n / 32)) bonded.toNat ∧ t.get Reg.RST_IRQ_STATUS_AUTOFENCE = 1 ∧
    FencedSlot c t n ∧ t.fw.fences = c.fw.fences ++ [(n, 6, false)] := by
  intro t
  let d := (c.eccCounted (n / 32) bonded).set Reg.RST_IRQ_STATUS_AUTOFENCE
  have hset : OnlyRegs (c.eccCounted (n / 32) bonded) d (· = Reg.RST_IRQ_STATUS) := OnlyRegs.set _ _ _ rfl
  have hregs : OnlyRegs c d (fun _ => True) := ((OnlyRegs.eccCounted c (n / 32) bonded).mono fun _ _ => trivial).trans (hset.mono fun _ _ => trivial)
  have hfree' : d.fenced n = false := by
    rw [Chip.fenced, hset.get _ (by simp only [Reg.RST_FENCED_SLOTS, Reg.RST_FENCED, Reg.RST_IRQ_STATUS]; omega)]
    exact (Chip.eccCounted_fenced c _ bonded n).trans hfree
  have hfw : d.fw = c.fw := by rw [hregs.eq]
  obtain ⟨hslot, hfences, hrd⟩ := Chip.fenceFor_spec (c := d) 6 false hk hs hfree'
  have low : ∀ f : Reg.Fld, f.addr < 0x100000 → f.addr ≠ Reg.DMAP_ROT_STAT → f.addr ≠ Reg.DMAP_ROT_CNT → f.addr ≠ Reg.RST_FENCED (n / 32) →
      t.get f = d.get f := by
    intro f h1 h2 h3 h4
    rw [Chip.get_congr _ _ hrd, Chip.get, Chip.fence_low d n _ h1 h2 h3]
    exact congrArg (wbits · f.hi f.lo) (Chip.rd_put_other _ _ _ _ h4)
  refine ⟨?_, ?_, FencedSlot.of_onlyRegs hregs hslot, hfences.trans (by rw [hfw])⟩
  · rw [low _ (by simp only [Reg.RST_SRAM_ECC_UNCORR, Reg.RST_SRAM_ECC]; omega) (by simp only [Reg.RST_SRAM_ECC_UNCORR, Reg.RST_SRAM_ECC, Reg.DMAP_ROT_STAT]; omega)
      (by simp only [Reg.RST_SRAM_ECC_UNCORR, Reg.RST_SRAM_ECC, Reg.DMAP_ROT_CNT]; omega)
      (by simp only [Reg.RST_SRAM_ECC_UNCORR, Reg.RST_SRAM_ECC, Reg.RST_FENCED]; omega)]
    rw [hset.get _ (by simp only [Reg.RST_SRAM_ECC_UNCORR, Reg.RST_SRAM_ECC, Reg.RST_IRQ_STATUS]; omega)]
    exact Chip.eccCounted_count c _ bonded
  · rw [low _ (by decide) (by decide) (by decide) (by simp only [Reg.RST_IRQ_STATUS_AUTOFENCE, Reg.RST_IRQ_STATUS, Reg.RST_FENCED]; omega)]
    exact Chip.get_put_fits _ _ _ (by decide)

end

/-! ## A fence that is lifted (R412) -/

theorem Chip.absorbPacket_rest (c : Chip) (k : Nat) (p : Packet) (status : Nat) : { c.absorbPacket k p status with routers := c.routers } = c := by
  unfold Chip.absorbPacket
  split
  · exact Chip.feed_rest _ _ _ _ _
  · split
    · exact Chip.creditBack_rest _ _ _ _ _ _ _ _ _
    · rfl

/-- What a slot holds is discarded, before its state is reset. -/
def Chip.absorbTraffic (c : Chip) (s : Nat) : Chip :=
  let c := c.drainQueues s
  let c := (c.core s).arrived.foldl (fun c p => c.absorbPacket (s / 32) p ERR_FENCED) c
  let n := (c.core s).inq.length + (c.core s).loopq.length
  (c.bump (Reg.NI_ABSORB_CNT_COUNT (s / 32)) n).tallyRouter (s / 32) 0x46 n

theorem Chip.drainQueues_mem (c : Chip) (s : Nat) : (c.drainQueues s).mem = c.mem := by
  have credit : ∀ (d : Chip) (q : Nat) (t : Tuple), (d.creditTuple s q t true).mem = d.mem := fun d q t => by
    have := congrArg Chip.mem (Chip.creditBack_rest d (s / 32) (d.logicalOf s) t.src.toNat t.sb t.port t.words.length true (d.logicalOf s * 4 + q))
    exact this
  unfold Chip.drainQueues
  refine foldl_kept Chip.mem (fun d q => ?_) _ _
  unfold Chip.drainQueue
  exact (foldl_kept Chip.mem (fun d t => credit d q t) _ _).trans rfl

/-- What is discarded leaves memory, and the registers below the routers' and the cores'. -/
theorem Chip.absorbTraffic_kept (c : Chip) (s : Nat) :
    (c.absorbTraffic s).mem = c.mem ∧
    ∀ a, a < 0x1000000 → a ≠ Reg.DMAP_ROT_STAT → a ≠ Reg.DMAP_ROT_CNT → (c.absorbTraffic s).rd a = c.rd a := by
  let d := c.drainQueues s
  let e := (d.core s).arrived.foldl (fun c p => c.absorbPacket (s / 32) p ERR_FENCED) d
  let n := (e.core s).inq.length + (e.core s).loopq.length
  have drained : Stands 0x1000000 c d := (Stands.refl c (by decide)).drainQueues s (by decide)
  have absorbed : Stands 0x1000000 c e := drained.foldl (fun p hd => hd.routers (Chip.absorbPacket_rest _ _ p _)) _
  have hmem : e.mem = d.mem := foldl_kept Chip.mem (fun d p => by
    have := congrArg Chip.mem (Chip.absorbPacket_rest d (s / 32) p ERR_FENCED)
    exact this) _ _
  have counted : OnlyRegs e (c.absorbTraffic s) (fun a => a = Reg.NI_ABSORB_CNT (s / 32) ∨ PmonRouterRegs (s / 32) a) :=
    (OnlyRegs.bump e (Reg.NI_ABSORB_CNT_COUNT (s / 32)) n _ (.inl rfl)).trans ((OnlyRegs.tallyRouter _ _ _ _).mono fun _ h => .inr h)
  refine ⟨counted.mem.trans (hmem.trans (Chip.drainQueues_mem c s)), fun a ha hs hc => ?_⟩
  refine (counted.2 a ?_).trans (absorbed.regs a ha hs hc)
  simp only [Reg.NI_ABSORB_CNT, PmonRouterRegs, Reg.pmonRouter]
  omega

theorem Chip.clearCore_core (c : Chip) (s : Nat) : (c.clearCore s).core s = Core.init := Chip.core_setCore_same _ _ _

theorem Chip.rd_clearCore (c : Chip) (s a : Nat) :
    (c.clearCore s).rd a = if (inCore s a && !coreKept (a - Reg.coreBase s)) = true then regReset a else c.rd a := by
  have hset : (c.clearCore s).rd a = (c.dropRegs (fun a => inCore s a && !coreKept (a - Reg.coreBase s))).rd a := rfl
  rw [hset]
  split
  · rename_i h
    exact Chip.rd_dropRegs_dropped _ _ _ h
  · rename_i h
    exact Chip.rd_dropRegs_other _ _ _ (eq_false_of_ne_true h)

/-- The mark of a slot taken out of RST_FENCED. -/
def Chip.fenceCleared (c : Chip) (k : Nat) : Chip :=
  c.put (Reg.RST_FENCED_SLOTS (k / 32)) (c.get (Reg.RST_FENCED_SLOTS (k / 32)) &&& (2 ^ 17 - 1 - 2 ^ (k % 32)))

/-- A mark taken out is no longer read. -/
theorem bit_and_complement (v j : Nat) (hj : j < 17) : bit (v &&& (2 ^ 17 - 1 - 2 ^ j)) j = false := by
  have hsub : 2 ^ 17 - 1 - 2 ^ j = 2 ^ 17 - (2 ^ j + 1) := by omega
  have hpow : 2 ^ j < 2 ^ 17 := Nat.pow_lt_pow_right (by decide) hj
  rw [bit_eq_testBit, Nat.testBit_and, hsub, Nat.testBit_two_pow_sub_succ hpow, Nat.testBit_two_pow_self, Bool.not_true, Bool.and_false, Bool.and_false]

/-- A fence lifted resets its slot. -/
theorem Chip.unfence_spec (c : Chip) {k : Nat} (hk : k / 32 < 64) (hs : k % 32 < 17) :
    let t := (c.fenceCleared k).absorbCore k
    t.fenced k = false ∧ t.core k = Core.init ∧ t.mem = c.mem ∧
    ∀ a, inCore k a = true → coreKept (a - Reg.coreBase k) = false → t.rd a = regReset a := by
  intro t
  obtain ⟨hmem, hregs⟩ := (c.fenceCleared k).absorbTraffic_kept k
  have ht : t = ((c.fenceCleared k).absorbTraffic k).clearCore k := rfl
  have hlow : ¬ Reg.coreBase k ≤ Reg.RST_FENCED (k / 32) := by simp only [Reg.coreBase, Reg.RST_FENCED]; omega
  have hout : inCore k (Reg.RST_FENCED (k / 32)) = false := by simp only [inCore, hlow, decide_false, Bool.false_and]
  have hrd : t.rd (Reg.RST_FENCED (k / 32)) = (c.fenceCleared k).rd (Reg.RST_FENCED (k / 32)) := by
    rw [ht, Chip.rd_clearCore, hout, Bool.false_and, if_neg (by decide),
      hregs _ (by simp only [Reg.RST_FENCED]; omega) (by simp only [Reg.RST_FENCED, Reg.DMAP_ROT_STAT]; omega)
        (by simp only [Reg.RST_FENCED, Reg.DMAP_ROT_CNT]; omega)]
  have hslots : t.get (Reg.RST_FENCED_SLOTS (k / 32)) = c.get (Reg.RST_FENCED_SLOTS (k / 32)) &&& (2 ^ 17 - 1 - 2 ^ (k % 32)) := by
    have hlt : c.get (Reg.RST_FENCED_SLOTS (k / 32)) < 2 ^ 17 := Chip.get_lt _ _
    have hand := Nat.lt_of_le_of_lt (Nat.and_le_left (n := c.get (Reg.RST_FENCED_SLOTS (k / 32))) (m := 2 ^ 17 - 1 - 2 ^ (k % 32))) hlt
    rw [Chip.get, Reg.RST_FENCED_SLOTS, hrd]
    exact Chip.get_put_fits c (Reg.RST_FENCED_SLOTS (k / 32)) _ (by simpa [Reg.RST_FENCED_SLOTS] using hand)
  refine ⟨?_, Chip.clearCore_core _ _, hmem, fun a hin hkept => ?_⟩
  · rw [Chip.fenced, hslots, bit_and_complement _ _ hs]
  · rw [ht, Chip.rd_clearCore, hin, hkept, if_pos (by decide)]

/-! ## RST_FENCE_CMD (R412) -/

theorem leaves_rstFenceCmd {s : State} {v : Word} {t : Chip} (h : s.chip.fenceCmd v = t) : Leaves (.rstFenceCmd v) s t :=
  leaves_of_act (f := (·.fenceCmd v)) rfl h

section
variable {c : Chip} {v : Word}

theorem Chip.fenceCmd_unnamed (h : ¬ (wbits v 10 0 / 32 < c.clusters ∧ wbits v 10 0 % 32 < 17)) : c.fenceCmd v = c := if_neg h

theorem Chip.fenceCmd_set (h : wbits v 10 0 / 32 < c.clusters ∧ wbits v 10 0 % 32 < 17) (hset : wbits v 12 12 = 1) :
    c.fenceCmd v = c.fenceFor (wbits v 10 0) 7 true := (if_pos h).trans (if_pos hset)

theorem Chip.fenceCmd_clear (h : wbits v 10 0 / 32 < c.clusters ∧ wbits v 10 0 % 32 < 17) (hset : ¬ wbits v 12 12 = 1) :
    c.fenceCmd v = if c.fenced (wbits v 10 0) ∧ c.logical? (wbits v 10 0) = none then (c.fenceCleared (wbits v 10 0)).absorbCore (wbits v 10 0) else c :=
  (if_pos h).trans (if_neg hset)

end

theorem fencesHold : FencesHold := by
  intro s p bonded v c n exists_ auto k named set
  refine ⟨fun h => leaves_of_act rfl (if_neg h), fun h => ?_, fun h => leaves_rstFenceCmd (Chip.fenceCmd_unnamed h), fun h hset hfree => ?_,
    fun h hset hf => ?_, fun h hset hf hseat => ?_, fun h hset hno => ?_⟩
  · have hk : n / 32 < 64 := Nat.lt_of_lt_of_le h.1 c.clusters_le
    have ecc := OnlyRegs.eccCounted c (n / 32) bonded
    have hcount := Chip.eccCounted_count c (n / 32) bonded
    by_cases hfire : auto ∧ c.fenced n = false
    · obtain ⟨hauto, hfree⟩ := hfire
      obtain ⟨hecc, hirq, hslot, hfences⟩ := Chip.autofence_spec bonded hk h.2 hfree
      have hon := (Chip.eccCounted_auto c (n / 32) bonded).trans (Chip.on_iff.mpr hauto)
      have hoff := (Chip.eccCounted_fenced c (n / 32) bonded n).trans hfree
      exact ⟨_, leaves_sramUncorrectable h (if_pos ⟨hon, hoff⟩), hecc, fun hn => absurd hauto hn,
        fun _ => ⟨fun hf => absurd (hfree.symm.trans hf) (by decide), fun _ => ⟨hirq, hslot, hfences⟩⟩⟩
    · refine ⟨_, leaves_sramUncorrectable h (if_neg ?_), hcount, fun _ => ecc, fun hauto => ⟨fun _ => ecc, fun hfree => absurd ⟨hauto, hfree⟩ hfire⟩⟩
      rw [Chip.eccCounted_auto, Chip.eccCounted_fenced, Chip.on_iff]
      exact hfire
  · obtain ⟨hslot, hfences, -⟩ := Chip.fenceFor_spec 7 true (Nat.lt_of_lt_of_le h.1 c.clusters_le) h.2 hfree
    exact ⟨_, leaves_rstFenceCmd (Chip.fenceCmd_set h hset), hslot, hfences⟩
  · exact leaves_rstFenceCmd ((Chip.fenceCmd_set h hset).trans (if_pos hf))
  · exact ⟨_, leaves_rstFenceCmd ((Chip.fenceCmd_clear h hset).trans (if_pos ⟨hf, hseat⟩)), Chip.unfence_spec c (Nat.lt_of_lt_of_le h.1 c.clusters_le) h.2⟩
  · refine leaves_rstFenceCmd ((Chip.fenceCmd_clear h hset).trans (if_neg ?_))
    rintro ⟨hf, hseat⟩
    exact hno.elim (fun h0 => absurd (h0.symm.trans hf) (by decide)) (fun h0 => h0 hseat)

end Sys2Proof.Machine
end

section
/-! SUPPORT. A core that moves to another slot by one swap of the core maps (O52). -/

namespace Sys2Proof.Machine

theorem Chip.get_of_rd {c d : Chip} (f : Reg.Fld) (h : d.rd f.addr = c.rd f.addr) : d.get f = c.get f := congrArg (wbits · f.hi f.lo) h

theorem Chip.clusters_of_rd {c d : Chip} (h : d.rd Reg.FUSE_VARIANT = c.rd Reg.FUSE_VARIANT) : d.clusters = c.clusters := by
  have hv : d.variant = c.variant := Chip.get_of_rd Reg.FUSE_VARIANT_CODE h
  rw [Chip.clusters, Chip.clusters, hv]

/-! ## One cluster's map (R118) -/

/-- The registers a swap of cluster `k`'s map may change. -/
def MapRegs (k a : Nat) : Prop := 0x1004000 + k * 0x10000 ≤ a ∧ a < 0x1007000 + k * 0x10000

/-- An address of the active and of the shadow copy of cluster `k`'s map. -/
def inActive (k a : Nat) : Bool := Reg.NI_MAP_ACTIVE k 0 ≤ a && a < Reg.NI_MAP_ACTIVE k 1024
def inShadow (k a : Nat) : Bool := Reg.NI_MAP_SHADOW k 0 ≤ a && a < Reg.NI_MAP_SHADOW k 1024

theorem inActive_iff {k a : Nat} : inActive k a = true ↔ 0x1006000 + k * 0x10000 ≤ a ∧ a < 0x1007000 + k * 0x10000 := by
  have h0 : Reg.NI_MAP_ACTIVE k 0 = 0x1006000 + k * 0x10000 := rfl
  have h1 : Reg.NI_MAP_ACTIVE k 1024 = 0x1007000 + k * 0x10000 := by simp only [Reg.NI_MAP_ACTIVE]; omega
  rw [inActive, h0, h1, Bool.and_eq_true, decide_eq_true_eq, decide_eq_true_eq]

theorem inShadow_iff {k a : Nat} : inShadow k a = true ↔ 0x1005000 + k * 0x10000 ≤ a ∧ a < 0x1006000 + k * 0x10000 := by
  have h0 : Reg.NI_MAP_SHADOW k 0 = 0x1005000 + k * 0x10000 := rfl
  have h1 : Reg.NI_MAP_SHADOW k 1024 = 0x1006000 + k * 0x10000 := by simp only [Reg.NI_MAP_SHADOW]; omega
  rw [inShadow, h0, h1, Bool.and_eq_true, decide_eq_true_eq, decide_eq_true_eq]

/-- The factory seating of R7 in the shadow copy is that of the active one. -/
theorem regReset_shadowMap (k i : Nat) (hk : k < 64) (hi : i < 1024) : regReset (Reg.NI_MAP_SHADOW k i) = regReset (Reg.NI_MAP_ACTIVE k i) := by
  have h : instReset (Reg.NI_MAP_SHADOW k i) = some (i % 16) := by
    have e : Reg.NI_MAP_SHADOW k i = 0x1005000 + k * 0x10000 + i * 4 := rfl
    rw [e, instReset, Reg.XBAR_PORT_CFG, Reg.FUSE_VARIANT, Reg.HIF_MAGIC, Reg.BDP_STAT,
      if_neg (by omega), if_neg (by omega), if_neg (by omega), if_neg (by omega), if_pos (by omega)]
    congr 1
    omega
  rw [regReset_activeMap k i hk hi]
  simp only [regReset, h]

/-- A register after a run of registers has been written `n` higher, each address once. -/
theorem Chip.rd_foldl_wr (n : Nat) (l : List (Nat × Word)) (c : Chip) (a : Nat) (h : l.Pairwise (fun x y => x.1 < y.1)) :
    (l.foldl (fun c r => c.wr (r.1 + n) r.2) c).rd (a + n) = match l.find? (·.1 == a) with | some r => r.2 | none => c.rd (a + n) := by
  induction l generalizing c with
  | nil => rfl
  | cons r t ih =>
    obtain ⟨hr, ht⟩ := List.pairwise_cons.mp h
    rw [List.foldl_cons, ih _ ht]
    by_cases ha : r.1 = a
    · have hnone : t.find? (·.1 == a) = none := List.find?_eq_none.mpr fun x hx he => by
        have := hr x hx
        have := beq_iff_eq.mp he
        omega
      rw [hnone, List.find?_cons_of_pos (by simpa using ha), ← ha]
      exact Chip.rd_wr_same _ _ _
    · rw [List.find?_cons_of_neg (by simpa using ha)]
      cases t.find? (·.1 == a) with
      | some x => rfl
      | none => exact Chip.rd_wr_other _ _ _ _ (by omega)

section
variable (c : Chip) (k epoch : Nat)

/-- The active copy of cluster `k`'s map, taken over from the shadow copy. -/
def Chip.mapTaken : Chip :=
  (c.regs.filter (fun r => inShadow k r.1)).foldl (fun c r => c.wr (r.1 + 0x1000) r.2) (c.dropRegs (inActive k))

/-- A swap is that copy, the packets of the previous epoch, and the epochs. -/
theorem Chip.mapSwap_regs :
    ∃ d : Chip, d.regs = (c.mapTaken k).regs ∧ d.fw = (c.mapTaken k).fw ∧
      ∃ e, c.mapSwap k epoch = ((d.put (Reg.NI_MAP_STAT_PREV_EPOCH k) e).put (Reg.NI_MAP_STAT_EPOCH k) epoch).put (Reg.NI_MAP_STAT_DRAINED k) 0 :=
  ⟨(c.mapTaken k).modRouter k (fun r => { r with prev := c.regs.filter (fun r => inActive k r.1) }), rfl, rfl, _, rfl⟩

theorem Chip.mapTaken_fw : (c.mapTaken k).fw = c.fw := by
  unfold Chip.mapTaken
  refine (foldl_kept Chip.fw (fun d r => ?_) _ _).trans rfl
  rfl

theorem Chip.mapTaken_sorted (h : c.Sorted) : (c.mapTaken k).Sorted := by
  have : ∀ (l : List (Nat × Word)) (d : Chip), d.Sorted → (l.foldl (fun c r => c.wr (r.1 + 0x1000) r.2) d).Sorted := by
    intro l
    induction l with
    | nil => exact fun _ hd => hd
    | cons r t ih => exact fun d hd => ih _ (hd.wr _ _)
  exact this _ _ (h.dropRegs _)

theorem Chip.mapTaken_kept : RegsKept c (c.mapTaken k) (MapRegs k) := by
  have hfold : ∀ (l : List (Nat × Word)) (d : Chip), (∀ r ∈ l, MapRegs k (r.1 + 0x1000)) →
      RegsKept d (l.foldl (fun c r => c.wr (r.1 + 0x1000) r.2) d) (MapRegs k) := by
    intro l
    induction l with
    | nil => exact fun d _ => RegsKept.refl d _
    | cons r t ih =>
      intro d hl
      refine RegsKept.trans (fun a ha => ?_) (ih _ fun x hx => hl x (List.mem_cons_of_mem _ hx))
      exact Chip.rd_wr_other _ _ _ _ fun he => ha (he ▸ hl r (List.mem_cons_self ..))
  refine RegsKept.trans (fun a ha => ?_) (hfold _ _ fun r hr => ?_)
  · refine Chip.rd_dropRegs_other _ _ _ (eq_false_of_ne_true fun hin => ha ?_)
    have := inActive_iff.mp hin
    simp only [MapRegs]
    omega
  · have := inShadow_iff.mp (List.mem_filter.mp hr).2
    simp only [MapRegs]
    omega

/-- The active copy holds what the shadow copy held. -/
theorem Chip.mapTaken_active (hs : c.Sorted) {i : Nat} (hk : k < 64) (hi : i < 1024) :
    (c.mapTaken k).rd (Reg.NI_MAP_ACTIVE k i) = c.rd (Reg.NI_MAP_SHADOW k i) := by
  have haddr : Reg.NI_MAP_ACTIVE k i = Reg.NI_MAP_SHADOW k i + 0x1000 := by simp only [Reg.NI_MAP_ACTIVE, Reg.NI_MAP_SHADOW]; omega
  have hdropped : inActive k (Reg.NI_MAP_ACTIVE k i) = true := inActive_iff.mpr (by simp only [Reg.NI_MAP_ACTIVE]; omega)
  have hin : inShadow k (Reg.NI_MAP_SHADOW k i) = true := inShadow_iff.mpr (by simp only [Reg.NI_MAP_SHADOW]; omega)
  have hfind : (c.regs.filter (fun r => inShadow k r.1)).find? (·.1 == Reg.NI_MAP_SHADOW k i) = c.regs.find? (·.1 == Reg.NI_MAP_SHADOW k i) := by
    rw [List.find?_filter]
    refine congrArg (fun q => List.find? q c.regs) (funext fun r => ?_)
    by_cases hr : r.1 = Reg.NI_MAP_SHADOW k i
    · simp only [hr, hin, BEq.rfl, decide_true, and_self]
    · simp only [beq_eq_false_iff_ne.mpr hr, Bool.false_eq_true, and_false, decide_false]
  rw [haddr, Chip.mapTaken, Chip.rd_foldl_wr _ _ _ _ (hs.filter _), hfind, ← haddr, Chip.rd_dropRegs_dropped _ _ _ hdropped, ← regReset_shadowMap k i hk hi]
  rfl

theorem Chip.mapSwap_kept : RegsKept c (c.mapSwap k epoch) (MapRegs k) := by
  obtain ⟨d, hd, -, e, he⟩ := c.mapSwap_regs k epoch
  have hstat : MapRegs k (Reg.NI_MAP_STAT k) := by simp only [MapRegs, Reg.NI_MAP_STAT]; omega
  have hregs : OnlyRegs d (c.mapSwap k epoch) (MapRegs k) := by
    rw [he]
    exact ((OnlyRegs.put _ (Reg.NI_MAP_STAT_PREV_EPOCH k) _ _ hstat).trans (OnlyRegs.put _ (Reg.NI_MAP_STAT_EPOCH k) _ _ hstat)).trans
      (OnlyRegs.put _ (Reg.NI_MAP_STAT_DRAINED k) _ _ hstat)
  exact fun a ha => (hregs.2 a ha).trans ((Chip.rd_congr _ _ hd a).trans (c.mapTaken_kept k a ha))

theorem Chip.mapSwap_fw : (c.mapSwap k epoch).fw = c.fw := by
  obtain ⟨d, -, hfw, e, he⟩ := c.mapSwap_regs k epoch
  rw [he]
  exact hfw.trans (c.mapTaken_fw k)

theorem Chip.mapSwap_sorted (h : c.Sorted) : (c.mapSwap k epoch).Sorted := by
  obtain ⟨d, hd, -, e, he⟩ := c.mapSwap_regs k epoch
  have hsorted : d.Sorted := by rw [Chip.Sorted, hd]; exact c.mapTaken_sorted k h
  rw [he]
  exact ((hsorted.wr _ _).wr _ _).wr _ _

theorem Chip.mapSwap_swapping : (c.mapSwap k epoch).swapping k = true := by
  obtain ⟨d, -, -, e, he⟩ := c.mapSwap_regs k epoch
  rw [Chip.swapping, he, Chip.get_put_fits _ _ _ (by simp [Reg.NI_MAP_STAT_DRAINED])]
  rfl

theorem Chip.mapSwap_active (hs : c.Sorted) {i : Nat} (hk : k < 64) (hi : i < 1024) :
    (c.mapSwap k epoch).rd (Reg.NI_MAP_ACTIVE k i) = c.rd (Reg.NI_MAP_SHADOW k i) := by
  obtain ⟨d, hd, -, e, he⟩ := c.mapSwap_regs k epoch
  have hne : Reg.NI_MAP_ACTIVE k i ≠ Reg.NI_MAP_STAT k := by simp only [Reg.NI_MAP_ACTIVE, Reg.NI_MAP_STAT]; omega
  rw [he, Chip.rd_put_other _ _ _ _ hne, Chip.rd_put_other _ _ _ _ hne, Chip.rd_put_other _ _ _ _ hne, Chip.rd_congr _ _ hd]
  exact c.mapTaken_active k hs hk hi

end

/-! ## The swap of every cluster (R118) -/

section
variable {c : Chip} {epoch : Nat}

theorem mapSwaps_kept (l : List Nat) (c : Chip) : RegsKept c (l.foldl (fun c k => c.mapSwap k epoch) c) (fun a => ∃ k ∈ l, MapRegs k a) := by
  induction l generalizing c with
  | nil => exact RegsKept.refl _ _
  | cons x t ih =>
    exact ((c.mapSwap_kept x epoch).mono fun a ha => ⟨x, List.mem_cons_self .., ha⟩).trans
      ((ih _).mono fun a ⟨k, hk, ha⟩ => ⟨k, List.mem_cons_of_mem _ hk, ha⟩)

theorem mapRegs_inj {k k' a : Nat} (h : MapRegs k a) (h' : MapRegs k' a) : k = k' := by
  simp only [MapRegs] at h h'
  omega

/-- After the swaps of a run of clusters each of them drains and its active copy holds what its shadow copy held. -/
theorem mapSwaps_active (l : List Nat) (c : Chip) (hs : c.Sorted) (hl : l.Nodup) {k i : Nat} (hmem : k ∈ l) (hk : k < 64) (hi : i < 1024) :
    (l.foldl (fun c k => c.mapSwap k epoch) c).rd (Reg.NI_MAP_ACTIVE k i) = c.rd (Reg.NI_MAP_SHADOW k i) ∧
    (l.foldl (fun c k => c.mapSwap k epoch) c).swapping k = true := by
  have hactive : MapRegs k (Reg.NI_MAP_ACTIVE k i) := by simp only [MapRegs, Reg.NI_MAP_ACTIVE]; omega
  have hshadow : MapRegs k (Reg.NI_MAP_SHADOW k i) := by simp only [MapRegs, Reg.NI_MAP_SHADOW]; omega
  have hstat : MapRegs k (Reg.NI_MAP_STAT k) := by simp only [MapRegs, Reg.NI_MAP_STAT]; omega
  induction l generalizing c with
  | nil => exact absurd hmem List.not_mem_nil
  | cons x t ih =>
    obtain ⟨hx, ht⟩ := List.nodup_cons.mp hl
    rw [List.foldl_cons]
    by_cases hkt : k ∈ t
    · obtain ⟨h1, h2⟩ := ih (c.mapSwap x epoch) (c.mapSwap_sorted x epoch hs) ht hkt
      exact ⟨h1.trans (c.mapSwap_kept x epoch _ fun h => hx (mapRegs_inj h hshadow ▸ hkt)), h2⟩
    · have hkx : k = x := (List.mem_cons.mp hmem).resolve_right hkt
      have kept : ∀ a, MapRegs k a → (t.foldl (fun c k => c.mapSwap k epoch) (c.mapSwap x epoch)).rd a = (c.mapSwap x epoch).rd a := fun a ha =>
        mapSwaps_kept t _ a fun ⟨y, hy, hya⟩ => hkt (mapRegs_inj hya ha ▸ hy)
      refine ⟨(kept _ hactive).trans (hkx ▸ c.mapSwap_active k epoch hs hk hi), ?_⟩
      rw [Chip.swapping, Chip.get, Reg.NI_MAP_STAT_DRAINED, kept _ hstat, ← hkx]
      exact c.mapSwap_swapping k epoch

end

/-! ## A core that moves (R118, R413) -/

/-- A seat written into every shadow copy. -/
theorem Chip.shadowSeat_spec (c : Chip) (i slot : Nat) :
    RegsKept c (c.shadowSeat i slot) (fun a => ∃ k, k < c.clusters ∧ a = Reg.NI_MAP_SHADOW k i) ∧ (c.shadowSeat i slot).fw = c.fw ∧
    (c.Sorted → (c.shadowSeat i slot).Sorted) ∧
    ∀ k, k < c.clusters → slot < 32 → (c.shadowSeat i slot).get (Reg.NI_MAP_SHADOW_SLOT k i) = slot := by
  have general : ∀ (l : List Nat) (d : Chip),
      let e := l.foldl (fun c k => c.put (Reg.NI_MAP_SHADOW_SLOT k i) slot) d
      RegsKept d e (fun a => ∃ k ∈ l, a = Reg.NI_MAP_SHADOW k i) ∧ e.fw = d.fw ∧ (d.Sorted → e.Sorted) ∧
      ∀ k ∈ l, slot < 32 → e.get (Reg.NI_MAP_SHADOW_SLOT k i) = slot := by
    intro l
    induction l with
    | nil => exact fun d => ⟨RegsKept.refl _ _, rfl, id, fun k hk => absurd hk List.not_mem_nil⟩
    | cons x t ih =>
      intro d
      obtain ⟨h1, h2, h3, h4⟩ := ih (d.put (Reg.NI_MAP_SHADOW_SLOT x i) slot)
      refine ⟨RegsKept.trans (fun a ha => ?_) (h1.mono fun a ⟨k, hk, ha⟩ => ⟨k, List.mem_cons_of_mem _ hk, ha⟩), h2, fun hd => h3 (hd.wr _ _), fun k hk hslot => ?_⟩
      · exact Chip.rd_put_other _ _ _ _ fun he => ha ⟨x, List.mem_cons_self .., he⟩
      · by_cases hkt : k ∈ t
        · exact h4 k hkt hslot
        · have hkx : k = x := (List.mem_cons.mp hk).resolve_right hkt
          have hkept : ¬ ∃ y ∈ t, Reg.NI_MAP_SHADOW k i = Reg.NI_MAP_SHADOW y i := by
            rintro ⟨y, hy, he⟩
            simp only [Reg.NI_MAP_SHADOW] at he
            exact hkt ((show k = y by omega) ▸ hy)
          refine (Chip.get_of_rd (Reg.NI_MAP_SHADOW_SLOT k i) (h1 _ hkept)).trans ?_
          rw [← hkx]
          exact Chip.get_put_fits _ _ _ (by simpa [Reg.NI_MAP_SHADOW_SLOT] using hslot)
  obtain ⟨h1, h2, h3, h4⟩ := general (List.range c.clusters) c
  exact ⟨h1.mono fun a ⟨k, hk, ha⟩ => ⟨k, List.mem_range.mp hk, ha⟩, h2, h3, fun k hk => h4 k (List.mem_range.mpr hk)⟩

theorem Chip.allDrained_iff {c : Chip} : c.allDrained = true ↔ ∀ k, k < c.clusters → c.swapping k = false := by
  simp only [Chip.allDrained, List.all_eq_true, List.mem_range, Bool.not_eq_true']

theorem Chip.swapAll_eq {c : Chip} (h : c.allDrained = true) :
    c.swapAll = (List.range c.clusters).foldl (fun c' k => c'.mapSwap k ((c.get (Reg.NI_MAP_STAT_EPOCH 0) + 1) % 16)) c := by
  have hnone : (List.range c.clusters).any c.swapping = false := by
    rw [List.any_eq_false]
    exact fun k hk => ne_true_of_eq_false (Chip.allDrained_iff.mp h k (List.mem_range.mp hk))
  rw [Chip.swapAll, Chip.mapBcastSwap, hnone]
  rfl

/-- A core that moves while every map is drained: its cluster's map seats it in the new slot, every cluster drains, and besides the maps nothing changes. -/
theorem Chip.moveCore_spec {c : Chip} {i slot : Nat} (hs : c.Sorted) (hd : c.allDrained = true) (hi : i < 1024) (hk : i / 16 < c.clusters) (hslot : slot < 32) :
    let t := c.moveCore i slot
    t.activeSlot (i / 16) i = slot ∧ t.allDrained = false ∧ (∀ a, a < 0x1004000 → t.rd a = c.rd a) ∧ t.fw = c.fw := by
  intro t
  let d := c.shadowSeat i slot
  obtain ⟨hkept, hfw, hsorted, hseat⟩ := c.shadowSeat_spec i slot
  have hclusters : d.clusters = c.clusters := Chip.clusters_of_rd (hkept _ fun ⟨k, _, he⟩ => by simp only [Reg.FUSE_VARIANT, Reg.NI_MAP_SHADOW] at he; omega)
  have hdrained : d.allDrained = true := by
    refine Chip.allDrained_iff.mpr fun k' hk' => ?_
    have hstat : d.get (Reg.NI_MAP_STAT_DRAINED k') = c.get (Reg.NI_MAP_STAT_DRAINED k') := Chip.get_of_rd _ (hkept _ fun ⟨k, hk, he⟩ => by
      simp only [Reg.NI_MAP_STAT_DRAINED, Reg.NI_MAP_STAT, Reg.NI_MAP_SHADOW] at he
      omega)
    rw [Chip.swapping, hstat]
    exact Chip.allDrained_iff.mp hd k' (hclusters ▸ hk')
  have ht : t = (List.range d.clusters).foldl (fun c' k => c'.mapSwap k ((d.get (Reg.NI_MAP_STAT_EPOCH 0) + 1) % 16)) d := Chip.swapAll_eq hdrained
  have hk64 : i / 16 < 64 := by omega
  have hmem : i / 16 ∈ List.range d.clusters := List.mem_range.mpr (hclusters ▸ hk)
  obtain ⟨hactive, hswapping⟩ := mapSwaps_active (epoch := (d.get (Reg.NI_MAP_STAT_EPOCH 0) + 1) % 16) (List.range d.clusters) d (hsorted hs) List.nodup_range
    hmem hk64 hi
  have hlow : ∀ a, a < 0x1004000 → t.rd a = c.rd a := fun a ha => by
    rw [ht, mapSwaps_kept _ _ a fun ⟨k, _, hmap⟩ => by simp only [MapRegs] at hmap; omega]
    exact hkept a fun ⟨k, _, he⟩ => by simp only [Reg.NI_MAP_SHADOW] at he; omega
  refine ⟨?_, ?_, hlow, ?_⟩
  · rw [← ht] at hactive
    exact (congrArg (wbits · 4 0) hactive).trans (hseat _ hk hslot)
  · rw [← ht] at hswapping
    have hclusters' : t.clusters = c.clusters := Chip.clusters_of_rd (hlow _ (by decide))
    refine eq_false_of_ne_true fun hall => ?_
    rw [Chip.allDrained_iff.mp hall _ (hclusters' ▸ hk)] at hswapping
    cases hswapping
  · rw [ht]
    exact (foldl_kept Chip.fw (fun c k => c.mapSwap_fw k _) _ _).trans hfw

end Sys2Proof.Machine
end

section
/-! SUPPORT. What firmware notes of a fence before it looks for a spare: the lists of defects, HEALTHY, the credits it returns (O52). -/

namespace Sys2Proof.Machine

/-! ## Seats that other registers leave alone (R117) -/

theorem Chip.logical?_congr {c d : Chip} {p : Nat} (h : ∀ j, j < 16 → d.activeSlot (p / 32) (j + p / 32 * 16) = c.activeSlot (p / 32) (j + p / 32 * 16)) :
    d.logical? p = c.logical? p := by
  refine List.find?_congr fun i hi => ?_
  obtain ⟨j, hj, rfl⟩ := List.mem_map.mp hi
  rw [h j (List.mem_range.mp hj)]

/-- A seated core stands in the cluster of its slot. -/
theorem Chip.logical?_cluster {c : Chip} {p i : Nat} (h : c.logical? p = some i) : i / 16 = p / 32 := by
  obtain ⟨j, hj, hi⟩ := List.mem_map.mp (List.mem_of_find?_eq_some h)
  have := List.mem_range.mp hj
  omega

/-- Cluster `k`'s map stands below the core windows and above every register of the noting. -/
theorem activeSlot_addr {k i : Nat} (hk : k < 64) (hi : i < 1024) :
    (Reg.NI_MAP_ACTIVE_SLOT k i).addr < 0x1400000 ∧ 0x1000000 ≤ (Reg.NI_MAP_ACTIVE_SLOT k i).addr := by
  simp only [Reg.NI_MAP_ACTIVE_SLOT, Reg.NI_MAP_ACTIVE]
  omega

/-! ## What is noted -/

/-- The registers that the noting of a fence in cluster `k` may change: the working list and its state, CLUSTER_STAT, the ports of the bridge. -/
def NotedRegs (k a : Nat) : Prop := a = Reg.DMAP_STAT ∨ 0x21000 ≤ a ∧ a < 0x22000 ∨ a = Reg.DMAP_CLUSTER_STAT k ∨ 0x17FF0000 ≤ a

/-- Between `c` and `e` firmware noted a fence in cluster `k`: registers of the noting differ, the spare, the reset under way and the
step of rotation do not. -/
structure Noted (k : Nat) (c e : Chip) : Prop where
  cluster : k < 64
  fw : e.fw = c.fw
  rot : e.rot = c.rot
  rst : e.rst = c.rst
  regs : RegsKept c e (NotedRegs k)
  spare : e.get (Reg.DMAP_CLUSTER_STAT_SPARE k) = c.get (Reg.DMAP_CLUSTER_STAT_SPARE k)
  spareFree : e.get (Reg.DMAP_CLUSTER_STAT_SPARE_FREE k) = c.get (Reg.DMAP_CLUSTER_STAT_SPARE_FREE k)
  sorted : c.Sorted → e.Sorted

namespace Noted

variable {k : Nat} {c d e : Chip}

theorem refl (c : Chip) (hk : k < 64) : Noted k c c := ⟨hk, rfl, rfl, rfl, RegsKept.refl _ _, rfl, rfl, id⟩

theorem trans (h : Noted k c d) (h' : Noted k d e) : Noted k c e :=
  ⟨h.cluster, h'.fw.trans h.fw, h'.rot.trans h.rot, h'.rst.trans h.rst, h.regs.trans h'.regs, h'.spare.trans h.spare, h'.spareFree.trans h.spareFree,
   h'.sorted ∘ h.sorted⟩

section
variable (h : Noted k c d)
include h

/-- What writes a register of the noting that is not CLUSTER_STAT. -/
theorem wr {a : Nat} (w : Word) (ha : NotedRegs k a) (hne : Reg.DMAP_CLUSTER_STAT k ≠ a) : Noted k c (d.wr a w) :=
  h.trans ⟨h.cluster, rfl, rfl, rfl, fun _ hx => Chip.rd_wr_other _ _ _ _ fun he => hx (he ▸ ha), Chip.get_wr_other _ _ _ _ hne,
    Chip.get_wr_other _ _ _ _ hne, fun hs => hs.wr _ _⟩

theorem put {f : Reg.Fld} (v : Nat) (ha : NotedRegs k f.addr) (hne : Reg.DMAP_CLUSTER_STAT k ≠ f.addr) : Noted k c (d.put f v) := h.wr _ ha hne

theorem healthy (v : Nat) : Noted k c (d.put (Reg.DMAP_CLUSTER_STAT_HEALTHY k) v) :=
  h.trans ⟨h.cluster, rfl, rfl, rfl, fun _ hx => Chip.rd_put_other _ _ _ _ fun he => hx (.inr (.inr (.inl he))),
    Chip.get_put_disjoint _ _ _ _ (Nat.le_of_ble_eq_true rfl) (.inl (Nat.le_of_ble_eq_true rfl)),
    Chip.get_put_disjoint _ _ _ _ (Nat.le_of_ble_eq_true rfl) (.inl (Nat.le_of_ble_eq_true rfl)), fun hs => hs.wr _ _⟩

/-- A change outside the registers, firmware, the reset under way and the step of rotation. -/
theorem same (e : Chip) (hregs : e.regs = d.regs) (hfw : e.fw = d.fw) (hrot : e.rot = d.rot) (hrst : e.rst = d.rst) : Noted k c e :=
  h.trans ⟨h.cluster, hfw, hrot, hrst, fun a _ => Chip.rd_congr d e hregs a, Chip.get_congr d e hregs _, Chip.get_congr d e hregs _, fun hs => by
    rw [Chip.Sorted, hregs]; exact hs⟩

theorem feed (m input cls : Nat) (f : Flit) : Noted k c (d.feed m input cls f) := by
  have hrest := Chip.feed_rest d m input cls f
  have hregs := congrArg Chip.regs hrest
  have hfw := congrArg Chip.fw hrest
  have hrot := congrArg Chip.rot hrest
  have hrst := congrArg Chip.rst hrest
  exact h.same _ hregs hfw hrot hrst

theorem wrBytes (a : Nat) (bs : List Byte) : Noted k c (d.wrBytes a bs) := h.same _ rfl rfl rfl rfl

/-! ### The working and the field list (R363, R365) -/

theorem workState (v : Nat) {f : Reg.Fld} (hf : f.addr = Reg.DMAP_STAT) : Noted k c (d.put f v) := by
  refine h.put v (.inl hf) ?_
  rw [hf]
  simp only [Reg.DMAP_CLUSTER_STAT, Reg.DMAP_STAT]
  omega

theorem workPush (x source build : Nat) : Noted k c (d.workPush x source build) := by
  have hk := h.cluster
  unfold Chip.workPush
  dsimp only
  split
  · exact h.workState 1 rfl
  · rename_i hroom
    have hlist : ∀ off, off < 8 → NotedRegs k (0x21000 + d.workCount * 8 + off) ∧ Reg.DMAP_CLUSTER_STAT k ≠ 0x21000 + d.workCount * 8 + off := fun off hoff => by
      simp only [NotedRegs, Reg.DMAP_CLUSTER_STAT]
      omega
    obtain ⟨hentry, hentry'⟩ := hlist 0 (by decide)
    obtain ⟨hbuild, hbuild'⟩ := hlist 4 (by decide)
    have haddr : Reg.DMAP_WORK_BUILD d.workCount = 0x21000 + d.workCount * 8 + 4 := by simp only [Reg.DMAP_WORK_BUILD]; omega
    rw [← haddr] at hbuild hbuild'
    exact ((((h.put (f := Reg.DMAP_WORK_ENTRY d.workCount) x hentry hentry').put (f := Reg.DMAP_WORK_SOURCE d.workCount) source hentry hentry').wr
      (BitVec.ofNat 32 build) hbuild hbuild')).workState _ rfl

theorem addDefect (s kind : Nat) : Noted k c (d.addDefect s kind).1 := by
  unfold Chip.addDefect
  split
  · exact h.workState 1 rfl
  · split
    · exact (h.workPush _ _ _).workState 1 rfl
    · exact ((h.workPush _ _ _).wrBytes _ _).wrBytes _ _

/-! ### Credits that firmware returns (R220) -/

theorem wcredit (data : Nat) : Noted k c (d.wcredit bridgeSlot data) := by
  have hk := h.cluster
  have hstat : NotedRegs k (Reg.WADI_SPORT_STAT bridgeSlot (data % 16)) := .inr (.inr (.inr (by simp only [Reg.WADI_SPORT_STAT, Reg.coreBase, bridgeSlot]; omega)))
  have hne : Reg.DMAP_CLUSTER_STAT k ≠ Reg.WADI_SPORT_STAT bridgeSlot (data % 16) := by
    simp only [Reg.DMAP_CLUSTER_STAT, Reg.WADI_SPORT_STAT, Reg.coreBase, bridgeSlot]; omega
  unfold Chip.wcredit
  dsimp only
  split
  · split
    · exact (h.put _ hstat hne).put 1 hstat hne
    · exact h.put _ hstat hne
  · exact h

theorem fwCredit (orphan reload : Bool) (sp : Nat × Nat) : Noted k c (d.fwCredit orphan reload sp) := by
  unfold Chip.fwCredit
  dsimp only
  split
  · exact h.wcredit _
  · split
    · exact h.feed _ _ _ _
    · exact h

theorem fwCredits (i : Nat) (orphan reload : Bool) : Noted k c (d.fwCredits i orphan reload) := by
  have general : ∀ (l : List (Nat × Nat)) (d : Chip), Noted k c d → Noted k c (l.foldl (fun c sp => c.fwCredit orphan reload sp) d) := by
    intro l
    induction l with
    | nil => exact fun _ h => h
    | cons sp t ih => exact fun d h => ih _ (h.fwCredit orphan reload sp)
  exact general _ _ h

end

/-! ### What a noted fence leaves -/

section
variable (h : Noted k c e)
include h

theorem get (f : Reg.Fld) (hf : ¬ NotedRegs k f.addr) : e.get f = c.get f := Chip.get_of_rd f (h.regs _ hf)

/-- A register between the working list and the bridge's ports is none of the noting. -/
theorem get_mid (f : Reg.Fld) (hlo : 0x22000 ≤ f.addr) (hhi : f.addr < 0x17FF0000) : e.get f = c.get f := by
  have hk := h.cluster
  exact h.get f (by simp only [NotedRegs, Reg.DMAP_STAT, Reg.DMAP_CLUSTER_STAT]; omega)

theorem spareOf : e.spareOf k = c.spareOf k := congrArg (k * 32 + ·) h.spare

theorem fenced {p : Nat} (hp : p / 32 < 64) : e.fenced p = c.fenced p :=
  congrArg (bit · (p % 32)) (h.get_mid _ (by simp only [Reg.RST_FENCED_SLOTS, Reg.RST_FENCED]; omega) (by simp only [Reg.RST_FENCED_SLOTS, Reg.RST_FENCED]; omega))

theorem gangCluster : e.gangCluster k = c.gangCluster k := by
  have hk := h.cluster
  have gang : ∀ s, s < 17 → e.on (Reg.MX_CFG_GANG (k * 32 + s)) = c.on (Reg.MX_CFG_GANG (k * 32 + s)) := fun s hs =>
    congrArg (· == 1) (h.get_mid _ (by simp only [Reg.MX_CFG_GANG, Reg.MX_CFG, Reg.coreBase]; omega) (by simp only [Reg.MX_CFG_GANG, Reg.MX_CFG, Reg.coreBase]; omega))
  have hany : (List.range 17).any (fun s => e.on (Reg.MX_CFG_GANG (k * 32 + s))) = (List.range 17).any (fun s => c.on (Reg.MX_CFG_GANG (k * 32 + s))) :=
    Bool.eq_iff_iff.mpr (by
      simp only [List.any_eq_true, List.mem_range]
      exact exists_congr fun s => and_congr_right fun hs => by rw [gang s hs])
  have hfirst : e.on (Reg.MX_CFG_GANG (k * 32)) = c.on (Reg.MX_CFG_GANG (k * 32)) := gang 0 (by decide)
  rw [Chip.gangCluster, Chip.gangCluster, hany, hfirst]

theorem spareFreeOf : Chip.spareFree e k = Chip.spareFree c k := by
  rw [Chip.spareFree, Chip.spareFree, h.gangCluster, Chip.on, Chip.on, h.spareFree]

theorem logical? {p : Nat} (hp : p / 32 < 64) : e.logical? p = c.logical? p :=
  Chip.logical?_congr fun j hj => by
    have haddr := activeSlot_addr (k := p / 32) (i := j + p / 32 * 16) hp (by omega)
    exact h.get_mid _ (by omega) (by omega)

theorem rotPhase : e.rotPhase = c.rotPhase := by
  have hk := h.cluster
  exact h.get _ (by simp only [NotedRegs, Reg.DMAP_ROT_STAT_PHASE, Reg.DMAP_ROT_STAT, Reg.DMAP_STAT, Reg.DMAP_CLUSTER_STAT]; omega)

theorem clusters : e.clusters = c.clusters := by
  have hk := h.cluster
  exact Chip.clusters_of_rd (h.regs _ (by simp only [NotedRegs, Reg.FUSE_VARIANT, Reg.DMAP_STAT, Reg.DMAP_CLUSTER_STAT]; omega))

theorem allDrained (hd : c.allDrained = true) : e.allDrained = true := by
  refine Chip.allDrained_iff.mpr fun m hm => ?_
  rw [h.clusters] at hm
  have := c.clusters_le
  have hstat : 0x1000000 ≤ Reg.NI_MAP_STAT m ∧ Reg.NI_MAP_STAT m < 0x17FF0000 := by simp only [Reg.NI_MAP_STAT]; omega
  exact (congrArg (· == 0) (h.get_mid (Reg.NI_MAP_STAT_DRAINED m) (Nat.le_trans (by decide) hstat.1) hstat.2)).trans (Chip.allDrained_iff.mp hd m hm)

theorem job (j : Nat) : e.job j = c.job j := by rw [Chip.job, Chip.job, h.fw]
theorem jobOfCore (i : Nat) : e.jobOfCore i = c.jobOfCore i := by rw [Chip.jobOfCore, Chip.jobOfCore, h.fw]

end

end Noted

end Sys2Proof.Machine
end

section
/-! SUPPORT. How firmware follows up a fence: the core that moves, the slot that seats none, the core that has no spare (O52). -/

namespace Sys2Proof.Machine

/-! ## The steps of a follow-up (R413, R414) -/

/-- The fence of slot `s` in the lists of defects, unless RST_FENCE_CMD asked for it; with it the action that a full list makes the report carry. -/
def Chip.fenceListed (c : Chip) (s kind : Nat) (byCmd : Bool) : Chip × Nat := if byCmd then (c, 6) else c.addDefect s kind

/-- The lists, the remaps that end, and the healthy slots that remain. -/
def Chip.fenceNoted (c : Chip) (s kind : Nat) (byCmd : Bool) : Chip :=
  let r := c.fenceListed s kind byCmd
  let d := r.1.remapFenced s
  if r.2 = 6 then d else d.put (Reg.DMAP_CLUSTER_STAT_HEALTHY (s / 32)) (d.get (Reg.DMAP_CLUSTER_STAT_HEALTHY (s / 32)) - 1)

/-- The full list that the report names, 0 for none. -/
def Chip.fenceFull (c : Chip) (s kind : Nat) (byCmd : Bool) : Nat := if byCmd then 0 else (c.fenceListed s kind byCmd).2

/-- The credits of a fenced core are returned, the operations that name it end. -/
def Chip.coreFenced (c : Chip) (i : Nat) : Chip := (c.fwCredits i true false).opsFenced i

section
variable {c : Chip} {s kind i sp : Nat} {byCmd : Bool}

theorem Chip.followFence_unseated (h : (c.fenceNoted s kind byCmd).logical? s = none) :
    c.followFence s kind byCmd =
      let d := c.fenceNoted s kind byCmd
      let d := if s = d.spareOf (s / 32) then d.clr (Reg.DMAP_CLUSTER_STAT_SPARE_FREE (s / 32)) else d
      if byCmd then d.free.1.notify 0x0002 ERR_FENCED d.free.2.toNat s 0x7FF else d.reportDefect s kind 2 (c.fenceFull s kind byCmd) := by
  unfold Chip.followFence
  dsimp only
  split
  · rfl
  · rename_i i hi
    exact absurd (h.symm.trans hi) (by simp)

theorem Chip.followFence_spare (h : (c.fenceNoted s kind byCmd).logical? s = some i)
    (hsp : ((c.fenceNoted s kind byCmd).coreFenced i).spareFor (s / 32) = some sp) :
    c.followFence s kind byCmd =
      let d := ((c.fenceNoted s kind byCmd).coreFenced i).substitute i sp
      if byCmd then d.notify 0x0002 ERR_FENCED i s (d.pcore i) else d.reportDefect s kind 1 (c.fenceFull s kind byCmd) := by
  unfold Chip.followFence
  dsimp only
  split
  · rename_i hi
    exact absurd (h.symm.trans hi) (by simp)
  · rename_i i' hi
    obtain rfl : i = i' := Option.some.inj (h.symm.trans hi)
    split
    · rename_i sp' hsp'
      obtain rfl : sp = sp' := Option.some.inj (hsp.symm.trans hsp')
      rfl
    · rename_i hsp'
      exact absurd (hsp.symm.trans hsp') (by simp)

theorem Chip.followFence_alone (h : (c.fenceNoted s kind byCmd).logical? s = some i)
    (hsp : ((c.fenceNoted s kind byCmd).coreFenced i).spareFor (s / 32) = none) :
    c.followFence s kind byCmd =
      let d := ((c.fenceNoted s kind byCmd).coreFenced i).withoutSpare i (!byCmd) (fun d => d.reportDefect s kind 2 (c.fenceFull s kind byCmd))
      if byCmd then d.notify 0x0002 ERR_FENCED i s 0x7FF else d := by
  unfold Chip.followFence
  dsimp only
  split
  · rename_i hi
    exact absurd (h.symm.trans hi) (by simp)
  · rename_i i' hi
    obtain rfl : i = i' := Option.some.inj (h.symm.trans hi)
    split
    · rename_i sp' hsp'
      exact absurd (hsp.symm.trans hsp') (by simp)
    · rfl

theorem Chip.endSubstitution_seated (h : c.logical? s = some i) : c.endSubstitution s = c.withoutSpare i false id := by
  rw [Chip.endSubstitution, h]

end

/-! ## No operation under way -/

theorem Chip.remapFenced_none {c : Chip} (h : c.fw.ops = []) (s : Nat) : c.remapFenced s = c := by
  rw [Chip.remapFenced, h]; rfl

theorem Chip.opsFenced_none {c : Chip} (h : c.fw.ops = []) (i : Nat) : c.opsFenced i = c := by
  rw [Chip.opsFenced, h]; rfl

theorem Noted.fenceListed (c : Chip) {s : Nat} (hk : s / 32 < 64) (kind : Nat) (byCmd : Bool) : Noted (s / 32) c (c.fenceListed s kind byCmd).1 := by
  unfold Chip.fenceListed
  split
  · exact Noted.refl c hk
  · exact (Noted.refl c hk).addDefect s kind

theorem Noted.fenceNoted {c : Chip} (hops : c.fw.ops = []) {s : Nat} (hk : s / 32 < 64) (kind : Nat) (byCmd : Bool) : Noted (s / 32) c (c.fenceNoted s kind byCmd) := by
  have listed := Noted.fenceListed c hk kind byCmd
  rw [Chip.fenceNoted, Chip.remapFenced_none ((congrArg Fw.ops listed.fw).trans hops)]
  split
  · exact listed
  · exact listed.healthy _

theorem Noted.coreFenced {c : Chip} (hops : c.fw.ops = []) {s : Nat} (hk : s / 32 < 64) (kind i : Nat) (byCmd : Bool) :
    Noted (s / 32) c ((c.fenceNoted s kind byCmd).coreFenced i) := by
  have credited := (Noted.fenceNoted hops hk kind byCmd).fwCredits i true false
  rw [Chip.coreFenced, Chip.opsFenced_none ((congrArg Fw.ops credited.fw).trans hops)]
  exact credited

/-! ## The slot that is free for a fenced core (R413; log 162) -/

section
variable {c : Chip} {k : Nat}

theorem Chip.spareFor_spare (h : c.spareFree k = true ∧ c.fenced (c.spareOf k) = false ∧ c.spareOf k ∉ c.rst.slots) : c.spareFor k = some (c.spareOf k) := by
  obtain ⟨hfree, hfenced, hrst⟩ := h
  rw [Chip.spareFor, if_pos]
  simp [hfree, hfenced, hrst]

theorem Chip.spareFor_noSpare (h : ¬ (c.spareFree k = true ∧ c.fenced (c.spareOf k) = false ∧ c.spareOf k ∉ c.rst.slots)) :
    c.spareFor k = if c.rotPhase == 5 && c.rot.old / 32 == k && !c.testClaimed && !c.fenced c.rot.old && !c.gangCluster k && !c.rst.slots.contains c.rot.old
      then some c.rot.old else none := by
  rw [Chip.spareFor, if_neg]
  simpa [and_assoc] using h

theorem Chip.spareFor_tested (h : ¬ (c.spareFree k = true ∧ c.fenced (c.spareOf k) = false ∧ c.spareOf k ∉ c.rst.slots)) (hphase : c.rotPhase = 5)
    (hold : c.rot.old / 32 = k) (hseat : c.logical? c.rot.old = none) (hfenced : c.fenced c.rot.old = false) (hgang : c.gangCluster k = false)
    (hrst : c.rot.old ∉ c.rst.slots) : c.spareFor k = some c.rot.old := by
  rw [Chip.spareFor_noSpare h, if_pos]
  simp [Chip.testClaimed, hphase, hold, hseat, hfenced, hgang, hrst]

theorem Chip.spareFor_none (h : ¬ (c.spareFree k = true ∧ c.fenced (c.spareOf k) = false ∧ c.spareOf k ∉ c.rst.slots))
    (htest : ¬ (c.rotPhase = 5 ∧ c.rot.old / 32 = k)) : c.spareFor k = none := by
  rw [Chip.spareFor_noSpare h, if_neg]
  simp only [Bool.and_eq_true, beq_iff_eq]
  tauto

end

/-- The spare's state is the same before and after the noting. -/
theorem Noted.spareState {k : Nat} {c e : Chip} (h : Noted k c e) :
    (e.spareFree k = true ∧ e.fenced (e.spareOf k) = false ∧ e.spareOf k ∉ e.rst.slots) ↔
      (c.spareFree k = true ∧ c.fenced (c.spareOf k) = false ∧ c.spareOf k ∉ c.rst.slots) := by
  have hk := h.cluster
  have hlt : c.get (Reg.DMAP_CLUSTER_STAT_SPARE k) < 32 := Chip.get_lt c (Reg.DMAP_CLUSTER_STAT_SPARE k)
  rw [h.spareFreeOf, h.spareOf, h.fenced (by simp only [Chip.spareOf]; omega), h.rst]

/-! ## The core that moves (R413, log 162) -/

theorem lastReport_notify (c : Chip) (code status subject arg0 arg1 : Nat) : LastReport (c.notify code status subject arg0 arg1) code subject :=
  ⟨_, (congrArg List.getLast? (c.notify_kept code status subject arg0 arg1).2).trans List.getLast?_concat, rfl, rfl⟩

/-- Between `c` and `t` core `i` moved to slot `sp`: it waits for its start, the cluster has no free spare, a test of rotation goes on. -/
structure CoreMoved (c t : Chip) (i sp : Nat) : Prop where
  fences : t.fw.fences = c.fw.fences
  seat : t.pcore i = sp
  waits : i ∈ t.fw.reloads
  taken : t.get (Reg.DMAP_CLUSTER_STAT_SPARE_FREE (i / 16)) = 0
  tested : c.rotPhase = 5 → t.rotPhase = 5

/-- What stands after the move. -/
theorem CoreMoved.stands {c d t : Chip} {i sp : Nat} (h : CoreMoved c d i sp) (hi : i < 1024) (hs : Stands 0x1400000 d t) : CoreMoved c t i sp := by
  have haddr := activeSlot_addr (k := i / 16) (i := i) (by omega) hi
  have low : ∀ f : Reg.Fld, 0x20010 ≤ f.addr → f.addr < 0x1400000 → t.get f = d.get f := fun f hlo hhi =>
    hs.get f hhi (by simp only [Reg.DMAP_ROT_STAT]; omega) (by simp only [Reg.DMAP_ROT_CNT]; omega)
  refine ⟨hs.fences.trans h.fences, ?_, hs.reloads ▸ h.waits, ?_, fun h5 => hs.tested (h.tested h5)⟩
  · rw [Chip.pcore, Chip.activeSlot, low _ (by omega) haddr.1]
    exact h.seat
  · rw [low _ (by simp only [Reg.DMAP_CLUSTER_STAT_SPARE_FREE, Reg.DMAP_CLUSTER_STAT]; omega) (by simp only [Reg.DMAP_CLUSTER_STAT_SPARE_FREE, Reg.DMAP_CLUSTER_STAT]; omega)]
    exact h.taken

/-- A slot that takes core `i`'s place holds the sections saved for it. -/
def Chip.slotFilled (c : Chip) (i sp : Nat) : Chip :=
  let d := c.rotLoses (· == i / 16)
  let saved : List Section := match d.jobOfCore i with
    | some j => (d.job j).saved.filter (fun x => x.target == i)
    | none => []
  saved.foldl (fun c x => c.putCore sp x) (d.blankSlot sp)

theorem Stands.slotFilled (c : Chip) (i sp : Nat) : Stands 0x1400000 c (c.slotFilled i sp) :=
  (((Stands.refl c (by decide)).rotLoses _).blankSlot sp (by decide)).foldl (fun x hd => hd.putCore sp x (by decide)) _

theorem Chip.finishReloads_swapping {c : Chip} (h : c.allDrained = false) : c.finishReloads = c :=
  if_neg fun hd => absurd (h.symm.trans hd.2) (by decide)

/-- The filled slot, the cluster without a free spare. -/
def Chip.spareTaken (c : Chip) (i sp : Nat) : Chip := (c.slotFilled i sp).clr (Reg.DMAP_CLUSTER_STAT_SPARE_FREE (i / 16))

/-- Core `i`'s start waits for the end of the swap. -/
def Chip.startWaits (c : Chip) (i : Nat) : Chip := { c with fw := { c.fw with reloads := c.fw.reloads ++ [i] } }

theorem Chip.startWaits_allDrained (c : Chip) (i : Nat) : (c.startWaits i).allDrained = c.allDrained := rfl

theorem Chip.substitute_eq (c : Chip) (i sp : Nat) :
    c.substitute i sp = (((c.spareTaken i sp).moveCore i (sp % 32)).startWaits i).finishReloads := by
  have hwait : ∀ m : Chip, ({ m with fw := { m.fw with reloads := m.fw.reloads ++ [i] } } : Chip).finishReloads = (m.startWaits i).finishReloads := fun _ => rfl
  unfold Chip.substitute
  exact hwait _

/-- The registers below the core windows, but CLUSTER_STAT and the registers of rotation, are those before. -/
theorem Chip.rd_spareTaken (c : Chip) (i sp : Nat) {a : Nat} (hlo : 0x20010 ≤ a ∨ a < 0x20000) (hhi : a < 0x1400000) (hne : a ≠ Reg.DMAP_CLUSTER_STAT (i / 16)) :
    (c.spareTaken i sp).rd a = c.rd a :=
  (Chip.rd_put_other _ _ _ _ hne).trans ((Stands.slotFilled c i sp).regs a hhi (by simp only [Reg.DMAP_ROT_STAT]; omega) (by simp only [Reg.DMAP_ROT_CNT]; omega))

theorem Chip.spareTaken_clusters (c : Chip) (i sp : Nat) : (c.spareTaken i sp).clusters = c.clusters :=
  Chip.clusters_of_rd (c.rd_spareTaken i sp (.inr (by decide)) (by decide) (by simp only [Reg.FUSE_VARIANT, Reg.DMAP_CLUSTER_STAT]; omega))

theorem Chip.spareTaken_drained {c : Chip} (i sp : Nat) (hi : i < 1024) (hd : c.allDrained = true) : (c.spareTaken i sp).allDrained = true := by
  refine Chip.allDrained_iff.mpr fun m hm => ?_
  rw [Chip.spareTaken_clusters] at hm
  have := c.clusters_le
  have hstat : (c.spareTaken i sp).get (Reg.NI_MAP_STAT_DRAINED m) = c.get (Reg.NI_MAP_STAT_DRAINED m) := by
    refine Chip.get_of_rd _ (c.rd_spareTaken i sp (.inl ?_) ?_ ?_) <;>
      simp only [Reg.NI_MAP_STAT_DRAINED, Reg.NI_MAP_STAT, Reg.DMAP_CLUSTER_STAT] <;> omega
  exact (congrArg (· == 0) hstat).trans (Chip.allDrained_iff.mp hd m hm)

/-- A core whose new seat stands, with the start that waits. -/
theorem CoreMoved.startWaits {c m : Chip} {i sp : Nat} (hfences : m.fw.fences = c.fw.fences) (hseat : m.activeSlot (i / 16) i = sp % 32) (hsp : sp / 32 = i / 16)
    (htaken : m.get (Reg.DMAP_CLUSTER_STAT_SPARE_FREE (i / 16)) = 0) (htested : c.rotPhase = 5 → m.rotPhase = 5) : CoreMoved c (m.startWaits i) i sp := by
  refine ⟨hfences, ?_, List.mem_append_right _ (List.mem_singleton_self i), htaken, htested⟩
  have hpcore : (m.startWaits i).pcore i = i / 16 * 32 + m.activeSlot (i / 16) i := rfl
  rw [hpcore, hseat]
  omega

theorem Chip.spareTaken_taken (c : Chip) (i sp : Nat) : (c.spareTaken i sp).get (Reg.DMAP_CLUSTER_STAT_SPARE_FREE (i / 16)) = 0 := by
  rw [Chip.spareTaken]
  exact Chip.get_put_fits _ _ _ rfl

theorem Chip.spareTaken_tested {c : Chip} (i sp : Nat) (h : c.rotPhase = 5) : (c.spareTaken i sp).rotPhase = 5 := by
  refine (Chip.get_put_addr _ _ _ _ ?_).trans ((Stands.slotFilled c i sp).tested h)
  simp only [Reg.DMAP_ROT_STAT_PHASE, Reg.DMAP_ROT_STAT, Reg.DMAP_CLUSTER_STAT_SPARE_FREE, Reg.DMAP_CLUSTER_STAT]
  omega

theorem Chip.spareTaken_fences (c : Chip) (i sp : Nat) : (c.spareTaken i sp).fw.fences = c.fw.fences := (Stands.slotFilled c i sp).fences

theorem Chip.substitute_moved {c : Chip} {i sp : Nat} (hs : c.Sorted) (hd : c.allDrained = true) (hi : i < 1024) (hk : i / 16 < c.clusters) (hsp : sp / 32 = i / 16) :
    CoreMoved c (c.substitute i sp) i sp := by
  have hsorted : (c.spareTaken i sp).Sorted := ((Stands.slotFilled c i sp).sorted hs).wr _ _
  obtain ⟨hseat, hswap, hlow, hfw⟩ := Chip.moveCore_spec (slot := sp % 32) hsorted (Chip.spareTaken_drained i sp hi hd) hi
    ((c.spareTaken_clusters i sp).symm ▸ hk) (Nat.mod_lt _ (by decide))
  have hwait : (((c.spareTaken i sp).moveCore i (sp % 32)).startWaits i).allDrained = false := (Chip.startWaits_allDrained _ i).trans hswap
  have hstat : Reg.DMAP_CLUSTER_STAT (i / 16) < 0x1004000 := by simp only [Reg.DMAP_CLUSTER_STAT]; omega
  rw [Chip.substitute_eq, Chip.finishReloads_swapping hwait]
  refine CoreMoved.startWaits ((congrArg Fw.fences hfw).trans (c.spareTaken_fences i sp)) hseat hsp ?_ fun h5 => ?_
  · exact (Chip.get_of_rd (Reg.DMAP_CLUSTER_STAT_SPARE_FREE (i / 16)) (hlow _ hstat)).trans (c.spareTaken_taken i sp)
  · exact (Chip.get_of_rd Reg.DMAP_ROT_STAT_PHASE (hlow _ (by decide))).trans (Chip.spareTaken_tested i sp h5)

end Sys2Proof.Machine
end

section
/-! SUPPORT. The job of a fenced core that has no spare (O52). -/

namespace Sys2Proof.Machine

/-! ## Writes that switch a job off leave the fences that wait (R35) -/

theorem Chip.typedWrite_fw (c : Chip) (o : Nat) (v : Word) : (c.typedWrite o v).fw = c.fw := by
  unfold Chip.typedWrite Chip.plainWrite
  split <;> rfl

theorem Chip.pmonCfgWrite_fw (c : Chip) (b scope : Nat) (v : Word) : (c.pmonCfgWrite b scope v).fw = c.fw := by
  unfold Chip.pmonCfgWrite
  dsimp only
  split <;> rfl

theorem Chip.setIf_fw (c : Chip) (q : Prop) [Decidable q] (f : Reg.Fld) : (if q then c.set f else c).fw = c.fw := by
  split <;> rfl

theorem Chip.capCfgWrite_fw (c : Chip) (k : Nat) (v : Word) : (c.capCfgWrite k v).fw = c.fw := by
  unfold Chip.capCfgWrite
  exact (Chip.setIf_fw _ _ _).trans rfl

theorem Chip.keepOrPut_fw (c : Chip) (q : Prop) [Decidable q] (f : Reg.Fld) (v : Nat) : (if q then c else c.put f v).fw = c.fw := by
  split <;> rfl

theorem Chip.pairEnable_fw (c : Chip) (n : Nat) : (c.pairEnable n).fw = c.fw := by
  unfold Chip.pairEnable
  split <;> rfl

theorem Chip.pairCfgWrite_fw (c : Chip) (n : Nat) (v : Word) : (c.pairCfgWrite n v).fw = c.fw := by
  have enabled : (if v.getLsbD 0 then c.pairEnable n else c).fw = c.fw := by
    split
    · exact c.pairEnable_fw n
    · rfl
  unfold Chip.pairCfgWrite
  exact (Chip.keepOrPut_fw _ _ _ _).trans ((Chip.typedWrite_fw _ _ _).trans enabled)

theorem Chip.grant_fw (c : Chip) (l : Nat) : (c.grant l).fw = c.fw := by
  unfold Chip.grant
  split <;> rfl

theorem Chip.linkEnable_fw (c : Chip) (l : Nat) : (c.linkEnable l).fw = c.fw := by
  unfold Chip.linkEnable whenLink
  split
  · split <;> rfl
  · rfl

theorem Chip.ferCtrlWrite_fw (c : Chip) (v : Word) : (c.ferCtrlWrite v).fw = c.fw :=
  (foldl_kept Chip.fw (fun d l => (d.linkEnable l).grant_fw l |>.trans (d.linkEnable_fw l)) _ _).trans (c.typedWrite_fw _ _)

theorem Chip.mapBcastSwap_fw (c : Chip) (epoch : Nat) : (c.mapBcastSwap epoch).fw = c.fw := by
  unfold Chip.mapBcastSwap
  dsimp only
  split
  · exact foldl_kept Chip.fw (fun d k => d.put_fw (Reg.NI_MAP_STAT_SWAP_REJ k) 1) _ _
  · exact foldl_kept Chip.fw (fun d k => d.mapSwap_fw k epoch) _ _

theorem Chip.mapCtrlSwap_fw (c : Chip) (k epoch : Nat) : (c.mapCtrlSwap k epoch).fw = c.fw := by
  unfold Chip.mapCtrlSwap
  split
  · split
    · rfl
    · exact c.mapSwap_fw k epoch
  · rfl

theorem Stands.dropExchange {n : Nat} {c d : Chip} (h : Stands n c d) (p : Nat) (hn : n ≤ 0x2000000) : Stands n c (d.dropExchange p) := by
  unfold Chip.dropExchange
  split
  · exact (h.same _).complete _ _ _ _ _ hn
  · exact h

theorem Chip.portCfgWrite_fences (c : Chip) (p : Nat) (v : Word) : (c.portCfgWrite p v).fw.fences = c.fw.fences := by
  have written := congrArg Fw.fences (c.typedWrite_fw (Reg.CL_PORT_CFG p) v)
  unfold Chip.portCfgWrite
  dsimp only
  split
  · have paused := (((Stands.refl (c.typedWrite (Reg.CL_PORT_CFG p) v) (Nat.le_refl _)).dropExchange p (by decide)).pauseOver 0 p (by decide)).fences
    exact paused.trans written
  · exact written

theorem fences_ite {c d e : Chip} {q : Prop} [Decidable q] (h : q → d.fw.fences = c.fw.fences) (h' : ¬ q → e.fw.fences = c.fw.fences) :
    (if q then d else e).fw.fences = c.fw.fences := by
  split
  · exact h ‹_›
  · exact h' ‹_›

/-- A write of EN at a port's place, whichever register stands there. -/
theorem Chip.regWriteHigh_fences (c : Chip) {o : Nat} (v : Word) (hlo : 0x131000 ≤ o) (hal : o % 0x40 = 0) : (c.regWriteHigh o v).fw.fences = c.fw.fences := by
  have typed := congrArg Fw.fences (c.typedWrite_fw o v)
  have timer : (c.timerWrite o v).fw.fences = c.fw.fences := by
    rw [Chip.timerWrite, if_pos (by omega)]
    rfl
  have cap : (c.capWrite o v).fw.fences = c.fw.fences := by
    rw [Chip.capWrite, if_pos (by omega)]
    exact congrArg Fw.fences (c.capCfgWrite_fw _ _)
  unfold Chip.regWriteHigh
  rw [if_neg (by omega), if_neg (by simp only [Reg.PMON_CTRL]; omega), if_neg (by simp only [Reg.DUNE_SHARE]; omega), if_neg (by simp only [Reg.DUNE_CMD]; omega)]
  refine fences_ite (fun _ => c.portCfgWrite_fences _ _) fun _ => ?_
  rw [if_neg (by omega)]
  refine fences_ite (fun _ => timer) fun _ => fences_ite (fun _ => cap) fun _ => fences_ite (fun _ => congrArg Fw.fences (c.pairCfgWrite_fw _ _)) fun _ =>
    fences_ite (fun _ => congrArg Fw.fences (c.ferCtrlWrite_fw _)) fun _ => ?_
  rw [if_neg (by omega)]
  refine fences_ite (fun _ => fences_ite (fun _ => congrArg Fw.fences (c.mapBcastSwap_fw _)) fun _ => rfl) fun _ => fences_ite (fun _ => ?_) fun _ => typed
  exact fences_ite (fun _ => fences_ite (fun _ => congrArg Fw.fences (c.pmonCfgWrite_fw _ _ _)) fun _ => rfl) fun _ =>
    fences_ite (fun _ => fences_ite (fun _ => congrArg Fw.fences (c.mapCtrlSwap_fw _ _)) fun _ => rfl) fun _ => typed

theorem Chip.regWrite_portCfg_fences (c : Chip) (p : Nat) (v : Word) : (c.regWrite (Reg.CL_PORT_CFG p) v whoHcu).fw.fences = c.fw.fences := by
  have haddr : Reg.CL_PORT_CFG p = 0x131000 + p * 0x40 := rfl
  rw [Chip.regWrite, if_neg (by omega)]
  exact c.regWriteHigh_fences v (by omega) (by omega)

/-! ## The job that ends (R35) -/

theorem Chip.haltJob_fences (c : Chip) (j : Nat) : (c.haltJob j).fw.fences = c.fw.fences := by
  have ports : (c.jobPorts (c.job j) false).fw.fences = c.fw.fences :=
    foldl_kept (fun d => d.fw.fences) (fun d p => d.regWrite_portCfg_fences p _) _ _
  have chans : ((c.jobPorts (c.job j) false).jobEmit (c.job j) false).fw = (c.jobPorts (c.job j) false).fw :=
    foldl_kept Chip.fw (fun d k => d.capCfgWrite_fw k _) _ _
  have halted : ∀ (d : Chip) (i : Nat), (if d.seated i then d.haltRequest (d.pcore i) false else d).fw.fences = d.fw.fences := fun d i => by
    split
    · exact ((Stands.refl d (Nat.le_refl _)).haltRequest _ false (by decide)).fences
    · rfl
  exact ((foldl_kept (fun d => d.fw.fences) halted _ _).trans (congrArg Fw.fences chans)).trans ports

/-- Between `c` and `t` the job of core `i` ended, where it had one; the fences that wait are the same. -/
structure JobEnded (c t : Chip) (i : Nat) : Prop where
  fences : t.fw.fences = c.fw.fences
  ended : ∀ j, c.jobOfCore i = some j → (t.job j).state = 5

theorem JobEnded.notify {c d : Chip} {i : Nat} (h : JobEnded c d i) (code status subject arg0 arg1 : Nat) : JobEnded c (d.notify code status subject arg0 arg1) i := by
  have told := (Stands.refl d (Nat.le_refl _)).notify code status subject arg0 arg1 (by decide)
  refine ⟨told.fences.trans h.fences, fun j hj => ?_⟩
  rw [Chip.job, told.jobs]
  exact h.ended j hj

theorem JobEnded.noJob {c : Chip} {i : Nat} (h : c.jobOfCore i = none) : JobEnded c c i :=
  ⟨rfl, fun _ hj => absurd (h.symm.trans hj) (by simp)⟩

/-- A job that ended, its cells re-mapped to their standbys. -/
def Chip.jobMoved (c : Chip) (j : Nat) (moved : List Cell) : Chip := (c.endJob j).setJob j (((c.endJob j).job j).enable moved)

theorem JobEnded.jobMoved {c : Chip} {i j : Nat} (h : c.jobOfCore i = some j) (moved : List Cell) : JobEnded c (c.jobMoved j moved) i := by
  refine ⟨c.haltJob_fences j, fun j' hj' => ?_⟩
  obtain rfl : j = j' := Option.some.inj (h.symm.trans hj')
  have hstate : ((c.endJob j).job j).state = 5 := congrArg Job.state (Chip.job_setJob_same _ _ _)
  exact (congrArg Job.state (Chip.job_setJob_same _ _ _)).trans hstate

section
variable {c : Chip} {i : Nat} (report : Bool) (other : Chip → Chip)

theorem Chip.withoutSpare_noJob (h : c.jobOfCore i = none) : c.withoutSpare i report other = if report then other c else c := by
  rw [Chip.withoutSpare, h]

theorem Chip.withoutSpare_job {j : Nat} (h : c.jobOfCore i = some j) :
    ∃ moved, c.withoutSpare i report other =
      if !report then c.jobMoved j moved
      else if (c.job j).multi then (c.jobMoved j moved).notify 0x0004 ERR_FENCED j (c.jobMoved j moved).chipId moved.length
      else (c.jobMoved j moved).notify 0x0003 ERR_FENCED j i 0 := by
  rw [Chip.withoutSpare, h]
  exact ⟨_, rfl⟩

/-- Without a report of its own the job ends, or nothing happens. -/
theorem JobEnded.withoutSpare_silent : JobEnded c (c.withoutSpare i false other) i := by
  cases h : c.jobOfCore i with
  | none =>
    rw [Chip.withoutSpare_noJob _ _ h]
    exact JobEnded.noJob h
  | some j =>
    obtain ⟨moved, he⟩ := Chip.withoutSpare_job false other h
    rw [he]
    exact JobEnded.jobMoved h moved

end

end Sys2Proof.Machine
end

section
/-! SUPPORT. The fence that firmware follows up, case by case, and the obligation of fenced slots (O52). -/

namespace Sys2Proof.Machine

/-! ## A core that has a place to go to -/

/-- The report of what was done with a fence, at the end of its follow-up. -/
def FenceReported (t : Chip) (p i : Nat) (byCmd : Bool) : Prop := (byCmd = true → LastReport t 0x0002 i) ∧ (byCmd = false → LastReport t 0x000B p)

section
variable {c : Chip} {p kind i sp : Nat} {byCmd : Bool}

theorem CoreMoved.noted {k : Nat} {c d t : Chip} (hn : Noted k c d) (h : CoreMoved d t i sp) : CoreMoved c t i sp :=
  ⟨h.fences.trans (congrArg Fw.fences hn.fw), h.seat, h.waits, h.taken, fun h5 => h.tested (hn.rotPhase.trans h5)⟩

/-- The follow-up moves the core to the slot that is free for it, and says so. -/
theorem Chip.followFence_moves (hs : c.Sorted) (hd : c.allDrained = true) (hops : c.fw.ops = []) (hk : p / 32 < c.clusters) (hseat : c.logical? p = some i)
    (hfree : ((c.fenceNoted p kind byCmd).coreFenced i).spareFor (p / 32) = some sp) (hsp : sp / 32 = p / 32) :
    CoreMoved c (c.followFence p kind byCmd) i sp ∧ FenceReported (c.followFence p kind byCmd) p i byCmd := by
  have hk64 : p / 32 < 64 := Nat.lt_of_lt_of_le hk c.clusters_le
  have hcluster := Chip.logical?_cluster hseat
  have hi : i < 1024 := by omega
  have fenced := Noted.coreFenced hops hk64 kind i byCmd
  have hseat' := ((Noted.fenceNoted hops hk64 kind byCmd).logical? hk64).trans hseat
  have hcl : i / 16 < ((c.fenceNoted p kind byCmd).coreFenced i).clusters := by rw [fenced.clusters, hcluster]; exact hk
  have moved := CoreMoved.noted fenced (Chip.substitute_moved (fenced.sorted hs) (fenced.allDrained hd) hi hcl (hsp.trans hcluster.symm))
  have told : ∀ code status subject a0 a1, CoreMoved c ((((c.fenceNoted p kind byCmd).coreFenced i).substitute i sp).notify code status subject a0 a1) i sp :=
    fun code status subject a0 a1 => moved.stands hi ((Stands.refl _ (by decide)).notify code status subject a0 a1 (by decide))
  have ht := Chip.followFence_spare hseat' hfree
  dsimp only at ht
  generalize ((c.fenceNoted p kind byCmd).coreFenced i).substitute i sp = e at ht told
  rw [ht]
  cases byCmd with
  | true => exact ⟨told _ _ _ _ _, fun _ => lastReport_notify _ _ _ _ _ _, fun h => absurd h (by decide)⟩
  | false => exact ⟨told _ _ _ _ _, fun h => absurd h (by decide), fun _ => lastReport_notify _ _ _ _ _ _⟩

/-! ## A core that has none -/

theorem JobEnded.noted {k : Nat} {c d t : Chip} (hn : Noted k c d) (h : JobEnded d t i) : JobEnded c t i :=
  ⟨h.fences.trans (congrArg Fw.fences hn.fw), fun j hj => h.ended j ((hn.jobOfCore i).trans hj)⟩

/-- The follow-up ends the core's job, and says so. -/
theorem Chip.followFence_ends (hops : c.fw.ops = []) (hk : p / 32 < 64) (hseat : c.logical? p = some i)
    (hnone : ((c.fenceNoted p kind byCmd).coreFenced i).spareFor (p / 32) = none) :
    JobEnded c (c.followFence p kind byCmd) i ∧ (byCmd = true → LastReport (c.followFence p kind byCmd) 0x0002 i) ∧
    (byCmd = false → c.jobOfCore i = none → LastReport (c.followFence p kind byCmd) 0x000B p) ∧
    (byCmd = false → ∀ j, c.jobOfCore i = some j → LastReport (c.followFence p kind byCmd) (if (c.job j).multi then 0x0004 else 0x0003) j) := by
  have fenced := Noted.coreFenced hops hk kind i byCmd
  have hseat' := ((Noted.fenceNoted hops hk kind byCmd).logical? hk).trans hseat
  have hjob := fenced.jobOfCore i
  rw [Chip.followFence_alone hseat' hnone]
  generalize (c.fenceNoted p kind byCmd).coreFenced i = d at *
  cases byCmd with
  | true => exact ⟨.noted fenced (JobEnded.withoutSpare_silent _ |>.notify _ _ _ _ _), fun _ => lastReport_notify _ _ _ _ _ _, fun h => absurd h (by decide), fun h => absurd h (by decide)⟩
  | false =>
    cases hj : c.jobOfCore i with
    | none =>
      have hj' := hjob.trans hj
      have ht := Chip.withoutSpare_noJob (c := d) (i := i) true (fun d => d.reportDefect p kind 2 (c.fenceFull p kind false)) hj'
      refine ⟨.noted fenced ?_, fun h => absurd h (by decide), fun _ _ => ?_, fun _ j h => absurd h (by simp)⟩
      · exact ht ▸ (JobEnded.noJob hj').notify _ _ _ _ _
      · exact ht ▸ lastReport_notify _ _ _ _ _ _
    | some j =>
      have hj' := hjob.trans hj
      obtain ⟨moved, ht⟩ := Chip.withoutSpare_job (c := d) (i := i) true (fun d => d.reportDefect p kind 2 (c.fenceFull p kind false)) hj'
      have ended := JobEnded.jobMoved hj' moved
      refine ⟨.noted fenced ?_, fun h => absurd h (by decide), fun _ h => absurd h (by simp), fun _ j' hj'' => ?_⟩
      · refine ht ▸ ?_
        show JobEnded d (if (d.job j).multi then _ else _) i
        split
        · exact ended.notify _ _ _ _ _
        · exact ended.notify _ _ _ _ _
      · obtain rfl : j = j' := Option.some.inj hj''
        refine ht ▸ ?_
        rw [← fenced.job]
        show LastReport (if (d.job j).multi then _ else _) _ _
        split
        · exact lastReport_notify _ _ _ _ _ _
        · exact lastReport_notify _ _ _ _ _ _

end

/-! ## A slot that seats no core (R414) -/

/-- The end of a remap that a fence overtakes leaves what stands below the core windows. -/
theorem Stands.remapEnd {c d : Chip} (h : Stands 0x1400000 c d) (o : Op) (ho : o.code = 0x51) (status : Nat) : Stands 0x1400000 c (d.opEnd o status) := by
  refine Stands.complete ?_ _ _ _ _ _ (by decide)
  unfold Chip.opRelease
  dsimp only
  rw [if_neg (by rw [ho]; decide), if_neg (by rw [ho]; decide), if_neg (by simp [Op.freezes, ho])]
  split
  · rename_i hq
    exact (h.same _).rotAbandon (by omega)
  · exact h.same _

theorem Stands.remapFenced (c : Chip) (s : Nat) : Stands 0x1400000 c (c.remapFenced s) := by
  unfold Chip.remapFenced
  refine List.foldlRecOn _ _ (motive := fun d => Stands 0x1400000 c d) (Stands.refl c (by decide)) fun d hd o ho => hd.remapEnd o ?_ _
  have := (List.mem_filter.mp ho).2
  simp only [Bool.and_eq_true, beq_iff_eq] at this
  exact this.1

theorem Stands.logical? {c d : Chip} (h : Stands 0x1400000 c d) {p : Nat} (hp : p / 32 < 64) : d.logical? p = c.logical? p :=
  Chip.logical?_congr fun j hj => by
    have haddr := activeSlot_addr (k := p / 32) (i := j + p / 32 * 16) hp (by omega)
    exact h.get _ haddr.1 (by simp only [Reg.DMAP_ROT_STAT]; omega) (by simp only [Reg.DMAP_ROT_CNT]; omega)

theorem Stands.spareOf {c d : Chip} (h : Stands 0x1400000 c d) {k : Nat} (hk : k < 64) : d.spareOf k = c.spareOf k := by
  refine congrArg (k * 32 + ·) (h.get (Reg.DMAP_CLUSTER_STAT_SPARE k) ?_ ?_ ?_) <;>
    simp only [Reg.DMAP_CLUSTER_STAT_SPARE, Reg.DMAP_CLUSTER_STAT, Reg.DMAP_ROT_STAT, Reg.DMAP_ROT_CNT] <;> omega

/-- Whatever operations run, the noting leaves the seats of the cluster, its spare, the fences that wait and the jobs. -/
theorem Chip.fenceNoted_spec (c : Chip) {p : Nat} (hk : p / 32 < 64) (kind : Nat) (byCmd : Bool) :
    let d := c.fenceNoted p kind byCmd
    d.logical? p = c.logical? p ∧ d.spareOf (p / 32) = c.spareOf (p / 32) ∧ d.fw.fences = c.fw.fences ∧ d.fw.jobs = c.fw.jobs := by
  intro d
  have listed := Noted.fenceListed c hk kind byCmd
  have remapped := Stands.remapFenced (c.fenceListed p kind byCmd).1 p
  have healthy : Noted (p / 32) ((c.fenceListed p kind byCmd).1.remapFenced p) d := by
    show Noted (p / 32) _ (c.fenceNoted p kind byCmd)
    unfold Chip.fenceNoted
    dsimp only
    split
    · exact Noted.refl _ hk
    · exact (Noted.refl _ hk).healthy _
  exact ⟨(healthy.logical? hk).trans ((remapped.logical? hk).trans (listed.logical? hk)), healthy.spareOf.trans ((remapped.spareOf hk).trans listed.spareOf),
    (congrArg Fw.fences healthy.fw).trans (remapped.fences.trans (congrArg Fw.fences listed.fw)),
    (congrArg Fw.jobs healthy.fw).trans (remapped.jobs.trans (congrArg Fw.jobs listed.fw))⟩

/-- The follow-up of a slot that seats no core: the spare goes where it is the spare, the jobs stay. -/
theorem Chip.followFence_empty {c : Chip} {p : Nat} (hk : p / 32 < 64) (kind : Nat) (byCmd : Bool) (hseat : c.logical? p = none) :
    let t := c.followFence p kind byCmd
    t.fw.fences = c.fw.fences ∧ t.fw.jobs = c.fw.jobs ∧ (p = c.spareOf (p / 32) → t.get (Reg.DMAP_CLUSTER_STAT_SPARE_FREE (p / 32)) = 0) ∧
    (byCmd = false → LastReport t 0x000B p) := by
  intro t
  obtain ⟨hlogical, hspare, hfences, hjobs⟩ := c.fenceNoted_spec hk kind byCmd
  have ht := Chip.followFence_unseated (hlogical.trans hseat)
  dsimp only at ht
  rw [hspare] at ht
  let e := if p = c.spareOf (p / 32) then (c.fenceNoted p kind byCmd).clr (Reg.DMAP_CLUSTER_STAT_SPARE_FREE (p / 32)) else c.fenceNoted p kind byCmd
  have hfw : e.fw = (c.fenceNoted p kind byCmd).fw := by
    simp only [e]
    split <;> rfl
  have htaken : p = c.spareOf (p / 32) → e.get (Reg.DMAP_CLUSTER_STAT_SPARE_FREE (p / 32)) = 0 := fun hp => by
    simp only [e]
    rw [if_pos hp]
    exact Chip.get_put_fits _ _ _ rfl
  obtain ⟨code, status, subject, a0, a1, d, hd, ht, hcode⟩ : ∃ code status subject a0 a1, ∃ d : Chip, Stands 0x1400000 e d ∧ t = d.notify code status subject a0 a1 ∧
      (byCmd = false → code = 0x000B ∧ subject = p) := by
    cases byCmd with
    | true => exact ⟨_, _, _, _, _, e.free.1, (Stands.refl e (by decide)).same _, ht, fun h => absurd h (by decide)⟩
    | false => exact ⟨_, _, _, _, _, e, Stands.refl e (by decide), ht, fun _ => ⟨rfl, rfl⟩⟩
  have told : Stands 0x1400000 e t := ht ▸ hd.notify code status subject a0 a1 (by decide)
  refine ⟨told.fences.trans ((congrArg Fw.fences hfw).trans hfences), told.jobs.trans ((congrArg Fw.jobs hfw).trans hjobs), fun hp => ?_, fun hb => ?_⟩
  · rw [told.get _ (by simp only [Reg.DMAP_CLUSTER_STAT_SPARE_FREE, Reg.DMAP_CLUSTER_STAT]; omega)
      (by simp only [Reg.DMAP_CLUSTER_STAT_SPARE_FREE, Reg.DMAP_CLUSTER_STAT, Reg.DMAP_ROT_STAT]; omega)
      (by simp only [Reg.DMAP_CLUSTER_STAT_SPARE_FREE, Reg.DMAP_CLUSTER_STAT, Reg.DMAP_ROT_CNT]; omega)]
    exact htaken hp
  · obtain ⟨rfl, rfl⟩ := hcode hb
    exact ht ▸ lastReport_notify _ _ _ _ _ _

/-! ## FENCE_SUBSTITUTION (R413) -/

/-- The fence that firmware follows up no longer waits. -/
def Chip.fencesLeft (c : Chip) (rest : List (Nat × Nat × Bool)) : Chip := { c with fw := { c.fw with fences := rest } }

section
variable {s : State} {p kind : Nat} {byCmd : Bool} {rest : List (Nat × Nat × Bool)}

theorem leaves_fenceSubstitution (h : s.chip.fw.fences = (p, kind, byCmd) :: rest) (hup : s.chip.fwUp = true) (hd : s.chip.allDrained = true) :
    Leaves .fenceSubstitution s (if kind = 0 then (s.chip.fencesLeft rest).endSubstitution p else (s.chip.fencesLeft rest).followFence p kind byCmd) := by
  refine leaves_of_act (show exec .fenceSubstitution s = execFenceSubstitution s from rfl) ?_
  dsimp only
  split
  · rename_i p' kind' byCmd' rest' h'
    obtain ⟨⟨rfl, rfl, rfl⟩, rfl⟩ : (p = p' ∧ kind = kind' ∧ byCmd = byCmd') ∧ rest = rest' := by simpa using h.symm.trans h'
    exact if_pos ⟨hup, hd⟩
  · rename_i h'
    exact absurd (h.symm.trans h') (by simp)

theorem leaves_fenceSubstitution_idle (h : s.chip.fw.fences = [] ∨ s.chip.fwUp = false ∨ s.chip.allDrained = false) : Leaves .fenceSubstitution s s.chip := by
  refine leaves_of_act (show exec .fenceSubstitution s = execFenceSubstitution s from rfl) ?_
  dsimp only
  split
  · rename_i h'
    refine if_neg fun hd => ?_
    rcases h with h | h | h
    · exact absurd (h.symm.trans h') (by simp)
    · exact absurd (h.symm.trans hd.1) (by decide)
    · exact absurd (h.symm.trans hd.2) (by decide)
  · rfl

end

theorem fenceFollowUpHold : FenceFollowUpHold := by
  intro s p kind i byCmd rest c k next due spare tested
  let d := c.fencesLeft rest
  have follow : due → Leaves .fenceSubstitution s (d.followFence p kind byCmd) := fun ⟨⟨hf, _, hup, hd⟩, hkind⟩ => by
    have := leaves_fenceSubstitution hf hup hd
    rwa [if_neg hkind] at this
  have hk64 : k < c.clusters → k < 64 := fun h => Nat.lt_of_lt_of_le h c.clusters_le
  refine ⟨leaves_fenceSubstitution_idle, ?_, ?_, ?_, ?_, ?_⟩
  · intro hwf hdue hseat hspare hops
    obtain ⟨_, hk, _, hd⟩ := hdue.1
    have fenced := Noted.coreFenced (c := d) hops (hk64 hk) kind i byCmd
    have hspareOf : d.spareOf k / 32 = k := by
      have hlt : d.get (Reg.DMAP_CLUSTER_STAT_SPARE k) < 32 := Chip.get_lt d (Reg.DMAP_CLUSTER_STAT_SPARE k)
      simp only [Chip.spareOf]
      omega
    have hfree := (Chip.spareFor_spare (fenced.spareState.mpr hspare)).trans (congrArg some fenced.spareOf)
    obtain ⟨moved, reported⟩ := Chip.followFence_moves (c := d) hwf.1 hd hops hk hseat hfree hspareOf
    have hcluster : i / 16 = k := Chip.logical?_cluster hseat
    exact ⟨_, follow hdue, moved.fences, moved.seat, moved.waits, hcluster ▸ moved.taken, reported⟩
  · intro hwf hdue hseat hspare ⟨hphase, hold⟩ hempty hfenced hgang hrst _ hops
    obtain ⟨_, hk, _, hd⟩ := hdue.1
    have fenced := Noted.coreFenced (c := d) hops (hk64 hk) kind i byCmd
    have hslot : c.rot.old / 32 < 64 := hold.symm ▸ hk64 hk
    have hfree : ((d.fenceNoted p kind byCmd).coreFenced i).spareFor k = some c.rot.old := by
      rw [Chip.spareFor_tested (fun h => hspare (fenced.spareState.mp h)) (fenced.rotPhase.trans hphase) (by rw [fenced.rot]; exact hold)
        (by rw [fenced.rot]; exact (fenced.logical? hslot).trans hempty) (by rw [fenced.rot]; exact (fenced.fenced hslot).trans hfenced)
        (fenced.gangCluster.trans hgang) (by rw [fenced.rot, fenced.rst]; exact hrst), fenced.rot]
      rfl
    obtain ⟨moved, -⟩ := Chip.followFence_moves (c := d) hwf.1 hd hops hk hseat hfree hold
    exact ⟨_, follow hdue, moved.fences, moved.seat, moved.waits, moved.tested hphase⟩
  · intro hdue hseat hspare htested hops
    obtain ⟨_, hk, _, _⟩ := hdue.1
    have fenced := Noted.coreFenced (c := d) hops (hk64 hk) kind i byCmd
    have hnone : ((d.fenceNoted p kind byCmd).coreFenced i).spareFor k = none :=
      Chip.spareFor_none (fun h => hspare (fenced.spareState.mp h)) fun h => htested ⟨fenced.rotPhase.symm.trans h.1, by rw [fenced.rot] at h; exact h.2⟩
    obtain ⟨ended, reports⟩ := Chip.followFence_ends (c := d) hops (hk64 hk) hseat hnone
    exact ⟨_, follow hdue, ended.fences, ended.ended, reports⟩
  · intro ⟨hf, _, hup, hd⟩ hkind hseat
    have ht := leaves_fenceSubstitution hf hup hd
    rw [if_pos hkind, Chip.endSubstitution_seated (c := d) hseat] at ht
    have ended := JobEnded.withoutSpare_silent (c := d) (i := i) id
    exact ⟨_, ht, ended.fences, ended.ended⟩
  · intro hdue hseat
    obtain ⟨_, hk, _, _⟩ := hdue.1
    exact ⟨_, follow hdue, Chip.followFence_empty (c := d) (hk64 hk) kind byCmd hseat⟩

/-- Settles O52: a fence writes only what its slot and its report hold; the swap of the follow-up is one copy of the shadow maps. -/
theorem fencedSlots : Obligations.FencedSlots := ⟨fencesHold, fenceFollowUpHold⟩

end Sys2Proof.Machine
end

section
/-! SUPPORT. What replies, reports and records leave as it stands: everything but memory, firmware's and the host's side, the sandglass, and the registers
of these. -/

namespace Sys2Proof.Machine

/-- The registers that replies, reports and records write: sandglass and event counters of the chip, and all from the routers' on
(BAR0 and the event counters of routers and cores among them). -/
def ReportRegs (a : Nat) : Prop := (0xF0000 ≤ a ∧ a < 0x110000) ∨ 0x1000000 ≤ a

/-- Between `c` and `d` firmware may have answered and reported, records and counts may have been made: nothing else differs. -/
structure OnlyReports (c d : Chip) : Prop where
  rest : { d with regs := c.regs, mem := c.mem, fw := c.fw, host := c.host, trip := c.trip, out := c.out } = c
  regs : RegsKept c d ReportRegs

namespace OnlyReports

theorem refl (c : Chip) : OnlyReports c c := ⟨rfl, RegsKept.refl _ _⟩

theorem trans {c d e : Chip} (h : OnlyReports c d) (h' : OnlyReports d e) : OnlyReports c e :=
  ⟨(congrArg (fun x : Chip => { x with regs := c.regs, mem := c.mem, fw := c.fw, host := c.host, trip := c.trip, out := c.out }) h'.rest).trans h.rest,
   h.regs.trans h'.regs⟩

/-! ### What is read of the block afterwards -/

section
variable {c d : Chip} (h : OnlyReports c d)
include h

theorem ports : d.ports = c.ports := (congrArg Chip.ports h.rest :)
theorem time : d.time = c.time := (congrArg Chip.time h.rest :)
theorem dune : d.dune = c.dune := (congrArg Chip.dune h.rest :)
theorem cores : d.cores = c.cores := (congrArg Chip.cores h.rest :)
theorem fabric : FabricKept c d := ⟨(congrArg Chip.routers h.rest :), (congrArg Chip.bridge h.rest :)⟩
theorem port (p : Nat) : d.port p = c.port p := by rw [Chip.port, Chip.port, h.ports]

theorem get (f : Reg.Fld) (hf : ¬ ReportRegs f.addr) : d.get f = c.get f := by rw [Chip.get, Chip.get, h.regs _ hf]

/-! ### The single changes -/

theorem same (e : Chip) (hregs : e.regs = d.regs := by rfl)
    (hrest : { e with regs := d.regs, mem := d.mem, fw := d.fw, host := d.host, trip := d.trip, out := d.out } = d := by rfl) : OnlyReports c e :=
  h.trans ⟨hrest, fun a _ => Chip.rd_congr d e hregs a⟩

theorem onlyRegs {e : Chip} {P : Nat → Prop} (he : OnlyRegs d e P) (hP : ∀ a, P a → ReportRegs a) : OnlyReports c e :=
  h.trans ⟨congrArg (fun x : Chip => { x with mem := d.mem, fw := d.fw, host := d.host, trip := d.trip, out := d.out }) he.1, he.2.mono hP⟩

theorem wr {a : Nat} (w : Word) (ha : ReportRegs a) : OnlyReports c (d.wr a w) := h.onlyRegs (OnlyRegs.wr d a w (· = a) rfl) (fun _ hx => hx ▸ ha)
theorem put {f : Reg.Fld} (v : Nat) (ha : ReportRegs f.addr) : OnlyReports c (d.put f v) := h.wr _ ha
theorem set {f : Reg.Fld} (ha : ReportRegs f.addr) : OnlyReports c (d.set f) := h.wr _ ha
theorem clr {f : Reg.Fld} (ha : ReportRegs f.addr) : OnlyReports c (d.clr f) := h.wr _ ha
theorem bump {f : Reg.Fld} (k : Nat) (ha : ReportRegs f.addr) : OnlyReports c (d.bump f k) := h.wr _ ha
theorem wrMem (a n v : Nat) : OnlyReports c (d.wrMem a n v) := h.same _
theorem wrBytes (a : Nat) (bs : List Byte) : OnlyReports c (d.wrBytes a bs) := h.same _
theorem withFw (w : Fw) : OnlyReports c { d with fw := w } := h.same _
theorem withTrip (t : Trip) : OnlyReports c { d with trip := t } := h.same _
theorem setRing (k : Nat) (r : Ring) : OnlyReports c (d.setRing k r) := h.same _
theorem logged (code subject detail : Nat) (sticky : Bool) : OnlyReports c (d.logged code subject detail sticky) := h.same _

theorem ite {e : Chip} {q : Prop} [Decidable q] (h' : OnlyReports c e) : OnlyReports c (if q then d else e) := by
  split <;> assumption

theorem foldl {α : Type} {f : Chip → α → Chip} (l : List α) (hf : ∀ d, OnlyReports c d → ∀ x ∈ l, OnlyReports c (f d x)) :
    OnlyReports c (l.foldl f d) := List.foldlRecOn l f h hf

theorem tallyChip (src n : Nat) : OnlyReports c (d.tallyChip src n) :=
  h.onlyRegs (OnlyRegs.tallyChip d src n) (fun a ha => by
    simp only [PmonChipRegs, Reg.PMON_IRQ_STATUS] at ha
    simp only [ReportRegs]
    omega)

/-! ### Reports and the ends of commands (R290, R299, R324) -/

theorem msix (v : Nat) : OnlyReports c (d.msix v) := by
  unfold Chip.msix
  split <;> exact h.same _

theorem writeNotice (n : Notice) : OnlyReports c (d.writeNotice n) := by
  unfold Chip.writeNotice
  dsimp only
  split
  · exact h.withFw _
  · split
    · exact h.withFw _
    · have written := fun a bs w v => ((h.wrBytes a bs).withFw w).put (f := Reg.HIF_NQ_TAIL_TAIL) v (.inr (by decide))
      exact ((written _ _ _ _).msix 0).ite (written _ _ _ _)

theorem notify (code status subject arg0 arg1 : Nat) : OnlyReports c (d.notify code status subject arg0 arg1) := by
  unfold Chip.notify
  exact ((h.logged _ _ _ _).writeNotice _).ite ((h.logged _ _ _ _).withFw _)

theorem mbxReply (n major minor status : Nat) (payload : List Byte) : OnlyReports c (d.mbxReply n major minor status payload) := by
  have replied : OnlyReports c (d.replied n major minor status payload) :=
    ((((((h.wrMem _ _ _).wrMem _ _ _).wrMem _ _ _).wrMem _ _ _).wrMem _ _ _).wrBytes _ payload).wr _ (.inr (by decide))
  rw [Chip.mbxReply_eq]
  exact (replied.msix 0).ite replied

theorem cqPush (k kind status w4 w8 wc w10 : Nat) : OnlyReports c (d.cqPush k kind status w4 w8 wc w10) := by
  have pushed := fun bs a i r => ((h.wrBytes a bs).put (f := Reg.RING_MIRROR_CQ_TAIL k) i
    (.inr (by simp only [Reg.RING_MIRROR_CQ_TAIL, Reg.RING_MIRROR]; omega))).setRing k r
  unfold Chip.cqPush Chip.cqSignal
  exact ((((pushed _ _ _ _).setRing k _).msix _).ite (pushed _ _ _ _))

theorem complete (o : Origin) (code status r0 r1 : Nat) : OnlyReports c (d.complete o code status r0 r1) := by
  cases o with
  | mailbox n => exact h.mbxReply n _ _ _ _
  | ring k tag => exact (h.setRing k _).cqPush k _ _ _ _ _ _
  | internal => exact h

theorem pauseOver (kind id : Nat) : OnlyReports c (d.pauseOver kind id) := by
  refine foldl (h.withFw _) _ fun d hd r _ => ?_
  split
  · exact hd.complete _ _ _ _ _
  · exact hd

theorem pauseDone (kind id : Nat) : OnlyReports c (d.pauseDone kind id) := by
  refine foldl h _ fun d hd r _ => ?_
  dsimp only
  split
  · split
    · exact (hd.withFw _).complete _ _ _ _ _
    · exact hd.withFw _
  · exact hd

/-! ### Records and trips (R417 to R421, R429) -/

theorem snapOne (on : Bool) {b : Nat} (hb : ReportRegs b) (hb' : b + 13 < 0x110000 ∨ 0x1000000 ≤ b) : OnlyReports c (d.snapOne on b) := by
  have inside : ∀ k ≤ 13, ReportRegs (b + k) := fun k hk => by simp only [ReportRegs] at *; omega
  unfold Chip.snapOne
  split
  · exact ((h.wr _ (inside 12 (by decide))).wr _ (inside 13 (by decide))).set (inside 0 (by decide))
  · exact h.clr (inside 0 (by decide))

theorem snapshot : OnlyReports c d.snapshot := by
  have high : ∀ {d} (on : Bool) {b : Nat}, OnlyReports c d → 0x1000000 ≤ b → OnlyReports c (d.snapOne on b) := fun on _ h hb => h.snapOne on (.inr hb) (.inr hb)
  refine foldl (foldl h _ fun d hd n hn => ?_) _ fun d hd k _ => ?_
  · have hn := List.mem_range.mp hn
    exact hd.snapOne _ (.inl (by simp only [Reg.pmonChip]; omega)) (.inl (by simp only [Reg.pmonChip]; omega))
  · refine foldl (foldl hd _ fun d hd n _ => high _ hd (by simp only [Reg.pmonRouter]; omega)) _ fun d hd s _ => ?_
    exact foldl hd _ fun d hd n _ => high _ hd (by simp only [Reg.pmonCore, Reg.coreBase]; omega)

theorem tripWrite (r : List Byte) : OnlyReports c (d.tripWrite r) :=
  (((h.wrBytes _ _).wr _ (.inl (by decide))).withTrip _).tallyChip _ _

theorem trip_ (mask : Nat) : OnlyReports c (d.trip_ mask) := by
  have snapped : OnlyReports c (if d.on Reg.PMON_CTRL_SNAP_ON_TRIP then d.snapshot else d) := h.snapshot.ite h
  unfold Chip.trip_
  split
  · exact h.withTrip _
  · split
    · exact (h.put _ (.inl (by decide))).wrBytes _ _
    · generalize (if d.on Reg.PMON_CTRL_SNAP_ON_TRIP then d.snapshot else d) = e at snapped ⊢
      dsimp only
      split
      · exact (((snapped.tripWrite _).ite snapped).bump _ (.inl (by decide))).notify _ _ _ _ _
      · split
        · have written := ((foldl snapped e.trip.fifo fun d hd r _ => hd.tripWrite r).withTrip { (e.trip.fifo.foldl Chip.tripWrite e).trip with fifo := [] }).tripWrite
          exact (((((((((written _).put _ (.inl (by decide))).set (.inl (by decide))).clr (.inl (by decide))).put _ (.inl (by decide))).put _
            (.inl (by decide))).put _ (.inl (by decide)))).set (.inl (by decide))).withTrip _
        · exact snapped

theorem tripPush (r : List Byte) : OnlyReports c (d.tripPush r) := by
  unfold Chip.tripPush
  split
  · exact h
  · split
    · exact ((h.bump _ (.inl (by decide))).set (.inl (by decide))).withTrip _
    · exact h.withTrip _

theorem recFrame (p : Nat) (f : CellFrame) : OnlyReports c (d.recFrame p f) := h.tripPush _

theorem recEvent (src edge who : Nat) (ev : DWord) : OnlyReports c (d.recEvent src edge who ev) :=
  ((h.tripPush _).trip_ 2).ite (h.tripPush _)

end

end OnlyReports

end Sys2Proof.Machine
end

section
/-! SUPPORT. Bring-up of a cell-link port, and how a port enters FAULT (O23, R44 to R46, R66, R72). -/

namespace Sys2Proof.Machine

/-! ## Registers of the ports -/

/-- The register at offset `k` of port `p`'s block is none that a report writes. -/
theorem not_reportRegs_port {k p : Nat} (hp : p < 128) (hk : 0x131000 ≤ k ∧ k < 0x131040) : ¬ ReportRegs (k + p * 0x40) := by
  simp only [ReportRegs]
  omega

theorem not_reportRegs {a : Nat} (h : 0x110000 ≤ a ∧ a < 0x1000000) : ¬ ReportRegs a := by
  simp only [ReportRegs]
  omega

/-- Different offsets of a port's block, or blocks of different ports. -/
theorem portReg_ne {k k' p q : Nat} (hk : 0x131000 ≤ k ∧ k < 0x131040) (hk' : 0x131000 ≤ k' ∧ k' < 0x131040) (h : k ≠ k' ∨ p ≠ q) :
    k + p * 0x40 ≠ k' + q * 0x40 := by omega

/-- A register of a port is none of those of all ports. -/
theorem portReg_ne_chip {k p a : Nat} (hk : 0x131000 ≤ k) (ha : a < 0x131000) : k + p * 0x40 ≠ a := by omega

/-- Two fields of one register with no bit in common. -/
theorem Reg.Fld.apart_bits {f g : Reg.Fld} (h : (f.lo ≤ f.hi && (g.hi < f.lo || f.hi < g.lo) : Bool) = true) : f.apart g = true := by
  rw [Reg.Fld.apart, h, Bool.or_true]

theorem Chip.clPorts_le (c : Chip) : c.clPorts ≤ 128 := by
  unfold Chip.clPorts
  split <;> decide

theorem Chip.awake_of_runs {c : Chip} {d : Nat} (h : c.unitHeld d = false) : c.inLookout = false := (Bool.or_eq_false_iff.mp h).1

/-- What the clocks of the cell links do while they run. -/
theorem leaves_whileRuns {ins : Instr} {s : State} {f : Chip → Chip} {t : Chip} (hrun : s.chip.unitHeld 68 = false)
    (hex : exec ins s = act (whileRuns 68 f) s) (hf : f s.chip = t) : Leaves ins s t :=
  leaves_of_act hex (by rw [whileRuns, hrun, if_neg (by decide), hf])

theorem whenPort_eq {c t : Chip} {p : Nat} {sts : List Nat} {f : Chip → Chip} (hp : p < c.clPorts) (hst : c.portState p ∈ sts) (hf : f c = t) :
    whenPort p sts f c = t := by rw [whenPort, if_pos ⟨hp, hst⟩, hf]

/-- What the clocks of the cell links do to a port in one of the states it asks for. -/
theorem leaves_whenPort {ins : Instr} {s : State} {p : Nat} {sts : List Nat} {f : Chip → Chip} {t : Chip} (hrun : s.chip.unitHeld 68 = false)
    (hp : p < s.chip.clPorts) (hst : s.chip.portState p ∈ sts) (hex : exec ins s = act (whileRuns 68 (whenPort p sts f)) s) (hf : f s.chip = t) :
    Leaves ins s t := leaves_whileRuns hrun hex (whenPort_eq hp hst hf)

/-- A change outside the registers. -/
theorem RegsKept.same {c d : Chip} {P : Nat → Prop} (h : RegsKept c d P) (e : Chip) (hregs : e.regs = d.regs := by rfl) : RegsKept c e P :=
  fun a ha => (Chip.rd_congr d e hregs a).trans (h a ha)

/-! ## Ports and their states (R44, R45) -/

section
variable (c : Chip) (p : Nat)

theorem OnlyRegs.setPortState (st : Nat) : OnlyRegs c (c.setPortState p st) (· = Reg.CL_PORT_STAT p) := OnlyRegs.put _ _ _ _ rfl

theorem Chip.portSignal_spec :
    let t := c.portSignal p
    t.portState p = 1 ∧ t.get (Reg.CL_PORT_STAT_FAULT p) = 0 ∧ (t.port p).nonce = none ∧ (t.port p).attempts = 0 ∧ (t.port p).rxSeq = none ∧
      RegsKept c t (· = Reg.CL_PORT_STAT p) ∧ t.mem = c.mem ∧ t.cores = c.cores := by
  have regs := (OnlyRegs.setPortState c p 1).trans (OnlyRegs.clr (c.setPortState p 1) (Reg.CL_PORT_STAT_FAULT p) (· = Reg.CL_PORT_STAT p) rfl)
  have port := Chip.port_setPort_same ((c.setPortState p 1).clr (Reg.CL_PORT_STAT_FAULT p)) p
    { c.port p with nonce := none, attempts := 0, rxSeq := none, heard := [], alarms := [] }
  have state : ((c.setPortState p 1).clr (Reg.CL_PORT_STAT_FAULT p)).portState p = 1 :=
    (Chip.get_put_apart _ _ _ _ (Reg.Fld.apart_bits rfl)).trans (Chip.get_put_fits _ _ _ rfl)
  have code : ((c.setPortState p 1).clr (Reg.CL_PORT_STAT_FAULT p)).get (Reg.CL_PORT_STAT_FAULT p) = 0 := Chip.get_put_fits _ _ _ rfl
  exact ⟨(Chip.get_setPort _ _ _ _).trans state, (Chip.get_setPort _ _ _ _).trans code, congrArg PortSt.nonce port, congrArg PortSt.attempts port,
    congrArg PortSt.rxSeq port, regs.2.same _, rfl, rfl⟩

/-! ## FAULT (R44, R71, R72) -/

/-- A port's exchange is dropped: the port has none, its command is answered. -/
theorem Chip.dropExchange_spec :
    (c.dropExchange p).port p = { c.port p with ctrl := none } ∧ (∀ q, q ≠ p → (c.dropExchange p).port q = c.port q) ∧
      RegsKept c (c.dropExchange p) ReportRegs := by
  unfold Chip.dropExchange
  cases hx : (c.port p).ctrl with
  | none =>
    exact ⟨congrArg (fun x => ({ c.port p with ctrl := x } : PortSt)) hx, fun _ _ => rfl, RegsKept.refl _ _⟩
  | some x =>
    have answered := (OnlyReports.refl (c.setPort p { c.port p with ctrl := none })).complete x.origin 0x0048 ERR_TIMEOUT 0 0
    exact ⟨(answered.port p).trans (Chip.port_setPort_same _ _ _), fun q hq => (answered.port q).trans (Chip.port_setPort_other _ _ _ _ hq),
      answered.regs⟩

/-- The status of a port that enters FAULT, the code beside it. -/
def Chip.faultShown (code : Nat) : Chip := (c.setPortState p 6).put (Reg.CL_PORT_STAT_FAULT p) code

/-- A port in FAULT before its report: its exchange dropped, its pause over. -/
def Chip.faultEntered (code : Nat) : Chip :=
  let c := ((c.faultShown p code).dropExchange p).pauseOver 0 p
  c.setPort p { c.port p with pauseReq := false, nonce := none, reported := true }

theorem Chip.portFault_eq (code : Nat) :
    c.portFault p code =
      if ((((c.faultShown p code).dropExchange p).pauseOver 0 p).port p).reported then c.faultEntered p code
      else ((c.faultEntered p code).set Reg.CL_IRQ_STATUS_FAULT).notify 0x0005 OK p code 0 := rfl

/-- What a port that enters FAULT leaves: its status, itself, and the report where none was made. -/
structure Faulted (t : Chip) (code : Nat) : Prop where
  state : t.portState p = 6
  shown : t.get (Reg.CL_PORT_STAT_FAULT p) = code
  port : t.port p = { c.port p with ctrl := none, pauseReq := false, nonce := none, reported := true }
  others : ∀ q, q ≠ p → t.port q = c.port q
  regs : RegsKept c t (fun a => a = Reg.CL_PORT_STAT p ∨ a = Reg.CL_IRQ_STATUS ∨ ReportRegs a)
  report : (c.port p).reported = false → t.get Reg.CL_IRQ_STATUS_FAULT = 1 ∧
    ∃ l e, t.fw.log = l ++ [e] ∧ e.code = 0x0005 ∧ e.subject = p ∧ e.detail = code

end

theorem Chip.faultEntered_spec (c : Chip) {p : Nat} (code : Nat) :
    (((c.faultShown p code).dropExchange p).pauseOver 0 p).port p = { c.port p with ctrl := none } ∧
    (c.faultEntered p code).port p = { c.port p with ctrl := none, pauseReq := false, nonce := none, reported := true } ∧
    (∀ q, q ≠ p → (c.faultEntered p code).port q = c.port q) ∧ RegsKept (c.faultShown p code) (c.faultEntered p code) ReportRegs := by
  obtain ⟨hport, hother, hregs⟩ := (c.faultShown p code).dropExchange_spec p
  have ended := (OnlyReports.refl ((c.faultShown p code).dropExchange p)).pauseOver 0 p
  have hover := (ended.port p).trans hport
  refine ⟨hover, ?_, fun q hq => ?_, hregs.trans ended.regs⟩
  · rw [Chip.faultEntered, Chip.port_setPort_same, hover]
    rfl
  · rw [Chip.faultEntered, Chip.port_setPort_other _ _ _ _ hq, ended.port]
    exact hother q hq

theorem Chip.faultShown_spec (c : Chip) (p : Nat) {code : Nat} (hcode : code < 16) :
    (c.faultShown p code).portState p = 6 ∧ (c.faultShown p code).get (Reg.CL_PORT_STAT_FAULT p) = code ∧
      OnlyRegs c (c.faultShown p code) (· = Reg.CL_PORT_STAT p) :=
  ⟨(Chip.get_put_apart _ _ _ _ (Reg.Fld.apart_bits rfl)).trans (Chip.get_put_fits _ (Reg.CL_PORT_STAT_STATE p) 6 rfl),
   (Chip.get_put_same _ (Reg.CL_PORT_STAT_FAULT p) code (Nat.le_add_right 4 3) (of_decide_eq_true rfl)).trans (Nat.mod_eq_of_lt hcode),
   (OnlyRegs.setPortState c p 6).trans (OnlyRegs.put _ (Reg.CL_PORT_STAT_FAULT p) code (· = Reg.CL_PORT_STAT p) rfl)⟩

theorem Chip.portFault_spec (c : Chip) {p code : Nat} (hp : p < 128) (hcode : code < 16) : Faulted c p (c.portFault p code) code := by
  obtain ⟨hstate, hshown, honly⟩ := c.faultShown_spec p hcode
  obtain ⟨hbefore, hport, hother, hregs⟩ := c.faultEntered_spec (p := p) code
  have regs : RegsKept c (c.faultEntered p code) (fun a => a = Reg.CL_PORT_STAT p ∨ a = Reg.CL_IRQ_STATUS ∨ ReportRegs a) :=
    (honly.2.mono fun _ h => .inl h).trans (hregs.mono fun _ h => .inr (.inr h))
  have field : ∀ f : Reg.Fld, f.addr = Reg.CL_PORT_STAT p → (c.faultEntered p code).get f = (c.faultShown p code).get f := fun f hf => by
    rw [Chip.get, Chip.get, hregs _ (hf ▸ not_reportRegs_port hp (by decide))]
  rw [Chip.portFault_eq, hbefore]
  split
  · rename_i hrep
    exact ⟨(field _ rfl).trans hstate, (field _ rfl).trans hshown, hport, hother, regs, fun h => absurd (h.symm.trans hrep) (by decide)⟩
  · obtain ⟨hnotify, hlog⟩ := ((c.faultEntered p code).set Reg.CL_IRQ_STATUS_FAULT).notify_kept 0x0005 OK p code 0
    have reported := (OnlyReports.refl ((c.faultEntered p code).set Reg.CL_IRQ_STATUS_FAULT)).notify 0x0005 OK p code 0
    have marked := OnlyRegs.set (c.faultEntered p code) Reg.CL_IRQ_STATUS_FAULT (· = Reg.CL_IRQ_STATUS) rfl
    have stat : ∀ f : Reg.Fld, f.addr = Reg.CL_PORT_STAT p →
        (((c.faultEntered p code).set Reg.CL_IRQ_STATUS_FAULT).notify 0x0005 OK p code 0).get f = (c.faultShown p code).get f := fun f hf =>
      ((reported.get f (hf ▸ not_reportRegs_port hp (by decide))).trans
        (marked.get f (hf ▸ portReg_ne_chip (by decide) (by decide)))).trans (field f hf)
    refine ⟨(stat _ rfl).trans hstate, (stat _ rfl).trans hshown, (reported.port p).trans hport, fun q hq => (reported.port q).trans (hother q hq),
      (regs.trans (marked.2.mono fun _ h => .inr (.inl h))).trans (reported.regs.mono fun _ h => .inr (.inr h)), fun _ => ⟨?_, ?_⟩⟩
    · exact (reported.get _ (not_reportRegs (by decide))).trans (Chip.get_put_fits _ _ _ rfl)
    · exact ⟨_, _, hlog, rfl, rfl, rfl⟩

theorem Faulted.portFaulted {c t : Chip} {p code : Nat} (h : Faulted c p t code) : PortFaulted c t p code := by
  refine ⟨h.state, h.shown, ?_, ?_, h.report, h.others⟩
  · rw [h.port]
  · rw [h.port]

end Sys2Proof.Machine
end

section
/-! SUPPORT. Bring-up of a port: what each state's clock does (O23, R44 to R46, R66). -/

namespace Sys2Proof.Machine

/-! ## Frames that leave a port (R39, R46) -/

section
variable (c : Chip) (p : Nat)

theorem Chip.sendFrame_port (type : Nat) (payload : BitVec 160) :
    (c.sendFrame p type payload).port p = { c.port p with txSeq := (c.port p).txSeq + 1 } := Chip.port_setPort_same _ _ _

theorem Chip.sendFrame_other (type : Nat) (payload : BitVec 160) {q : Nat} (hq : q ≠ p) : (c.sendFrame p type payload).port q = c.port q :=
  Chip.port_setPort_other _ _ _ _ hq

theorem Chip.sendFrame_sent (type : Nat) (payload : BitVec 160) :
    SentFrame c (c.sendFrame p type payload) p (mkFrame type false (c.port p).txSeq c.time payload) := rfl

/-- A frame sent by a block that has sent as much as `c`. -/
theorem SentFrame.of_out {c d t : Chip} {p : Nat} {f : CellFrame} (h : SentFrame d t p f) (hout : d.out = c.out) : SentFrame c t p f := by
  rw [SentFrame, ← hout]
  exact h

end

/-! ## ID requests (R46) -/

/-- The first ID request of an IDENT takes a nonce of its own. -/
theorem Chip.idRequest_first {c : Chip} {p : Nat} (h : (c.port p).nonce = none) :
    let t := c.idRequest p
    t.regs = c.regs ∧ t.fresh = c.fresh + 1 ∧ (t.port p).nonce = some (Config.nonce c.fresh) ∧ (t.port p).reqTime = c.time ∧ (t.port p).attempts = 1 ∧
      SentFrame c t p (mkFrame 7 false (c.port p).txSeq c.time (idPayload p (Config.nonce c.fresh))) := by
  let q : PortSt := { c.port p with reqTime := c.time, attempts := 1, nonce := some (Config.nonce c.fresh), idSeq := (c.port p).txSeq }
  let d : Chip := ({ c with fresh := c.fresh + 1 } : Chip).setPort p q
  have ht : c.idRequest p = d.sendFrame p 7 (idPayload p (Config.nonce c.fresh)) := by
    unfold Chip.idRequest
    dsimp only
    rw [h]
  have hq : d.port p = q := Chip.port_setPort_same _ _ _
  have hport := d.sendFrame_port p 7 (idPayload p (Config.nonce c.fresh))
  have hsent : SentFrame c _ p _ := SentFrame.of_out (d.sendFrame_sent p 7 (idPayload p (Config.nonce c.fresh))) rfl
  rw [hq] at hport hsent
  rw [ht]
  exact ⟨rfl, rfl, congrArg PortSt.nonce hport, congrArg PortSt.reqTime hport, congrArg PortSt.attempts hport, hsent⟩

/-- A repeated one keeps its nonce and its SEQ, with DUP. -/
theorem Chip.idRequest_again {c : Chip} {p : Nat} {nonce : BitVec 16} (h : (c.port p).nonce = some nonce) :
    let t := c.idRequest p
    t.regs = c.regs ∧ t.port p = { c.port p with reqTime := c.time, attempts := (c.port p).attempts + 1 } ∧
      SentFrame c t p (mkFrame 7 true (c.port p).idSeq c.time (idPayload p nonce)) := by
  have ht : c.idRequest p =
      (c.setPort p { c.port p with reqTime := c.time, attempts := (c.port p).attempts + 1 }).resendFrame p 7 (c.port p).idSeq (idPayload p nonce) := by
    unfold Chip.idRequest
    dsimp only
    rw [h]
  rw [ht]
  exact ⟨rfl, Chip.port_setPort_same _ _ _, rfl⟩

theorem Chip.idRequest_regs (c : Chip) (p : Nat) : (c.idRequest p).regs = c.regs := by
  cases h : (c.port p).nonce with
  | none => exact (Chip.idRequest_first h).1
  | some nonce => exact (Chip.idRequest_again h).1

/-! ## Bring-up -/

theorem portBringUpHold : PortBringUpHold := by
  intro s p c n stat signal hn hrun
  have h128 : n < 128 := p.isLt
  have runs : ∀ {ins : Instr} {st : Nat} {f : Chip → Chip} {t : Chip}, c.portState n = st → exec ins s = act (whileRuns 68 (whenPort n [st] f)) s → f c = t →
      Leaves ins s t := fun hst hex hf => leaves_whenPort hrun hn (List.mem_singleton.mpr hst) hex hf
  refine ⟨fun hst hen hport => ?_, fun hst => ⟨?_, ?_⟩, fun hst => ⟨?_, fun hnonce => ?_, fun hauto => ?_, fun hauto => ?_⟩,
    fun hst => ⟨?_, fun hperiod hcode => ?_, fun hheld => ?_⟩⟩
  · exact ⟨_, runs hst rfl (if_pos (by simp [Chip.on_iff, hen, hport, n, c])), c.portSignal_spec n⟩
  · exact ⟨_, runs hst rfl rfl, Chip.get_put_fits _ _ _ rfl, OnlyRegs.setPortState c n 2⟩
  · exact ⟨_, runs hst rfl rfl, (c.portFault_spec h128 (by decide)).portFaulted⟩
  · exact ⟨_, runs hst rfl rfl, (c.portFault_spec h128 (by decide)).portFaulted⟩
  · obtain ⟨hregs, hrest⟩ := Chip.idRequest_first (c := c.setPortState n 3) hnonce
    exact ⟨_, runs hst rfl rfl, (Chip.get_congr _ _ hregs _).trans (Chip.get_put_fits _ _ _ rfl), hrest⟩
  · exact ⟨_, runs hst rfl (if_pos (by simp [Chip.on, hauto, n, c])), (c.portFault_spec h128 (by decide)).portFaulted⟩
  · let d := c.set (Reg.CL_PORT_STAT_RX_INVERTED n)
    have hregs := (d.setPortState n 3).idRequest_regs n
    refine ⟨_, runs hst rfl (if_neg (by simp [Chip.on, hauto, n, c])), (Chip.get_congr _ _ hregs _).trans (Chip.get_put_fits _ _ _ rfl), ?_⟩
    exact (Chip.get_congr _ _ hregs _).trans ((Chip.get_put_apart _ _ _ _ (Reg.Fld.apart_bits rfl)).trans (Chip.get_put_fits _ _ _ rfl))
  · exact ⟨_, leaves_of_act rfl (whenPort_eq hn (List.mem_singleton.mpr hst) rfl), c.portSignal_spec n⟩
  · exact ⟨_, runs hst rfl (if_neg (by simp [hperiod, hcode, n, c])), c.portSignal_spec n⟩
  · exact runs hst rfl (if_pos hheld)

end Sys2Proof.Machine
end

section
/-! SUPPORT. Frames that arrive on a cell-link port: their checks, what every good frame leaves, DATA frames (O24, R41, R55, R65, R68). -/

namespace Sys2Proof.Machine

/-! ## The checks of a frame (R41) -/

theorem Reg.Fld.apart_addr {f g : Reg.Fld} (h : f.addr ≠ g.addr) : f.apart g = true := by
  rw [Reg.Fld.apart, bne_iff_ne.mpr h, Bool.true_or]

theorem Chip.wakeIfDue_awake {c : Chip} (h : c.inLookout = false) : c.wakeIfDue = c := by
  rw [Chip.wakeIfDue, if_neg (by simp [h])]

/-- Lookout is told by a register that no frame writes. -/
theorem Chip.awake_of_get {c d : Chip} (hc : c.inLookout = false) (h : d.get Reg.PWR_STATE_STATE = c.get Reg.PWR_STATE_STATE) : d.inLookout = false := by
  rw [Chip.inLookout, h]
  exact hc

/-- Every command that brings a frame hands it to the port, outside Lookout. -/
theorem leaves_frame {ins : Instr} {s : State} {p : Port} {f : CellFrame} {sof : Time} {t : Chip} (hins : ins ∈ frameCmds p f sof)
    (ht : s.chip.rxFrame p.toNat f sof = t) (hawake : t.inLookout = false) : Leaves ins s t := by
  simp only [List.mem_cons, List.not_mem_nil, or_false] at hins
  rcases hins with rfl | rfl | rfl | rfl | rfl | rfl
  case inr.inr.inl =>
    have hex : exec (.alarmFrame p f sof) s = act (fun c => (c.rxFrame p.toNat f sof).wakeIfDue) s := rfl
    exact leaves_of_act hex (by rw [ht, Chip.wakeIfDue_awake hawake])
  all_goals exact leaves_of_act (f := (·.rxFrame p.toNat f sof)) rfl ht

/-- What every good frame leaves: a count, its record, the gap it shows and its SEQ (R33, R65). -/
def Chip.frameNoted (c : Chip) (p : Nat) (f : CellFrame) : Chip := (((c.tallyChip 0x80).recFrame p f).seqGapIfData p f).noteSeq p f

/-- What the TYPE of a good frame asks. -/
def Chip.frameServed (c : Chip) (p : Nat) (f : CellFrame) (sof : Time) (type : Nat) : Chip :=
  match type with
  | 1 => c.rxData p f sof
  | 2 => c.rxData p f sof
  | 3 => c.rxAlarm p f sof
  | 5 => c.rxAck p f
  | 7 => c.rxId p f sof
  | 8 => c.rxWake p f
  | _ => c

section
variable {c : Chip} {p : Nat} {f : CellFrame} (sof : Time) (hp : p < c.clPorts) (hpins : c.pinsIdle = false) (hrun : c.unitHeld 68 = false)
include hp hpins hrun

omit hp in
theorem Chip.rxFrame_deaf (h : c.portHears p = false) : c.rxFrame p f sof = c := by
  rw [Chip.rxFrame, if_neg (by simp [hpins]), if_neg (by simp [Chip.awake_of_runs hrun]), if_pos (by simp [h])]

theorem Chip.rxFrame_crc (h : c.portHears p = true) (hcrc : frameCrc f ≠ frameCrcOf f) : c.rxFrame p f sof = c.bump (Reg.CL_PORT_RXERR_CRC p) := by
  rw [Chip.rxFrame, if_neg (by simp [hpins]), if_neg (by simp [Chip.awake_of_runs hrun]), if_neg (by simp [hp, hrun, h]), if_pos hcrc]

theorem Chip.rxFrame_undefined (h : c.portHears p = true) (hcrc : frameCrc f = frameCrcOf f) (hundef : frameUndefined f = true) :
    c.rxFrame p f sof = c.bump (Reg.CL_PORT_RXERR_OTHER p) := by
  rw [Chip.rxFrame, if_neg (by simp [hpins]), if_neg (by simp [Chip.awake_of_runs hrun]), if_neg (by simp [hp, hrun, h]), if_neg (by simp [hcrc]), if_pos hundef]

end

theorem Chip.rxFrame_good {c : Chip} {p : Nat} {f : CellFrame} {type : Nat} (sof : Time) (h : GoodFrame c p f type) (htype : 0 < type ∧ type ≤ 8) :
    c.rxFrame p f sof = (c.frameNoted p f).frameServed p f sof type := by
  obtain ⟨hp, hpins, hrun, hhears, hcrc, hver, rfl⟩ := h
  have hdef : frameUndefined f = false := by
    simp only [frameUndefined, Bool.or_eq_false_iff, beq_eq_false_iff_ne, decide_eq_false_iff_not, bne_eq_false_iff_eq]
    exact ⟨⟨by omega, by omega⟩, hver⟩
  rw [Chip.rxFrame, if_neg (by simp [hpins]), if_neg (by simp [Chip.awake_of_runs hrun]), if_neg (by simp [hp, hrun, hhears]), if_neg (by simp [hcrc]),
    if_neg (by simp [hdef])]
  rfl

theorem frameChecksHold : FrameChecksHold := by
  intro s p f sof ins hins c n hn hpins hrun
  have hawake : c.inLookout = false := Chip.awake_of_runs hrun
  have kept : ∀ g : Reg.Fld, g.addr = Reg.CL_PORT_RXERR n → (c.bump g).inLookout = false := fun g hg =>
    Chip.awake_of_get hawake (Chip.get_put_addr _ _ _ _ (by rw [hg]; simp only [Reg.PWR_STATE_STATE, Reg.PWR_STATE, Reg.CL_PORT_RXERR]; omega))
  refine ⟨fun hdeaf => ?_, fun hhears hcrc => ?_, fun hhears hcrc hundef => ?_⟩
  · exact leaves_frame hins (Chip.rxFrame_deaf sof hpins hrun hdeaf) hawake
  · exact ⟨_, leaves_frame hins (Chip.rxFrame_crc sof hn hpins hrun hhears hcrc) (kept _ rfl), OnlyRegs.bump _ _ _ _ rfl, Chip.get_bump _ _ _ rfl,
      Chip.get_put_apart _ _ _ _ (Reg.Fld.apart_bits rfl)⟩
  · have hun : frameUndefined f = true := by simpa [frameUndefined, or_assoc] using hundef
    exact ⟨_, leaves_frame hins (Chip.rxFrame_undefined sof hn hpins hrun hhears hcrc hun) (kept _ rfl), OnlyRegs.bump _ _ _ _ rfl, Chip.get_bump _ _ _ rfl,
      Chip.get_put_apart _ _ _ _ (Reg.Fld.apart_bits rfl)⟩

/-! ## What every good frame leaves (R33, R65) -/

/-- The port's record of the SEQs it has heard, after a good frame. -/
def PortSt.noted (q : PortSt) (f : CellFrame) : PortSt :=
  { q with
    rxSeq := if frameIsData f && !frameDup f then some (frameSeq f) else q.rxSeq
    heard := if frameIsData f then (if frameDup f then q.heard else [])
      else if q.heard.contains (frameSeq f) then q.heard else q.heard ++ [frameSeq f]
    alarms := if frameDup f then q.alarms else q.alarms.filter (fun a => (frameSeq f - a).toNat < 128) }

/-- The frame's own SEQ is not forgotten. -/
theorem PortSt.mem_noted_alarms (q : PortSt) (f : CellFrame) : frameSeq f ∈ (q.noted f).alarms ↔ frameSeq f ∈ q.alarms := by
  simp only [PortSt.noted]
  split
  · rfl
  · simp only [List.mem_filter, BitVec.sub_self, and_iff_left_iff_imp]
    exact fun _ => rfl

theorem OnlyRegs.seqGapIfData (c : Chip) (p : Nat) (f : CellFrame) : OnlyRegs c (c.seqGapIfData p f) (· = Reg.CL_PORT_SEQGAP p) := by
  unfold Chip.seqGapIfData Chip.seqGap
  dsimp only
  split
  · split
    · exact OnlyRegs.ite (OnlyRegs.refl _ _) (OnlyRegs.bump _ _ _ _ rfl)
    · exact OnlyRegs.refl _ _
  · exact OnlyRegs.refl _ _

theorem Chip.seqGapIfData_data {c : Chip} {p : Nat} {f : CellFrame} {last : Byte} (hdata : frameIsData f = true) (hlast : (c.port p).rxSeq = some last)
    (hdup : frameDup f = false) :
    c.seqGapIfData p f = c.bump (Reg.CL_PORT_SEQGAP_COUNT p) (missingSeqs last (frameSeq f) (c.port p).heard) := by
  rw [Chip.seqGapIfData, if_pos hdata, Chip.seqGap, hlast]
  simp only [hdup]
  rfl

section
variable (c : Chip) (p : Nat) (f : CellFrame)

theorem Chip.frameNoted_recorded : OnlyReports c ((c.tallyChip 0x80).recFrame p f) := ((OnlyReports.refl c).tallyChip _ _).recFrame p f

theorem Chip.frameNoted_regs : RegsKept c (c.frameNoted p f) (fun a => a = Reg.CL_PORT_SEQGAP p ∨ ReportRegs a) :=
  (((c.frameNoted_recorded p f).regs.mono fun _ h => .inr h).trans ((OnlyRegs.seqGapIfData _ p f).2.mono fun _ h => .inl h)).same _

theorem Chip.frameNoted_get {g : Reg.Fld} (hgap : g.addr ≠ Reg.CL_PORT_SEQGAP p) (hrep : ¬ ReportRegs g.addr) : (c.frameNoted p f).get g = c.get g := by
  rw [Chip.get, Chip.get, c.frameNoted_regs p f _ (not_or.mpr ⟨hgap, hrep⟩)]

theorem Chip.frameNoted_port (q : Nat) : (c.frameNoted p f).port q = if q = p then (c.port p).noted f else c.port q := by
  have before : ∀ q, (((c.tallyChip 0x80).recFrame p f).seqGapIfData p f).port q = c.port q := fun q => by
    rw [Chip.port, (OnlyRegs.seqGapIfData _ p f).eq]
    exact (c.frameNoted_recorded p f).port q
  have noted : c.frameNoted p f = (((c.tallyChip 0x80).recFrame p f).seqGapIfData p f).setPort p ((c.port p).noted f) := by
    rw [← before p]
    rfl
  rw [noted]
  split
  · rename_i h
    rw [h]
    exact Chip.port_setPort_same _ _ _
  · rename_i h
    exact (Chip.port_setPort_other _ _ _ _ h).trans (before q)

theorem Chip.tripPush_out (r : List Byte) : (c.tripPush r).out = c.out := by
  unfold Chip.tripPush
  split
  · rfl
  · split <;> rfl

theorem Chip.frameNoted_out : (c.frameNoted p f).out = c.out :=
  (OnlyRegs.seqGapIfData _ p f).out.trans ((Chip.tripPush_out _ _).trans (OnlyRegs.tallyChip c 0x80 1).out)

theorem Chip.frameNoted_time : (c.frameNoted p f).time = c.time := by
  have h : (((c.tallyChip 0x80).recFrame p f).seqGapIfData p f).time = ((c.tallyChip 0x80).recFrame p f).time := by rw [(OnlyRegs.seqGapIfData _ p f).eq]
  exact h.trans (c.frameNoted_recorded p f).time

end

/-- The SEQs that no frame carried are counted at a DATA frame. -/
theorem Chip.frameNoted_gap {c : Chip} {p : Nat} {f : CellFrame} {last : Byte} (hp : p < 128) (hdata : frameIsData f = true)
    (hlast : (c.port p).rxSeq = some last) (hdup : frameDup f = false) :
    (c.frameNoted p f).get (Reg.CL_PORT_SEQGAP_COUNT p) = counted c (Reg.CL_PORT_SEQGAP_COUNT p) (missingSeqs last (frameSeq f) (c.port p).heard) := by
  have recorded := c.frameNoted_recorded p f
  have hport := recorded.port p
  have hgap := Chip.seqGapIfData_data hdata (hport ▸ hlast) hdup
  rw [hport] at hgap
  refine (Chip.get_congr _ _ (congrArg Chip.regs hgap) _).trans ((Chip.get_bump _ _ _ rfl).trans (counted_congr (recorded.get _ ?_) _))
  exact not_reportRegs_port hp (by decide)

/-! ## A frame offered to the ingest FIFO (R55) -/

section
variable (c : Chip) (p : Nat) (f : CellFrame) (sof : Time) (lost : Chip → Chip)

/-- A full FIFO counts the frame it cannot take. -/
def Chip.frameLost : Chip := ((c.bump (Reg.CL_PORT_DROP_COUNT p)).set Reg.CL_IRQ_STATUS_DROP).tallyChip 0x81

theorem Chip.offer_taken (hmap : c.get (Reg.CL_PORT_CFG_MAP_COUNT p) ≠ 0) (hroom : (c.port p).fifo.length < 16) :
    c.offer p f sof lost = c.setPort p { c.port p with fifo := (c.port p).fifo ++ [(f, sof)] } := by
  rw [Chip.offer, if_neg hmap]
  exact if_neg (Nat.not_le.mpr hroom)

theorem Chip.offer_lost (hmap : c.get (Reg.CL_PORT_CFG_MAP_COUNT p) ≠ 0) (hfull : 16 ≤ (c.port p).fifo.length) :
    c.offer p f sof lost = lost (c.frameLost p) := by
  rw [Chip.offer, if_neg hmap]
  exact if_pos hfull

theorem OnlyRegs.frameLost : OnlyRegs c (c.frameLost p) (fun a => a = Reg.CL_PORT_DROP p ∨ a = Reg.CL_IRQ_STATUS ∨ PmonChipRegs a) :=
  ((OnlyRegs.bump c (Reg.CL_PORT_DROP_COUNT p) 1 _ (.inl rfl)).trans (OnlyRegs.set _ Reg.CL_IRQ_STATUS_DROP _ (.inr (.inl rfl)))).trans
    ((OnlyRegs.tallyChip _ _ _).mono fun _ h => .inr (.inr h))

theorem Chip.frameLost_get {g : Reg.Fld} (hdrop : (Reg.CL_PORT_DROP_COUNT p).apart g = true) (hirq : Reg.CL_IRQ_STATUS_DROP.apart g = true)
    (hpmon : ¬ PmonChipRegs g.addr) : (c.frameLost p).get g = c.get g := by
  rw [Chip.frameLost, (OnlyRegs.tallyChip _ _ _).get _ hpmon, Chip.set, Chip.get_put_apart _ _ _ _ hirq, Chip.bump, Chip.get_put_apart _ _ _ _ hdrop]

theorem Chip.frameLost_counted (hp : p < 128) :
    (c.frameLost p).get (Reg.CL_PORT_DROP_COUNT p) = counted c (Reg.CL_PORT_DROP_COUNT p) 1 ∧ (c.frameLost p).get Reg.CL_IRQ_STATUS_DROP = 1 := by
  have hdrop : Reg.CL_PORT_DROP p ≠ Reg.CL_IRQ_STATUS := portReg_ne_chip (by decide) (by decide)
  have hpmon : ¬ PmonChipRegs (Reg.CL_PORT_DROP p) := by simp only [PmonChipRegs, Reg.PMON_IRQ_STATUS, Reg.CL_PORT_DROP]; omega
  have hirq : ¬ PmonChipRegs Reg.CL_IRQ_STATUS := by simp only [PmonChipRegs, Reg.PMON_IRQ_STATUS, Reg.CL_IRQ_STATUS]; omega
  rw [Chip.frameLost, (OnlyRegs.tallyChip _ _ _).get _ hpmon, (OnlyRegs.tallyChip _ _ _).get _ hirq]
  exact ⟨(Chip.get_put_addr _ _ _ _ hdrop).trans (Chip.get_bump _ _ _ rfl), Chip.get_put_fits _ _ _ rfl⟩

/-- Offering changes the FIFO of the port and what a frame that is lost leaves. -/
theorem Chip.offer_port (hlost : ∀ d, (lost d).ports = d.ports) (q : Nat) :
    (c.offer p f sof lost).port q = c.port q ∨ q = p ∧ ∃ l, (c.offer p f sof lost).port p = { c.port p with fifo := l } := by
  by_cases hmap : c.get (Reg.CL_PORT_CFG_MAP_COUNT p) = 0
  · exact .inl (by rw [Chip.offer, if_pos hmap])
  · by_cases hroom : (c.port p).fifo.length < 16
    · rw [c.offer_taken p f sof lost hmap hroom]
      by_cases hq : q = p
      · exact .inr ⟨hq, _, Chip.port_setPort_same _ _ _⟩
      · exact .inl (Chip.port_setPort_other _ _ _ _ hq)
    · rw [c.offer_lost p f sof lost hmap (Nat.not_lt.mp hroom)]
      refine .inl ?_
      rw [Chip.port, hlost, (OnlyRegs.frameLost c p).eq]
      rfl

theorem Chip.offer_get {g : Reg.Fld} (hlost : ∀ d, (lost d).get g = d.get g) (hdrop : (Reg.CL_PORT_DROP_COUNT p).apart g = true)
    (hirq : Reg.CL_IRQ_STATUS_DROP.apart g = true) (hpmon : ¬ PmonChipRegs g.addr) : (c.offer p f sof lost).get g = c.get g := by
  by_cases hmap : c.get (Reg.CL_PORT_CFG_MAP_COUNT p) = 0
  · rw [Chip.offer, if_pos hmap]
  · by_cases hroom : (c.port p).fifo.length < 16
    · rw [c.offer_taken p f sof lost hmap hroom, Chip.get_setPort]
    · rw [c.offer_lost p f sof lost hmap (Nat.not_lt.mp hroom), hlost, c.frameLost_get p hdrop hirq hpmon]

theorem Chip.offer_out (hlost : ∀ d, (lost d).out = d.out) : (c.offer p f sof lost).out = c.out := by
  by_cases hmap : c.get (Reg.CL_PORT_CFG_MAP_COUNT p) = 0
  · rw [Chip.offer, if_pos hmap]
  · by_cases hroom : (c.port p).fifo.length < 16
    · rw [c.offer_taken p f sof lost hmap hroom]
      rfl
    · rw [c.offer_lost p f sof lost hmap (Nat.not_lt.mp hroom), hlost, (OnlyRegs.frameLost c p).out]

end

end Sys2Proof.Machine
end

section
/-! SUPPORT. DATA frames, ALARM, ACK and WAKE frames as the port takes them (O24, O25, R42, R55, R60 to R63, R65, R68). -/

namespace Sys2Proof.Machine

/-! ## DATA frames (R55, R68) -/

section
variable {c : Chip} {p : Nat} (f : CellFrame) (sof : Time)

theorem Chip.rxData_running (h : c.portState p = 4) : c.rxData p f sof = c.offer p f sof id := if_pos h

theorem Chip.rxData_paused (h : c.portState p = 5) : c.rxData p f sof = (c.bump (Reg.CL_PORT_PDROP_COUNT p)).tallyChip 0x81 := by
  rw [Chip.rxData, if_neg (by omega), if_pos h]

theorem Chip.rxData_other (h : c.portState p ≠ 4) (h' : c.portState p ≠ 5) : c.rxData p f sof = c := by
  rw [Chip.rxData, if_neg h, if_neg h']

/-- A DATA frame changes its port's counts of what is dropped, and the FIFO. -/
theorem Chip.rxData_get {g : Reg.Fld} (hdrop : (Reg.CL_PORT_DROP_COUNT p).apart g = true) (hpdrop : (Reg.CL_PORT_PDROP_COUNT p).apart g = true)
    (hirq : Reg.CL_IRQ_STATUS_DROP.apart g = true) (hpmon : ¬ PmonChipRegs g.addr) : (c.rxData p f sof).get g = c.get g := by
  by_cases h4 : c.portState p = 4
  · rw [Chip.rxData_running f sof h4, c.offer_get p f sof id (fun _ => rfl) hdrop hirq hpmon]
  · by_cases h5 : c.portState p = 5
    · rw [Chip.rxData_paused f sof h5, (OnlyRegs.tallyChip _ _ _).get _ hpmon, Chip.bump, Chip.get_put_apart _ _ _ _ hpdrop]
    · rw [Chip.rxData_other f sof h4 h5]

theorem Chip.rxData_port (q : Nat) :
    (c.rxData p f sof).port q = c.port q ∨ q = p ∧ ∃ l, (c.rxData p f sof).port p = { c.port p with fifo := l } := by
  by_cases h4 : c.portState p = 4
  · rw [Chip.rxData_running f sof h4]
    exact c.offer_port p f sof id (fun _ => rfl) q
  · by_cases h5 : c.portState p = 5
    · rw [Chip.rxData_paused f sof h5, Chip.port, (OnlyRegs.tallyChip _ _ _).eq]
      exact .inl rfl
    · rw [Chip.rxData_other f sof h4 h5]
      exact .inl rfl

end

/-- A register of a port's block is none of the chip's event counters. -/
theorem not_pmonChipRegs_port {k p : Nat} (hk : 0x131000 ≤ k) : ¬ PmonChipRegs (k + p * 0x40) := by
  simp only [PmonChipRegs, Reg.PMON_IRQ_STATUS]
  omega

theorem dataFramesHold : DataFramesHold := by
  intro s p f sof ins c n hins
  have h128 : n < 128 := p.isLt
  let d := c.frameNoted n f
  have frame : ∀ {type : Nat}, GoodFrame c n f type → 0 < type ∧ type ≤ 8 → c.rxFrame n f sof = d.frameServed n f sof type := Chip.rxFrame_good sof
  obtain ⟨hleaves, hdata⟩ : Leaves ins s (d.rxData n f sof) ∧ frameIsData f = true := by
    rcases hins with ⟨rfl, good⟩ | ⟨rfl, good⟩
    all_goals
      obtain ⟨-, -, -, -, -, -, htype⟩ := id good
      exact ⟨leaves_of_act (f := (·.rxFrame n f sof)) rfl (frame good (by decide)), by rw [frameIsData, htype]; decide⟩
  have hport : d.port n = (c.port n).noted f := (c.frameNoted_port n f n).trans (if_pos rfl)
  have noted : ∀ {k : Nat} {g : Reg.Fld}, g.addr = k + n * 0x40 → 0x131000 ≤ k ∧ k < 0x131040 → k ≠ 0x131014 → d.get g = c.get g := fun hg hk h14 =>
    c.frameNoted_get n f (hg ▸ portReg_ne hk (by decide) (.inl h14)) (hg ▸ not_reportRegs_port h128 hk)
  have hstate : d.portState n = c.portState n := noted (g := Reg.CL_PORT_STAT_STATE n) rfl (by decide) (by decide)
  have hmap : d.get (Reg.CL_PORT_CFG_MAP_COUNT n) = c.get (Reg.CL_PORT_CFG_MAP_COUNT n) := noted rfl (by decide) (by decide)
  have hdrop : d.get (Reg.CL_PORT_DROP_COUNT n) = c.get (Reg.CL_PORT_DROP_COUNT n) := noted rfl (by decide) (by decide)
  have hpdrop : d.get (Reg.CL_PORT_PDROP_COUNT n) = c.get (Reg.CL_PORT_PDROP_COUNT n) := noted rfl (by decide) (by decide)
  have kept : ∀ {k : Nat} {g : Reg.Fld}, g.addr = k + n * 0x40 → 0x131000 ≤ k ∧ k < 0x131040 → 0x131008 ≠ k → 0x13100C ≠ k → (d.rxData n f sof).get g = d.get g :=
    fun hg hk h8 hC => Chip.rxData_get f sof (Reg.Fld.apart_addr (hg ▸ portReg_ne (by decide) hk (.inl h8))) (Reg.Fld.apart_addr (hg ▸ portReg_ne (by decide) hk (.inl hC)))
      (Reg.Fld.apart_addr (hg ▸ (portReg_ne_chip hk.1 (by decide)).symm)) (hg ▸ not_pmonChipRegs_port hk.1)
  refine ⟨_, hleaves, fun h4 hc hroom => ?_, fun h4 hc hfull => ?_, fun h5 => ?_, fun last hlast hdup => ?_, fun hdup => ?_, fun q hq => ?_, ?_⟩
  · rw [Chip.rxData_running f sof (hstate.trans h4), d.offer_taken n f sof id (hmap ▸ hc) (by rw [hport]; exact hroom), Chip.port_setPort_same, hport]
    rfl
  · rw [Chip.rxData_running f sof (hstate.trans h4), d.offer_lost n f sof id (hmap ▸ hc) (by rw [hport]; exact hfull)]
    obtain ⟨hcount, hirq⟩ := d.frameLost_counted n h128
    refine ⟨?_, hcount.trans (counted_congr hdrop 1), hirq⟩
    have hsame : (d.frameLost n).port n = d.port n := by
      rw [Chip.port, (OnlyRegs.frameLost d n).eq]
      rfl
    exact (congrArg PortSt.fifo (hsame.trans hport) :)
  · rw [Chip.rxData_paused f sof (hstate.trans h5)]
    have tallied := OnlyRegs.tallyChip (d.bump (Reg.CL_PORT_PDROP_COUNT n)) 0x81 1
    refine ⟨?_, (tallied.get _ (not_pmonChipRegs_port (by decide))).trans ((Chip.get_bump _ _ _ rfl).trans (counted_congr hpdrop 1))⟩
    have hsame : ((d.bump (Reg.CL_PORT_PDROP_COUNT n)).tallyChip 0x81).port n = d.port n := by
      rw [Chip.port, tallied.eq]
      rfl
    exact (congrArg PortSt.fifo (hsame.trans hport) :)
  · exact (kept rfl (by decide) (by decide) (by decide)).trans (Chip.frameNoted_gap h128 hdata hlast hdup)
  · have hseq : (d.port n).rxSeq = some (frameSeq f) := by rw [hport]; simp [PortSt.noted, hdata, hdup]
    rcases Chip.rxData_port (c := d) (p := n) f sof n with h | ⟨-, l, h⟩
    · exact (congrArg PortSt.rxSeq h).trans hseq
    · exact (congrArg PortSt.rxSeq h).trans hseq
  · rcases Chip.rxData_port (c := d) (p := n) f sof q with h | ⟨h, -⟩
    · exact h.trans ((c.frameNoted_port n f q).trans (if_neg hq))
    · exact absurd h hq
  · exact (kept (g := Reg.CL_PORT_STAT_STATE n) rfl (by decide) (by decide) (by decide)).trans hstate

/-- Settles O24, by the checks of a frame and by what a good DATA frame leaves. -/
theorem framesArrive : Obligations.FramesArrive := ⟨frameChecksHold, dataFramesHold⟩

end Sys2Proof.Machine
end

section
/-! SUPPORT. ALARM, ACK and WAKE frames as the port takes them (O25, R42, R60 to R63). -/

namespace Sys2Proof.Machine

/-! ## The end of a command, read in its slot (R15, R290) -/

theorem Memory.readNat_one (m : Memory) (a : Nat) : m.readNat a 1 = (m.read a).toNat := by
  simp [Memory.readNat, Memory.readBytes, bytesToNat]

/-- A command of a mailbox slot that completes. -/
theorem Chip.complete_replied (c : Chip) {n status : Nat} (code r0 r1 : Nat) (hn : n < 16) (hst : status < 256) :
    Replied (c.complete (.mailbox n) code status r0 r1) n status r0 r1 := by
  have results := Chip.mbxReply_field c n (c.rdMem (mbxMem n 0) 1) (c.rdMem (mbxMem n 1) 1) status (natToBytes 4 r0) [] 8 r1
  rw [List.append_nil, natToBytes_length] at results
  exact ⟨Chip.mbxReply_state _ _ _ _ _ _ hn, (Chip.mbxReply_status _ _ _ _ _ _).trans (Nat.mod_eq_of_lt hst), Chip.mbxReply_field _ _ _ _ _ [] _ 4 r0, results⟩

/-- The status byte and RESULT0, read byte by byte. -/
theorem Replied.bytes {t : Chip} {n status r0 r1 : Nat} (h : Replied t n status r0 r1) :
    t.mbxState n = 2 ∧ t.mem.read (mbxMem n 8) = BitVec.ofNat 8 status ∧ t.mem.readNat (mbxMem n 0x10) 4 = r0 % 2 ^ 32 := by
  obtain ⟨hstate, hstatus, hresult, -⟩ := h
  refine ⟨hstate, ?_, hresult⟩
  rw [Chip.rdMem, Memory.readNat_one] at hstatus
  rw [← hstatus, BitVec.ofNat_toNat, BitVec.setWidth_eq]

/-! ## Wake sources (R396) -/

theorem Chip.wakeSource_kept (c : Chip) (code detail : Nat) :
    (c.wakeSource code detail).regs = c.regs ∧ (c.wakeSource code detail).ports = c.ports ∧ (c.wakeSource code detail).out = c.out := by
  unfold Chip.wakeSource
  split <;> exact ⟨rfl, rfl, rfl⟩

/-- A frame sent, and nothing after it. -/
theorem SentFrame.trans_out {c d t : Chip} {p : Nat} {f : CellFrame} (h : SentFrame c d p f) (hout : t.out = d.out) : SentFrame c t p f := hout.trans h

/-! ## ALARM frames (R62) -/

section
variable (c : Chip) (p : Nat) (f : CellFrame) (sof : Time)

/-- Step 3 of R62: a port in RUN offers the frame. -/
def Chip.alarmQueued : Chip := if c.portState p = 4 then c.offer p f sof (·.set (Reg.CL_PORT_ALARM_LOST p)) else c

/-- Step 3 of R62, and the wake of a sampled port. -/
def Chip.alarmOffered : Chip := if (c.alarmQueued p f sof).sampledPort p then (c.alarmQueued p f sof).wakeSource 2 p else c.alarmQueued p f sof

theorem Chip.rxAlarm_known (h : frameSeq f ∈ (c.port p).alarms) : c.rxAlarm p f sof = c.sendFrame p 5 (ackPayload 3 (frameSeq f)) := by
  have hmem : ((c.sendFrame p 5 (ackPayload 3 (frameSeq f))).port p).alarms.contains (frameSeq f) = true := by
    rw [Chip.sendFrame_port]
    exact List.contains_iff_mem.mpr h
  exact if_pos hmem

theorem Chip.rxAlarm_new (h : frameSeq f ∉ (c.port p).alarms) :
    c.rxAlarm p f sof = ((c.sendFrame p 5 (ackPayload 3 (frameSeq f))).alarmReport p f).alarmOffered p f sof := by
  have hmem : ¬ ((c.sendFrame p 5 (ackPayload 3 (frameSeq f))).port p).alarms.contains (frameSeq f) = true := by
    rw [Chip.sendFrame_port]
    exact fun hc => h (List.contains_iff_mem.mp hc)
  exact if_neg hmem

/-- The report of an ALARM with a new SEQ. -/
theorem Chip.alarmReport_spec :
    let t := c.alarmReport p f
    frameSeq f ∈ (t.port p).alarms ∧ t.get Reg.CL_IRQ_STATUS_ALARM = 1 ∧ t.get (Reg.CL_PORT_ALARM_CODE p) = (framePayload f).toNat % 256 ∧
      t.get (Reg.CL_PORT_ALARM_SEQ p) = (frameSeq f).toNat ∧ t.get (Reg.CL_PORT_ALARM_COUNT p) = counted c (Reg.CL_PORT_ALARM_COUNT p) 1 ∧ t.out = c.out ∧
      RegsKept c t (fun a => a = Reg.CL_PORT_ALARM p ∨ a = Reg.CL_IRQ_STATUS) := by
  let d := c.modPort p (fun q => { q with alarms := q.alarms ++ [frameSeq f] })
  let e := ((d.set Reg.CL_IRQ_STATUS_ALARM).put (Reg.CL_PORT_ALARM_CODE p) ((framePayload f).toNat % 256)).put (Reg.CL_PORT_ALARM_SEQ p) (frameSeq f).toNat
  have ht : c.alarmReport p f = e.bump (Reg.CL_PORT_ALARM_COUNT p) := rfl
  have halarms : (d.port p).alarms = (c.port p).alarms ++ [frameSeq f] := congrArg PortSt.alarms (Chip.port_setPort_same _ _ _)
  have hirq : Reg.CL_IRQ_STATUS ≠ Reg.CL_PORT_ALARM p := (portReg_ne_chip (by decide) (by decide)).symm
  have hcount : e.get (Reg.CL_PORT_ALARM_COUNT p) = c.get (Reg.CL_PORT_ALARM_COUNT p) :=
    (Chip.get_put_apart _ _ _ _ (Reg.Fld.apart_bits rfl)).trans ((Chip.get_put_apart _ _ _ _ (Reg.Fld.apart_bits rfl)).trans
      ((Chip.get_put_addr _ _ _ _ hirq.symm).trans (Chip.get_setPort _ _ _ _)))
  have kept : OnlyRegs d (e.bump (Reg.CL_PORT_ALARM_COUNT p)) (fun a => a = Reg.CL_PORT_ALARM p ∨ a = Reg.CL_IRQ_STATUS) :=
    (((OnlyRegs.set d Reg.CL_IRQ_STATUS_ALARM _ (.inr rfl)).trans (OnlyRegs.put _ (Reg.CL_PORT_ALARM_CODE p) _ _ (.inl rfl))).trans
      (OnlyRegs.put _ (Reg.CL_PORT_ALARM_SEQ p) _ _ (.inl rfl))).trans (OnlyRegs.bump e (Reg.CL_PORT_ALARM_COUNT p) 1 _ (.inl rfl))
  rw [ht]
  refine ⟨?_, ?_, ?_, ?_, ?_, rfl, ?_⟩
  · exact halarms ▸ List.mem_append_right _ (List.mem_singleton_self _)
  · exact (Chip.get_put_addr _ _ _ _ hirq).trans ((Chip.get_put_addr _ _ _ _ hirq).trans ((Chip.get_put_addr _ _ _ _ hirq).trans (Chip.get_put_fits _ _ _ rfl)))
  · exact (Chip.get_put_apart _ _ _ _ (Reg.Fld.apart_bits rfl)).trans ((Chip.get_put_apart _ _ _ _ (Reg.Fld.apart_bits rfl)).trans
      ((Chip.get_put_same _ (Reg.CL_PORT_ALARM_CODE p) _ (Nat.zero_le _) (of_decide_eq_true rfl)).trans (Nat.mod_mod _ 256)))
  · exact (Chip.get_put_apart _ _ _ _ (Reg.Fld.apart_bits rfl)).trans
      ((Chip.get_put_same _ (Reg.CL_PORT_ALARM_SEQ p) _ (Nat.le_add_right 8 7) (of_decide_eq_true rfl)).trans (Nat.mod_eq_of_lt (frameSeq f).isLt))
  · exact (Chip.get_bump _ _ _ rfl).trans (counted_congr hcount 1)
  · exact RegsKept.trans ((RegsKept.refl c _).same d) kept.2

theorem Chip.alarmOffered_kept : (c.alarmOffered p f sof).regs = (c.alarmQueued p f sof).regs ∧ (c.alarmOffered p f sof).ports = (c.alarmQueued p f sof).ports ∧
    (c.alarmOffered p f sof).out = (c.alarmQueued p f sof).out := by
  unfold Chip.alarmOffered
  split
  · exact Chip.wakeSource_kept _ _ _
  · exact ⟨rfl, rfl, rfl⟩

theorem Chip.alarmOffered_get {g : Reg.Fld} (hdrop : (Reg.CL_PORT_DROP_COUNT p).apart g = true) (hlost : (Reg.CL_PORT_ALARM_LOST p).apart g = true)
    (hirq : Reg.CL_IRQ_STATUS_DROP.apart g = true) (hpmon : ¬ PmonChipRegs g.addr) : (c.alarmOffered p f sof).get g = c.get g := by
  obtain ⟨hregs, -, -⟩ := c.alarmOffered_kept p f sof
  rw [Chip.get_congr _ _ hregs, Chip.alarmQueued]
  split
  · exact c.offer_get p f sof _ (fun _ => Chip.get_put_apart _ _ _ _ hlost) hdrop hirq hpmon
  · rfl

theorem Chip.alarmOffered_alarms : ((c.alarmOffered p f sof).port p).alarms = (c.port p).alarms := by
  obtain ⟨-, hports, -⟩ := c.alarmOffered_kept p f sof
  have queued : (c.alarmQueued p f sof).port p = c.port p ∨ p = p ∧ ∃ l, (c.alarmQueued p f sof).port p = { c.port p with fifo := l } := by
    unfold Chip.alarmQueued
    split
    · exact c.offer_port p f sof (·.set (Reg.CL_PORT_ALARM_LOST p)) (fun _ => rfl) p
    · exact .inl rfl
  rw [Chip.port, hports]
  rcases queued with h | ⟨-, l, h⟩
  · exact (congrArg PortSt.alarms h :)
  · exact (congrArg PortSt.alarms h :)

theorem Chip.alarmOffered_out : (c.alarmOffered p f sof).out = c.out := by
  obtain ⟨-, -, hout⟩ := c.alarmOffered_kept p f sof
  rw [hout, Chip.alarmQueued]
  split
  · exact c.offer_out p f sof _ (fun _ => rfl)
  · rfl

/-- An ALARM with a new SEQ: the report, and the ACK that every ALARM gets. -/
theorem Chip.rxAlarm_new_spec (h : frameSeq f ∉ (c.port p).alarms) :
    let t := c.rxAlarm p f sof
    (frameSeq f ∈ (t.port p).alarms ∧ t.get Reg.CL_IRQ_STATUS_ALARM = 1 ∧ t.get (Reg.CL_PORT_ALARM_CODE p) = (framePayload f).toNat % 256 ∧
      t.get (Reg.CL_PORT_ALARM_SEQ p) = (frameSeq f).toNat ∧ t.get (Reg.CL_PORT_ALARM_COUNT p) = counted c (Reg.CL_PORT_ALARM_COUNT p) 1) ∧
    SentFrame c t p (mkFrame 5 false (c.port p).txSeq c.time (ackPayload 3 (frameSeq f))) ∧ t.get Reg.PWR_STATE_STATE = c.get Reg.PWR_STATE_STATE := by
  let d := c.sendFrame p 5 (ackPayload 3 (frameSeq f))
  obtain ⟨halarms, hirq, hcode, hseq, hcount, hout, hregs⟩ := d.alarmReport_spec p f
  have inPort : ∀ {g : Reg.Fld}, g.addr = Reg.CL_PORT_ALARM p → (Reg.CL_PORT_ALARM_LOST p).apart g = true →
      ((d.alarmReport p f).alarmOffered p f sof).get g = (d.alarmReport p f).get g := fun hg hlost =>
    Chip.alarmOffered_get _ _ _ _ (Reg.Fld.apart_addr (hg ▸ portReg_ne (by decide) (by decide) (.inl (by decide)))) hlost
      (Reg.Fld.apart_addr (hg ▸ (portReg_ne_chip (by decide) (by decide)).symm)) (hg ▸ not_pmonChipRegs_port (by decide))
  have ofChip : ∀ {g : Reg.Fld}, g.addr < 0x131000 → Reg.CL_IRQ_STATUS_DROP.apart g = true → ¬ PmonChipRegs g.addr →
      ((d.alarmReport p f).alarmOffered p f sof).get g = (d.alarmReport p f).get g := fun ha =>
    Chip.alarmOffered_get _ _ _ _ (Reg.Fld.apart_addr (portReg_ne_chip (by decide) ha)) (Reg.Fld.apart_addr (portReg_ne_chip (by decide) ha))
  have hpwr : ¬ (Reg.PWR_STATE = Reg.CL_PORT_ALARM p ∨ Reg.PWR_STATE = Reg.CL_IRQ_STATUS) :=
    not_or.mpr ⟨(portReg_ne_chip (by decide) (by decide)).symm, by decide⟩
  rw [Chip.rxAlarm_new c p f sof h]
  refine ⟨⟨?_, ?_, ?_, ?_, ?_⟩, ?_, ?_⟩
  · exact (Chip.alarmOffered_alarms _ p f sof).symm ▸ halarms
  · exact (ofChip (by decide) (by decide) (by simp only [PmonChipRegs]; decide)).trans hirq
  · exact (inPort rfl (Reg.Fld.apart_bits rfl)).trans hcode
  · exact (inPort rfl (Reg.Fld.apart_bits rfl)).trans hseq
  · exact (inPort rfl (Reg.Fld.apart_bits rfl)).trans hcount
  · exact SentFrame.trans_out (c.sendFrame_sent p 5 _) ((Chip.alarmOffered_out _ p f sof).trans hout)
  · exact (ofChip (by decide) (by decide) (not_pmonChipRegs (by decide))).trans (Chip.get_of_rd _ (hregs _ hpwr))

end

/-! ## ACK frames (R60, R63) -/

theorem Chip.rxAck_open {c : Chip} {p : Nat} {f : CellFrame} {x : Exchange} (h : (c.port p).ctrl = some x) (htype : (framePayload f).toNat % 256 = 4)
    (hseq : (framePayload f).toNat / 256 % 256 = x.seq.toNat) :
    c.rxAck p f = (c.setPort p { c.port p with ctrl := none }).complete x.origin 0x0048 OK ((framePayload f).toNat / 65536 % 256) 0 := by
  unfold Chip.rxAck
  dsimp only
  rw [h]
  exact if_pos ⟨htype, hseq⟩

theorem Chip.rxAck_late {c : Chip} {p : Nat} (f : CellFrame) (h : (c.port p).ctrl = none) : c.rxAck p f = c.bump (Reg.CL_PORT_RXERR_OTHER p) := by
  unfold Chip.rxAck
  dsimp only
  rw [h]

/-! ## Control frames -/

/-- Settles O25: a good frame is noted, then each type does its own. -/
theorem controlFrames : Obligations.ControlFrames := by
  intro s p f sof c n x pl
  have h128 : n < 128 := p.isLt
  let d := c.frameNoted n f
  have hport : d.port n = x.noted f := (c.frameNoted_port n f n).trans (if_pos rfl)
  have frame : ∀ {type : Nat}, GoodFrame c n f type → 0 < type ∧ type ≤ 8 → c.rxFrame n f sof = d.frameServed n f sof type := Chip.rxFrame_good sof
  have noted : ∀ {k : Nat}, 0x131000 ≤ k ∧ k < 0x131040 → k ≠ 0x131014 → d.rd (k + n * 0x40) = c.rd (k + n * 0x40) := fun hk h14 =>
    c.frameNoted_regs n f _ (not_or.mpr ⟨portReg_ne hk (by decide) (.inl h14), not_reportRegs_port h128 hk⟩)
  refine ⟨fun good => ?_, fun good => ⟨fun e hctrl htype hseq => ?_, fun hctrl => ?_⟩, fun good => ?_⟩
  · have hawake : c.inLookout = false := by
      obtain ⟨-, -, hrun, -⟩ := good
      exact Chip.awake_of_runs hrun
    have hpwr : d.get Reg.PWR_STATE_STATE = c.get Reg.PWR_STATE_STATE := c.frameNoted_get n f (by simp only [Reg.PWR_STATE_STATE, Reg.PWR_STATE, Reg.CL_PORT_SEQGAP]; omega)
      (by simp only [ReportRegs, Reg.PWR_STATE_STATE, Reg.PWR_STATE]; omega)
    have hsent : ∀ {t : Chip}, SentFrame d t n (mkFrame 5 false (d.port n).txSeq d.time (ackPayload 3 (frameSeq f))) →
        SentFrame c t n (mkFrame 5 false x.txSeq c.time (ackPayload 3 (frameSeq f))) := fun h => by
      rw [hport, c.frameNoted_time n f] at h
      exact SentFrame.of_out h (c.frameNoted_out n f)
    have hknown : frameSeq f ∈ (d.port n).alarms ↔ frameSeq f ∈ x.alarms := by
      rw [hport]
      exact x.mem_noted_alarms f
    by_cases hnew : frameSeq f ∈ x.alarms
    · have hregs : (d.sendFrame n 5 (ackPayload 3 (frameSeq f))).regs = d.regs := rfl
      have ht := (frame good (by decide)).trans (Chip.rxAlarm_known d n f sof (hknown.mpr hnew))
      exact ⟨_, leaves_frame (by simp) ht (Chip.awake_of_get hawake ((Chip.get_congr _ _ hregs _).trans hpwr)), hsent (d.sendFrame_sent n 5 _),
        fun h => absurd hnew h, fun _ => (Chip.rd_congr _ _ hregs _).trans (noted (by decide) (by decide))⟩
    · obtain ⟨⟨halarms, hirq, hcode, hseq, hcount⟩, hack, hstill⟩ := Chip.rxAlarm_new_spec d n f sof (fun h => hnew (hknown.mp h))
      refine ⟨_, leaves_frame (by simp) (frame good (by decide)) (Chip.awake_of_get hawake (hstill.trans hpwr)), hsent hack,
        fun _ => ⟨halarms, hirq, hcode, hseq, hcount.trans (counted_congr ?_ 1)⟩, fun h => absurd h hnew⟩
      exact Chip.get_of_rd _ (noted (by decide) (by decide))
  · have hctrl' : (d.port n).ctrl = some e := by
      rw [hport]
      exact hctrl
    have ht := (frame good (by decide)).trans (Chip.rxAck_open hctrl' htype hseq)
    have ended := (OnlyReports.refl (d.setPort n { d.port n with ctrl := none })).complete e.origin 0x0048 OK (pl / 65536 % 256) 0
    refine ⟨_, leaves_of_act (f := (·.rxFrame n f sof)) rfl ht, ?_, ?_, fun m horigin hm => ?_⟩
    · rw [ended.port, Chip.port_setPort_same]
    · exact (ended.regs _ (not_reportRegs_port h128 (by decide))).trans (noted (by decide) (by decide))
    · obtain ⟨hstate, hstatus, hresult⟩ := Replied.bytes ((d.setPort n { d.port n with ctrl := none }).complete_replied 0x0048 (pl / 65536 % 256) 0 hm (by decide : OK < 256))
      rw [horigin]
      exact ⟨hstate, hstatus, hresult.trans (Nat.mod_eq_of_lt (by omega))⟩
  · have ht := (frame good (by decide)).trans (Chip.rxAck_late f (c := d) (p := n) (by rw [hport]; exact hctrl))
    exact ⟨_, leaves_of_act (f := (·.rxFrame n f sof)) rfl ht,
      (Chip.get_bump _ _ _ rfl).trans (counted_congr (Chip.get_of_rd _ (noted (by decide) (by decide))) 1)⟩
  · have ht := frame good (by decide)
    refine ⟨_, leaves_of_act (f := (·.rxFrame n f sof)) rfl ht, ?_, Chip.get_of_rd _ (noted (by decide) (by decide))⟩
    exact congrArg (· ++ _) (c.frameNoted_out n f)

end Sys2Proof.Machine
end

section
/-! SUPPORT. Identification of a port: repeats, its own reply, and the reply of another port (O23, R46 to R50). -/

namespace Sys2Proof.Machine

/-- A field as wide as its register shows the word put into it. -/
theorem Chip.rd_put_word (c : Chip) (a : Nat) (v : Word) : (c.put ⟨a, 31, 0⟩ v.toNat).rd a = v := by
  have h := Chip.get_put_same c ⟨a, 31, 0⟩ v.toNat (Nat.zero_le _) (of_decide_eq_true rfl)
  simp only [Chip.get, wbits, Nat.reduceAdd, Nat.reduceSub, BitVec.ushiftRight_zero] at h
  rw [Nat.mod_eq_of_lt (BitVec.isLt _), Nat.mod_eq_of_lt v.isLt] at h
  exact BitVec.eq_of_toNat_eq h

theorem Chip.frameNoted_clPorts (c : Chip) (p : Nat) (f : CellFrame) : (c.frameNoted p f).clPorts = c.clPorts := by
  rw [Chip.clPorts, Chip.clPorts, Chip.variant, Chip.variant, c.frameNoted_get p f (portReg_ne_chip (by decide) (by decide)).symm (not_or.mpr ⟨by decide, by decide⟩)]

/-! ## The port's own reply (R48, R49) -/

section
variable (c : Chip) (p : Nat) (f : CellFrame) (sof : Time)

/-- Half of what the exchange took beyond the peer's turnaround (R48). -/
def Chip.idDelay : Int := (((sof - (c.port p).reqTime).toNat : Int) - ((framePayload f).extractLsb' 80 16).toNat) / 2

/-- DELAY and the peer's serial number, shown. -/
def Chip.idShown : Chip :=
  (c.put (Reg.CL_PORT_DELAY_DELAY p) (BitVec.ofInt 16 (c.idDelay p f sof)).toNat).put (Reg.CL_PORT_PEERID_SERIAL p) ((framePayload f).extractLsb' 48 32).toNat

/-- The port in RUN. -/
def Chip.idJoined : Chip :=
  ((c.idShown p f sof).setPortState p 4).modPort p (fun x => { x with nonce := none, reported := false, rxSeq := some (frameSeq f), heard := [] })

theorem Chip.rxId_own {c : Chip} {p : Nat} {f : CellFrame} (hst : c.portState p = 3) (hown : (framePayload f).toNat % 256 = p)
    (hnonce : (c.port p).nonce = some ((framePayload f).extractLsb' 8 16)) :
    c.rxId p f sof = if c.idDelay p f sof > 200 then (c.idShown p f sof).portFault p 7 else c.idJoined p f sof := by
  rw [Chip.rxId, if_neg (by simp [hst])]
  dsimp only
  rw [if_pos hown, if_pos hnonce]
  rfl

theorem Chip.rxId_crossed {c : Chip} {p : Nat} {f : CellFrame} (hst : c.portState p = 3) {m : Nat} (hm : (framePayload f).toNat % 256 = m) (hne : m ≠ p)
    (hports : m < c.clPorts) (hnonce : (c.port m).nonce = some ((framePayload f).extractLsb' 8 16)) : c.rxId p f sof = c.crossed p m := by
  rw [Chip.rxId, if_neg (by simp [hst])]
  dsimp only
  rw [hm, if_neg hne, if_pos ⟨hports, hnonce⟩]

theorem Chip.idShown_delay : (c.idShown p f sof).get (Reg.CL_PORT_DELAY_DELAY p) = (BitVec.ofInt 16 (c.idDelay p f sof)).toNat :=
  (Chip.get_put_addr _ _ _ _ (portReg_ne (by decide) (by decide) (.inl (by decide)))).trans
    ((Chip.get_put_same _ (Reg.CL_PORT_DELAY_DELAY p) _ (Nat.zero_le _) (of_decide_eq_true rfl)).trans (Nat.mod_eq_of_lt (BitVec.isLt _)))

theorem Chip.idShown_serial : (c.idShown p f sof).rd (Reg.CL_PORT_PEERID p) = (framePayload f).extractLsb' 48 32 :=
  Chip.rd_put_word _ _ _

theorem Chip.idJoined_port : ((c.idJoined p f sof).port p).nonce = none := congrArg PortSt.nonce (Chip.port_setPort_same _ _ _)

end

/-- What is shown of the peer stays shown where only the port's status, the interrupts and the reports' registers change. -/
theorem Chip.idShown_kept {c t : Chip} {p : Nat} {f : CellFrame} {sof : Time} (hp : p < 128)
    (h : RegsKept (c.idShown p f sof) t (fun a => a = Reg.CL_PORT_STAT p ∨ a = Reg.CL_IRQ_STATUS ∨ ReportRegs a)) :
    t.get (Reg.CL_PORT_DELAY_DELAY p) = (BitVec.ofInt 16 (c.idDelay p f sof)).toNat ∧ t.rd (Reg.CL_PORT_PEERID p) = (framePayload f).extractLsb' 48 32 := by
  have still : ∀ {k : Nat}, 0x131000 ≤ k ∧ k < 0x131040 → k ≠ 0x131004 → t.rd (k + p * 0x40) = (c.idShown p f sof).rd (k + p * 0x40) := fun hk h4 =>
    h _ (not_or.mpr ⟨portReg_ne hk (by decide) (.inl h4), not_or.mpr ⟨portReg_ne_chip hk.1 (by decide), not_reportRegs_port hp hk⟩⟩)
  have delay : t.get (Reg.CL_PORT_DELAY_DELAY p) = (c.idShown p f sof).get (Reg.CL_PORT_DELAY_DELAY p) := Chip.get_of_rd _ (still (by decide) (by decide))
  have peer : t.rd (Reg.CL_PORT_PEERID p) = (c.idShown p f sof).rd (Reg.CL_PORT_PEERID p) := still (by decide) (by decide)
  exact ⟨delay.trans (c.idShown_delay p f sof), peer.trans (c.idShown_serial p f sof)⟩

/-- What the reply to the port's own request leaves. -/
theorem Chip.rxId_own_spec {c : Chip} {p : Nat} {f : CellFrame} (sof : Time) (hp : p < 128) (hst : c.portState p = 3)
    (hown : (framePayload f).toNat % 256 = p) (hnonce : (c.port p).nonce = some ((framePayload f).extractLsb' 8 16)) :
    let t := c.rxId p f sof
    let d := c.idDelay p f sof
    t.get (Reg.CL_PORT_DELAY_DELAY p) = (BitVec.ofInt 16 d).toNat ∧ t.rd (Reg.CL_PORT_PEERID p) = (framePayload f).extractLsb' 48 32 ∧
      (d ≤ 200 → t.portState p = 4 ∧ (t.port p).nonce = none) ∧ (200 < d → t.portState p = 6 ∧ t.get (Reg.CL_PORT_STAT_FAULT p) = 7) := by
  intro t d
  have ht : t = if d > 200 then (c.idShown p f sof).portFault p 7 else c.idJoined p f sof := Chip.rxId_own sof hst hown hnonce
  by_cases hlong : d > 200
  · rw [if_pos hlong] at ht
    have faulted := (c.idShown p f sof).portFault_spec hp (by decide : 7 < 16)
    rw [ht]
    obtain ⟨hdelay, hpeer⟩ := Chip.idShown_kept hp faulted.regs
    exact ⟨hdelay, hpeer, fun h => absurd hlong (not_lt.mpr h), fun _ => ⟨faulted.state, faulted.shown⟩⟩
  · rw [if_neg hlong] at ht
    have joined := (OnlyRegs.setPortState (c.idShown p f sof) p 4).2.same (c.idJoined p f sof)
    obtain ⟨hdelay, hpeer⟩ := Chip.idShown_kept hp (joined.mono fun _ h => .inl h)
    have state : (c.idJoined p f sof).portState p = 4 := (Chip.get_setPort _ _ _ _).trans (Chip.get_put_fits _ _ _ rfl)
    rw [ht]
    exact ⟨hdelay, hpeer, fun _ => ⟨state, c.idJoined_port p f sof⟩, fun h => absurd h hlong⟩

/-! ## Crossed ports (R49) -/

theorem Chip.crossed_spec (c : Chip) {p q : Nat} (hp : p < 128) (hq : q < 128) (hne : q ≠ p) :
    let t := c.crossed p q
    t.portState p = 6 ∧ t.portState q = 6 ∧ t.get (Reg.CL_PORT_STAT_FAULT p) = 5 ∧ t.get (Reg.CL_PORT_STAT_FAULT q) = 5 ∧
      t.get (Reg.CL_PORT_STAT_PEER_PORT p) = q ∧ t.get (Reg.CL_PORT_STAT_PEER_PORT q) = p ∧ t.get Reg.CL_IRQ_STATUS_CROSSED = 1 := by
  let d := (c.portFault p 5).portFault q 5
  let e := d.put (Reg.CL_PORT_STAT_PEER_PORT p) q
  have first := c.portFault_spec hp (by decide : 5 < 16)
  have second := (c.portFault p 5).portFault_spec hq (by decide : 5 < 16)
  have pq : Reg.CL_PORT_STAT p ≠ Reg.CL_PORT_STAT q := portReg_ne (by decide) (by decide) (.inr hne.symm)
  have irq : ∀ r, Reg.CL_PORT_STAT r ≠ Reg.CL_IRQ_STATUS := fun _ => portReg_ne_chip (by decide) (by decide)
  have ofFirst : d.rd (Reg.CL_PORT_STAT p) = (c.portFault p 5).rd (Reg.CL_PORT_STAT p) :=
    second.regs _ (not_or.mpr ⟨pq, not_or.mpr ⟨irq p, not_reportRegs_port hp (by decide)⟩⟩)
  have seen : ∀ {g : Reg.Fld}, g.addr ≠ Reg.CL_IRQ_STATUS → (c.crossed p q).get g = (e.put (Reg.CL_PORT_STAT_PEER_PORT q) p).get g :=
    fun h => Chip.get_put_addr (e.put (Reg.CL_PORT_STAT_PEER_PORT q) p) Reg.CL_IRQ_STATUS_CROSSED _ 1 h
  have atP : ∀ {g : Reg.Fld}, g.addr = Reg.CL_PORT_STAT p → (Reg.CL_PORT_STAT_PEER_PORT p).apart g = true →
      (c.crossed p q).get g = (c.portFault p 5).get g := fun {g} hg hapart =>
    (((seen (hg ▸ irq p)).trans (Chip.get_put_addr _ _ _ _ (hg ▸ pq))).trans (Chip.get_put_apart _ _ _ _ hapart)).trans
      (Chip.get_of_rd g (hg ▸ ofFirst))
  have atQ : ∀ {g : Reg.Fld}, g.addr = Reg.CL_PORT_STAT q → (Reg.CL_PORT_STAT_PEER_PORT q).apart g = true → (c.crossed p q).get g = d.get g := fun hg hapart =>
    ((seen (hg ▸ irq q)).trans (Chip.get_put_apart _ _ _ _ hapart)).trans (Chip.get_put_addr _ _ _ _ (hg ▸ pq.symm))
  refine ⟨(atP rfl (Reg.Fld.apart_bits rfl)).trans first.state, (atQ rfl (Reg.Fld.apart_bits rfl)).trans second.state,
    (atP rfl (Reg.Fld.apart_bits rfl)).trans first.shown, (atQ rfl (Reg.Fld.apart_bits rfl)).trans second.shown, ?_, ?_, Chip.get_put_fits _ _ _ rfl⟩
  · exact ((seen (irq p)).trans (Chip.get_put_addr _ _ _ _ pq)).trans
      ((Chip.get_put_same _ (Reg.CL_PORT_STAT_PEER_PORT p) q (Nat.le_add_right 10 6) (of_decide_eq_true rfl)).trans (Nat.mod_eq_of_lt hq))
  · exact (seen (irq q)).trans
      ((Chip.get_put_same _ (Reg.CL_PORT_STAT_PEER_PORT q) p (Nat.le_add_right 10 6) (of_decide_eq_true rfl)).trans (Nat.mod_eq_of_lt hp))

/-! ## Identification -/

theorem identificationHold : IdentificationHold := by
  intro s p f sof c n x pl hn hst hrun
  have h128 : n < 128 := p.isLt
  have retry : ∀ {g : Chip → Chip} {t : Chip}, exec (.idRequestRetry p) s = act (whileRuns 68 (whenPort n [3] g)) s → g c = t → Leaves (.idRequestRetry p) s t :=
    fun hex hg => leaves_whenPort hrun hn (List.mem_singleton.mpr hst) hex hg
  refine ⟨fun nonce hnonce h3 h6 => ?_, fun nonce hnonce h3 hauto => ?_, fun h6 => ?_, fun hpins hcrc htype hver => ?_⟩
  · obtain ⟨hregs, hport, hsent⟩ := Chip.idRequest_again hnonce
    exact ⟨_, retry rfl (if_pos (by change x.attempts < 3 ∨ 3 < x.attempts ∧ x.attempts < 6; omega)), hport, hsent, Chip.rd_congr _ _ hregs⟩
  · let d := c.put (Reg.CL_PORT_STAT_TX_INVERTED n) (1 - c.get (Reg.CL_PORT_STAT_TX_INVERTED n))
    obtain ⟨hregs, hport, -⟩ := Chip.idRequest_again (c := d) hnonce
    have turned : d.get (Reg.CL_PORT_STAT_TX_INVERTED n) = 1 - c.get (Reg.CL_PORT_STAT_TX_INVERTED n) :=
      (Chip.get_put_same _ (Reg.CL_PORT_STAT_TX_INVERTED n) _ (Nat.le_refl 9) (of_decide_eq_true rfl)).trans
        (Nat.mod_eq_of_lt (Nat.lt_succ_of_le (Nat.sub_le 1 _)))
    refine ⟨_, retry rfl ((if_neg ?_).trans (if_pos ⟨h3, Chip.on_iff.mpr hauto⟩)), (Chip.get_congr _ _ hregs _).trans turned, ?_⟩
    · change ¬ (x.attempts < 3 ∨ 3 < x.attempts ∧ x.attempts < 6)
      omega
    · exact (congrArg PortSt.attempts hport).trans (congrArg (· + 1) h3)
  · refine ⟨_, retry rfl ((if_neg ?_).trans (if_neg fun h => ?_)), (c.portFault_spec h128 (by decide)).portFaulted⟩
    · change ¬ (x.attempts < 3 ∨ 3 < x.attempts ∧ x.attempts < 6)
      omega
    · exact absurd (h.1 ▸ h6 : 6 ≤ 3) (by decide)
  · let d := c.frameNoted n f
    have hears : c.portHears n = true := by simp [Chip.portHears, hst]
    have served : ∀ {t : Chip}, d.rxId n f sof = t → Leaves (.idReply p f sof) s t := fun h =>
      leaves_of_act (f := (·.rxFrame n f sof)) rfl ((Chip.rxFrame_good sof ⟨hn, hpins, hrun, hears, hcrc, hver, htype⟩ (by decide)).trans h)
    have kept : ∀ {k : Nat}, 0x131000 ≤ k ∧ k < 0x131040 → k ≠ 0x131014 → d.rd (k + n * 0x40) = c.rd (k + n * 0x40) := fun hk h14 =>
      c.frameNoted_regs n f _ (not_or.mpr ⟨portReg_ne hk (by decide) (.inl h14), not_reportRegs_port h128 hk⟩)
    have hst' : d.portState n = 3 := (Chip.get_of_rd (Reg.CL_PORT_STAT_STATE n) (kept (by decide) (by decide))).trans hst
    have hport : d.port n = x.noted f := (c.frameNoted_port n f n).trans (if_pos rfl)
    refine ⟨fun hown hnonce => ?_, fun m hm hne hports hnonce => ?_⟩
    · have spec := Chip.rxId_own_spec sof h128 hst' hown ((congrArg PortSt.nonce hport).trans hnonce)
      have hdelay : d.idDelay n f sof = (((sof - x.reqTime).toNat : Int) - (pl.extractLsb' 80 16).toNat) / 2 := by
        rw [Chip.idDelay, hport]
        rfl
      rw [hdelay] at spec
      exact ⟨_, served rfl, spec⟩
    · have hports' : d.clPorts = c.clPorts := c.frameNoted_clPorts n f
      have hother : d.port m = c.port m := (c.frameNoted_port n f m).trans (if_neg hne)
      have spec := d.crossed_spec h128 (lt_of_lt_of_le hports c.clPorts_le) hne
      exact ⟨_, served (Chip.rxId_crossed sof hst' hm hne (hports'.symm ▸ hports) ((congrArg PortSt.nonce hother).trans hnonce)), spec⟩

/-- Settles O23: bring-up, then identification. -/
theorem portsJoin : Obligations.PortsJoin := ⟨portBringUpHold, identificationHold⟩

end Sys2Proof.Machine
end

section
/-! SUPPORT. Exchanges, pauses, wakes and wiring faults of a port (O27, R60, R68 to R71). -/

namespace Sys2Proof.Machine

/-! ## CONTROL exchanges (R60) -/

theorem Chip.dropExchange_open {c : Chip} {p : Nat} {e : Exchange} (h : (c.port p).ctrl = some e) :
    c.dropExchange p = (c.setPort p { c.port p with ctrl := none }).complete e.origin 0x0048 ERR_TIMEOUT 0 0 := by
  rw [Chip.dropExchange, h]

/-- The fourth silence marked and logged. -/
def Chip.exchangeFailed (c : Chip) : Chip := (c.set Reg.CL_IRQ_STATUS_CTRL_FAIL).logged logService 0x48 ERR_TIMEOUT

theorem controlRetry_leaves {s : State} {p : Port} {e : Exchange} (hctrl : (s.chip.port p.toNat).ctrl = some e) (hretries : e.retries < 3)
    (hrun : s.chip.unitHeld 68 = false) :
    Leaves (.controlRetry p) s
      ((s.chip.modPort p.toNat (fun q => { q with ctrl := some { e with retries := e.retries + 1 } })).resendFrame p.toNat 4 e.seq e.payload) :=
  leaves_whileRuns hrun rfl (by
    rw [hctrl]
    exact if_pos hretries)

theorem controlExchangeFail_leaves {s : State} {p : Port} {e : Exchange} (hctrl : (s.chip.port p.toNat).ctrl = some e) (hretries : e.retries = 3)
    (hrun : s.chip.unitHeld 68 = false) : Leaves (.controlExchangeFail p) s (s.chip.exchangeFailed.dropExchange p.toNat) :=
  leaves_whileRuns hrun rfl (by
    rw [hctrl]
    exact if_pos hretries)

/-- The command whose exchange failed is answered with ERR_TIMEOUT. -/
theorem Chip.exchangeFailed_spec {c : Chip} {p : Nat} {e : Exchange} (hctrl : (c.port p).ctrl = some e) :
    let t := c.exchangeFailed.dropExchange p
    (t.port p).ctrl = none ∧ t.get Reg.CL_IRQ_STATUS_CTRL_FAIL = 1 ∧
      ∀ m, e.origin = .mailbox m → m < 16 → t.mbxState m = 2 ∧ t.mem.read (mbxMem m 8) = BitVec.ofNat 8 ERR_TIMEOUT := by
  have hctrl' : (c.exchangeFailed.port p).ctrl = some e := hctrl
  have marked : c.exchangeFailed.get Reg.CL_IRQ_STATUS_CTRL_FAIL = 1 := Chip.get_put_fits c Reg.CL_IRQ_STATUS_CTRL_FAIL 1 rfl
  obtain ⟨hport, -, hregs⟩ := c.exchangeFailed.dropExchange_spec p
  refine ⟨congrArg PortSt.ctrl hport, (Chip.get_of_rd _ (hregs _ (not_reportRegs (by decide)))).trans marked, fun m horigin hm => ?_⟩
  rw [Chip.dropExchange_open hctrl', horigin]
  obtain ⟨hstate, hstatus, -⟩ := Replied.bytes
    ((c.exchangeFailed.setPort p { c.exchangeFailed.port p with ctrl := none }).complete_replied 0x0048 0 0 hm (by decide : ERR_TIMEOUT < 256))
  exact ⟨hstate, hstatus⟩

/-! ## Pauses (R68, R69) -/

section
variable {c : Chip} {p : Nat} (hp : p < 128)
include hp

theorem Chip.portPaused_spec (hreq : (c.port p).pauseReq = true) : (c.portPaused p).portState p = 5 ∧ ((c.portPaused p).port p).pauseReq = false := by
  let d := (c.setPortState p 5).modPort p (fun q => { q with pauseReq := false })
  have ht : c.portPaused p = d.pauseDone 0 p := if_pos hreq
  have reported := (OnlyReports.refl d).pauseDone 0 p
  have state : d.portState p = 5 := (Chip.get_setPort _ _ _ _).trans (Chip.get_put_fits _ _ _ rfl)
  rw [ht, reported.port]
  exact ⟨(reported.get _ (not_reportRegs_port hp (by decide))).trans state, congrArg PortSt.pauseReq (Chip.port_setPort_same _ _ _)⟩

theorem Chip.portResume_spec (hports : p < c.clPorts) (hst : c.portState p = 5) : (c.portResume p).portState p = 4 := by
  let d := c.modPort p (fun q => { q with pauseReq := false })
  have state : d.portState p = 5 := (Chip.get_setPort _ _ _ _).trans hst
  have ht : c.portResume p = (d.setPortState p 4).pauseOver 0 p :=
    congrArg (Chip.pauseOver · 0 p) (whenPort_eq (c := d) hports (List.mem_singleton.mpr state) rfl)
  rw [ht]
  exact (((OnlyReports.refl (d.setPortState p 4)).pauseOver 0 p).get _ (not_reportRegs_port hp (by decide))).trans (Chip.get_put_fits _ _ _ rfl)

end

/-! ## The wake pattern (R70) -/

theorem whilePins_eq {c : Chip} {f : Chip → Chip} (h : c.pinsIdle = false) : whilePins f c = f c := by
  rw [whilePins, if_neg (by simp [h])]

/-- The port named first stays named. -/
def Chip.wakeNamed (c : Chip) (p : Nat) : Chip := if c.on Reg.CL_WAKE_PORT_VALID then c else (c.put Reg.CL_WAKE_PORT_PORT p).set Reg.CL_WAKE_PORT_VALID

theorem Chip.wakeNamed_spec (c : Chip) {p : Nat} (hp : p < 128) :
    (c.wakeNamed p).get Reg.CL_WAKE_PORT_VALID = 1 ∧
      (c.wakeNamed p).get Reg.CL_WAKE_PORT_PORT = (if c.get Reg.CL_WAKE_PORT_VALID = 1 then c.get Reg.CL_WAKE_PORT_PORT else p) ∧
      OnlyRegs c (c.wakeNamed p) (· = Reg.CL_WAKE_PORT) := by
  unfold Chip.wakeNamed
  by_cases hvalid : c.get Reg.CL_WAKE_PORT_VALID = 1
  · rw [if_pos (Chip.on_iff.mpr hvalid), if_pos hvalid]
    exact ⟨hvalid, rfl, OnlyRegs.refl _ _⟩
  · have named : (c.put Reg.CL_WAKE_PORT_PORT p).get Reg.CL_WAKE_PORT_PORT = p :=
      (Chip.get_put_same c Reg.CL_WAKE_PORT_PORT p (by decide) (by decide)).trans (Nat.mod_eq_of_lt hp)
    rw [if_neg (fun h => hvalid (Chip.on_iff.mp h)), if_neg hvalid]
    exact ⟨Chip.get_put_fits _ _ _ rfl, (Chip.get_put_apart _ _ _ _ rfl).trans named,
      (OnlyRegs.put c Reg.CL_WAKE_PORT_PORT p (· = Reg.CL_WAKE_PORT) rfl).trans (OnlyRegs.set _ Reg.CL_WAKE_PORT_VALID (· = Reg.CL_WAKE_PORT) rfl)⟩

theorem Chip.wakePattern_regs {c : Chip} {p : Nat} (hports : p < c.clPorts) :
    (c.wakePattern p).regs = ((c.set Reg.CL_IRQ_STATUS_WAKE).wakeNamed p).regs := by
  have ht : c.wakePattern p = if ((c.set Reg.CL_IRQ_STATUS_WAKE).wakeNamed p).watchedPort p then ((c.set Reg.CL_IRQ_STATUS_WAKE).wakeNamed p).wakeSource 2 p
      else (c.set Reg.CL_IRQ_STATUS_WAKE).wakeNamed p := if_pos hports
  rw [ht]
  split
  · exact (Chip.wakeSource_kept _ _ _).1
  · rfl

theorem Chip.wakePattern_spec {c : Chip} {p : Nat} (hports : p < c.clPorts) :
    let t := c.wakePattern p
    t.get Reg.CL_IRQ_STATUS_WAKE = 1 ∧ t.get Reg.CL_WAKE_PORT_VALID = 1 ∧
      t.get Reg.CL_WAKE_PORT_PORT = (if c.get Reg.CL_WAKE_PORT_VALID = 1 then c.get Reg.CL_WAKE_PORT_PORT else p) ∧
      RegsKept c t (fun a => a = Reg.CL_IRQ_STATUS ∨ a = Reg.CL_WAKE_PORT) := by
  let d := c.set Reg.CL_IRQ_STATUS_WAKE
  have hregs := Chip.wakePattern_regs hports
  obtain ⟨hvalid, hport, named⟩ := d.wakeNamed_spec (lt_of_lt_of_le hports c.clPorts_le)
  have before : ∀ {g : Reg.Fld}, g.addr = Reg.CL_WAKE_PORT → d.get g = c.get g := fun hg => Chip.get_put_addr _ _ _ _ (hg ▸ (by decide))
  have marked : d.get Reg.CL_IRQ_STATUS_WAKE = 1 := Chip.get_put_fits c Reg.CL_IRQ_STATUS_WAKE 1 rfl
  rw [before rfl, before rfl] at hport
  refine ⟨(Chip.get_congr _ _ hregs _).trans ((named.get _ (by decide)).trans marked), (Chip.get_congr _ _ hregs _).trans hvalid,
    (Chip.get_congr _ _ hregs _).trans hport, RegsKept.same ?_ _ hregs⟩
  exact ((OnlyRegs.set c Reg.CL_IRQ_STATUS_WAKE (· = Reg.CL_IRQ_STATUS) rfl).2.mono fun _ h => .inl h).trans (named.2.mono fun _ h => .inr h)

/-! ## Wiring faults (R71) -/

/-- What a wiring condition does to a live port. -/
theorem clWiringFault_leaves {s : State} {p : Port} {kind : Wiring} {t : Chip} (hports : p.toNat < s.chip.clPorts)
    (hlive : 1 ≤ s.chip.portState p.toNat ∧ s.chip.portState p.toNat ≤ 5) (hrun : s.chip.unitHeld 68 = false) (hpins : s.chip.pinsIdle = false)
    {f : Chip → Chip} (hex : exec (.clWiringFault p kind) s = act (whilePins <| whileRuns 68 (whenPort p.toNat [1, 2, 3, 4, 5] f)) s) (ht : f s.chip = t) :
    Leaves (.clWiringFault p kind) s t := by
  have hmem : s.chip.portState p.toNat ∈ [1, 2, 3, 4, 5] := by
    simp only [List.mem_cons, List.not_mem_nil, or_false]
    omega
  refine leaves_of_act hex ((whilePins_eq hpins).trans ?_)
  rw [whileRuns, if_neg (by simp [hrun])]
  exact whenPort_eq hports hmem ht

/-! ## Exchanges and pauses -/

/-- Settles O27: the commands one after the other. -/
theorem portExchangesAndPauses : Obligations.PortExchangesAndPauses := by
  intro s p c n x
  have h128 : n < 128 := p.isLt
  refine ⟨fun e hctrl hretries hrun => ?_, fun e hctrl hretries hrun => ?_, fun hports => ⟨fun hst => ?_, fun hst hreq hrun => ?_, fun hst => ⟨?_, fun hdur hrun => ?_,
    fun hdur => ?_⟩, fun hawake hpins => ?_, fun h1 h5 hrun hpins => ⟨fun hwin => ?_, fun hwin => ?_, fun hwin => ?_, ?_⟩⟩⟩
  · exact ⟨_, controlRetry_leaves hctrl hretries hrun, Chip.port_setPort_same _ _ _, rfl, fun _ => rfl⟩
  · exact ⟨_, controlExchangeFail_leaves hctrl hretries hrun, Chip.exchangeFailed_spec hctrl⟩
  · have ht : c.portPauseReq n = c.modPort n (fun q => { q with pauseReq := true }) := whenPort_eq hports (List.mem_singleton.mpr hst) rfl
    exact ⟨_, leaves_of_act rfl ht, Chip.port_setPort_same _ _ _, fun _ => rfl⟩
  · exact ⟨_, leaves_whenPort hrun hports (List.mem_singleton.mpr hst) rfl rfl, Chip.portPaused_spec h128 hreq⟩
  · exact ⟨c.portResume n, leaves_of_act (f := (·.portResume n)) rfl rfl, Chip.portResume_spec h128 hports hst⟩
  · exact ⟨_, leaves_whenPort hrun hports (List.mem_singleton.mpr hst) rfl (if_neg hdur), Chip.portResume_spec h128 hports hst⟩
  · by_cases hrun : c.unitHeld 68 = true
    · exact leaves_of_act rfl (by rw [whileRuns, if_pos hrun])
    · exact leaves_whenPort (Bool.eq_false_iff.mpr hrun) hports (List.mem_singleton.mpr hst) rfl (if_pos hdur)
  · have spec := Chip.wakePattern_spec (c := c) hports
    have hstill : (c.wakePattern n).inLookout = false := by
      obtain ⟨-, -, -, hregs⟩ := spec
      exact Chip.awake_of_get hawake (Chip.get_of_rd _ (hregs _ (by decide)))
    exact ⟨c.wakePattern n, leaves_of_act rfl ((whilePins_eq hpins).trans (Chip.wakeIfDue_awake hstill)), spec⟩
  · exact ⟨_, clWiringFault_leaves hports ⟨h1, h5⟩ hrun hpins rfl (if_neg hwin), (c.portFault_spec h128 (by decide)).portFaulted⟩
  · exact clWiringFault_leaves hports ⟨h1, h5⟩ hrun hpins rfl (if_pos hwin)
  · exact ⟨_, clWiringFault_leaves hports ⟨h1, h5⟩ hrun hpins rfl (if_neg hwin), (c.portFault_spec h128 (by decide)).portFaulted⟩
  · exact ⟨_, clWiringFault_leaves hports ⟨h1, h5⟩ hrun hpins rfl rfl, (c.portFault_spec h128 (by decide)).portFaulted⟩

end Sys2Proof.Machine
end

section
/-! SUPPORT. The cell-link engine: what serving a port leaves as it is, and the walk of one entry (O26, R54, R57, R58). -/

namespace Sys2Proof.Machine

/-! ## What a walk of port `p` can change (R54) -/

/-- The registers that the engine writes while it serves a port: its errors, and what reports write. -/
def WalkRegs (a : Nat) : Prop := (∃ p, p < 128 ∧ a = Reg.CL_PORT_RXERR p) ∨ ReportRegs a

/-- Between `c` and `d` port `p` may have walked: its walk has moved, events have entered its edge port's buffer. -/
structure Walked (p : Nat) (c d : Chip) : Prop where
  fifo : (d.port p).fifo = (c.port p).fifo
  ports : ∀ q, q ≠ p → d.port q = c.port q
  bufs : ∀ e, e ≠ edgeOfPort p → d.buf e 19 0 = c.buf e 19 0
  inj : ∀ e, e ≠ edgeOfPort p → smGet [] d.bridge.injCap e = smGet [] c.bridge.injCap e
  regs : RegsKept c d WalkRegs

namespace Walked

theorem refl (p : Nat) (c : Chip) : Walked p c c := ⟨rfl, fun _ _ => rfl, fun _ _ => rfl, fun _ _ => rfl, RegsKept.refl _ _⟩

theorem trans {p : Nat} {c d e : Chip} (h : Walked p c d) (h' : Walked p d e) : Walked p c e :=
  ⟨h'.fifo.trans h.fifo, fun q hq => (h'.ports q hq).trans (h.ports q hq), fun k hk => (h'.bufs k hk).trans (h.bufs k hk),
   fun k hk => (h'.inj k hk).trans (h.inj k hk), h.regs.trans h'.regs⟩

theorem setWalk (p : Nat) (c : Chip) (w : Option Walk) : Walked p c (c.modPort p (fun q => { q with walk := w })) :=
  ⟨(congrArg PortSt.fifo (Chip.port_setPort_same c p { c.port p with walk := w }) :), fun _ hq => Chip.port_setPort_other _ _ _ _ hq, fun _ _ => rfl, fun _ _ => rfl, RegsKept.refl _ _⟩

theorem overrun {p : Nat} (hp : p < 128) (c : Chip) : Walked p c (c.bump (Reg.CL_PORT_RXERR_OTHER p)) :=
  ⟨rfl, fun _ _ => rfl, fun _ _ => rfl, fun _ _ => rfl, (OnlyRegs.bump c (Reg.CL_PORT_RXERR_OTHER p) 1 _ (.inl ⟨p, hp, rfl⟩)).2⟩

theorem enter (p : Nat) (c : Chip) (f : Flit) : Walked p c (c.enter (edgeOfPort p) 19 0 f) :=
  ⟨rfl, fun _ _ => rfl, fun _ he => Chip.buf_setBuf_other _ _ (.inl he), fun _ _ => rfl, RegsKept.refl _ _⟩

theorem of_reports {p : Nat} {c d : Chip} (h : OnlyReports c d) : Walked p c d :=
  ⟨by rw [h.port], fun q _ => h.port q, fun _ _ => h.fabric.buf _ _ _, fun _ _ => congrArg (fun b : Bridge => smGet [] b.injCap _) h.fabric.2,
   h.regs.mono fun _ ha => .inr ha⟩

theorem drainCap (p : Nat) (c : Chip) (k : Nat) : Walked p c (c.drainCap (edgeOfPort p) k) := by
  induction k generalizing c with
  | zero => exact refl p c
  | succ k ih =>
    rw [Chip.drainCap]
    split
    · rename_i ev l _
      split
      · have taken : Walked p c { c with bridge := { c.bridge with injCap := smSet c.bridge.injCap (edgeOfPort p) l } } :=
          ⟨rfl, fun _ _ => rfl, fun _ _ => rfl, fun _ he => smGet_smSet_other _ _ _ _ _ he, RegsKept.refl _ _⟩
        exact (taken.trans (enter p _ _)).trans (ih _)
      · exact refl p c
    · exact refl p c

theorem ingest (p : Nat) (c : Chip) (who : Nat) (ev : DWord) : Walked p c (c.ingest (edgeOfPort p) who ev) :=
  (enter p c (.event ev none)).trans (of_reports (((OnlyReports.refl _).recEvent 0 (edgeOfPort p) who ev).tallyChip _ _))

theorem runWalk {p : Nat} (hp : p < 128) (c : Chip) (fuel : Nat) : Walked p c (c.runWalk p fuel) := by
  induction fuel generalizing c with
  | zero => exact refl p c
  | succ fuel ih =>
    rw [Chip.runWalk]
    split
    · exact refl p c
    · split
      · exact setWalk p c none
      · exact (setWalk p c _).trans (ih _)
      · exact ((overrun hp c).trans (setWalk p _ _)).trans (ih _)
      · have drained := drainCap p c 4
        dsimp only
        split
        · exact ((drained.trans (setWalk p _ _)).trans (ingest p _ _ _)).trans (ih _)
        · exact drained

theorem closeWalk (p : Nat) (c : Chip) : Walked p c (c.closeWalk p) := by
  unfold Chip.closeWalk
  split
  · split
    · exact setWalk p c none
    · exact refl p c
  · exact refl p c

end Walked

/-! ## Serving a port (R54) -/

/-- The walk of a frame, before its first entry. -/
def Chip.walkOf (c : Chip) (p : Nat) (f : CellFrame) (sof : Time) : Walk :=
  { frame := f, sof := sof, base := c.get (Reg.CL_PORT_CFG_MAP_BASE p), count := c.get (Reg.CL_PORT_CFG_MAP_COUNT p), entry := 0, recd := 0 }

/-- The port has taken a frame from its FIFO. -/
def Chip.frameTaken (c : Chip) (p : Nat) (f : CellFrame) (sof : Time) (rest : List (CellFrame × Time)) : Chip :=
  c.setPort p { c.port p with fifo := rest, walk := some (c.walkOf p f sof) }

theorem Chip.serve_takes {c : Chip} {p : Nat} {f : CellFrame} {sof : Time} {rest : List (CellFrame × Time)} (hwalk : (c.port p).walk = none)
    (hfifo : (c.port p).fifo = (f, sof) :: rest) (hon : c.on Reg.CL_CTRL_INGEST_EN = true) :
    c.serve p = ((c.frameTaken p f sof rest).runWalk p 64).closeWalk p := by
  unfold Chip.serve
  dsimp only
  rw [hwalk, hfifo]
  dsimp only
  rw [if_pos hon]
  rfl

/-- What serving another port leaves of port `n` and its edge port. -/
structure Unserved (n : Nat) (c d : Chip) : Prop where
  port : d.port n = c.port n
  buf : d.buf (edgeOfPort n) 19 0 = c.buf (edgeOfPort n) 19 0
  inj : smGet [] d.bridge.injCap (edgeOfPort n) = smGet [] c.bridge.injCap (edgeOfPort n)
  regs : RegsKept c d WalkRegs

theorem Unserved.refl (n : Nat) (c : Chip) : Unserved n c c := ⟨rfl, rfl, rfl, RegsKept.refl _ _⟩

theorem Unserved.trans {n : Nat} {c d e : Chip} (h : Unserved n c d) (h' : Unserved n d e) : Unserved n c e :=
  ⟨h'.port.trans h.port, h'.buf.trans h.buf, h'.inj.trans h.inj, h.regs.trans h'.regs⟩

theorem Unserved.of_walked {n p : Nat} {c d : Chip} (h : Walked p c d) (hne : n ≠ p) (hedge : edgeOfPort n ≠ edgeOfPort p) : Unserved n c d :=
  ⟨h.ports n hne, h.bufs _ hedge, h.inj _ hedge, h.regs⟩

theorem Unserved.serve {n p : Nat} (hp : p < 128) (hne : n ≠ p) (hedge : edgeOfPort n ≠ edgeOfPort p) (c : Chip) : Unserved n c (c.serve p) := by
  have served : ∀ d, Unserved n d ((d.runWalk p 64).closeWalk p) := fun d =>
    .of_walked ((Walked.runWalk hp d 64).trans (Walked.closeWalk p _)) hne hedge
  unfold Chip.serve
  dsimp only
  split
  · split
    · exact Unserved.trans ⟨Chip.port_setPort_other _ _ _ _ hne, rfl, rfl, RegsKept.refl _ _⟩ (served _)
    · exact served c
  · exact served c

/-- The ports of a slot stand at different edge ports. -/
theorem edgeOfPort_ne {n p : Nat} (hslot : n % 16 = p % 16) (hne : n ≠ p) : edgeOfPort n ≠ edgeOfPort p := by
  simp only [edgeOfPort]
  omega

/-! ## A slot (R54) -/

/-- One port of a slot. -/
def Chip.serveIf (c : Chip) (p : Nat) : Chip := if p < c.clPorts then c.serve p else c

theorem Unserved.foldl {n : Nat} (l : List Nat) (hl : ∀ p ∈ l, p < 128 ∧ n ≠ p ∧ n % 16 = p % 16) (c : Chip) : Unserved n c (l.foldl Chip.serveIf c) := by
  refine List.foldlRecOn l Chip.serveIf (Unserved.refl n c) fun d hd p hp => ?_
  obtain ⟨h128, hne, hslot⟩ := hl p hp
  refine hd.trans ?_
  unfold Chip.serveIf
  split
  · exact Unserved.serve h128 hne (edgeOfPort_ne hslot hne) d
  · exact Unserved.refl n d

theorem WalkRegs.not_low {a : Nat} (h : a < 0xF0000) : ¬ WalkRegs a := by
  simp only [WalkRegs, ReportRegs, Reg.CL_PORT_RXERR, not_or, not_exists]
  exact ⟨fun p => by omega, by omega⟩

/-- A port's own registers but RXERR, those of all ports, and the mapping table. -/
theorem WalkRegs.not_port {k p : Nat} (hk : 0x131000 ≤ k ∧ k < 0x131010) (hp : p < 128) : ¬ WalkRegs (k + p * 0x40) := by
  simp only [WalkRegs, ReportRegs, Reg.CL_PORT_RXERR, not_or, not_exists]
  exact ⟨fun q => by omega, by omega⟩

theorem WalkRegs.not_ctrl : ¬ WalkRegs Reg.CL_CTRL := by
  simp only [WalkRegs, ReportRegs, Reg.CL_PORT_RXERR, Reg.CL_CTRL, not_or, not_exists]
  exact ⟨fun q => by omega, by omega⟩

theorem WalkRegs.not_map {m w : Nat} (hm : m < 4096) (hw : w < 4) : ¬ WalkRegs (Reg.CL_MAP m w) := by
  simp only [WalkRegs, ReportRegs, Reg.CL_PORT_RXERR, Reg.CL_MAP, not_or, not_exists]
  exact ⟨fun q => by omega, by omega⟩

/-- A slot serves its port `n` among ports that leave `n` alone. -/
theorem engineSlot_serves {s : State} {slot : BitVec 4} {n : Nat} (hn : n < s.chip.clPorts) (hslot : n % 16 = slot.toNat) (hrun : s.chip.unitHeld 68 = false) :
    ∃ d t, Unserved n s.chip d ∧ Unserved n (d.serve n) t ∧ Leaves (.engineSlot slot) s t := by
  have h128 : n < 128 := lt_of_lt_of_le hn s.chip.clPorts_le
  have hslots : slot.toNat < 16 := slot.isLt
  let ports := (List.range 8).map (fun i => slot.toNat + 16 * i)
  have hmem : n ∈ ports := List.mem_map.mpr ⟨n / 16, List.mem_range.mpr (by omega), by omega⟩
  have hnodup : ports.Nodup := List.Nodup.map (fun a b h => by simpa using h) List.nodup_range
  have hports : ∀ p ∈ ports, p < 128 ∧ n % 16 = p % 16 := fun p hp => by
    obtain ⟨i, hi, rfl⟩ := List.mem_map.mp hp
    have hi := List.mem_range.mp hi
    omega
  obtain ⟨l, l', hl⟩ := List.append_of_mem hmem
  rw [hl] at hnodup hports
  have others : ∀ p ∈ l ++ l', p < 128 ∧ n ≠ p ∧ n % 16 = p % 16 := fun p hp => by
    have hne : n ∉ l ++ l' := (List.nodup_middle.mp hnodup).notMem
    have hin : p ∈ l ++ n :: l' := by
      rcases List.mem_append.mp hp with h | h
      · exact List.mem_append_left _ h
      · exact List.mem_append_right _ (List.mem_cons_of_mem _ h)
    exact ⟨(hports p hin).1, fun h => hne (h ▸ hp), (hports p hin).2⟩
  have before := Unserved.foldl l (fun p hp => others p (List.mem_append_left _ hp)) s.chip
  have hclPorts : (l.foldl Chip.serveIf s.chip).clPorts = s.chip.clPorts := by
    rw [Chip.clPorts, Chip.clPorts, Chip.variant, Chip.variant, Chip.get_of_rd Reg.FUSE_VARIANT_CODE (before.regs _ (WalkRegs.not_low (by decide)))]
  refine ⟨_, _, before, Unserved.foldl l' (fun p hp => others p (List.mem_append_right _ hp)) _, leaves_whileRuns (f := fun c => ports.foldl Chip.serveIf c) hrun rfl ?_⟩
  rw [hl, List.foldl_append, List.foldl_cons]
  exact congrArg (l'.foldl Chip.serveIf) (if_pos (hclPorts.symm ▸ hn))

/-! ## A walk of one entry (R58) -/

theorem Chip.runWalk_event {c : Chip} {p fuel : Nat} {w w' : Walk} {e : DWord} (hwalk : (c.port p).walk = some w) (hstep : c.walkStep p w = .event w' e)
    (hinj : smGet [] c.bridge.injCap (edgeOfPort p) = []) (hroom : c.room (edgeOfPort p) 19 0 = true) :
    c.runWalk p (fuel + 1) = ((c.modPort p (fun q => { q with walk := some w' })).ingest (edgeOfPort p) p e).runWalk p fuel := by
  have hfree : c.edgeFree (edgeOfPort p) = true := by
    rw [Chip.edgeFree, hinj, hroom]
    rfl
  rw [Chip.runWalk, hwalk]
  dsimp only
  rw [hstep]
  dsimp only
  rw [Chip.drainCap_nil hinj, if_pos hfree]

theorem Chip.runWalk_done {c : Chip} {p fuel : Nat} {w : Walk} (hwalk : (c.port p).walk = some w) (hdone : w.count ≤ w.entry) :
    c.runWalk p (fuel + 1) = c.modPort p (fun q => { q with walk := none }) := by
  have hstep : c.walkStep p w = .done := if_pos hdone
  rw [Chip.runWalk, hwalk]
  dsimp only
  rw [hstep]

theorem Chip.closeWalk_none {c : Chip} {p : Nat} (h : (c.port p).walk = none) : c.closeWalk p = c := by
  rw [Chip.closeWalk, h]

/-- A valid entry for telemetry whose field lies in the payload makes an event. -/
theorem Chip.walkStep_telemetry {c : Chip} {p : Nat} {w : Walk} (hmore : w.entry < w.count) (hentry : w.base + w.entry < 4096)
    (hvalid : wbits (c.mapWord (w.base + w.entry) 2) 15 15 = 1) (hfor : wbits (c.mapWord (w.base + w.entry) 2) 19 16 = 1) (htype : frameType w.frame = 1)
    (hfield : wbits (c.mapWord (w.base + w.entry) 2) 7 0 + (wbits (c.mapWord (w.base + w.entry) 2) 11 8 + 1) ≤ 160) :
    c.walkStep p w = .event { w with entry := w.entry + 1, recd := 0 } (c.mapEvent p (w.base + w.entry) w
      ((framePayload w.frame).toNat / 2 ^ wbits (c.mapWord (w.base + w.entry) 2) 7 0 % 2 ^ (wbits (c.mapWord (w.base + w.entry) 2) 11 8 + 1))
      (wbits (c.mapWord (w.base + w.entry) 2) 11 8 + 1)) := by
  rw [Chip.walkStep, if_neg (by omega)]
  dsimp only
  rw [if_neg (by rw [hvalid, hfor, htype]; omega), if_neg (by rw [htype]; decide), if_neg (by omega)]

theorem Chip.ingest_port (c : Chip) (e who : Nat) (ev : DWord) (q : Nat) : (c.ingest e who ev).port q = c.port q :=
  (((OnlyReports.refl (c.enter e 19 0 (.event ev none))).recEvent 0 e who ev).tallyChip 0x83 1).port q

/-- An event that an edge port takes stands last in its router's buffer. -/
theorem Chip.ingest_enters (c : Chip) (e who : Nat) (ev : DWord) : (c.ingest e who ev).buf e 19 0 = c.buf e 19 0 ++ [.event ev none] := by
  have recorded := ((OnlyReports.refl (c.enter e 19 0 (.event ev none))).recEvent 0 e who ev).tallyChip 0x83 1
  exact (recorded.fabric.buf _ _ _).trans (Chip.buf_setBuf_same _ _ _ _ _)

end Sys2Proof.Machine
end

section
/-! SUPPORT. A telemetry frame's event, and the SYNC frames of all ports (O26, R51, R57, R58). -/

namespace Sys2Proof.Machine

/-! ## Mapped telemetry (R57, R58) -/

/-- The field that the mapping entry `m` names, and its width in bits. -/
def Chip.mapWidth (c : Chip) (m : Nat) : Nat := wbits (c.mapWord m 2) 11 8 + 1
def Chip.mapField (c : Chip) (m : Nat) (f : CellFrame) : Nat := (framePayload f).toNat / 2 ^ wbits (c.mapWord m 2) 7 0 % 2 ^ c.mapWidth m

section
variable {c : Chip} {p : Nat} {f : CellFrame} {sof : Time} {rest : List (CellFrame × Time)} (hwalk : (c.port p).walk = none)
  (hfifo : (c.port p).fifo = (f, sof) :: rest) (hon : c.on Reg.CL_CTRL_INGEST_EN = true)
include hwalk hfifo hon

theorem Chip.serve_fifo (hp : p < 128) : ((c.serve p).port p).fifo = rest := by
  rw [Chip.serve_takes hwalk hfifo hon]
  have walked := (Walked.runWalk hp (c.frameTaken p f sof rest) 64).trans (Walked.closeWalk p _)
  have taken : (c.frameTaken p f sof rest).port p = { c.port p with fifo := rest, walk := some (c.walkOf p f sof) } := Chip.port_setPort_same _ _ _
  exact walked.fifo.trans (congrArg PortSt.fifo taken)

/-- One valid entry for telemetry: its event enters the edge port's buffer and the walk ends. -/
theorem Chip.serve_telemetry {m : Nat} (hm : c.get (Reg.CL_PORT_CFG_MAP_BASE p) = m) (hcount : c.get (Reg.CL_PORT_CFG_MAP_COUNT p) = 1)
    (hvalid : wbits (c.mapWord m 2) 15 15 = 1) (hfor : wbits (c.mapWord m 2) 19 16 = 1) (htype : frameType f = 1)
    (hfield : wbits (c.mapWord m 2) 7 0 + c.mapWidth m ≤ 160) (hinj : smGet [] c.bridge.injCap (edgeOfPort p) = [])
    (hroom : c.room (edgeOfPort p) 19 0 = true) :
    ((c.serve p).port p).walk = none ∧ (c.serve p).buf (edgeOfPort p) 19 0 = c.buf (edgeOfPort p) 19 0 ++
      [.event (c.mapEvent p m (c.walkOf p f sof) (c.mapField m f) (c.mapWidth m)) none] := by
  subst hm
  let w := c.walkOf p f sof
  let w' : Walk := { w with entry := 1, recd := 0 }
  let m := c.get (Reg.CL_PORT_CFG_MAP_BASE p)
  let ev := c.mapEvent p m w (c.mapField m f) (c.mapWidth m)
  let taken := c.frameTaken p f sof rest
  let moved := taken.modPort p (fun q => { q with walk := some w' })
  let sent := moved.ingest (edgeOfPort p) p ev
  have htaken : (taken.port p).walk = some w := congrArg PortSt.walk (Chip.port_setPort_same c p { c.port p with fifo := rest, walk := some w })
  have hmoved : (moved.port p).walk = some w' := congrArg PortSt.walk (Chip.port_setPort_same taken p { taken.port p with walk := some w' })
  have hsent : (sent.port p).walk = some w' := (congrArg PortSt.walk (moved.ingest_port (edgeOfPort p) p ev p)).trans hmoved
  have hstep : taken.walkStep p w = .event w' ev := by
    have hmore : w.entry < w.count := by
      change 0 < c.get (Reg.CL_PORT_CFG_MAP_COUNT p)
      omega
    exact Chip.walkStep_telemetry (c := taken) (w := w) hmore (Chip.get_lt c (Reg.CL_PORT_CFG_MAP_BASE p)) hvalid hfor htype hfield
  have hrun : taken.runWalk p 64 = sent.modPort p (fun q => { q with walk := none }) :=
    (Chip.runWalk_event (fuel := 63) htaken hstep hinj hroom).trans (Chip.runWalk_done (fuel := 62) hsent (le_of_eq hcount))
  have hended : ((sent.modPort p (fun q => { q with walk := none })).port p).walk = none :=
    congrArg PortSt.walk (Chip.port_setPort_same sent p { sent.port p with walk := none })
  rw [Chip.serve_takes hwalk hfifo hon, hrun, Chip.closeWalk_none hended]
  exact ⟨hended, moved.ingest_enters (edgeOfPort p) p ev⟩

end

theorem mappedTelemetryHold : MappedTelemetryHold := by
  intro s slot n f sof rest c x m w1 w2 width field v tag hn hrun hslot hwalk hfifo hon
  have h128 : n < 128 := lt_of_lt_of_le hn c.clPorts_le
  obtain ⟨d, t, before, after, hleaves⟩ := engineSlot_serves hn hslot hrun
  have hwalk' : (d.port n).walk = none := before.port ▸ hwalk
  have hfifo' : (d.port n).fifo = (f, sof) :: rest := before.port ▸ hfifo
  have hon' : d.on Reg.CL_CTRL_INGEST_EN = true :=
    Chip.on_iff.mpr ((Chip.get_of_rd Reg.CL_CTRL_INGEST_EN (before.regs _ WalkRegs.not_ctrl)).trans hon)
  have cfg : ∀ g : Reg.Fld, g.addr = Reg.CL_PORT_CFG n → d.get g = c.get g := fun g hg =>
    Chip.get_of_rd g (hg ▸ before.regs _ (WalkRegs.not_port (by decide) h128))
  have hbase : d.get (Reg.CL_PORT_CFG_MAP_BASE n) = m := cfg _ rfl
  have hm : m < 4096 := Chip.get_lt c (Reg.CL_PORT_CFG_MAP_BASE n)
  have hmap : ∀ w, w < 4 → d.mapWord m w = c.mapWord m w := fun w hw => before.regs _ (WalkRegs.not_map hm hw)
  refine ⟨⟨t, hleaves, ?_⟩, fun hcount hvalid hfor htype hfield hinj hroom => ⟨t, hleaves, ?_⟩⟩
  · rw [after.port]
    exact Chip.serve_fifo hwalk' hfifo' hon' h128
  · have spec := Chip.serve_telemetry hwalk' hfifo' hon' hbase ((cfg _ rfl).trans hcount)
    have hwidth : d.mapWidth m = width := congrArg (fun w => wbits w 11 8 + 1) (hmap 2 (by decide))
    have hfieldOf : d.mapField m f = field := by
      rw [Chip.mapField, hwidth, hmap 2 (by decide)]
    have hroom' : d.room (edgeOfPort n) 19 0 = true := by
      rw [Chip.room, before.buf]
      exact hroom
    rw [hwidth, hfieldOf, hmap 2 (by decide)] at spec
    obtain ⟨hended, hbuf⟩ := spec hvalid hfor htype hfield (before.inj.trans hinj) hroom'
    have hevent : d.mapEvent n m (d.walkOf n f sof) field width =
        mkEvent (c.mapWord m 0) (rescale v (wbits w1 31 16) (wbits (c.mapWord m 3) 4 0)) (c.get (Reg.CL_PORT_CFG_LANE n)) tag := by
      unfold Chip.mapEvent
      rw [hmap 0 (by decide), hmap 1 (by decide), hmap 2 (by decide), hmap 3 (by decide), cfg (Reg.CL_PORT_CFG_LANE n) rfl]
      rfl
    rw [hevent, before.buf] at hbuf
    exact ⟨(congrArg PortSt.walk after.port).trans hended, after.buf.trans hbuf⟩

/-! ## SYNC frames (R51) -/

/-- The SYNC frame of a port, under the count `k`. -/
def Chip.syncPayload (c : Chip) (k : Word) (p : Nat) : BitVec 160 := BitVec.ofNat 160 (c.get (Reg.CL_PORT_DELAY_DELAY p) + k.toNat * 2 ^ 16 + p * 2 ^ 48)
def Chip.syncOut (c : Chip) (k : Word) (p : Nat) : Out := .cellFrame p (mkFrame 6 false (c.port p).txSeq c.time (c.syncPayload k p))
def Chip.syncsOn (c : Chip) (p : Nat) : Bool := c.portState p == 4 || c.portState p == 5

/-- One port's turn. -/
def Chip.syncPort (k : Word) (c : Chip) (p : Nat) : Chip := whenPort p [4, 5] (fun c => c.sendFrame p 6 (c.syncPayload k p)) c

theorem Chip.syncPort_eq (k : Word) {c : Chip} {p : Nat} (hp : p < c.clPorts) :
    c.syncPort k p = if c.syncsOn p then c.sendFrame p 6 (c.syncPayload k p) else c := by
  have hiff : (p < c.clPorts ∧ c.portState p ∈ [4, 5]) ↔ c.syncsOn p = true := by simp [hp, Chip.syncsOn]
  rw [Chip.syncPort, whenPort]
  exact if_congr hiff rfl rfl

/-- What the turns of the ports in `l` leave. -/
structure Synced (k : Word) (l : List Nat) (c t : Chip) : Prop where
  out : t.out = c.out ++ (l.filter c.syncsOn).map (c.syncOut k)
  sent : ∀ p ∈ l, c.syncsOn p = true → (t.port p).txSeq = (c.port p).txSeq + 1
  others : ∀ q, q ∉ l → t.port q = c.port q
  rest : { t with ports := c.ports, out := c.out } = c

theorem Synced.foldl (k : Word) (l : List Nat) (hl : l.Nodup) (c : Chip) (hports : ∀ p ∈ l, p < c.clPorts) : Synced k l c (l.foldl (Chip.syncPort k) c) := by
  induction l generalizing c with
  | nil => exact ⟨(List.append_nil _).symm, fun _ h => absurd h List.not_mem_nil, fun _ _ => rfl, rfl⟩
  | cons p l ih =>
    obtain ⟨hp, hl⟩ := List.nodup_cons.mp hl
    rw [List.foldl_cons, Chip.syncPort_eq k (hports p List.mem_cons_self)]
    by_cases hon : c.syncsOn p = true
    · rw [if_pos hon]
      let d := c.sendFrame p 6 (c.syncPayload k p)
      have tail := ih hl d (fun q hq => hports q (List.mem_cons_of_mem p hq))
      have ne : ∀ q ∈ l, q ≠ p := fun q hq h => hp (h ▸ hq)
      have other : ∀ q, q ≠ p → d.port q = c.port q := fun q hq => c.sendFrame_other p 6 _ hq
      refine ⟨?_, fun q hq hq' => ?_, fun q hq => ?_, ?_⟩
      · have hout : ∀ q ∈ l.filter c.syncsOn, d.syncOut k q = c.syncOut k q := fun q hq => by
          rw [Chip.syncOut, other q (ne q (List.mem_of_mem_filter hq))]
          rfl
        rw [tail.out, List.filter_cons_of_pos hon, List.map_cons]
        change c.out ++ [c.syncOut k p] ++ (l.filter c.syncsOn).map (d.syncOut k) = _
        rw [List.map_congr_left hout, List.append_assoc, List.singleton_append]
      · rcases List.mem_cons.mp hq with rfl | hq
        · rw [tail.others q hp]
          exact congrArg PortSt.txSeq (c.sendFrame_port q 6 _)
        · rw [tail.sent q hq hq', other q (ne q hq)]
      · obtain ⟨hqp, hql⟩ := not_or.mp (List.mem_cons.not.mp hq)
        exact (tail.others q hql).trans (other q hqp)
      · exact congrArg (fun x : Chip => { x with ports := c.ports, out := c.out }) tail.rest
    · rw [if_neg hon]
      have tail := ih hl c (fun q hq => hports q (List.mem_cons_of_mem p hq))
      refine ⟨?_, fun q hq hq' => ?_, fun q hq => tail.others q (fun h => hq (List.mem_cons_of_mem p h)), tail.rest⟩
      · rw [tail.out, List.filter_cons_of_neg hon]
      · rcases List.mem_cons.mp hq with rfl | hq
        · exact absurd hq' hon
        · exact tail.sent q hq hq'

theorem syncFramesHold : SyncFramesHold := by
  intro s c ports hrun
  have synced := Synced.foldl c.syncCount (List.range c.clPorts) List.nodup_range c (fun _ hp => List.mem_range.mp hp)
  let d := (List.range c.clPorts).foldl (Chip.syncPort c.syncCount) c
  refine ⟨{ d with syncCount := c.syncCount + 1 }, leaves_whileRuns hrun rfl rfl, rfl, synced.out, fun p hp => ?_, fun a => ?_, ?_, ?_⟩
  · obtain ⟨hmem, hon⟩ := List.mem_filter.mp hp
    exact synced.sent p hmem hon
  · exact Chip.rd_congr c _ (congrArg Chip.regs synced.rest :) a
  · exact (congrArg Chip.mem synced.rest :)
  · exact (congrArg Chip.cores synced.rest :)

/-- Settles O26: a port's share of its slot, then the SYNC frames. -/
theorem telemetryAndSync : Obligations.TelemetryAndSync := ⟨mappedTelemetryHold, syncFramesHold⟩

end Sys2Proof.Machine
end

section
/-! SUPPORT. Services that last: how each is taken up (O42, R60, R208, R233, R250, R252, R316, R317, R362, R375, R422). -/

namespace Sys2Proof.Machine

/-! ## Taking up a command (R15, R317) -/

/-- A command that passes its checks leaves what its take-up makes of the chip. -/
theorem leaves_accepted {s : State} {n code : Nat} {h : CmdHead} {a : List Byte} {ins : Instr} {t : Chip} (haccepts : Accepts s.chip n h code a)
    (hcode : code ≠ 1) (hex : exec ins s = act (·.respondTo (.mailbox n) h code a) s) (ht : s.chip.acceptCommand (.mailbox n) h code a = t) :
    Leaves ins s t := by
  have ⟨hears, hfw, _⟩ := haccepts
  exact leaves_of_act hex (((Chip.respondTo_ready hears hfw hcode).trans (Chip.take_accepted haccepts)).trans ht)

theorem Chip.mbxState_congr {c d : Chip} (h : d.rd Reg.MBX_STATE = c.rd Reg.MBX_STATE) (n : Nat) : d.mbxState n = c.mbxState n := by
  rw [Chip.mbxState, h]
  rfl

/-- A long operation stands last in the turn, on a chip whose turn and mailboxes are those of `c`. -/
theorem takenUp_opStart {c d : Chip} {n : Nat} (h : CmdHead) (code : Nat) (a : List Byte) (total freeze : Nat) (hops : d.fw.ops = c.fw.ops)
    (hmbx : d.rd Reg.MBX_STATE = c.rd Reg.MBX_STATE) : TakenUp c (d.opStart (.mailbox n) h code a total freeze) n code total a := by
  exact ⟨⟨_, congrArg (· ++ [_]) hops, rfl, rfl, rfl, rfl, rfl, rfl⟩, (d.mbxState_congr rfl n).trans (Chip.mbxState_congr hmbx n)⟩

section
variable {s : State} {n code : Nat} {h : CmdHead} {a : List Byte} {ins : Instr}

/-- A service whose take-up only enters the turn. -/
theorem takenUp_plain {total : Nat} (haccepts : Accepts s.chip n h code a) (hcode : code ≠ 1)
    (hex : exec ins s = act (·.respondTo (.mailbox n) h code a) s)
    (ht : s.chip.acceptCommand (.mailbox n) h code a = s.chip.opStart (.mailbox n) h code a total 0) :
    ∃ t, Leaves ins s t ∧ TakenUp s.chip t n code total a ∧ t.mem = s.chip.mem ∧ t.regs = s.chip.regs :=
  ⟨_, leaves_accepted haccepts hcode hex ht, takenUp_opStart h code a total 0 rfl rfl, rfl, rfl⟩

end

/-! ## Jobs (R316) -/

/-- No pause is over where there is none. -/
theorem Chip.pauseOver_nil {c : Chip} (h : c.fw.pauses = []) (kind id : Nat) : c.pauseOver kind id = c := by
  have hpauses : ({ c with fw := { c.fw with pauses := [] } } : Chip) = c := by rw [← h]
  rw [Chip.pauseOver, h]
  exact hpauses

/-! ## Weights (R157, R208, R316) -/

theorem popCfg_ne {p q s : Nat} (h : q ≠ p) : Reg.NE_POP_CFG s q ≠ Reg.NE_POP_CFG s p := by
  simp only [Reg.NE_POP_CFG]
  omega

theorem popCfg_ne_mbx (s p : Nat) : Reg.MBX_STATE ≠ Reg.NE_POP_CFG s p := by
  simp only [Reg.NE_POP_CFG, Reg.MBX_STATE, Reg.coreBase]
  omega

/-- The valid populations of a core made invalid. -/
def Chip.popsCleared (c : Chip) (s : Nat) (l : List Nat) : Chip := l.foldl (fun c p => c.clr (Reg.NE_POP_CFG_VALID s p)) c

theorem OnlyRegs.popsCleared (c : Chip) (s : Nat) (l : List Nat) : OnlyRegs c (c.popsCleared s l) (fun a => ∃ p, a = Reg.NE_POP_CFG s p) :=
  List.foldlRecOn l _ (motive := fun d => OnlyRegs c d (fun a => ∃ p, a = Reg.NE_POP_CFG s p)) (OnlyRegs.refl _ _)
    fun _ hd p _ => hd.trans (OnlyRegs.clr _ (Reg.NE_POP_CFG_VALID s p) _ ⟨p, rfl⟩)

theorem Chip.popsCleared_valid (c : Chip) {s q : Nat} (l : List Nat) (h : q ∈ l ∨ c.get (Reg.NE_POP_CFG_VALID s q) = 0) :
    (c.popsCleared s l).get (Reg.NE_POP_CFG_VALID s q) = 0 := by
  induction l generalizing c with
  | nil => exact h.resolve_left List.not_mem_nil
  | cons p l ih =>
    refine ih (c.clr (Reg.NE_POP_CFG_VALID s p)) ?_
    by_cases hq : q = p
    · exact .inr (hq ▸ Chip.get_put_fits c (Reg.NE_POP_CFG_VALID s p) 0 rfl)
    · have still : (c.clr (Reg.NE_POP_CFG_VALID s p)).get (Reg.NE_POP_CFG_VALID s q) = c.get (Reg.NE_POP_CFG_VALID s q) :=
        Chip.get_put_addr _ _ _ _ (popCfg_ne hq)
      exact h.imp (fun hin => (List.mem_cons.mp hin).resolve_left hq) (fun hzero => still.trans hzero)

theorem Chip.invalidate_eq (c : Chip) (j i : Nat) :
    c.invalidate j i = (c.popsCleared (c.pcore i) (c.validPops (c.pcore i))).setJob j
      { (c.popsCleared (c.pcore i) (c.validPops (c.pcore i))).job j with valid := (c.validPops (c.pcore i)).map (fun p => i * 16 + p) } := rfl

theorem Chip.invalidate_spec (c : Chip) (j i : Nat) :
    (∀ q, q < 16 → (c.invalidate j i).get (Reg.NE_POP_CFG_VALID (c.pcore i) q) = 0) ∧ (c.invalidate j i).mem = c.mem ∧
      (c.invalidate j i).fw.ops = c.fw.ops ∧ (c.invalidate j i).rd Reg.MBX_STATE = c.rd Reg.MBX_STATE := by
  have cleared := OnlyRegs.popsCleared c (c.pcore i) (c.validPops (c.pcore i))
  rw [Chip.invalidate_eq]
  refine ⟨fun q hq => ?_, cleared.mem, (congrArg Fw.ops cleared.fw :), cleared.2 _ (not_exists.mpr (popCfg_ne_mbx _))⟩
  refine c.popsCleared_valid _ ?_
  by_cases hvalid : c.get (Reg.NE_POP_CFG_VALID (c.pcore i) q) = 1
  · exact .inl (List.mem_filter.mpr ⟨List.mem_range.mpr hq, Chip.on_iff.mpr hvalid⟩)
  · exact .inr (Chip.get_eq_zero rfl hvalid)

theorem lrnCfg_ne_mbx (s : Nat) : Reg.MBX_STATE ≠ Reg.LRN_CFG s := by
  simp only [Reg.LRN_CFG, Reg.MBX_STATE, Reg.coreBase]
  omega

/-! ## Clusters under test (R362) -/

/-- The registers that a cluster under test has changed. -/
def UnjoinRegs (a : Nat) : Prop := (∃ k, a = Reg.RT_CFG k) ∨ a = Reg.BOOT_JOIN_LO ∨ a = Reg.BOOT_JOIN_HI

theorem OnlyRegs.unjoin (c : Chip) (k : Nat) : OnlyRegs c (c.unjoin k) UnjoinRegs :=
  (OnlyRegs.clr c (Reg.RT_CFG_EN k) UnjoinRegs (.inl ⟨k, rfl⟩)).trans
    (OnlyRegs.ite (OnlyRegs.wr _ _ _ _ (.inr (.inl rfl))) (OnlyRegs.wr _ _ _ _ (.inr (.inr rfl))))

theorem Chip.unjoin_en (c : Chip) {k j : Nat} (h : j = k ∨ c.get (Reg.RT_CFG_EN j) = 0) : (c.unjoin k).get (Reg.RT_CFG_EN j) = 0 := by
  have joins : ∀ {b : Nat}, b < 0x1000000 → Reg.RT_CFG j ≠ b := fun hb => by
    simp only [Reg.RT_CFG]
    omega
  have cleared : (c.clr (Reg.RT_CFG_EN k)).get (Reg.RT_CFG_EN j) = 0 := by
    by_cases hj : j = k
    · subst hj
      exact Chip.get_put_fits c (Reg.RT_CFG_EN j) 0 rfl
    · have hne : Reg.RT_CFG j ≠ Reg.RT_CFG k := by
        simp only [Reg.RT_CFG]
        omega
      exact (Chip.get_put_addr _ _ _ _ hne).trans (h.resolve_left hj)
  unfold Chip.unjoin
  dsimp only
  split
  · exact (Chip.get_wr_other _ _ _ _ (joins (by decide))).trans cleared
  · exact (Chip.get_wr_other _ _ _ _ (joins (by decide))).trans cleared

theorem OnlyRegs.unjoined (c : Chip) (l : List Nat) : OnlyRegs c (l.foldl Chip.unjoin c) UnjoinRegs :=
  List.foldlRecOn l _ (motive := fun d => OnlyRegs c d UnjoinRegs) (OnlyRegs.refl _ _) fun _ hd k _ => hd.trans (OnlyRegs.unjoin _ k)

theorem Chip.unjoined_en (c : Chip) {j : Nat} (l : List Nat) (h : j ∈ l ∨ c.get (Reg.RT_CFG_EN j) = 0) : (l.foldl Chip.unjoin c).get (Reg.RT_CFG_EN j) = 0 := by
  induction l generalizing c with
  | nil => exact h.resolve_left List.not_mem_nil
  | cons k l ih =>
    refine ih (c.unjoin k) ?_
    by_cases hin : j ∈ l
    · exact .inl hin
    · exact .inr (c.unjoin_en (h.imp (fun hmem => (List.mem_cons.mp hmem).resolve_right hin) id))

theorem not_unjoinRegs_mbx : ¬ UnjoinRegs Reg.MBX_STATE := by
  simp only [UnjoinRegs, Reg.RT_CFG, Reg.MBX_STATE, Reg.BOOT_JOIN_LO, Reg.BOOT_JOIN_HI, not_or, not_exists]
  exact ⟨fun k => by omega, by decide, by decide⟩

/-! ## CL_CONTROL (R60) -/

theorem Chip.startControl_spec (c : Chip) (p : Nat) (payload : BitVec 160) (o : Origin) :
    let t := c.startControl p payload o
    (∃ e, (t.port p).ctrl = some e ∧ e.origin = o ∧ e.payload = payload ∧ e.retries = 0) ∧
      SentFrame c t p (mkFrame 4 false (c.port p).txSeq c.time payload) ∧ t.regs = c.regs ∧ t.mem = c.mem := by
  let e : Exchange := { seq := (c.port p).txSeq, payload := payload, retries := 0, origin := o }
  let d := c.setPort p { c.port p with ctrl := some e }
  have hd : d.port p = { c.port p with ctrl := some e } := Chip.port_setPort_same _ _ _
  have hseq : (d.port p).txSeq = (c.port p).txSeq := (congrArg PortSt.txSeq hd :)
  have hctrl : ((d.sendFrame p 4 payload).port p).ctrl = some e := (congrArg PortSt.ctrl (d.sendFrame_port p 4 payload)).trans (congrArg PortSt.ctrl hd :)
  have hsent : SentFrame d (d.sendFrame p 4 payload) p (mkFrame 4 false (c.port p).txSeq c.time payload) := hseq ▸ d.sendFrame_sent p 4 payload
  exact ⟨⟨e, hctrl, rfl, rfl, rfl⟩, SentFrame.of_out hsent rfl, rfl, rfl⟩

end Sys2Proof.Machine
end

section
/-! SUPPORT. How a Dune run begins and is asked to end (O42, R233, R250, R252). -/

namespace Sys2Proof.Machine

/-! ## What forming a run leaves of its descriptor (R240) -/

/-- Two records of one run: it is active or not, has this descriptor and this command, and as many sweeps are done. -/
structure Dune.SameRun (d e : Dune) : Prop where
  active : e.active = d.active
  desc : e.desc = d.desc
  origin : e.origin = d.origin
  done : e.done = d.done

theorem Dune.SameRun.refl (d : Dune) : d.SameRun d := ⟨rfl, rfl, rfl, rfl⟩

theorem Dune.SameRun.trans {d e f : Dune} (h : d.SameRun e) (h' : e.SameRun f) : d.SameRun f :=
  ⟨h'.active.trans h.active, h'.desc.trans h.desc, h'.origin.trans h.origin, h'.done.trans h.done⟩

theorem Dune.SameRun.mode {d e : Dune} (h : d.SameRun e) : e.mode = d.mode := by
  rw [Dune.mode, Dune.field, h.desc]
  rfl

theorem Dune.SameRun.sweeps {d e : Dune} (h : d.SameRun e) : e.sweeps = d.sweeps := by
  rw [Dune.sweeps, Dune.field, h.desc]
  rfl

theorem Dune.SameRun.withSpins (d : Dune) (l : List (BitVec 32)) : d.SameRun { d with spins := l } := ⟨rfl, rfl, rfl, rfl⟩

theorem Dune.SameRun.formFields (c : Chip) (d : Dune) : d.SameRun (c.formFields d) := ⟨rfl, rfl, rfl, rfl⟩

theorem Dune.SameRun.randomSpin (d : Dune) (v : Nat) : d.SameRun (d.randomSpin v).1 :=
  List.foldlRecOn (List.range d.chains) _ (motive := fun p : Dune × BitVec 32 => d.SameRun p.1) (.refl d)
    fun _ hp _ _ => ⟨hp.active, hp.desc, hp.origin, hp.done⟩

/-- The scale and the codes of a run whose largest coefficient is `m`. -/
def Chip.duneScaled (c : Chip) (m : Dy) : Dune :=
  let d := { c.dune with sc := Dy.div (c.dune.top, 0) m }
  let d := { d with hcodes := (List.range (c.ownCount d)).map (fun k => d.quantise (c.hVal d (c.ownFirst d + k))), codes := c.formCodes d }
  { d with rng := (List.range (pad32 (max (c.ownCount d) 1) / 32)).map (duneSeed d.seed) }

/-- The first spins of the chip's own variables, and the run with its draws taken. -/
def Chip.duneSpins (c : Chip) (d : Dune) : Dune × List (BitVec 32) :=
  (List.range (c.ownCount d)).foldl (fun (p : Dune × List (BitVec 32)) k =>
    if d.init = 0 then
      let q := p.1.randomSpin (k / 32)
      (q.1, p.2 ++ [q.2])
    else
      let i := c.ownFirst d + k
      let up := d.init == 1 || bit (c.rdMem (d.initAddr + i / 8) 1) (i % 8)
      (p.1, p.2 ++ [if up then 0xFFFFFFFF#32 else 0#32])) (d, [])

/-- The run as its regions are formed. -/
def Chip.duneFormed (c : Chip) (m : Dy) : Dune := { (c.duneSpins (c.duneScaled m)).1 with spins := (c.duneSpins (c.duneScaled m)).2 }

theorem Dune.SameRun.duneSpins (c : Chip) (d : Dune) : d.SameRun (c.duneSpins d).1 := by
  refine List.foldlRecOn (List.range (c.ownCount d)) _ (motive := fun p : Dune × List (BitVec 32) => d.SameRun p.1) (.refl d) fun p hp k _ => ?_
  dsimp only
  split
  · exact hp.trans (.randomSpin p.1 (k / 32))
  · exact hp

theorem Dune.SameRun.duneFormed (c : Chip) (m : Dy) : c.dune.SameRun (c.duneFormed m) := by
  have scaled : c.dune.SameRun (c.duneScaled m) := ⟨rfl, rfl, rfl, rfl⟩
  exact (scaled.trans (.duneSpins c _)).trans (.withSpins _ _)

/-! ## A run begins (R233, R236, R248) -/

/-- The registers of the Dune engine. -/
def DuneRegs (a : Nat) : Prop := 0x120000 ≤ a ∧ a < 0x120100

/-- What a change of the regions and of the run leaves. -/
structure RunKept (c d : Chip) : Prop where
  run : c.dune.SameRun d.dune
  cores : d.cores = c.cores
  regs : RegsKept c d DuneRegs

theorem RunKept.trans {c d e : Chip} (h : RunKept c d) (h' : RunKept d e) : RunKept c e :=
  ⟨h.run.trans h'.run, h'.cores.trans h.cores, h.regs.trans h'.regs⟩

theorem RunKept.withDune (c : Chip) {d : Dune} (h : c.dune.SameRun d) : RunKept c { c with dune := d } := ⟨h, rfl, RegsKept.refl _ _⟩

theorem RunKept.of_onlyRegs {c d : Chip} (h : OnlyRegs c d DuneRegs) : RunKept c d :=
  ⟨by rw [h.eq]; exact .refl _, h.cores, h.2⟩

theorem RunKept.writeRegions (c : Chip) (d : Dune) : RunKept c (c.writeRegions d) := by
  have wrote : ∀ (x : Chip) (a : Nat) (bs : List Byte), RunKept x (x.wrBytes a bs) := fun x _ _ => ⟨.refl _, rfl, RegsKept.refl _ _⟩
  refine List.foldlRecOn _ _ (motive := RunKept c) ⟨.refl _, rfl, RegsKept.refl _ _⟩ fun x hx v _ => ?_
  exact List.foldlRecOn _ _ (motive := RunKept c) hx fun x hx j _ => hx.trans (wrote x _ _)

/-- Judging keeps the run's state as DUNE_STAT shows it. -/
theorem Chip.judge_kept (c : Chip) (others : List Int) : RunKept c (c.judge others) ∧ (c.judge others).rd Reg.DUNE_STAT = c.rd Reg.DUNE_STAT := by
  have shown : ∀ (x : Chip) (v w : Nat), OnlyRegs x (((x.put Reg.DUNE_BEST_LO_E v).put Reg.DUNE_BEST_HI_E w).set Reg.DUNE_IRQ_STATUS_BEST)
      (fun a => DuneRegs a ∧ a ≠ Reg.DUNE_STAT) := fun x v w =>
    ((OnlyRegs.put x Reg.DUNE_BEST_LO_E v _ ⟨⟨by decide, by decide⟩, by decide⟩).trans
      (OnlyRegs.put _ Reg.DUNE_BEST_HI_E w _ ⟨⟨by decide, by decide⟩, by decide⟩)).trans
      (OnlyRegs.set _ Reg.DUNE_IRQ_STATUS_BEST _ ⟨⟨by decide, by decide⟩, by decide⟩)
  unfold Chip.judge
  dsimp only
  split
  · exact ⟨⟨.refl _, rfl, RegsKept.refl _ _⟩, rfl⟩
  · split
    · refine ⟨(RunKept.withDune c ?_).trans (.of_onlyRegs ((shown _ _ _).mono fun _ h => h.1)), (shown _ _ _).2 _ (fun h => h.2 rfl)⟩
      exact ⟨rfl, rfl, rfl, rfl⟩
    · exact ⟨RunKept.withDune c ⟨rfl, rfl, rfl, rfl⟩, rfl⟩

/-- The regions are written, the fields formed, and the run stands at its first sweep. -/
def Chip.duneLoaded (c : Chip) (m : Dy) : Chip :=
  let x := ({ c with dune := c.duneFormed m } : Chip).writeRegions (c.duneFormed m)
  ({ x with dune := x.formFields (c.duneFormed m) } : Chip).duneState 2

theorem Chip.duneBegin_eq (c : Chip) (m : Dy) :
    c.duneBegin m = if (c.duneFormed m).mode = 2 then { c.duneLoaded m with dune := { (c.duneLoaded m).dune with waiting := true } }
      else if (c.duneFormed m).sweeps = 0 then ((c.duneLoaded m).judge []).duneEnd OK else (c.duneLoaded m).judge [] := rfl

theorem Chip.duneBegin_runs {c : Chip} (m : Dy) (hmode : c.dune.mode ≠ 2) (hsweeps : c.dune.sweeps ≠ 0) : c.duneBegin m = (c.duneLoaded m).judge [] := by
  have formed := Dune.SameRun.duneFormed c m
  rw [Chip.duneBegin_eq, formed.mode, formed.sweeps, if_neg hmode, if_neg hsweeps]

theorem Chip.duneLoaded_kept (c : Chip) (m : Dy) : RunKept c (c.duneLoaded m) ∧ (c.duneLoaded m).get Reg.DUNE_STAT_STATE = 2 := by
  have formed := RunKept.withDune c (Dune.SameRun.duneFormed c m)
  let x := ({ c with dune := c.duneFormed m } : Chip).writeRegions (c.duneFormed m)
  have written := formed.trans (RunKept.writeRegions _ (c.duneFormed m))
  have fielded : RunKept c { x with dune := x.formFields (c.duneFormed m) } :=
    ⟨(Dune.SameRun.duneFormed c m).trans (.formFields x _), written.cores, written.regs⟩
  exact ⟨fielded.trans (.of_onlyRegs (OnlyRegs.put _ Reg.DUNE_STAT_STATE 2 DuneRegs ⟨by decide, by decide⟩)), Chip.get_put_fits _ _ _ rfl⟩

theorem Chip.duneBegin_spec {c : Chip} (m : Dy) (hmode : c.dune.mode ≠ 2) (hsweeps : c.dune.sweeps ≠ 0) :
    RunKept c (c.duneBegin m) ∧ (c.duneBegin m).get Reg.DUNE_STAT_STATE = 2 := by
  obtain ⟨loaded, hstate⟩ := c.duneLoaded_kept m
  obtain ⟨judged, hstat⟩ := (c.duneLoaded m).judge_kept []
  rw [Chip.duneBegin_runs m hmode hsweeps]
  exact ⟨loaded.trans judged, (Chip.get_of_rd Reg.DUNE_STAT_STATE hstat).trans hstate⟩

/-! ## DUNE_RUN (R246, R250) -/

/-- The run as DUNE_RUN takes it up from its descriptor. -/
def Chip.duneTaken (c : Chip) (o : Origin) (addr : Nat) : Dune :=
  let d := c.duneDesc addr o
  { d with active := true, cores := c.duneCores d, bases := (c.duneCores d).map (c.duneBase d), grants := c.dune.grants, nonzero := ((c.coefWords d).filter (fun w => w % 2 ^ 31 != 0)).length }

/-- The run loaded, its state shown. -/
def Chip.duneShown (c : Chip) (o : Origin) (addr : Nat) : Chip :=
  let d := c.duneTaken o addr
  let x := (({ c with dune := d } : Chip).duneState 1).duneDone
  (x.put Reg.DUNE_STAT_ROT (if d.mode = 1 then 1 else 0)).put Reg.DUNE_STAT_MULTI (if d.mode = 2 then 1 else 0)

theorem Chip.duneStart_multi {c : Chip} {o : Origin} {addr : Nat} (hmode : (c.duneDesc addr o).mode = 2) : c.duneStart o addr = c.duneShown o addr := if_pos hmode

theorem Chip.duneStart_single {c : Chip} {o : Origin} {addr : Nat} (hmode : (c.duneDesc addr o).mode ≠ 2)
    (hmax : ((c.coefWords (c.duneDesc addr o)).foldl maxMag (0, 0)).1 ≠ 0) :
    c.duneStart o addr = (c.duneShown o addr).duneBegin ((c.coefWords (c.duneDesc addr o)).foldl maxMag (0, 0)) :=
  (if_neg hmode).trans (if_neg hmax)

theorem Chip.duneShown_spec (c : Chip) (o : Origin) (addr : Nat) :
    OnlyRegs { c with dune := c.duneTaken o addr } (c.duneShown o addr) DuneRegs ∧ (c.duneShown o addr).get Reg.DUNE_STAT_STATE = 1 ∧
      ((c.duneDesc addr o).mode = 2 → (c.duneShown o addr).get Reg.DUNE_STAT_MULTI = 1) := by
  let d := c.duneTaken o addr
  have dune : ∀ {f : Reg.Fld} (x : Chip) (v : Nat), (decide (0x120000 ≤ f.addr) && decide (f.addr < 0x120100)) = true → OnlyRegs x (x.put f v) DuneRegs :=
    fun {f} x v hf => OnlyRegs.put x f v DuneRegs (by simpa [DuneRegs] using hf)
  have state : (({ c with dune := d } : Chip).duneState 1).get Reg.DUNE_STAT_STATE = 1 := Chip.get_put_fits _ _ _ rfl
  refine ⟨((((dune _ _ rfl).trans (dune _ _ rfl)).trans (dune _ _ rfl)).trans (dune _ _ rfl)).trans (dune _ _ rfl), ?_, fun hmode => ?_⟩
  · exact (Chip.get_put_apart _ _ _ _ rfl).trans ((Chip.get_put_apart _ _ _ _ rfl).trans
      ((Chip.get_put_apart _ _ _ _ rfl).trans ((Chip.get_put_apart _ _ _ _ rfl).trans state)))
  · have hone : (if d.mode = 2 then 1 else 0) = 1 := if_pos hmode
    unfold Chip.duneShown
    dsimp only
    rw [hone]
    exact Chip.get_put_fits _ _ _ rfl

/-! ## DUNE_STOP (R252) -/

theorem Chip.duneStop_asked {c : Chip} (hactive : c.dune.active = true) (hstate : c.get Reg.DUNE_STAT_STATE = 2) (hwaiting : c.dune.waiting = false) (status : Nat) :
    c.duneStop status = { c with dune := { c.dune with stop := some (c.dune.stop.getD status) } } := by
  have hgoes : c.duneStands = false := by simp [Chip.duneStands, hstate, hwaiting]
  rw [Chip.duneStop, if_neg (by simp [hactive]), if_neg (by simp [hgoes])]

theorem not_duneRegs_mbx : ¬ DuneRegs Reg.MBX_STATE := fun h => absurd h.2 (by decide)

/-! ## The services -/

/-- Settles O42: each service is accepted, and what its take-up leaves is what the lemmas above say of it. -/
theorem lastingServices : Obligations.LastingServices := by
  intro s slot h a c n o k p
  have hn : n < 16 := slot.isLt
  have plain : h.flags = 0 → h.expertForm = false := fun hflags => by rw [CmdHead.expertForm, hflags]; rfl
  refine ⟨fun ha => ?_, fun ha hpauses => ?_, fun ha => ?_, fun ha => ?_, fun ha hfreeze => ?_, fun ha hfreeze => ?_, fun ha => ?_, fun ha => ?_, fun ha => ?_,
    fun ha => ?_, fun d hd ha hmode => ?_, fun d hd ha hmode hsweeps hmax => ?_, fun ha hactive hstate hwaiting => ?_⟩
  · exact takenUp_plain ha (by decide) rfl rfl
  · have htaken : c.acceptCommand o h 0x21 a =
        (c.setJob k { Job.empty with state := 1, part := argOf a 1 1 }).opStart o h 0x21 a (c.rdMem (argOf a 8 8 + 6) 2) 0 :=
      congrArg (fun x : Chip => (x.setJob k { Job.empty with state := 1, part := argOf a 1 1 }).opStart o h 0x21 a (c.rdMem (argOf a 8 8 + 6) 2) 0)
        (Chip.pauseOver_nil hpauses 1 k)
    refine ⟨_, leaves_accepted ha (by decide) rfl htaken, takenUp_opStart h 0x21 a _ 0 rfl rfl, ?_, ?_, rfl, rfl⟩
    · exact congrArg Job.state (Chip.job_setJob_same c k _)
    · exact congrArg Job.part (Chip.job_setJob_same c k _)
  · exact takenUp_plain ha (by decide) rfl rfl
  · obtain ⟨hvalid, hmem, hops, hmbx⟩ := c.invalidate_spec k (argOf a 2 2)
    exact ⟨_, leaves_accepted ha (by decide) rfl rfl, takenUp_opStart h 0x28 a _ 0 hops hmbx, hvalid, hmem⟩
  · have only := OnlyRegs.set c (Reg.LRN_CFG_FREEZE p) (· = Reg.LRN_CFG p) rfl
    have htaken : c.acceptCommand o h 0x29 a =
        (c.set (Reg.LRN_CFG_FREEZE p)).opStart o h 0x29 a (steps4k (argOf a 20 4)) (c.freezeCore (argOf a 2 2)).2 := if_pos hfreeze
    refine ⟨_, leaves_accepted ha (by decide) rfl htaken, takenUp_opStart h 0x29 a _ _ rfl (only.2 _ (lrnCfg_ne_mbx p)),
      Chip.get_put_fits c (Reg.LRN_CFG_FREEZE p) 1 rfl, rfl, only.2⟩
  · exact takenUp_plain ha (by decide) rfl (if_neg (by rw [hfreeze]; decide))
  · have only := OnlyRegs.unjoined c (c.testClusters a)
    exact ⟨_, leaves_accepted ha (by decide) rfl rfl, takenUp_opStart h 0x50 a _ 0 (congrArg Fw.ops only.fw) (only.2 _ not_unjoinRegs_mbx),
      fun j hj => c.unjoined_en _ (.inl hj), only.mem, only.cores⟩
  · exact takenUp_plain ha (by decide) rfl rfl
  · exact takenUp_plain ha (by decide) rfl rfl
  · obtain ⟨⟨e, hctrl, horigin, hpayload, hretries⟩, hsent, hregs, hmem⟩ := c.startControl_spec k (BitVec.ofNat 160 (argOf a 4 20)) o
    exact ⟨_, e, leaves_accepted ha (by decide) rfl rfl, hctrl, horigin, hpayload, hretries, hsent, Chip.mbxState_congr (Chip.rd_congr _ _ hregs _) n, hmem⟩
  · subst hd
    have ⟨_, _, hflags, _⟩ := ha
    obtain ⟨only, hstate, hmulti⟩ := c.duneShown_spec o (argOf a 0 8)
    have hrun : (c.duneShown o (argOf a 0 8)).dune = c.duneTaken o (argOf a 0 8) := by rw [only.eq]
    have htaken : c.acceptCommand o h 0x38 a = c.duneShown o (argOf a 0 8) := (if_pos (plain hflags)).trans (Chip.duneStart_multi hmode)
    exact ⟨_, leaves_accepted ha (by decide) rfl htaken, (congrArg Dune.active hrun :), (congrArg Dune.desc hrun :), (congrArg Dune.origin hrun :), hstate, hmulti hmode,
      Chip.mbxState_congr (only.2 _ not_duneRegs_mbx) n, only.mem, only.cores⟩
  · subst hd
    have ⟨_, _, hflags, _⟩ := ha
    obtain ⟨only, -, -⟩ := c.duneShown_spec o (argOf a 0 8)
    have hrun : (c.duneShown o (argOf a 0 8)).dune = c.duneTaken o (argOf a 0 8) := by rw [only.eq]
    have htaken : c.acceptCommand o h 0x38 a = _ := (if_pos (plain hflags)).trans (Chip.duneStart_single (by rw [hmode]; decide) hmax)
    obtain ⟨⟨hsame, hcores, hregs⟩, hstate⟩ := Chip.duneBegin_spec (c := c.duneShown o (argOf a 0 8))
      ((c.coefWords (c.duneDesc (argOf a 0 8) o)).foldl maxMag (0, 0)) (by rw [hrun]; exact fun h => absurd (h.symm.trans hmode) (by decide))
      (by rw [hrun]; exact hsweeps)
    refine ⟨_, leaves_accepted ha (by decide) rfl htaken, hsame.active.trans (congrArg Dune.active hrun :), hsame.desc.trans (congrArg Dune.desc hrun :),
      hsame.origin.trans (congrArg Dune.origin hrun :), hsame.done.trans (congrArg Dune.done hrun :), hstate,
      Chip.mbxState_congr ((hregs _ not_duneRegs_mbx).trans (only.2 _ not_duneRegs_mbx)) n, hcores.trans only.cores⟩
  · have ⟨_, _, hflags, _⟩ := ha
    let d : Chip := { c with dune := { c.dune with stop := some (c.dune.stop.getD PARTIAL) } }
    have htaken : c.acceptCommand o h 0x39 a = d.complete o 0x39 OK 0 0 :=
      (if_pos (plain hflags) : c.finishNow o h 0x39 a = (c.duneStop PARTIAL).complete o 0x39 OK 0 0).trans
        (congrArg (Chip.complete · o 0x39 OK 0 0) (Chip.duneStop_asked hactive hstate hwaiting PARTIAL))
    have answered := (OnlyReports.refl d).complete o 0x39 OK 0 0
    exact ⟨_, leaves_accepted ha (by decide) rfl htaken, answered.dune, d.complete_replied 0x39 0 0 hn (by decide), answered.cores⟩

end Sys2Proof.Machine
end

section
/-! SUPPORT. Timers and standing clocks (O28, refuted): boundary scan on the pins of a block in Lookout that holds a wake source. -/

namespace Sys2Proof.Machine

/-! ## Frames of the device pass the check of R41 -/

/-- The bytes of a frame before its CRC. -/
theorem frameByte_before_crc (body : BitVec 232) (crc : BitVec 16) {i : Nat} (h : i < 29) :
    frameByte (body.setWidth 248 ||| (crc.setWidth 248 <<< 232)) (i + 1) = frameByte (body.setWidth 248) (i + 1) := by
  refine BitVec.eq_of_getLsbD_eq fun j hj => ?_
  have hlow : 8 * i + j < 232 := by omega
  simp [frameByte, hj, hlow]

theorem frameCrc_after_body (body : BitVec 232) (crc : BitVec 16) : frameCrc (body.setWidth 248 ||| (crc.setWidth 248 <<< 232)) = crc := by
  refine BitVec.eq_of_getLsbD_eq fun j hj => ?_
  have hbits : j < 248 ∧ 232 + j < 248 := by omega
  simp [frameCrc, hj, hbits]

theorem frameCrc_mkFrame (type : Nat) (dup : Bool) (seq : Byte) (t : Time) (payload : BitVec 160) :
    frameCrc (mkFrame type dup seq t payload) = frameCrcOf (mkFrame type dup seq t payload) := by
  refine (frameCrc_after_body _ _).trans (congrArg crc16 (List.map_congr_left fun i hi => ?_))
  exact (frameByte_before_crc _ _ (List.mem_range.mp hi)).symm

/-! ## An alarm in Lookout (R62, R396) -/

/-- What a good ALARM frame leaves of a block in Lookout: acknowledged, reported, its wake source held. -/
def Chip.alarmSampled (c : Chip) (p : Nat) (f : CellFrame) : Chip :=
  let c := ((c.seqGapIfData p f).noteSeq p f).sendFrame p 5 (ackPayload 3 (frameSeq f))
  (if (c.port p).alarms.contains (frameSeq f) then c else c.alarmReport p f).wakeSource 2 p

theorem Chip.rxFrame_alarmSampled {c : Chip} {p : Nat} {f : CellFrame} (sof : Time) (hpins : c.pinsIdle = false)
    (hlook : p < c.clPorts ∧ c.inLookout = true ∧ c.sampledPort p = true) (hcrc : frameCrc f = frameCrcOf f)
    (hgood : frameUndefined f = false ∧ frameType f = 3) : c.rxFrame p f sof = c.alarmSampled p f := by
  obtain ⟨hport, hin, hsampled⟩ := hlook
  obtain ⟨hdefined, htype⟩ := hgood
  rw [Chip.rxFrame, if_neg (by simp [hpins]), if_pos (by simp [hport, hin]), Chip.rxLookout, if_neg (by simp [hsampled]), if_neg (not_not.mpr hcrc),
    if_neg (by simp [hdefined])]
  exact if_pos htype

/-! ## The state that refutes -/

/-- Lookout with nothing held, the power good, every port sampled. -/
def lookoutSampling : State :=
  { pending := [], chip := { Chip.init.put Reg.PWR_STATE_STATE 2 with
      power := { Chip.init.power with good := true, lko := { Lookout.none with desc := List.replicate 64 0xFF#8 } } } }

def alarmCall : CellFrame := mkFrame 3 false 1 0 0

/-- An alarm has been taken and its wake not yet made. -/
def alarmHeld : State := { lookoutSampling with chip := lookoutSampling.chip.alarmSampled 0 alarmCall }

/-- Boundary scan owns the pins while the source is held (R434). -/
def wakeHeld : State := { alarmHeld with chip := (alarmHeld.chip.select 0x03).bypass }

theorem telemetryFrame_leaves {s : State} {p : Port} {f : CellFrame} {sof : Time} {t : Chip} (h : s.chip.rxFrame p.toNat f sof = t) :
    Leaves (.telemetryFrame p f sof) s t := leaves_of_act (f := (·.rxFrame p.toNat f sof)) rfl h

theorem clamp_leaves {s : State} (hgood : s.chip.power.good = true) : Leaves .clamp s (s.chip.select 0x03).bypass :=
  leaves_of_act (f := fun c => if c.power.good then (c.select 0x03).bypass else c) rfl (if_pos hgood)

/-- Two commands lead from Lookout with nothing held to `wakeHeld`: the alarm comes with the command of another frame, which holds
its source and does not ask for the wake; then CLAMP. -/
theorem wakeHeld_reached : exec (.telemetryFrame 0 alarmCall 0) lookoutSampling = .next alarmHeld ∧ exec .clamp alarmHeld = .next wakeHeld :=
  ⟨telemetryFrame_leaves (s := lookoutSampling) (Chip.rxFrame_alarmSampled 0 (by decide +kernel) (by decide +kernel) (frameCrc_mkFrame _ _ _ _ _) (by decide +kernel)),
    clamp_leaves (s := alarmHeld) (by decide +kernel)⟩

theorem wakeHeld_premises : wakeHeld.chip.pinsIdle = true ∧ wakeHeld.chip.power.lko.held ≠ [] := by decide +kernel

/-- The wake sources held once ALARM_FRAME has been taken. -/
def heldAfterAlarm (s : State) : Option (List (Nat × Nat)) :=
  match exec (.alarmFrame 0 0 0) s with
  | .next t => some t.chip.power.lko.held
  | _ => none

theorem heldAfterAlarm_of_leaves {s : State} {d : Chip} (h : Leaves (.alarmFrame 0 0 0) s d) : heldAfterAlarm s = some d.power.lko.held := by
  rw [heldAfterAlarm, h]

/-- The frame is not heard, and the full wake that was due takes place (R397). -/
theorem heldAfterAlarm_wakeHeld : heldAfterAlarm wakeHeld = some [] := by decide +kernel

/-- What StandstillHold says of ALARM_FRAME. -/
theorem leaves_alarmFrame_of_standstill (h : StandstillHold) {s : State} (hidle : s.chip.pinsIdle = true) (p : Port) (f : CellFrame) (sof : Time) :
    Leaves (.alarmFrame p f sof) s s.chip := by
  obtain ⟨_, _, hpins⟩ := h s p 0 0 0 false f sof
  exact hpins hidle _ (by simp [frameCmds])

/-- Refutes O28: the clause that no frame changes anything while boundary scan owns the pins. ALARM_FRAME drops the frame but
still makes the full wake for which a source is held. -/
theorem not_timers : ¬ Obligations.Timers := by
  intro ⟨_, _, hstandstill⟩
  obtain ⟨hidle, hheld⟩ := wakeHeld_premises
  have hkept := heldAfterAlarm_of_leaves (leaves_alarmFrame_of_standstill hstandstill hidle 0 0 0)
  rw [heldAfterAlarm_wakeHeld] at hkept
  exact hheld (Option.some.inj hkept).symm

end Sys2Proof.Machine
end

section
/-! SUPPORT. Edge captures, single and queued, and the accesses to a channel's capture registers (O29). -/

namespace Sys2Proof.Machine

/-! ## The level of the pair (R78) -/

/-- The chip as an edge's level leaves it. -/
def Chip.levelSeen (c : Chip) (k : Nat) (rising : Bool) : Chip := c.put (Reg.CAP_PAIR_STAT_LEVEL (c.srcPair k)) rising.toNat

section
variable {c : Chip} {k : Nat} {rising : Bool}

theorem srcPair_lt_of_captures (h : Captures c k rising) : c.srcPair k < 64 := by
  obtain ⟨-, -, hpair, -⟩ := h
  exact lt_of_lt_of_le hpair (by unfold Chip.pairs; split <;> omega)

theorem OnlyRegs.levelSeen : OnlyRegs c (c.levelSeen k rising) (· = Reg.CAP_PAIR_STAT (c.srcPair k)) := OnlyRegs.put _ _ _ _ rfl

theorem Chip.levelSeen_level : (c.levelSeen k rising).get (Reg.CAP_PAIR_STAT_LEVEL (c.srcPair k)) = rising.toNat :=
  Chip.get_put_fits _ _ _ (by cases rising <;> rfl)

theorem Chip.edgeSeen_eq : c.edgeSeen k rising = (c.levelSeen k rising).setChan k { c.chan k with edges := 0 } := rfl

theorem Chip.get_edgeSeen (f : Reg.Fld) : (c.edgeSeen k rising).get f = (c.levelSeen k rising).get f := by
  rw [Chip.edgeSeen_eq, Chip.get_setChan]

theorem Chip.chan_edgeSeen : (c.edgeSeen k rising).chan k = { c.chan k with edges := 0 } := by
  rw [Chip.edgeSeen_eq, Chip.chan_setChan_same]

/-- A pair's status is none of the registers of a channel, nor one of the clocks. -/
theorem not_pairStat {p a : Nat} (hp : p < 64) (h : a < Reg.CAP_PAIR_STAT 0 ∨ Reg.CAP_PAIR_STAT 64 ≤ a) : ¬ a = Reg.CAP_PAIR_STAT p := by
  simp only [Reg.CAP_PAIR_STAT] at h ⊢
  omega

/-- The registers of channel `k` stand above those of the pairs. -/
theorem not_pairStat_chan {p a : Nat} (hp : p < 64) (h : Reg.CAP_CH_CFG k ≤ a) : ¬ a = Reg.CAP_PAIR_STAT p :=
  not_pairStat hp (.inr (le_trans (by simp only [Reg.CAP_PAIR_STAT, Reg.CAP_CH_CFG]; omega) h))

/-- A field of the channel's configuration, read past the level. -/
theorem Chip.get_levelSeen (hp : c.srcPair k < 64) {f : Reg.Fld} (hf : f.addr = Reg.CAP_CH_CFG k) : (c.levelSeen k rising).get f = c.get f :=
  OnlyRegs.levelSeen.get f (hf ▸ not_pairStat_chan hp le_rfl)

theorem Chip.tickUnit_levelSeen (hp : c.srcPair k < 64) : (c.levelSeen k rising).tickUnit = c.tickUnit := by
  rw [Chip.tickUnit, Chip.on, OnlyRegs.levelSeen.get _ (not_pairStat hp (.inl (by decide)))]
  rfl

theorem Chip.countAt_levelSeen (hp : c.srcPair k < 64) (hk : k < 256) (age : Nat) : (c.levelSeen k rising).countAt k age = c.countAt k age :=
  Chip.countAt_put _ _ _ _ (not_pairStat hp (.inl (by simp only [Reg.TMR_CH_COUNT, Reg.CAP_PAIR_STAT]; omega)))

/-- A capture in MODE 1 (R79, R81): on the edge that completes the prescaler it latches, else the edge is counted. -/
theorem Chip.capture_single (h : Captures c k rising) (hk : k < 256) (hmode : c.get (Reg.TMR_CH_CFG_MODE k) = 1) :
    let age := c.tickUnit * (c.get (Reg.CAP_CH_CFG_FLEN k) + 2)
    let at_ := c.time - BitVec.ofNat 48 age
    let t := ((c.edgeSeen k rising).capSingle k (c.countAt k age) (at_.setWidth 32)).capEmit k (c.countAt k age) at_
    c.capture k rising =
      if ((c.chan k).edges + 1) % (c.get (Reg.CAP_CH_CFG_EPRE k) + 1) ≠ 0 then (c.levelSeen k rising).modChan k (fun x => { x with edges := (c.chan k).edges + 1 })
      else t.modChan k (fun x => { x with stamps := ((at_.setWidth 32, t.time) :: x.stamps).take 2 }) := by
  have hp := srcPair_lt_of_captures h
  have hflen' := Chip.get_levelSeen (rising := rising) hp (f := Reg.CAP_CH_CFG_FLEN k) rfl
  have hepre := Chip.get_levelSeen (rising := rising) hp (f := Reg.CAP_CH_CFG_EPRE k) rfl
  have hunit := Chip.tickUnit_levelSeen (rising := rising) hp
  have hcount := Chip.countAt_levelSeen (rising := rising) hp hk
  obtain ⟨-, -, hpair, hsrc, hflen, hen, hfault, hedge⟩ := h
  have hcaught : (!((rising && bit (c.get (Reg.CAP_CH_CFG_EDGE k)) 0) || (!rising && bit (c.get (Reg.CAP_CH_CFG_EDGE k)) 1))) = false := by
    cases rising <;> simpa using hedge
  rw [Chip.levelSeen] at hflen' hepre hunit hcount
  unfold Chip.capture
  dsimp only
  rw [if_neg (by simp [hmode, hpair, Chip.on, hsrc]), if_neg hflen, if_neg (by simp [Chip.on, hen, hfault]), hcaught, if_neg (by decide), hflen', hepre, hunit,
    hcount]
  simp only [hmode, true_and]
  rfl

end

/-! ## A single capture (R81) -/

section
variable (c : Chip) (k : Nat) (count stamp : Word)

/-- NEW set again over a value not yet read (R81). -/
def Chip.capOverwrites : Chip := if c.on (Reg.CAP_CH_STAT_NEW k) then (c.set (Reg.CAP_CH_STAT_OVW k)).set Reg.CAP_IRQ_STATUS_OVW else c

theorem Chip.capOverwrites_spec :
    (c.capOverwrites k).get (Reg.CAP_CH_STAT_OVW k) = (if c.get (Reg.CAP_CH_STAT_NEW k) = 1 then 1 else c.get (Reg.CAP_CH_STAT_OVW k)) ∧
      OnlyRegs c (c.capOverwrites k) (fun a => a = Reg.CAP_CH_STAT k ∨ a = Reg.CAP_IRQ_STATUS) := by
  unfold Chip.capOverwrites
  by_cases hnew : c.get (Reg.CAP_CH_STAT_NEW k) = 1
  · rw [if_pos (Chip.on_iff.mpr hnew), if_pos hnew]
    refine ⟨?_, (OnlyRegs.set _ _ _ (.inl rfl)).trans (OnlyRegs.set _ _ _ (.inr rfl))⟩
    rw [Chip.set, Chip.get_put_addr _ _ _ _ (by simp only [Reg.CAP_CH_STAT_OVW, Reg.CAP_CH_STAT, Reg.CAP_IRQ_STATUS_OVW, Reg.CAP_IRQ_STATUS]; omega)]
    exact Chip.get_put_fits _ _ _ rfl
  · rw [if_neg (fun h => hnew (Chip.on_iff.mp h)), if_neg hnew]
    exact ⟨rfl, OnlyRegs.refl _ _⟩

/-- Registers that a single capture writes. -/
def SingleRegs (k a : Nat) : Prop := a = Reg.CAP_CH_STAT k ∨ a = Reg.CAP_IRQ_STATUS ∨ a = Reg.CAP_CH_VAL_COUNT k ∨ a = capStamp k

theorem Chip.capSingle_spec :
    let t := c.capSingle k count stamp
    t.rd (Reg.CAP_CH_VAL_COUNT k) = count ∧ t.rd (capStamp k) = stamp ∧ t.get (Reg.CAP_CH_STAT_NEW k) = 1 ∧
      t.get (Reg.CAP_CH_STAT_OVW k) = (if c.get (Reg.CAP_CH_STAT_NEW k) = 1 then 1 else c.get (Reg.CAP_CH_STAT_OVW k)) ∧
      OnlyRegs c t (SingleRegs k) := by
  have ht : c.capSingle k count stamp = (((c.capOverwrites k).wr (Reg.CAP_CH_VAL_COUNT k) count).wr (capStamp k) stamp).set (Reg.CAP_CH_STAT_NEW k) := rfl
  obtain ⟨hovw, honly⟩ := c.capOverwrites_spec k
  have hstat : Reg.CAP_CH_STAT k ≠ capStamp k ∧ Reg.CAP_CH_STAT k ≠ Reg.CAP_CH_VAL_COUNT k := by
    simp only [capStamp, Reg.CAP_CH_VAL_COUNT, Reg.CAP_CH_STAT]; omega
  dsimp only
  rw [ht]
  refine ⟨?_, ?_, Chip.get_put_fits _ _ _ rfl, ?_, ?_⟩
  · rw [Chip.set, Chip.rd_put_other _ _ _ _ hstat.2.symm, Chip.rd_wr_other _ _ _ _ (by simp [capStamp]), Chip.rd_wr_same]
  · rw [Chip.set, Chip.rd_put_other _ _ _ _ hstat.1.symm, Chip.rd_wr_same]
  · rw [Chip.set, Chip.get_put_apart _ _ _ _ (Reg.Fld.apart_bits rfl), Chip.get_wr_other _ _ _ _ hstat.1, Chip.get_wr_other _ _ _ _ hstat.2, hovw]
  · exact (((honly.mono fun a h => h.elim .inl (.inr ∘ .inl)).trans (OnlyRegs.wr _ _ count _ (.inr (.inr (.inl rfl))))).trans
      (OnlyRegs.wr _ _ stamp _ (.inr (.inr (.inr rfl))))).trans (OnlyRegs.set _ _ _ (.inl rfl))

end

/-! ## Channels whose captures emit nothing (R85) -/

theorem Chip.capEmit_off {c : Chip} {k : Nat} (hemit : c.get (Reg.CAP_CH_CFG_EMIT k) = 0) (count : Word) (at_ : Time) : c.capEmit k count at_ = c :=
  if_pos (by simp [Chip.on, hemit])

theorem OnlyRegs.chans {c d : Chip} {P : Nat → Prop} (h : OnlyRegs c d P) : d.chans = c.chans := by rw [h.eq]
theorem OnlyRegs.time {c d : Chip} {P : Nat → Prop} (h : OnlyRegs c d P) : d.time = c.time := by rw [h.eq]

theorem leaves_capture {s : State} {k : Chan} {rising : Bool} {t : Chip} (hheld : s.chip.unitHeld 69 = false) (hidle : s.chip.pinsIdle = false)
    (ht : s.chip.capture k.toNat rising = t) : Leaves (.capture k rising) s t :=
  leaves_of_act (f := whilePins (whileRuns 69 (·.capture k.toNat rising))) rfl (by
    rw [whilePins_eq hidle, whileRuns, if_neg (by simp [hheld]), ht])

theorem leaves_captured {s : State} {k : Chan} {rising : Bool} {t : Chip} (h : Captures s.chip k.toNat rising)
    (ht : s.chip.capture k.toNat rising = t) : Leaves (.capture k rising) s t := by
  obtain ⟨hheld, hidle, -⟩ := h
  exact leaves_capture hheld hidle ht

section
variable {c : Chip} {k : Nat} {rising : Bool}

/-- What an edge and its single capture leave: the values, the marks, the level of the pair (R81). -/
theorem Chip.edgeSeen_capSingle_spec (h : Captures c k rising) (count stamp : Word) :
    let d := (c.edgeSeen k rising).capSingle k count stamp
    d.rd (Reg.CAP_CH_VAL_COUNT k) = count ∧ d.rd (capStamp k) = stamp ∧ d.get (Reg.CAP_CH_STAT_NEW k) = 1 ∧
      d.get (Reg.CAP_CH_STAT_OVW k) = (if c.get (Reg.CAP_CH_STAT_NEW k) = 1 then 1 else c.get (Reg.CAP_CH_STAT_OVW k)) ∧
      d.chan k = { c.chan k with edges := 0 } ∧ d.get (Reg.CAP_PAIR_STAT_LEVEL (c.srcPair k)) = rising.toNat ∧
      d.get (Reg.CAP_CH_CFG_EMIT k) = c.get (Reg.CAP_CH_CFG_EMIT k) ∧ d.time = c.time := by
  have hp := srcPair_lt_of_captures h
  obtain ⟨hcount, hstamp, hnew, hovw, honly⟩ := (c.edgeSeen k rising).capSingle_spec k count stamp
  have hstat : ∀ f : Reg.Fld, f.addr = Reg.CAP_CH_STAT k → (c.edgeSeen k rising).get f = c.get f := fun f hf =>
    (Chip.get_edgeSeen f).trans (OnlyRegs.levelSeen.get f (hf ▸ not_pairStat_chan (k := k) hp (by simp only [Reg.CAP_CH_CFG, Reg.CAP_CH_STAT]; omega)))
  rw [hstat (Reg.CAP_CH_STAT_NEW k) rfl, hstat (Reg.CAP_CH_STAT_OVW k) rfl] at hovw
  refine ⟨hcount, hstamp, hnew, hovw, ?_, ?_, ?_, honly.time⟩
  · rw [Chip.chan, honly.chans]
    exact Chip.chan_edgeSeen
  · rw [honly.get, Chip.get_edgeSeen, Chip.levelSeen_level]
    simp only [SingleRegs, capStamp, Reg.CAP_PAIR_STAT_LEVEL, Reg.CAP_PAIR_STAT, Reg.CAP_CH_STAT, Reg.CAP_IRQ_STATUS, Reg.CAP_CH_VAL_COUNT]
    omega
  · rw [honly.get, Chip.get_edgeSeen, Chip.get_levelSeen hp rfl]
    simp only [SingleRegs, capStamp, Reg.CAP_CH_CFG_EMIT, Reg.CAP_CH_CFG, Reg.CAP_CH_STAT, Reg.CAP_IRQ_STATUS, Reg.CAP_CH_VAL_COUNT]
    omega

/-- An edge within the prescaler's count latches nothing (R79). -/
theorem Chip.capture_prescaled (h : Captures c k rising) (hk : k < 256) (hmode : c.get (Reg.TMR_CH_CFG_MODE k) = 1)
    (hpre : ((c.chan k).edges + 1) % (c.get (Reg.CAP_CH_CFG_EPRE k) + 1) ≠ 0) :
    (c.capture k rising).chan k = { c.chan k with edges := (c.chan k).edges + 1 } ∧
      (c.capture k rising).rd (Reg.CAP_CH_VAL_COUNT k) = c.rd (Reg.CAP_CH_VAL_COUNT k) := by
  have hcounted := Chip.capture_single h hk hmode
  dsimp only at hcounted
  rw [hcounted, if_pos hpre, Chip.modChan_set, Chip.chan_setChan_same, Chip.rd_setChan]
  exact ⟨rfl, OnlyRegs.levelSeen.2 _ (not_pairStat_chan (k := k) (srcPair_lt_of_captures h) (by simp only [Reg.CAP_CH_CFG, Reg.CAP_CH_VAL_COUNT]; omega))⟩

/-! ## A queued capture (R82) -/

theorem Chip.capQueue_room (c : Chip) {k : Nat} (count stamp : Word) (rising : Bool) (hroom : (c.chan k).queue.length < 8) :
    ((c.capQueue k count stamp rising).chan k).queue = (c.chan k).queue ++ [{ count := count, stamp := stamp, rising := rising }] := by
  have ht : c.capQueue k count stamp rising = _ := if_neg (by omega)
  rw [ht, Chip.chan_setChan_same]

theorem Chip.capQueue_full (c : Chip) {k : Nat} (count stamp : Word) (rising : Bool) (hfull : 8 ≤ (c.chan k).queue.length) :
    let t := c.capQueue k count stamp rising
    t.chan k = c.chan k ∧ t.get (Reg.CAP_CH_STAT_QOVF k) = 1 ∧ t.get (Reg.CAP_CH_QDROP_COUNT k) = counted c (Reg.CAP_CH_QDROP_COUNT k) 1 := by
  have ht : c.capQueue k count stamp rising = ((c.set (Reg.CAP_CH_STAT_QOVF k)).set Reg.CAP_IRQ_STATUS_QOVF).bump (Reg.CAP_CH_QDROP_COUNT k) := if_pos hfull
  have hirq : Reg.CAP_CH_STAT k ≠ Reg.CAP_IRQ_STATUS := by simp only [Reg.CAP_CH_STAT, Reg.CAP_IRQ_STATUS]; omega
  have hdrop : Reg.CAP_CH_STAT k ≠ Reg.CAP_CH_QDROP k ∧ Reg.CAP_CH_QDROP k ≠ Reg.CAP_IRQ_STATUS := by
    simp only [Reg.CAP_CH_STAT, Reg.CAP_CH_QDROP, Reg.CAP_IRQ_STATUS]; omega
  dsimp only
  rw [ht]
  refine ⟨rfl, ?_, (Chip.get_bump _ _ _ rfl).trans (counted_congr ?_ 1)⟩
  · rw [Chip.bump, Chip.get_put_addr _ _ _ _ hdrop.1, Chip.set, Chip.get_put_addr _ _ _ _ hirq]
    exact Chip.get_put_fits _ _ _ rfl
  · rw [Chip.set, Chip.get_put_addr _ _ _ _ hdrop.2, Chip.set, Chip.get_put_addr _ _ _ _ hdrop.1.symm]

/-- An edge and its queued capture leave EMIT as it stands. -/
theorem Chip.edgeSeen_capQueue_emit (count stamp : Word) :
    ((c.edgeSeen k rising).capQueue k count stamp rising).get (Reg.CAP_CH_CFG_EMIT k) = c.get (Reg.CAP_CH_CFG_EMIT k) := by
  obtain ⟨-, hregs⟩ := c.edgeSeen_capQueue_kept k count stamp rising
  refine Chip.get_of_rd _ (hregs _ ?_)
  simp only [Reg.CAP_CH_CFG_EMIT, Reg.CAP_CH_CFG, Reg.CAP_PAIR_STAT, Reg.CAP_CH_STAT, Reg.CAP_IRQ_STATUS, Reg.CAP_CH_QDROP]
  omega

/-- A capture in MODE 2 that emits nothing: queued, then its STAMP is noted. -/
theorem Chip.capture_queuedOnly (h : Captures c k rising) (hemit : c.get (Reg.CAP_CH_CFG_EMIT k) = 0) (hmode : c.get (Reg.TMR_CH_CFG_MODE k) = 2) :
    let age := c.tickUnit * (c.get (Reg.CAP_CH_CFG_FLEN k) + 2)
    let stamp : Word := (c.time - BitVec.ofNat 48 age).setWidth 32
    let d := (c.edgeSeen k rising).capQueue k (c.countAt k age) stamp rising
    c.capture k rising = d.setChan k { d.chan k with stamps := ((stamp, d.time) :: (d.chan k).stamps).take 2 } := by
  have hqueued := c.capture_queued h hmode
  dsimp only at hqueued ⊢
  rw [Chip.capEmit_off ((Chip.edgeSeen_capQueue_emit _ _).trans hemit)] at hqueued
  exact hqueued

/-- A capture in MODE 1 that completes the prescaler and emits nothing. -/
theorem Chip.capture_singleOnly (h : Captures c k rising) (hk : k < 256) (hemit : c.get (Reg.CAP_CH_CFG_EMIT k) = 0)
    (hmode : c.get (Reg.TMR_CH_CFG_MODE k) = 1) (hlast : ((c.chan k).edges + 1) % (c.get (Reg.CAP_CH_CFG_EPRE k) + 1) = 0) :
    let age := c.tickUnit * (c.get (Reg.CAP_CH_CFG_FLEN k) + 2)
    let stamp : Word := (c.time - BitVec.ofNat 48 age).setWidth 32
    let d := (c.edgeSeen k rising).capSingle k (c.countAt k age) stamp
    c.capture k rising = d.setChan k { d.chan k with stamps := ((stamp, d.time) :: (d.chan k).stamps).take 2 } := by
  have hsingle := Chip.capture_single h hk hmode
  dsimp only at hsingle ⊢
  obtain ⟨-, -, -, -, -, -, hoff, -⟩ := Chip.edgeSeen_capSingle_spec h (c.countAt k (c.tickUnit * (c.get (Reg.CAP_CH_CFG_FLEN k) + 2)))
    ((c.time - BitVec.ofNat 48 (c.tickUnit * (c.get (Reg.CAP_CH_CFG_FLEN k) + 2))).setWidth 32)
  rw [if_neg (not_not.mpr hlast), Chip.capEmit_off (hoff.trans hemit)] at hsingle
  exact hsingle

/-- A channel without a filter captures nothing (R78). -/
theorem Chip.capture_unfiltered (hpair : c.srcPair k < c.pairs) (hsrc : c.get (Reg.CAP_CH_CFG_SRC_EN k) = 1) (hflen : c.get (Reg.CAP_CH_CFG_FLEN k) = 0)
    (hmode : c.get (Reg.TMR_CH_CFG_MODE k) = 1 ∨ c.get (Reg.TMR_CH_CFG_MODE k) = 2) : c.capture k rising = c.set (Reg.CAP_CH_STAT_CFG_ERR k) := by
  have hcaptures : ¬ (c.get (Reg.TMR_CH_CFG_MODE k) = 0 ∨ c.get (Reg.TMR_CH_CFG_MODE k) = 3) := by omega
  unfold Chip.capture
  dsimp only
  rw [if_neg (by simpa [hpair, Chip.on, hsrc] using hcaptures), if_pos hflen]

end

/-! ## Accesses to a channel's capture registers (R79, R81, R82) -/

theorem Chip.capCountRead_spec (c : Chip) (k : Nat) :
    (c.capCountRead k).rd (Reg.CAP_CH_VAL_STAMP k) = c.rd (capStamp k) ∧ OnlyRegs c (c.capCountRead k) (· = Reg.CAP_CH_VAL_STAMP k) :=
  ⟨Chip.rd_wr_same _ _ _, OnlyRegs.wr _ _ _ _ rfl⟩

/-- MODE is among the bits of TMR_CH_CFG that a write stores. -/
theorem wbits_mode_stored (v : Word) : wbits (v &&& 0xFFFFF#32) 1 0 = wbits v 1 0 := by
  rw [← wbits_and_mask (v &&& 0xFFFFF#32) 1 0 (by decide), BitVec.and_assoc]
  exact wbits_and_mask v 1 0 (by decide)

theorem Chip.get_capCfgErr (c : Chip) (k : Nat) : (c.capCfgErr k).get (Reg.CAP_CH_STAT_CFG_ERR k) =
    if c.get (Reg.CAP_CH_CFG_FLEN k) = 0 ∧ (c.get (Reg.TMR_CH_CFG_MODE k) = 1 ∨ c.get (Reg.TMR_CH_CFG_MODE k) = 2) then 1 else 0 := by
  rw [Chip.capCfgErr, Chip.get_put_same _ _ _ (by simp [Reg.CAP_CH_STAT_CFG_ERR]) (by simp [Reg.CAP_CH_STAT_CFG_ERR])]
  split <;> rfl

/-- A channel as a write of TMR_CH_CFG leaves it, before CFG_ERR follows. -/
def Chip.captureRestarted (c : Chip) (k : Nat) (v : Word) : Chip :=
  (c.wr (Reg.TMR_CH_CFG k) (v &&& 0xFFFFF#32)).setChan k { c.chan k with edges := 0, stamps := [], queue := [] }

theorem Chip.timerCfgWrite_spec (c : Chip) (k : Nat) (v : Word) :
    let t := c.timerCfgWrite k v
    t.rd (Reg.TMR_CH_CFG k) = v &&& 0xFFFFF#32 ∧ t.chan k = { c.chan k with edges := 0, stamps := [], queue := [] } ∧
      t.get (Reg.CAP_CH_STAT_CFG_ERR k) = (if c.get (Reg.CAP_CH_CFG_FLEN k) = 0 ∧ (wbits v 1 0 = 1 ∨ wbits v 1 0 = 2) then 1 else 0) ∧
      RegsKept c t (fun a => a = Reg.TMR_CH_CFG k ∨ a = Reg.CAP_CH_STAT k) := by
  have ht : c.timerCfgWrite k v = (c.captureRestarted k v).capCfgErr k := rfl
  have honly := OnlyRegs.capCfgErr (c.captureRestarted k v) k
  have hstat : Reg.TMR_CH_CFG k ≠ Reg.CAP_CH_STAT k ∧ Reg.CAP_CH_CFG k ≠ Reg.TMR_CH_CFG k := by
    simp only [Reg.TMR_CH_CFG, Reg.CAP_CH_STAT, Reg.CAP_CH_CFG]; omega
  have hmode : (c.captureRestarted k v).get (Reg.TMR_CH_CFG_MODE k) = wbits v 1 0 := by
    rw [Chip.captureRestarted, Chip.get_setChan]
    exact (Chip.get_wr_same _ _ (Reg.TMR_CH_CFG_MODE k)).trans (wbits_mode_stored v)
  have hflen : (c.captureRestarted k v).get (Reg.CAP_CH_CFG_FLEN k) = c.get (Reg.CAP_CH_CFG_FLEN k) := by
    rw [Chip.captureRestarted, Chip.get_setChan, Chip.get_wr_other _ _ _ _ hstat.2]
  dsimp only
  rw [ht]
  refine ⟨?_, ?_, ?_, ?_⟩
  · rw [honly.2 _ hstat.1, Chip.captureRestarted, Chip.rd_setChan, Chip.rd_wr_same]
  · rw [Chip.chan, honly.chans]
    exact Chip.chan_setChan_same _ _ _
  · rw [Chip.get_capCfgErr, hmode, hflen]
  · exact ((OnlyRegs.wr c (Reg.TMR_CH_CFG k) (v &&& 0xFFFFF#32) (fun a => a = Reg.TMR_CH_CFG k ∨ a = Reg.CAP_CH_STAT k) (.inl rfl)).2.same
      (c.captureRestarted k v)).trans (honly.2.mono fun _ => .inr)

/-! ## Edge captures -/

/-- Settles O29: the captures of each mode, then the accesses. -/
theorem edgeCaptures : Obligations.EdgeCaptures := by
  intro s k rising v c n x age count stamp mode
  have hn : n < 256 := k.isLt
  refine ⟨fun hcap hemit => ⟨fun hmode hlast => ?_, fun hmode hpre => ?_, fun hmode hroom => ?_, fun hmode hfull => ?_⟩,
    fun hheld hidle hpair hsrc hflen hmode => ?_, ?_, ?_, ?_⟩
  · obtain ⟨hcount, hstamp, hnew, hovw, hchan, hlevel, -, htime⟩ := Chip.edgeSeen_capSingle_spec hcap count stamp
    refine ⟨_, leaves_captured hcap (Chip.capture_singleOnly hcap hn hemit hmode hlast), hcount, hstamp, hnew, hovw, ?_, hlevel⟩
    rw [Chip.chan_setChan_same, hchan, htime]
  · exact ⟨_, leaves_captured hcap rfl, Chip.capture_prescaled hcap hn hmode hpre⟩
  · have hqueue := Chip.capQueue_room (c.edgeSeen n rising) (k := n) count stamp rising (by rw [Chip.chan_edgeSeen]; exact hroom)
    refine ⟨_, leaves_captured hcap (Chip.capture_queuedOnly hcap hemit hmode), ?_⟩
    rw [Chip.chan_setChan_same]
    exact hqueue.trans (by rw [Chip.chan_edgeSeen])
  · obtain ⟨hchan, hqovf, hdrop⟩ := Chip.capQueue_full (c.edgeSeen n rising) (k := n) count stamp rising (by rw [Chip.chan_edgeSeen]; exact hfull)
    refine ⟨_, leaves_captured hcap (Chip.capture_queuedOnly hcap hemit hmode), ?_, hqovf, hdrop.trans (counted_congr ?_ 1)⟩
    · rw [Chip.chan_setChan_same, hchan, Chip.chan_edgeSeen]
    · rw [Chip.get_edgeSeen]
      exact OnlyRegs.levelSeen.get _ (not_pairStat_chan (k := n) (srcPair_lt_of_captures hcap)
        (by simp only [Reg.CAP_CH_CFG, Reg.CAP_CH_QDROP_COUNT, Reg.CAP_CH_QDROP]; omega))
  · exact ⟨_, leaves_capture hheld hidle (Chip.capture_unfiltered hpair hsrc hflen hmode), Chip.get_put_fits _ _ _ rfl, OnlyRegs.set _ _ _ rfl⟩
  · obtain ⟨hstamp, honly⟩ := c.capCountRead_spec n
    exact ⟨(c.capCountRead n).emit _, leaves_of_act (f := fun c => (c.capCountRead n).emit (.readData (natToBytes 4 (c.rd (Reg.CAP_CH_VAL_COUNT n)).toNat) false)) rfl rfl,
      hstamp, rfl, honly.2.same _⟩
  · exact ⟨c.capPop n, leaves_of_act (f := (·.capPop n)) rfl rfl, Chip.chan_setChan_same _ _ _, fun j hj => Chip.chan_setChan_other _ _ _ _ hj, rfl⟩
  · exact ⟨c.timerCfgWrite n v, leaves_of_act (f := (·.timerCfgWrite n v)) rfl rfl, c.timerCfgWrite_spec n v⟩

end Sys2Proof.Machine
end

section
/-! SUPPORT. What leaves an input of a router, and what moves up behind it: the reading rules of event and packet routing (O15, O16). -/

namespace Sys2Proof.Machine

/-! ## Records of a router, read through an update of another part -/

theorem Chip.buf_modRouter {c : Chip} {k : Nat} {f : Router → Router} (hf : ∀ r, (f r).bufs = r.bufs) (k' input cls : Nat) :
    (c.modRouter k f).buf k' input cls = c.buf k' input cls := by
  by_cases hk : k' = k
  · subst hk
    rw [Chip.buf, Chip.modRouter, Chip.router_setRouter_same, hf, Chip.buf]
  · rw [Chip.buf, Chip.modRouter, Chip.router_setRouter_other _ _ _ _ hk, Chip.buf]

theorem Chip.staged_modRouter {c : Chip} {k : Nat} {f : Router → Router} (hf : ∀ r, (f r).stage = r.stage) (k' port cls : Nat) :
    (c.modRouter k f).staged k' port cls = c.staged k' port cls := by
  by_cases hk : k' = k
  · subst hk
    rw [Chip.staged, Chip.modRouter, Chip.router_setRouter_same, hf, Chip.staged]
  · rw [Chip.staged, Chip.modRouter, Chip.router_setRouter_other _ _ _ _ hk, Chip.staged]

@[simp] theorem Chip.staged_setStage_same (c : Chip) (k port cls : Nat) (x : Option Staged) : (c.setStage k port cls x).staged k port cls = x := by
  rw [Chip.staged, Chip.setStage, Chip.modRouter, Chip.router_setRouter_same, smGet_smSet_same]

@[simp] theorem Chip.staged_setBuf (c : Chip) (k input cls : Nat) (l : List Flit) (k' port cls' : Nat) :
    (c.setBuf k input cls l).staged k' port cls' = c.staged k' port cls' := 
  Chip.staged_modRouter (f := fun r => { r with bufs := smSet r.bufs (input * 8 + cls) l }) (fun _ => rfl) _ _ _

@[simp] theorem Chip.buf_setStage (c : Chip) (k port cls : Nat) (x : Option Staged) (k' input cls' : Nat) :
    (c.setStage k port cls x).buf k' input cls' = c.buf k' input cls' := 
  Chip.buf_modRouter (f := fun r => { r with stage := smSet r.stage (port * 8 + cls) x }) (fun _ => rfl) _ _ _

theorem FabricKept.staged {c d : Chip} (h : FabricKept c d) (k port cls : Nat) : d.staged k port cls = c.staged k port cls := by
  simp only [Chip.staged, Chip.router, h.1]

/-! ## What moves up behind (R102, R334, R342) -/

/-- Between `c` and `d` traffic may have entered buffers of router `k`, behind what they held: no stage and no other router differs. -/
structure MovedUp (k : Nat) (c d : Chip) : Prop where
  rest : { d with routers := c.routers, bridge := c.bridge, links := c.links, out := c.out } = c
  staged : ∀ k' port cls, d.staged k' port cls = c.staged k' port cls
  others : ∀ k' input cls, k' ≠ k → d.buf k' input cls = c.buf k' input cls
  behind : ∀ input cls, ∃ more, d.buf k input cls = c.buf k input cls ++ more

namespace MovedUp

/-- Router records apart, nothing of the fabric differs. -/
theorem of_routers {k : Nat} {c d : Chip} (hrest : { d with routers := c.routers, bridge := c.bridge, links := c.links, out := c.out } = c)
    (hstaged : ∀ k' port cls, d.staged k' port cls = c.staged k' port cls) (hbuf : ∀ k' input cls, d.buf k' input cls = c.buf k' input cls) :
    MovedUp k c d :=
  ⟨hrest, hstaged, fun k' input cls _ => hbuf k' input cls, fun input cls => ⟨[], by rw [hbuf, List.append_nil]⟩⟩

theorem refl (k : Nat) (c : Chip) : MovedUp k c c := of_routers rfl (fun _ _ _ => rfl) (fun _ _ _ => rfl)

theorem trans {k : Nat} {c d e : Chip} (h : MovedUp k c d) (h' : MovedUp k d e) : MovedUp k c e where
  rest := (congrArg (fun x : Chip => { x with routers := c.routers, bridge := c.bridge, links := c.links, out := c.out }) h'.rest).trans h.rest
  staged k' port cls := (h'.staged k' port cls).trans (h.staged k' port cls)
  others k' input cls hk := (h'.others k' input cls hk).trans (h.others k' input cls hk)
  behind input cls := by
    obtain ⟨more, hd⟩ := h.behind input cls
    obtain ⟨more', he⟩ := h'.behind input cls
    exact ⟨more ++ more', by rw [he, hd, List.append_assoc]⟩

theorem modRouter (k : Nat) (c : Chip) {f : Router → Router} (hstage : ∀ r, (f r).stage = r.stage) (hbufs : ∀ r, (f r).bufs = r.bufs) :
    MovedUp k c (c.modRouter k f) := of_routers rfl (Chip.staged_modRouter hstage) (Chip.buf_modRouter hbufs)

theorem modLink (k : Nat) (c : Chip) (l : Nat) (f : LinkSt → LinkSt) : MovedUp k c (c.modLink l f) :=
  of_routers rfl (fun _ _ _ => rfl) (fun _ _ _ => rfl)

theorem enter (k : Nat) (c : Chip) (input cls : Nat) (f : Flit) : MovedUp k c (c.enter k input cls f) where
  rest := rfl
  staged := Chip.staged_setBuf _ _ _ _ _
  others k' input' cls' hk := Chip.buf_setBuf_other _ _ (.inl hk)
  behind input' cls' := by
    by_cases hkey : input' * 8 + cls' = input * 8 + cls
    · have hsame : ∀ d : Chip, d.buf k input' cls' = d.buf k input cls := fun d => by rw [Chip.buf, Chip.buf, hkey]
      exact ⟨[f], by rw [hsame, hsame, Chip.enter, Chip.buf_setBuf_same]⟩
    · exact ⟨[], by rw [List.append_nil]; exact Chip.buf_setBuf_other _ _ (.inr hkey)⟩

theorem setWaiting (k : Nat) (c : Chip) (input cls : Nat) (l : List Flit) : MovedUp k c (c.setWaiting k input cls l) :=
  modRouter k c (fun _ => rfl) (fun _ => rfl)

theorem feed (k : Nat) (c : Chip) (input cls : Nat) (f : Flit) : MovedUp k c (c.feed k input cls f) := by
  unfold Chip.feed
  split
  · exact enter k c input cls f
  · exact setWaiting k c input cls _

theorem originate (k : Nat) (c : Chip) (cls dst : Nat) (toBridge : Bool) (body : List DWord) : MovedUp k c (c.originate k cls dst toBridge body) :=
  feed k c 21 cls _

theorem drainWaiting (k : Nat) (c : Chip) (input cls : Nat) : MovedUp k c (c.drainWaiting k input cls) := by
  unfold Chip.drainWaiting
  split
  · split
    · exact (setWaiting k c input cls _).trans (enter k _ input cls _)
    · exact refl k c
  · exact refl k c

theorem drainCap (k : Nat) (c : Chip) (n : Nat) : MovedUp k c (c.drainCap k n) := by
  induction n generalizing c with
  | zero => exact refl k c
  | succ n ih =>
    rw [Chip.drainCap]
    split
    · rename_i ev l _
      split
      · have taken : MovedUp k c { c with bridge := { c.bridge with injCap := smSet c.bridge.injCap k l } } :=
          of_routers rfl (fun _ _ _ => rfl) (fun _ _ _ => rfl)
        exact (taken.trans (enter k _ 19 0 _)).trans (ih _)
      · exact refl k c
    · exact refl k c

theorem giveCredit (k : Nat) (c : Chip) (l pool n : Nat) : MovedUp k c (c.giveCredit l pool n) := by
  unfold Chip.giveCredit
  split
  · exact of_routers rfl (fun _ _ _ => rfl) (fun _ _ _ => rfl)
  · exact refl k c

theorem drainFeryo (c : Chip) (l cls n : Nat) : MovedUp (feryoCluster l) c (c.drainFeryo l cls n) := by
  induction n generalizing c with
  | zero => exact refl _ c
  | succ n ih =>
    rw [Chip.drainFeryo]
    split
    · split
      · exact ((modLink _ c l _).trans (enter _ _ 20 cls _)).trans (ih _)
      · exact refl _ c
    · exact refl _ c

end MovedUp

/-! ## A head that leaves its buffer (R102, R103) -/

/-- A Feryo link's cluster is the one that the link stands at (R101). -/
theorem feryoCluster_of_feryoAt {c : Chip} {k l : Nat} (h : feryoAt c k = some l) : feryoCluster l = k := by
  have h := (Option.filter_eq_some_iff.mp h).1
  split at h
  · cases h; exact Eq.symm ‹_›
  split at h
  · cases h; exact Eq.symm ‹_›
  split at h
  · cases h; exact Eq.symm ‹_›
  split at h
  · cases h; exact Eq.symm ‹_›
  · cases h

/-- Between `c` and `d` the head of a buffer of router `k` has left, and traffic may have moved up: no stage and no other router differs. -/
structure HeadFreed (k input cls : Nat) (c d : Chip) : Prop where
  rest : { d with routers := c.routers, bridge := c.bridge, links := c.links, out := c.out } = c
  staged : ∀ k' port cls', d.staged k' port cls' = c.staged k' port cls'
  others : ∀ k' input' cls', k' ≠ k → d.buf k' input' cls' = c.buf k' input' cls'
  head : HeadLeft c d k input cls

theorem Chip.freeHead_freed {c : Chip} {k input cls : Nat} {f : Flit} {l : List Flit} (h : c.buf k input cls = f :: l) :
    HeadFreed k input cls c (c.freeHead k input cls) := by
  have moved : MovedUp k (c.setBuf k input cls l) (c.freeHead k input cls) := by
    rw [Chip.freeHead, h]
    dsimp only
    split
    · split
      · rename_i n hn
        exact feryoCluster_of_feryoAt hn ▸ (MovedUp.giveCredit _ _ n (poolOf f) 1).trans (MovedUp.drainFeryo _ n _ 4)
      · exact MovedUp.refl k _
    · split
      · exact (MovedUp.drainCap k _ 4).trans (MovedUp.drainWaiting k _ input cls)
      · exact MovedUp.drainWaiting k _ input cls
  refine ⟨(congrArg (fun x : Chip => { x with routers := c.routers }) moved.rest :), fun k' port cls' => ?_, fun k' input' cls' hk => ?_, ?_⟩
  · exact (moved.staged k' port cls').trans (Chip.staged_setBuf c k input cls l k' port cls')
  · exact (moved.others k' input' cls' hk).trans (Chip.buf_setBuf_other c l (.inl hk))
  · obtain ⟨more, hmore⟩ := moved.behind input cls
    exact ⟨more, by rw [hmore, Chip.buf_setBuf_same, h, List.tail_cons]⟩

namespace HeadFreed

variable {k input cls : Nat} {c d : Chip}

theorem regs (h : HeadFreed k input cls c d) : d.regs = c.regs := (congrArg Chip.regs h.rest :)
theorem cores (h : HeadFreed k input cls c d) : d.cores = c.cores := (congrArg Chip.cores h.rest :)
theorem mem (h : HeadFreed k input cls c d) : d.mem = c.mem := (congrArg Chip.mem h.rest :)

/-- What moves up later moves up behind. -/
theorem movedUp {e : Chip} (h : HeadFreed k input cls c d) (h' : MovedUp k d e) : HeadFreed k input cls c e where
  rest := (congrArg (fun x : Chip => { x with routers := c.routers, bridge := c.bridge, links := c.links, out := c.out }) h'.rest).trans h.rest
  staged k' port cls' := (h'.staged k' port cls').trans (h.staged k' port cls')
  others k' input' cls' hk := (h'.others k' input' cls' hk).trans (h.others k' input' cls' hk)
  head := by
    obtain ⟨more, hd⟩ := h.head
    obtain ⟨more', he⟩ := h'.behind input cls
    exact ⟨more ++ more', by rw [he, hd, List.append_assoc]⟩

/-- The head that left stood in the buffer before, with what has moved up since behind. -/
theorem headLeft_behind {b : Chip} {f : Flit} {l more : List Flit} (h : HeadFreed k input cls c d) (hbuf : b.buf k input cls = f :: l)
    (hmore : c.buf k input cls = b.buf k input cls ++ more) : HeadLeft b d k input cls := by
  obtain ⟨more', hd⟩ := h.head
  exact ⟨more ++ more', by rw [hd, hmore, hbuf, List.cons_append, List.tail_cons, List.tail_cons, List.append_assoc]⟩

theorem headLeft {b : Chip} (h : HeadFreed k input cls c d) (hbuf : c.buf k input cls = b.buf k input cls) : HeadLeft b d k input cls := by
  rw [HeadLeft, ← hbuf]
  exact h.head

end HeadFreed

/-! ## Neighbours (R101, R106) -/

/-- A cluster is no neighbour of its own. -/
theorem neighbour_ne {c : Chip} {k dir k' : Nat} (h : neighbour c k dir = some k') : k' ≠ k := by
  have h := (Option.filter_eq_some_iff.mp h).1
  simp only [cx, cy] at h
  split at h
  all_goals
    obtain ⟨hin, hk⟩ := Option.ite_none_right_eq_some.mp h
    have hk := Option.some.inj hk
    omega

/-- South of the lowest row there is no cluster. -/
theorem neighbour_south_edge {c : Chip} {k : Nat} (hy : cy k = 0) : neighbour c k 3 = none := by
  simp only [neighbour, hy, gt_iff_lt, Nat.lt_irrefl, if_false, Option.filter_none]

theorem neighbour_congr {c d : Chip} (h : d.clusters = c.clusters) (k dir : Nat) : neighbour d k dir = neighbour c k dir := by
  simp only [neighbour, h]

end Sys2Proof.Machine
end

section
/-! SUPPORT. Event routing (O15). -/

namespace Sys2Proof.Machine

/-! ## Reads that the counters of a router leave alone -/

/-- The registers that the event counters of cluster routers do not touch: those of firmware, of the map and of the cores. -/
theorem not_pmonRouterRegs_low {k a : Nat} (h : a < 0x1000000) : ¬ PmonRouterRegs k a := by
  simp only [PmonRouterRegs, Reg.pmonRouter]; omega

theorem OnlyRegs.frozenPort {c d : Chip} {P : Nat → Prop} (h : OnlyRegs c d P) (hrot : ¬ P Reg.DMAP_ROT_STAT) (i : Nat) : d.frozenPort i = c.frozenPort i := by
  rw [Chip.frozenPort, Chip.frozenPort, h.get Reg.DMAP_ROT_STAT_PHASE hrot, h.eq]

/-! ## The hop of an event with one output (R103, R105, R106) -/

theorem bit_two_pow (o i : Nat) : bit (2 ^ o) i = decide (o = i) := by rw [bit_eq_testBit, Nat.testBit_two_pow]

section
variable {c : Chip} {k input o : Nat} {e : DWord}

/-- An entry that names one output, which is not removed, leaves that output, and nothing counts as a removal. -/
theorem Chip.portSet_single {n : Nat} (hset : (c.mcast k n 2).toNat % 2 ^ 21 = 2 ^ o) (hkeep : c.removed k input o = false) :
    c.portSet k input n = (c.tallyRouter k 0x41, 2 ^ o) := by
  have hnone : (List.range 21).filter (fun x => bit (2 ^ o) x && c.removed k input x) = [] := by
    refine List.filter_eq_nil_iff.mpr fun x _ => ?_
    rw [bit_two_pow]
    by_cases hx : o = x
    · rw [← hx, hkeep, Bool.and_false]; decide
    · rw [decide_eq_false hx, Bool.false_and]; decide
  rw [Chip.portSet, hset, hnone]
  rfl

theorem Chip.grantOut_skipped (k : Nat) (e : DWord) (p : Chip × Nat) {x : Nat} (h : bit p.2 x = false) : Chip.grantOut k e p x = p := by
  rw [Chip.grantOut, h, Bool.false_and]
  rfl

theorem Chip.grantOut_granted (h : c.outFree k o e = true) : Chip.grantOut k e (c, 2 ^ o) o = (c.outSend k o e, 0) := by
  rw [Chip.grantOut, bit_two_pow, decide_eq_true rfl, h, Nat.sub_self]
  rfl

/-- With nothing left to send no output is granted. -/
theorem Chip.grants_none (k : Nat) (e : DWord) (c : Chip) (l : List Nat) : l.foldl (Chip.grantOut k e) (c, 0) = (c, 0) := by
  induction l with
  | nil => rfl
  | cons x l ih => rw [List.foldl_cons, Chip.grantOut_skipped k e (c, 0) (by rw [bit, Nat.zero_div]; rfl), ih]

/-- Of a run of outputs with the event's one output among them, that one is granted. -/
theorem Chip.grants_single (h : c.outFree k o e = true) (l : List Nat) (ho : o ∈ l) :
    l.foldl (Chip.grantOut k e) (c, 2 ^ o) = (c.outSend k o e, 0) := by
  induction l with
  | nil => exact absurd ho List.not_mem_nil
  | cons x l ih =>
    rw [List.foldl_cons]
    by_cases hx : o = x
    · rw [← hx, Chip.grantOut_granted h, Chip.grants_none]
    · rw [Chip.grantOut_skipped k e (c, 2 ^ o) (by rw [bit_two_pow]; exact decide_eq_false hx), ih ((List.mem_cons.mp ho).resolve_left hx)]

/-- The one copy of an event leaves, and with it the event its buffer. -/
theorem Chip.copyOut_single (ho : o < 21) (h : c.outFree k o e = true) : c.copyOut k input e (2 ^ o) = (c.outSend k o e).freeHead k input 0 := by
  rw [Chip.copyOut, Chip.grants_single h _ (List.mem_range.mpr ho)]
  rfl

theorem Chip.eventHop_found {l : List Flit} {n : Nat} (hon : c.routerOn k = true) (hbuf : c.buf k input 0 = .event e none :: l) (hn : c.lookup k (evKey e) = some n)
    (hset : (c.mcast k n 2).toNat % 2 ^ 21 = 2 ^ o) (hkeep : c.removed k input o = false) (ho : o < 21) (hfree : (c.tallyRouter k 0x41).outFree k o e = true) :
    c.eventHop k input = ((c.tallyRouter k 0x41).outSend k o e).freeHead k input 0 := by
  rw [Chip.eventHop, if_pos hon, hbuf]
  dsimp only
  rw [hn]
  dsimp only
  rw [Chip.portSet_single hset hkeep, Chip.copyOut_single ho hfree]

theorem Chip.eventHop_missed {l : List Flit} (hon : c.routerOn k = true) (hbuf : c.buf k input 0 = .event e none :: l) (hn : c.lookup k (evKey e) = none) :
    c.eventHop k input = (c.miss k e).freeHead k input 0 := by
  rw [Chip.eventHop, if_pos hon, hbuf]
  dsimp only
  rw [hn]

theorem leaves_eventHop {s : State} {k : Cluster} {input : BitVec 5} {t : Chip} (h : s.chip.eventHop k.toNat input.toNat = t) : Leaves (.eventHop k input) s t :=
  leaves_of_act (f := (·.eventHop k.toNat input.toNat)) rfl h

/-! ## Where an event leaves (R103) -/

theorem Chip.outFree_port (ho : o < 16) (hstage : c.staged k o 0 = none) (hfrozen : c.frozenPort (k * 16 + o) = false) : c.outFree k o e = true := by
  rw [Chip.outFree, if_pos ho, hstage, hfrozen]
  rfl

theorem Chip.outSend_port (ho : o < 16) : c.outSend k o e = (c.tallyRouter k 0x40).setStage k o 0 (some { flit := .event e none, slot := none }) := by
  rw [Chip.outSend, if_pos ho]

/-- An output toward a neighbour is no core port, no Feryo port and no edge port. -/
theorem meshOutput {k' : Nat} (hlo : 16 ≤ o) (hhi : o ≤ 19) (hk : neighbour c k (o - 16) = some k') : ¬ o < 16 ∧ o ≠ 20 ∧ ¬ (o = 19 ∧ cy k = 0) := by
  refine ⟨by omega, by omega, ?_⟩
  rintro ⟨rfl, hy⟩
  rw [neighbour_south_edge hy] at hk
  cases hk

theorem Chip.outFree_mesh {k' : Nat} (hlo : 16 ≤ o) (hhi : o ≤ 19) (hk : neighbour c k (o - 16) = some k') :
    c.outFree k o e = c.room k' (arriveOn (o - 16)) 0 := by
  obtain ⟨h16, h20, hedge⟩ := meshOutput hlo hhi hk
  rw [Chip.outFree, if_neg h16, if_neg h20, if_neg hedge, hk]

theorem Chip.outSend_mesh {k' : Nat} (hlo : 16 ≤ o) (hhi : o ≤ 19) (hk : neighbour (c.tallyRouter k 0x40) k (o - 16) = some k') :
    c.outSend k o e = (c.tallyRouter k 0x40).enter k' (arriveOn (o - 16)) 0 (.event e none) := by
  obtain ⟨h16, h20, hedge⟩ := meshOutput hlo hhi hk
  rw [Chip.outSend, if_neg h16, if_neg h20, if_neg hedge, hk]

end

theorem Chip.clusters_tallyRouter (c : Chip) (k src : Nat) : (c.tallyRouter k src).clusters = c.clusters :=
  Chip.clusters_of_rd ((OnlyRegs.tallyRouter c k src 1).2 _ (not_pmonRouterRegs_low (by decide)))

theorem eventHopsHold : EventHopsHold := by
  intro s k input e n o c kk ii hon hhead hn hset hkeep
  obtain ⟨l, hbuf⟩ := List.head?_eq_some_iff.mp hhead
  have ho : o < 21 := (Nat.pow_lt_pow_iff_right (by decide)).mp (hset.symm.trans_lt (Nat.mod_lt _ (Nat.two_pow_pos 21)))
  let d := c.tallyRouter kk 0x41
  let d' := d.tallyRouter kk 0x40
  have tally : OnlyRegs c d (PmonRouterRegs kk) := OnlyRegs.tallyRouter c kk 0x41 1
  have tallies : OnlyRegs c d' (PmonRouterRegs kk) := tally.trans (OnlyRegs.tallyRouter d kk 0x40 1)
  have fabric := FabricKept.of_onlyRegs tallies
  have leaves : ∀ {t}, d.outFree kk o e = true → (d.outSend kk o e).freeHead kk ii 0 = t → Leaves (.eventHop k input) s t := fun hfree ht =>
    leaves_eventHop ((Chip.eventHop_found hon hbuf hn hset hkeep ho hfree).trans ht)
  refine ⟨fun hport hstage hfrozen => ?_, fun k' hlo hhi hk hroom => ?_⟩
  · have hfree : d.outFree kk o e = true := Chip.outFree_port hport (((FabricKept.of_onlyRegs tally).staged _ _ _).trans hstage)
      ((tally.frozenPort (not_pmonRouterRegs_low (by decide)) _).trans hfrozen)
    have hbuf' : (d'.setStage kk o 0 (some { flit := .event e none, slot := none })).buf kk ii 0 = c.buf kk ii 0 :=
      (Chip.buf_setStage ..).trans (fabric.buf _ _ _)
    have freed := Chip.freeHead_freed (hbuf'.trans hbuf)
    exact ⟨_, leaves hfree (by rw [Chip.outSend_port hport]), (freed.staged _ _ _).trans (Chip.staged_setStage_same ..), freed.headLeft hbuf',
      freed.cores.trans tallies.cores, freed.mem.trans tallies.mem⟩
  · have hclusters : d.clusters = c.clusters := Chip.clusters_tallyRouter c kk 0x41
    have hk1 := (neighbour_congr hclusters kk (o - 16)).trans hk
    have hk2 := (neighbour_congr (Chip.clusters_tallyRouter d kk 0x40) kk (o - 16)).trans hk1
    have hfree : d.outFree kk o e = true := by
      rw [Chip.outFree_mesh hlo hhi hk1, Chip.room, (FabricKept.of_onlyRegs tally).buf]
      exact hroom
    have hne : k' ≠ kk := neighbour_ne hk
    have hbuf' : (d'.enter k' (arriveOn (o - 16)) 0 (.event e none)).buf kk ii 0 = c.buf kk ii 0 :=
      (Chip.buf_setBuf_other _ _ (.inl hne.symm)).trans (fabric.buf _ _ _)
    have freed := Chip.freeHead_freed (hbuf'.trans hbuf)
    refine ⟨_, leaves hfree (by rw [Chip.outSend_mesh hlo hhi hk2]), ?_, freed.headLeft hbuf', freed.cores.trans tallies.cores, freed.mem.trans tallies.mem⟩
    rw [freed.others _ _ _ hne, Chip.enter, Chip.buf_setBuf_same, fabric.buf]

/-! ## An event without an entry (R107) -/

/-- What a miss counts and keeps. -/
def Chip.missNoted (c : Chip) (k : Nat) (e : DWord) : Chip :=
  ((c.bump (Reg.RT_MISS_CNT_COUNT k)).put (Reg.RT_MISS_LAST_KEY k) (evKey e).toNat).set (Reg.RT_IRQ_STATUS_MISS k)

/-- The registers of a router that a miss may change beside those that it notes. -/
def MissRegs (k a : Nat) : Prop := PmonRouterRegs k a ∨ a = Reg.RT_IRQ_STATUS k

/-- After what it notes, a miss counts its source and is reported, which is noted where the limit of reports keeps it back. -/
theorem Chip.miss_spec (c : Chip) (k : Nat) (e : DWord) :
    ∃ d, OnlyRegs (c.missNoted k e) d (MissRegs k) ∧ d.get (Reg.RT_IRQ_STATUS_MISS k) = 1 ∧ MovedUp k d (c.miss k e) := by
  let d := (c.missNoted k e).tallyRouter k 0x42
  have tally : OnlyRegs (c.missNoted k e) d (MissRegs k) := (OnlyRegs.tallyRouter _ k 0x42 1).mono fun _ h => .inl h
  have hirq : d.get (Reg.RT_IRQ_STATUS_MISS k) = 1 := by
    refine ((OnlyRegs.tallyRouter (c.missNoted k e) k 0x42 1).get _ ?_).trans (Chip.get_put_fits _ _ _ (by simp [Reg.RT_IRQ_STATUS_MISS]))
    simp only [PmonRouterRegs, Reg.pmonRouter, Reg.RT_IRQ_STATUS_MISS, Reg.RT_IRQ_STATUS]; omega
  obtain ⟨ok, hmiss⟩ : ∃ ok : Bool, c.miss k e = if d.on (Reg.RT_CFG_MISS_TO_HCU k) then
      (if ok then (d.modRouter k (fun r => { r with lastMiss := some d.time })).originate k 5 0 true [mkFlit1 0 0x3FF 0 0x22 (BitVec.ofNat 32 k), e]
      else d.set (Reg.RT_IRQ_STATUS_MISS_RATE k)) else d := ⟨_, rfl⟩
  rw [hmiss]
  split
  · split
    · have marked : MovedUp k d (d.modRouter k (fun r => { r with lastMiss := some d.time })) := MovedUp.modRouter k d (fun _ => rfl) (fun _ => rfl)
      exact ⟨d, tally, hirq, marked.trans (MovedUp.originate k _ 5 0 true _)⟩
    · refine ⟨_, tally.trans (OnlyRegs.set d (Reg.RT_IRQ_STATUS_MISS_RATE k) _ (.inr rfl)), ?_, MovedUp.refl k _⟩
      exact (Chip.get_put_apart _ _ _ _ (by simp [Reg.Fld.apart, Reg.RT_IRQ_STATUS_MISS, Reg.RT_IRQ_STATUS_MISS_RATE])).trans hirq
  · exact ⟨d, tally, hirq, MovedUp.refl k d⟩

/-- What a miss notes. -/
theorem Chip.missNoted_spec (c : Chip) (k : Nat) (e : DWord) :
    (c.missNoted k e).get (Reg.RT_MISS_CNT_COUNT k) = counted c (Reg.RT_MISS_CNT_COUNT k) 1 ∧ (c.missNoted k e).rd (Reg.RT_MISS_LAST k) = evKey e ∧
    OnlyRegs c (c.missNoted k e) (fun a => a = Reg.RT_MISS_CNT k ∨ a = Reg.RT_MISS_LAST k ∨ a = Reg.RT_IRQ_STATUS k) := by
  refine ⟨?_, ?_, ((OnlyRegs.bump c (Reg.RT_MISS_CNT_COUNT k) 1 _ (.inl rfl)).trans (OnlyRegs.put _ (Reg.RT_MISS_LAST_KEY k) _ _ (.inr (.inl rfl)))).trans
    (OnlyRegs.set _ (Reg.RT_IRQ_STATUS_MISS k) _ (.inr (.inr rfl)))⟩
  · rw [Chip.missNoted, Chip.set, Chip.get_put_addr _ _ _ _ (by simp [Reg.RT_MISS_CNT_COUNT, Reg.RT_MISS_CNT, Reg.RT_IRQ_STATUS_MISS, Reg.RT_IRQ_STATUS]),
      Chip.get_put_addr _ _ _ _ (by simp [Reg.RT_MISS_CNT_COUNT, Reg.RT_MISS_CNT, Reg.RT_MISS_LAST_KEY, Reg.RT_MISS_LAST]), Chip.get_bump _ _ _ (by simp [Reg.RT_MISS_CNT_COUNT])]
  · rw [Chip.missNoted, Chip.set, Chip.rd_put_other _ _ _ _ (by simp [Reg.RT_MISS_LAST, Reg.RT_IRQ_STATUS_MISS, Reg.RT_IRQ_STATUS])]
    exact Chip.rd_put_word _ (Reg.RT_MISS_LAST k) (evKey e)

theorem eventMissesHold : EventMissesHold := by
  intro s k input e c kk hon hhead hn
  obtain ⟨l, hbuf⟩ := List.head?_eq_some_iff.mp hhead
  obtain ⟨d, kept, hirq, moved⟩ := Chip.miss_spec c kk e
  obtain ⟨hcount, hlast, noted⟩ := Chip.missNoted_spec c kk e
  have hd : d.buf kk input.toNat 0 = c.buf kk input.toNat 0 := ((FabricKept.of_onlyRegs noted).trans (FabricKept.of_onlyRegs kept)).buf _ _ _
  obtain ⟨more, hmore⟩ := moved.behind input.toNat 0
  rw [hd] at hmore
  have freed := Chip.freeHead_freed (f := .event e none) (l := l ++ more) (hmore.trans (by rw [hbuf]; rfl))
  have hregs : ∀ a, ((c.miss kk e).freeHead kk input.toNat 0).rd a = d.rd a := fun a => 
    (Chip.rd_congr _ _ freed.regs a).trans (Chip.rd_congr _ _ (congrArg Chip.regs moved.rest :) a)
  refine ⟨_, leaves_eventHop (Chip.eventHop_missed hon hbuf hn), ?_, ?_, ?_, freed.headLeft_behind hbuf hmore, ?_, ?_⟩
  · rw [Chip.get_of_rd _ (hregs _), kept.get, hcount]
    simp only [MissRegs, PmonRouterRegs, Reg.pmonRouter, Reg.RT_MISS_CNT_COUNT, Reg.RT_MISS_CNT, Reg.RT_IRQ_STATUS]; omega
  · rw [hregs, kept.2, hlast]
    simp only [MissRegs, PmonRouterRegs, Reg.pmonRouter, Reg.RT_MISS_LAST, Reg.RT_IRQ_STATUS]; omega
  · rw [Chip.get_of_rd _ (hregs _), hirq]
  · exact freed.cores.trans ((congrArg Chip.cores moved.rest :).trans (kept.cores.trans noted.cores))
  · exact freed.mem.trans ((congrArg Chip.mem moved.rest :).trans (kept.mem.trans noted.mem))

/-! ## Delivery of an event (R117, R121, R127) -/

section
variable {c : Chip} {k port : Nat} {e : DWord} {left : Option (BitVec 21)}

/-- The event of a stage goes to the slot that the active map gives, or is absorbed. -/
theorem Chip.deliverEvent_mapped (h : c.staged k port 0 = some { flit := .event e left, slot := none }) (hsl : c.activeSlot k (k * 16 + port) < 17)
    (habs : c.absorbing (k * 32 + c.activeSlot k (k * 16 + port)) = false) (hseats : c.seats (k * 32 + c.activeSlot k (k * 16 + port)) = true) :
    let sl := c.activeSlot k (k * 16 + port)
    let p := k * 32 + sl
    let x := c.core p
    c.deliverEvent k port =
      if c.fenced p then ((c.bump (Reg.NI_ABSORB_CNT_COUNT k)).tallyRouter k 0x46).setStage k port 0 none
      else if x.inRoom then
        ((c.setCore p { x with inq := x.inq ++ [{ ev := e, age := x.age, served := [] }], age := x.age + 1 }).tallyCore p 0x10).setStage k port 0 none
      else c.setStage k port 0 (some { flit := .event e none, slot := some sl }) := by
  simp only [Chip.deliverEvent, h, Option.getD_none, Nat.not_le.mpr hsl, habs, hseats, Option.isNone_none, Bool.not_true, Bool.false_eq_true, and_false,
    or_false, false_or]

end

theorem eventDeliveryHold : EventDeliveryHold := by
  intro s k port e left c kk sl p hon hfrozen hstage hsl habs hseats
  have leaves : ∀ {t}, c.deliverEvent kk port.toNat = t → Leaves (.eventDeliver k port) s t := fun ht =>
    leaves_of_act rfl ((if_pos (by rw [hon, hfrozen]; rfl)).trans ht)
  have hdeliver := Chip.deliverEvent_mapped hstage hsl habs hseats
  refine ⟨fun hfree hroom => ?_, fun hfenced => ?_⟩
  · have hin : (c.core p).inRoom = true := decide_eq_true hroom
    let d := c.setCore p { c.core p with inq := (c.core p).inq ++ [{ ev := e, age := (c.core p).age, served := [] }], age := (c.core p).age + 1 }
    have tally : OnlyRegs d (d.tallyCore p 0x10) (PmonOf p) := OnlyRegs.tallyCore d p 0x10 1 _ fun _ h => h
    refine ⟨_, leaves (hdeliver.trans ((if_neg (by rw [hfree]; decide)).trans (if_pos hin))), Chip.staged_setStage_same .., ?_, fun q hq => ?_, tally.mem,
      tally.2⟩
    · exact (tally.core p).trans (Chip.core_setCore_same ..)
    · exact (tally.core q).trans (Chip.core_setCore_other _ _ _ _ hq)
  · have tally := OnlyRegs.tallyRouter (c.bump (Reg.NI_ABSORB_CNT_COUNT kk)) kk 0x46 1
    refine ⟨_, leaves (hdeliver.trans (if_pos hfenced)), Chip.staged_setStage_same .., tally.cores, (tally.get _ ?_).trans (Chip.get_bump _ _ _ ?_)⟩
    · simp only [PmonRouterRegs, Reg.pmonRouter, Reg.NI_ABSORB_CNT_COUNT, Reg.NI_ABSORB_CNT]; omega
    · simp [Reg.NI_ABSORB_CNT_COUNT]

/-- Settles O15: the hop of an event with one output, the event without an entry, the event at its core port. -/
theorem eventRouting : Obligations.EventRouting := ⟨eventHopsHold, eventMissesHold, eventDeliveryHold⟩

end Sys2Proof.Machine
end

section
/-! SUPPORT. Packet routing (O16). -/

namespace Sys2Proof.Machine

/-! ## One hop of a packet (R97, R102, R477) -/

section
variable {c : Chip} {k input cls : Nat} {p : Packet} {l : List Flit}

theorem Chip.packetHop_local (hon : c.routerOn k = true) (hbuf : c.buf k input cls = .packet p :: l) (hhop : hop p.route 0 = 4)
    (hstage : c.staged k (p.dst % 16) cls = none) (hfrozen : c.frozenPort (k * 16 + p.dst % 16) = false) :
    c.packetHop k input cls = (c.setStage k (p.dst % 16) cls (some { flit := .packet p.shift, slot := none })).passed k input p := by
  rw [Chip.packetHop, if_pos hon, hbuf]
  dsimp only
  rw [hhop, if_pos rfl, hstage, hfrozen]
  rfl

theorem Chip.packetHop_mesh {k' : Nat} (hon : c.routerOn k = true) (hbuf : c.buf k input cls = .packet p :: l) (hhop : hop p.route 0 < 4)
    (hedge : edgeExit k (hop p.route 0) = false) (hk : neighbour c k (hop p.route 0) = some k') (hroom : c.room k' (arriveOn (hop p.route 0)) cls = true) :
    c.packetHop k input cls = (c.enter k' (arriveOn (hop p.route 0)) cls (.packet p.shift)).passed k input p := by
  rw [Chip.packetHop, if_pos hon, hbuf]
  dsimp only
  rw [if_neg (by omega), if_neg (by omega), if_neg (by omega), hedge, hk]
  dsimp only
  rw [if_pos hroom]
  rfl

theorem Chip.packetHop_bad (hon : c.routerOn k = true) (hbuf : c.buf k input cls = .packet p :: l) (hhop : 6 ≤ hop p.route 0) :
    c.packetHop k input cls = c.badHop k input p := by
  rw [Chip.packetHop, if_pos hon, hbuf]
  dsimp only
  rw [if_neg (by omega), if_neg (by omega), if_pos hhop]

/-- A packet that has been forwarded leaves its buffer; two sources of the router are counted. -/
theorem Chip.passed_spec {f : Flit} (hbuf : c.buf k input p.cls = f :: l) :
    let t := c.passed k input p
    HeadLeft c t k input p.cls ∧ (∀ k' port cls', t.staged k' port cls' = c.staged k' port cls') ∧
    (∀ k' input' cls', k' ≠ k → t.buf k' input' cls' = c.buf k' input' cls') ∧ t.cores = c.cores ∧ t.mem = c.mem := by
  have tallies := (OnlyRegs.tallyRouter c k 0x45 1).trans (OnlyRegs.tallyRouter (c.tallyRouter k 0x45) k 0x40 (p.body.length + 1))
  have fabric := FabricKept.of_onlyRegs tallies
  have freed := Chip.freeHead_freed ((fabric.buf k input p.cls).trans hbuf)
  exact ⟨freed.headLeft (fabric.buf ..), fun k' port cls' => (freed.staged ..).trans (fabric.staged ..),
    fun k' input' cls' hk => (freed.others _ _ _ hk).trans (fabric.buf ..), freed.cores.trans tallies.cores, freed.mem.trans tallies.mem⟩

/-- What a bad hop counts. -/
def Chip.badHopNoted (c : Chip) (k : Nat) : Chip := (c.bump (Reg.RT_BADHOP_CNT_COUNT k)).set (Reg.RT_IRQ_STATUS_BADHOP k)

theorem Chip.badHopNoted_spec (c : Chip) (k : Nat) :
    (c.badHopNoted k).get (Reg.RT_BADHOP_CNT_COUNT k) = counted c (Reg.RT_BADHOP_CNT_COUNT k) 1 ∧ (c.badHopNoted k).get (Reg.RT_IRQ_STATUS_BADHOP k) = 1 ∧
    OnlyRegs c (c.badHopNoted k) (fun a => a = Reg.RT_BADHOP_CNT k ∨ a = Reg.RT_IRQ_STATUS k) := by
  refine ⟨?_, Chip.get_put_fits _ _ _ (by simp [Reg.RT_IRQ_STATUS_BADHOP]), (OnlyRegs.bump c (Reg.RT_BADHOP_CNT_COUNT k) 1 _ (.inl rfl)).trans
    (OnlyRegs.set _ (Reg.RT_IRQ_STATUS_BADHOP k) _ (.inr rfl))⟩
  rw [Chip.badHopNoted, Chip.set, Chip.get_put_addr _ _ _ _ (by simp [Reg.RT_BADHOP_CNT_COUNT, Reg.RT_BADHOP_CNT, Reg.RT_IRQ_STATUS_BADHOP, Reg.RT_IRQ_STATUS]),
    Chip.get_bump _ _ _ (by simp [Reg.RT_BADHOP_CNT_COUNT])]

/-- A packet with a bad hop is gone: a request is answered, by a packet that moves up behind. -/
theorem Chip.badHop_freed {f : Flit} (hbuf : c.buf k input p.cls = f :: l) : HeadFreed k input p.cls (c.badHopNoted k) (c.badHop k input p) := by
  have freed := Chip.freeHead_freed (c := c.badHopNoted k) hbuf
  unfold Chip.badHop
  dsimp only
  split
  · exact freed.movedUp (MovedUp.originate k _ 4 _ _ _)
  · exact freed

end

theorem leaves_packetHop {s : State} {k : Cluster} {input : BitVec 5} {cls : BitVec 3} {t : Chip} (h : s.chip.packetHop k.toNat input.toNat cls.toNat = t) :
    Leaves (.packetHop k input cls) s t := leaves_of_act (f := (·.packetHop k.toNat input.toNat cls.toNat)) rfl h

theorem packetHopsHold : PacketHopsHold := by
  intro s k input cls p c kk ii h hon hhead hcls
  obtain ⟨l, hbuf⟩ := List.head?_eq_some_iff.mp hhead
  refine ⟨fun hh hstage hfrozen => ?_, fun k' hh hedge hk hroom => ?_, fun hh => ?_⟩
  · let d := c.setStage kk (p.dst % 16) cls.toNat (some { flit := .packet p.shift, slot := none })
    have hd : d.buf kk ii cls.toNat = c.buf kk ii cls.toNat := Chip.buf_setStage ..
    obtain ⟨hleft, hstaged, -, hcores, hmem⟩ := Chip.passed_spec (c := d) (p := p) (by rw [hcls]; exact hd.trans hbuf)
    rw [hcls, HeadLeft, hd] at hleft
    exact ⟨_, leaves_packetHop (Chip.packetHop_local hon hbuf hh hstage hfrozen), (hstaged ..).trans (Chip.staged_setStage_same ..), hleft, hcores, hmem⟩
  · have hne : k' ≠ kk := neighbour_ne hk
    let d := c.enter k' (arriveOn h) cls.toNat (.packet p.shift)
    have hd : d.buf kk ii cls.toNat = c.buf kk ii cls.toNat := Chip.buf_setBuf_other _ _ (.inl hne.symm)
    obtain ⟨hleft, -, hothers, hcores, hmem⟩ := Chip.passed_spec (c := d) (p := p) (by rw [hcls]; exact hd.trans hbuf)
    rw [hcls, HeadLeft, hd] at hleft
    exact ⟨_, leaves_packetHop (Chip.packetHop_mesh hon hbuf hh hedge hk hroom), (hothers _ _ _ hne).trans (Chip.buf_setBuf_same ..), hleft, hcores, hmem⟩
  · obtain ⟨hcount, hirq, noted⟩ := Chip.badHopNoted_spec c kk
    have freed := Chip.badHop_freed (p := p) (by rw [hcls]; exact hbuf)
    rw [hcls] at freed
    exact ⟨_, leaves_packetHop (Chip.packetHop_bad hon hbuf hh), (Chip.get_congr _ _ freed.regs _).trans hcount, (Chip.get_congr _ _ freed.regs _).trans hirq,
      freed.headLeft ((FabricKept.of_onlyRegs noted).buf ..), freed.cores.trans noted.cores, freed.mem.trans noted.mem⟩

/-! ## Delivery of a packet (R117, R478) -/

section
variable {c : Chip} {k port cls : Nat} {p : Packet} {sl : Option Nat}

/-- A packet of the active epoch for a slot that takes it is accepted there, while no swap is in progress. -/
theorem Chip.deliverPacket_accepts (hstage : c.staged k port cls = some { flit := .packet p, slot := sl })
    (hepoch : p.epoch = c.get (Reg.NI_MAP_STAT_EPOCH k)) (hslot : p.dslot < 17) (hfree : c.fenced (k * 32 + p.dslot) = false)
    (habs : c.absorbing (k * 32 + p.dslot) = false) (hseats : c.seats (k * 32 + p.dslot) = true) (hswap : c.swapping k = false) :
    c.deliverPacket k port cls = (c.setStage k port cls none).acceptPacket (k * 32 + p.dslot) p := by
  let d := c.setStage k port cls none
  have hseats' : d.seats (k * 32 + p.dslot) = true := by
    simp only [Chip.seats, show (k * 32 + p.dslot) / 32 = k by omega, hswap, Bool.false_and, Bool.or_false] at hseats ⊢
    simp only [show d.swapping k = false from hswap, Bool.false_and, Bool.or_false]
    exact hseats
  have hmoved : d.movedTo (k * 32 + p.dslot) p.dst = k * 32 + p.dslot := by
    rw [Chip.movedTo, if_neg]
    rw [Chip.oldSlot_of_settled (c := d) (by rw [show (k * 32 + p.dslot) / 32 = k by omega]; exact hswap)]
    decide
  have hepoch' : ¬ (p.epoch ≠ d.get (Reg.NI_MAP_STAT_EPOCH k) ∧ ¬ (d.swapping k ∧ p.epoch = d.get (Reg.NI_MAP_STAT_PREV_EPOCH k))) := fun h => h.1 hepoch
  have hheld : ¬ (d.fenced (k * 32 + p.dslot) = true ∨ d.absorbing (k * 32 + p.dslot) = true) := by
    rw [show d.fenced _ = false from hfree, show d.absorbing _ = false from habs]
    decide
  simp only [Chip.deliverPacket, hstage]
  rw [if_neg hepoch', if_neg (by omega), if_neg hheld, hseats', hmoved]
  simp

end

theorem packetDeliveryHold : PacketDeliveryHold := by
  intro s k port cls p sl c kk q hon hfrozen hstage hepoch hslot hfree habs hseats hswap hcls
  let d := c.setStage kk port.toNat cls.toNat none
  have leaves : ∀ {t}, d.acceptPacket q p = t → Leaves (.packetDeliver k port cls) s t := fun ht =>
    leaves_of_act (f := fun c => if c.routerOn k.toNat && !c.frozenPort (k.toNat * 16 + port.toNat) then c.deliverPacket k.toNat port.toNat cls.toNat else c) rfl
      ((if_pos (by rw [hon, hfrozen]; rfl)).trans ((Chip.deliverPacket_accepts hstage hepoch hslot hfree habs hseats hswap).trans ht))
  have hd : d.staged kk port.toNat cls.toNat = none := Chip.staged_setStage_same ..
  refine ⟨fun hgood => ?_, fun hbad => ?_⟩
  · have haccept : d.acceptPacket q p = d.modCore q (fun k => { k with arrived := k.arrived ++ [p] }) := by
      rw [Chip.acceptPacket, hgood, if_neg Bool.false_ne_true, if_neg hcls]
    exact ⟨_, leaves haccept, hd, Chip.core_modCore_same .., fun x hx => Chip.core_setCore_other _ _ _ _ hx, fun _ => rfl, rfl⟩
  · have haccept : d.acceptPacket q p = d.bump (Reg.NI_BAD_PKT_COUNT q) := by
      rw [Chip.acceptPacket, if_pos hbad]
      exact if_neg hcls
    have only := OnlyRegs.bump d (Reg.NI_BAD_PKT_COUNT q) 1 (· = Reg.NI_BAD_PKT q) rfl
    exact ⟨_, leaves haccept, hd, Chip.get_bump d _ _ (by simp [Reg.NI_BAD_PKT_COUNT]), rfl, rfl, only.2⟩

/-- Settles O16: a packet's hop by its kind, then its delivery. -/
theorem packetRouting : Obligations.PacketRouting := ⟨packetHopsHold, packetDeliveryHold⟩

end Sys2Proof.Machine
end

section
/-! SUPPORT. Swaps of the core map (O17). -/

namespace Sys2Proof.Machine

/-! ## A run of marks -/

/-- Setting a one-bit field in a run of registers sets it in each and changes no other register. -/
theorem Chip.foldl_set_spec (f : Nat → Reg.Fld) (hf : ∀ k, ((f k).lo ≤ (f k).hi && (f k).hi < 32 && 1 < 2 ^ ((f k).hi + 1 - (f k).lo) : Bool) = true)
    (hinj : ∀ j k, (f j).addr = (f k).addr → j = k) (l : List Nat) (c : Chip) :
    let t := l.foldl (fun c k => c.set (f k)) c
    (∀ j ∈ l, t.get (f j) = 1) ∧ OnlyRegs c t (fun a => ∃ j ∈ l, a = (f j).addr) := by
  induction l generalizing c with
  | nil => exact ⟨fun _ h => absurd h List.not_mem_nil, OnlyRegs.refl _ _⟩
  | cons x l ih =>
    obtain ⟨hset, only⟩ := ih (c.set (f x))
    refine ⟨fun j hj => ?_, (OnlyRegs.set c (f x) _ ⟨x, List.mem_cons_self .., rfl⟩).trans (only.mono fun a ⟨j, hj, ha⟩ => ⟨j, List.mem_cons_of_mem _ hj, ha⟩)⟩
    by_cases hjl : j ∈ l
    · exact hset j hjl
    · have hjx : j = x := (List.mem_cons.mp hj).resolve_right hjl
      refine (only.get _ fun ⟨y, hy, he⟩ => hjl (hinj _ _ he ▸ hy)).trans ?_
      rw [hjx]
      exact Chip.get_put_fits _ _ _ (hf x)

/-! ## Runs of registers dropped and written -/

theorem OnlyRegs.dropRegs (c : Chip) (q : Nat → Bool) : OnlyRegs c (c.dropRegs q) (fun a => q a = true) :=
  ⟨rfl, fun _ ha => Chip.rd_dropRegs_other _ _ _ (eq_false_of_ne_true ha)⟩

theorem OnlyRegs.foldl_wr (g : Nat → Nat) {P : Nat → Prop} (l : List (Nat × Word)) (c : Chip) (h : ∀ r ∈ l, P (g r.1)) :
    OnlyRegs c (l.foldl (fun c r => c.wr (g r.1) r.2) c) P := by
  induction l generalizing c with
  | nil => exact OnlyRegs.refl c P
  | cons r l ih => exact (OnlyRegs.wr c _ r.2 P (h r (List.mem_cons_self ..))).trans (ih _ fun x hx => h x (List.mem_cons_of_mem _ hx))

/-! ## One swap (R118) -/

section
variable (c : Chip) (k epoch : Nat)

theorem find_filter_kept {l : List (Nat × Word)} {q : Nat → Bool} {a : Nat} (h : q a = true) :
    (l.filter (fun r => q r.1)).find? (·.1 == a) = l.find? (·.1 == a) := by
  rw [List.find?_filter]
  refine congrArg (fun p => List.find? p l) (funext fun r => ?_)
  by_cases hr : r.1 = a
  · simp only [hr, h, BEq.rfl, decide_true, and_self]
  · simp only [beq_eq_false_iff_ne.mpr hr, Bool.false_eq_true, and_false, decide_false]

/-- Taking the shadow copy over changes the active copy alone. -/
theorem OnlyRegs.mapTaken : OnlyRegs c (c.mapTaken k) (fun a => inActive k a = true) := by
  refine (OnlyRegs.dropRegs c (inActive k)).trans (OnlyRegs.foldl_wr (· + 0x1000) _ _ fun r hr => ?_)
  have := inShadow_iff.mp (List.mem_filter.mp hr).2
  exact inActive_iff.mpr (by omega)

/-- The epochs that a swap writes: the new one, and the one that has been active. -/
theorem Chip.mapSwap_eq :
    ∃ d : Chip, d.regs = (c.mapTaken k).regs ∧ d.cores = (c.mapTaken k).cores ∧ d.mem = (c.mapTaken k).mem ∧
      c.mapSwap k epoch = ((d.put (Reg.NI_MAP_STAT_PREV_EPOCH k) (d.get (Reg.NI_MAP_STAT_EPOCH k))).put (Reg.NI_MAP_STAT_EPOCH k) epoch).put
        (Reg.NI_MAP_STAT_DRAINED k) 0 :=
  ⟨(c.mapTaken k).modRouter k (fun r => { r with prev := c.regs.filter (fun r => inActive k r.1) }), rfl, rfl, rfl, rfl⟩

theorem Chip.mapSwap_coresMem : (c.mapSwap k epoch).cores = c.cores ∧ (c.mapSwap k epoch).mem = c.mem := by
  obtain ⟨d, -, hcores, hmem, he⟩ := c.mapSwap_eq k epoch
  have only := OnlyRegs.mapTaken c k
  rw [he]
  exact ⟨hcores.trans only.cores, hmem.trans only.mem⟩

variable {c k epoch}

theorem swapped_mapSwap (hs : c.Sorted) (hk : k < 64) (hepoch : epoch < 16) : Swapped c (c.mapSwap k epoch) k epoch := by
  refine ⟨fun i hi => congrArg (wbits · 4 0) (c.mapSwap_active k epoch hs hk hi), ?_⟩
  obtain ⟨d, hregs, -, -, he⟩ := c.mapSwap_eq k epoch
  have hold : d.get (Reg.NI_MAP_STAT_EPOCH k) = c.get (Reg.NI_MAP_STAT_EPOCH k) := Chip.get_of_rd _ ((Chip.rd_congr _ _ hregs _).trans
    ((OnlyRegs.mapTaken c k).2 _ fun h => by have := inActive_iff.mp h; simp only [Reg.NI_MAP_STAT_EPOCH, Reg.NI_MAP_STAT] at this; omega))
  have hlt : c.get (Reg.NI_MAP_STAT_EPOCH k) < 16 := Chip.get_lt c _
  rw [he, hold]
  generalize c.get (Reg.NI_MAP_STAT_EPOCH k) = old at hlt
  refine ⟨?_, ?_, ?_⟩ <;>
  simp (disch := (refine id ?_; simp [hlt, hepoch, Reg.Fld.apart, Reg.NI_MAP_STAT_EPOCH, Reg.NI_MAP_STAT_PREV_EPOCH, Reg.NI_MAP_STAT_DRAINED]))
    only [Chip.get_put_apart, Chip.get_put_fits]

end

/-! ## The swap of every cluster (R118) -/

/-- Whether a cluster's map has been swapped is read off the registers of its map. -/
theorem swapped_congr {c c' t t' : Chip} {k epoch : Nat} (hc : ∀ a, MapRegs k a → c'.rd a = c.rd a) (ht : ∀ a, MapRegs k a → t'.rd a = t.rd a)
    (h : Swapped c t k epoch) : Swapped c' t' k epoch := by
  obtain ⟨hactive, hnew, hold, hdrained⟩ := h
  have hstat : MapRegs k (Reg.NI_MAP_STAT k) := by simp only [MapRegs, Reg.NI_MAP_STAT]; omega
  refine ⟨fun i hi => ?_, ?_, ?_, ?_⟩
  · have hshadow : c'.get (Reg.NI_MAP_SHADOW_SLOT k i) = c.get (Reg.NI_MAP_SHADOW_SLOT k i) :=
      Chip.get_of_rd _ (hc _ (by simp only [MapRegs, Reg.NI_MAP_SHADOW_SLOT, Reg.NI_MAP_SHADOW]; omega))
    exact (Chip.get_of_rd (Reg.NI_MAP_ACTIVE_SLOT k i) (ht _ (by simp only [MapRegs, Reg.NI_MAP_ACTIVE_SLOT, Reg.NI_MAP_ACTIVE]; omega))).trans
      ((hactive i hi).trans hshadow.symm)
  · exact (Chip.get_of_rd _ (ht _ hstat)).trans hnew
  · exact (Chip.get_of_rd _ (ht _ hstat)).trans (hold.trans (Chip.get_of_rd (Reg.NI_MAP_STAT_EPOCH k) (hc _ hstat)).symm)
  · exact (Chip.get_of_rd _ (ht _ hstat)).trans hdrained

/-- The swaps of a run of clusters swap the map of each. -/
theorem swapped_mapSwaps {epoch k : Nat} (hk : k < 64) (hepoch : epoch < 16) (l : List Nat) (c : Chip) (hs : c.Sorted) (hl : l.Nodup) (hmem : k ∈ l) :
    Swapped c (l.foldl (fun c k => c.mapSwap k epoch) c) k epoch := by
  induction l generalizing c with
  | nil => exact absurd hmem List.not_mem_nil
  | cons x l ih =>
    obtain ⟨hx, hl⟩ := List.nodup_cons.mp hl
    rw [List.foldl_cons]
    by_cases hkl : k ∈ l
    · refine swapped_congr (fun a ha => ?_) (fun _ _ => rfl) (ih (c.mapSwap x epoch) (c.mapSwap_sorted x epoch hs) hl hkl)
      exact (c.mapSwap_kept x epoch a fun h => hx (mapRegs_inj ha h ▸ hkl)).symm
    · obtain rfl : k = x := (List.mem_cons.mp hmem).resolve_right hkl
      refine swapped_congr (c := c) (fun _ _ => rfl) (fun a ha => ?_) (swapped_mapSwap hs hk hepoch)
      exact mapSwaps_kept l _ a fun ⟨y, hy, hya⟩ => hkl (mapRegs_inj hya ha ▸ hy)

theorem mapSwaps_coresMem (epoch : Nat) (l : List Nat) (c : Chip) :
    (l.foldl (fun c k => c.mapSwap k epoch) c).cores = c.cores ∧ (l.foldl (fun c k => c.mapSwap k epoch) c).mem = c.mem := by
  induction l generalizing c with
  | nil => exact ⟨rfl, rfl⟩
  | cons k l ih =>
    obtain ⟨hcores, hmem⟩ := c.mapSwap_coresMem k epoch
    obtain ⟨hcores', hmem'⟩ := ih (c.mapSwap k epoch)
    exact ⟨hcores'.trans hcores, hmem'.trans hmem⟩

/-! ## The end of a drain (R118) -/

/-- A register after a run of registers has been written `n` lower, each address once. -/
theorem Chip.rd_foldl_wr_lower (n : Nat) (l : List (Nat × Word)) (c : Chip) (a : Nat) (h : l.Pairwise (fun x y => x.1 < y.1)) (hn : ∀ r ∈ l, n ≤ r.1)
    (ha : n ≤ a) : (l.foldl (fun c r => c.wr (r.1 - n) r.2) c).rd (a - n) = match l.find? (·.1 == a) with | some r => r.2 | none => c.rd (a - n) := by
  have hmap : l.foldl (fun c r => c.wr (r.1 - n) r.2) c = (l.map (fun r => (r.1 - n, r.2))).foldl (fun c r => c.wr (r.1 + 0) r.2) c := by
    rw [List.foldl_map]; rfl
  have hsorted : (l.map (fun r => (r.1 - n, r.2))).Pairwise (fun x y => x.1 < y.1) :=
    List.pairwise_map.mpr (h.imp_of_mem fun {x y} hx hy hxy => by have := hn x hx; have := hn y hy; show x.1 - n < y.1 - n; omega)
  have hfind : ∀ r ∈ l, (r.1 - n == a - n) = (r.1 == a) := fun r hr => by
    have := hn r hr
    rw [Bool.eq_iff_iff, beq_iff_eq, beq_iff_eq]
    omega
  have hlower : (l.map (fun r => (r.1 - n, r.2))).find? (·.1 == a - n) = (l.find? (·.1 == a)).map (fun r => (r.1 - n, r.2)) := by
    rw [List.find?_map]
    exact congrArg _ (List.find?_congr hfind)
  rw [hmap, show a - n = a - n + 0 from rfl, Chip.rd_foldl_wr 0 _ _ _ hsorted, hlower]
  cases l.find? (·.1 == a) <;> rfl

section
variable (c : Chip) (k : Nat)

/-- The shadow copy of cluster `k`'s map, made equal to the active one. -/
def Chip.shadowMade : Chip := (c.regs.filter (fun r => inActive k r.1)).foldl (fun c r => c.wr (r.1 - 0x1000) r.2) (c.dropRegs (inShadow k))

theorem OnlyRegs.shadowMade : OnlyRegs c (c.shadowMade k) (fun a => inShadow k a = true) := by
  refine (OnlyRegs.dropRegs c (inShadow k)).trans (OnlyRegs.foldl_wr (· - 0x1000) _ _ fun r hr => ?_)
  have := inActive_iff.mp (List.mem_filter.mp hr).2
  exact inShadow_iff.mpr (by omega)

/-- The shadow copy holds what the active copy holds. -/
theorem Chip.shadowMade_shadow (hs : c.Sorted) {i : Nat} (hk : k < 64) (hi : i < 1024) :
    (c.shadowMade k).rd (Reg.NI_MAP_SHADOW k i) = c.rd (Reg.NI_MAP_ACTIVE k i) := by
  have haddr : Reg.NI_MAP_SHADOW k i = Reg.NI_MAP_ACTIVE k i - 0x1000 := by simp only [Reg.NI_MAP_ACTIVE, Reg.NI_MAP_SHADOW]; omega
  have hdropped : inShadow k (Reg.NI_MAP_SHADOW k i) = true := inShadow_iff.mpr (by simp only [Reg.NI_MAP_SHADOW]; omega)
  have hin : inActive k (Reg.NI_MAP_ACTIVE k i) = true := inActive_iff.mpr (by simp only [Reg.NI_MAP_ACTIVE]; omega)
  have hlow : ∀ r ∈ c.regs.filter (fun r => inActive k r.1), 0x1000 ≤ r.1 := fun r hr => by
    have := inActive_iff.mp (List.mem_filter.mp hr).2
    omega
  rw [haddr, Chip.shadowMade, Chip.rd_foldl_wr_lower _ _ _ _ (hs.filter _) hlow (by simp only [Reg.NI_MAP_ACTIVE]; omega), find_filter_kept hin, ← haddr,
    Chip.rd_dropRegs_dropped _ _ _ hdropped, regReset_shadowMap k i hk hi]
  rfl

/-- With no start waiting for the end of the swap, its end starts nothing. -/
theorem Chip.finishReloads_nil {c : Chip} (h : c.fw.reloads = []) : c.finishReloads = c := by
  have hsame : ({ c with fw := { c.fw with reloads := [] } } : Chip) = c := by rw [← h]
  rw [Chip.finishReloads, h, List.foldl_nil, hsame, ite_self]

/-- The end of a drain while no rotation step and no start waits for it. -/
theorem Chip.drainDone_eq {c : Chip} {k : Nat} (hrot : c.rotPhase ≠ 4) (hreloads : c.fw.reloads = []) :
    ∃ d : Chip, d.regs = (c.shadowMade k).regs ∧ d.cores = c.cores ∧ d.mem = c.mem ∧ c.drainDone k = d.put (Reg.NI_MAP_STAT_DRAINED k) 1 := by
  have only := OnlyRegs.shadowMade c k
  let d := (c.shadowMade k).modRouter k (fun r => { r with prev := [] })
  let t := d.put (Reg.NI_MAP_STAT_DRAINED k) 1
  have hphase : t.rotPhase = c.rotPhase := by
    refine (Chip.get_put_addr d _ Reg.DMAP_ROT_STAT_PHASE 1 ?_).trans (Chip.get_of_rd Reg.DMAP_ROT_STAT_PHASE (only.2 _ fun h => ?_))
    · simp only [Reg.DMAP_ROT_STAT_PHASE, Reg.DMAP_ROT_STAT, Reg.NI_MAP_STAT_DRAINED, Reg.NI_MAP_STAT]; omega
    · have := inShadow_iff.mp h
      simp only [Reg.DMAP_ROT_STAT_PHASE, Reg.DMAP_ROT_STAT] at this
      omega
  have hdone : c.drainDone k = if t.allDrained then (if t.rotPhase = 4 then t.rotMerge else t).finishReloads else t := rfl
  refine ⟨d, rfl, only.cores, only.mem, ?_⟩
  rw [hdone, hphase, if_neg hrot, Chip.finishReloads_nil (c := t) ((congrArg Fw.reloads only.fw).trans hreloads), ite_self]

end

/-! ## DRAIN_LATE (R119) -/

/-- The clusters whose drain has lasted too long and that are not marked yet, the lowest first. -/
def Chip.drainsLate (c : Chip) : List Nat := (List.range c.clusters).filter (fun k => c.swapping k && c.get (Reg.NI_MAP_STAT_DRAIN_LATE k) == 0)

theorem Chip.mem_drainsLate {c : Chip} {k : Nat} : k ∈ c.drainsLate ↔ k < c.clusters ∧ c.swapping k = true ∧ c.get (Reg.NI_MAP_STAT_DRAIN_LATE k) = 0 := by
  rw [Chip.drainsLate, List.mem_filter, List.mem_range, Bool.and_eq_true, beq_iff_eq]

def Chip.markLate (c : Chip) (l : List Nat) : Chip := l.foldl (fun c k => c.set (Reg.NI_MAP_STAT_DRAIN_LATE k)) c

theorem leaves_drainLate {s : State} {j : Nat} {rest : List Nat} (h : s.chip.drainsLate = j :: rest) :
    Leaves .drainLate s ((s.chip.markLate (j :: rest)).notify 0x0008 OK j (s.chip.get (Reg.NI_MAP_STAT_EPOCH j)) 0) := by
  have hrun : ∀ l, s.chip.drainsLate = l → exec .drainLate s = .next { s with chip := match l with
      | [] => s.chip
      | k :: _ => (s.chip.markLate l).notify 0x0008 OK k (s.chip.get (Reg.NI_MAP_STAT_EPOCH k)) 0 } := by
    rintro l rfl
    rfl
  exact hrun _ h

theorem stat_inj (j k : Nat) (h : Reg.NI_MAP_STAT j = Reg.NI_MAP_STAT k) : j = k := by
  simp only [Reg.NI_MAP_STAT] at h
  omega

/-- The drains that are late are marked, and the lowest of them is reported. -/
theorem drainLate_spec {s : State} {k : Nat} (hk : k < s.chip.clusters) (hswap : s.chip.swapping k = true) (hlate : s.chip.get (Reg.NI_MAP_STAT_DRAIN_LATE k) = 0) :
    let c := s.chip
    ∃ t j e, Leaves .drainLate s t ∧ (∀ x, x < c.clusters → c.swapping x = true → t.get (Reg.NI_MAP_STAT_DRAIN_LATE x) = 1) ∧
      t.fw.log = c.fw.log ++ [e] ∧ e.code = 0x0008 ∧ e.subject = j ∧ c.swapping j = true ∧ ∀ x, x < j → c.swapping x = true →
        c.get (Reg.NI_MAP_STAT_DRAIN_LATE x) = 1 := by
  intro c
  have one : ∀ x, c.get (Reg.NI_MAP_STAT_DRAIN_LATE x) ≠ 0 → c.get (Reg.NI_MAP_STAT_DRAIN_LATE x) = 1 := fun x h => by
    have : c.get (Reg.NI_MAP_STAT_DRAIN_LATE x) < 2 := Chip.get_lt c _
    omega
  obtain ⟨j, rest, hlist⟩ : ∃ j rest, c.drainsLate = j :: rest := by
    cases h : c.drainsLate with
    | nil => exact absurd (h ▸ Chip.mem_drainsLate.mpr ⟨hk, hswap, hlate⟩) List.not_mem_nil
    | cons j rest => exact ⟨j, rest, rfl⟩
  obtain ⟨hset, only⟩ := Chip.foldl_set_spec Reg.NI_MAP_STAT_DRAIN_LATE (fun _ => rfl) stat_inj (j :: rest) c
  obtain ⟨hregs, hlog⟩ := (c.markLate (j :: rest)).notify_kept 0x0008 OK j (c.get (Reg.NI_MAP_STAT_EPOCH j)) 0
  obtain ⟨hj, hjswap, -⟩ := Chip.mem_drainsLate.mp (hlist ▸ List.mem_cons_self .. : j ∈ c.drainsLate)
  have hmarked : ∀ x, ((c.markLate (j :: rest)).notify 0x0008 OK j (c.get (Reg.NI_MAP_STAT_EPOCH j)) 0).get (Reg.NI_MAP_STAT_DRAIN_LATE x) =
      (c.markLate (j :: rest)).get (Reg.NI_MAP_STAT_DRAIN_LATE x) := fun x =>
    Chip.get_of_rd _ (hregs _ (by simp only [Reg.NI_MAP_STAT_DRAIN_LATE, Reg.NI_MAP_STAT, Reg.HIF_NQ_TAIL]; omega))
  refine ⟨_, j, ⟨0x0008, j, c.get (Reg.NI_MAP_STAT_EPOCH j) + 0 * 2 ^ 32, false, (c.markLate (j :: rest)).time⟩, leaves_drainLate hlist, fun x hx hxswap => (hmarked x).trans ?_, hlog.trans ?_, rfl, rfl, hjswap, fun x hx hxswap => one x fun h0 => ?_⟩
  · by_cases hx0 : c.get (Reg.NI_MAP_STAT_DRAIN_LATE x) = 0
    · exact hset x (hlist ▸ Chip.mem_drainsLate.mpr ⟨hx, hxswap, hx0⟩)
    · refine (only.get _ fun ⟨y, hy, he⟩ => hx0 ?_).trans (one x hx0)
      rw [stat_inj x y he]
      exact (Chip.mem_drainsLate.mp (hlist ▸ hy)).2.2
  · rw [show (c.markLate (j :: rest)).fw = c.fw from only.fw]
  · have hxl : x ∈ j :: rest := hlist ▸ Chip.mem_drainsLate.mpr ⟨Nat.lt_trans hx hj, hxswap, h0⟩
    have hrise : (j :: rest).Pairwise (· < ·) := hlist ▸ List.pairwise_lt_range.filter _
    rcases List.mem_cons.mp hxl with rfl | hxr
    · exact Nat.lt_irrefl _ hx
    · exact Nat.lt_asymm hx ((List.pairwise_cons.mp hrise).1 x hxr)

/-! ## The commands -/

section
variable {s : State} {k : Cluster} {epoch : BitVec 4}

theorem leaves_niMapCtrlSwap {t : Chip} (hk : k.toNat < s.chip.clusters)
    (h : (if s.chip.swapping k.toNat then s.chip.set (Reg.NI_MAP_STAT_SWAP_REJ k.toNat) else s.chip.mapSwap k.toNat epoch.toNat) = t) :
    Leaves (.niMapCtrlSwap k epoch) s t := leaves_of_act (f := (·.mapCtrlSwap k.toNat epoch.toNat)) rfl ((if_pos hk).trans h)

theorem leaves_niMapBcastSwap {t : Chip}
    (h : (if (List.range s.chip.clusters).any s.chip.swapping then (List.range s.chip.clusters).foldl (fun c k => c.set (Reg.NI_MAP_STAT_SWAP_REJ k)) s.chip
      else (List.range s.chip.clusters).foldl (fun c k => c.mapSwap k epoch.toNat) s.chip) = t) :
    Leaves (.niMapBcastSwap epoch) s t := leaves_of_act (f := (·.mapBcastSwap epoch.toNat)) rfl h

theorem leaves_mapDrainDone {t : Chip} (hk : k.toNat < s.chip.clusters) (hswap : s.chip.swapping k.toNat = true) (hold : s.chip.oldPackets k.toNat = false)
    (h : s.chip.drainDone k.toNat = t) : Leaves (.mapDrainDone k) s t :=
  leaves_of_act (f := fun c => if k.toNat < c.clusters ∧ c.swapping k.toNat ∧ c.oldPackets k.toNat = false then c.drainDone k.toNat else c) rfl
    ((if_pos ⟨hk, hswap, hold⟩).trans h)

end

/-- Settles O17: a swap of one map, of every map, the end of a drain, drains that are late. -/
theorem mapSwaps : Obligations.MapSwaps := by
  intro s k epoch c kk hwf
  have hsorted : c.Sorted := hwf.1
  have h64 : ∀ {j}, j < c.clusters → j < 64 := fun h => Nat.lt_of_lt_of_le h c.clusters_le
  have hepoch : epoch.toNat < 16 := epoch.isLt
  refine ⟨fun hk => ⟨fun hswap => ?_, fun hswap => ?_⟩, fun hnone => ?_, fun hk hswap => ?_, fun hk hswap hold hrot hreloads => ?_,
    fun hk hswap hlate => drainLate_spec hk hswap hlate⟩
  · exact ⟨_, leaves_niMapCtrlSwap hk (if_neg (by rw [hswap]; decide)), swapped_mapSwap hsorted (h64 hk) hepoch, c.mapSwap_coresMem kk epoch.toNat⟩
  · exact ⟨_, leaves_niMapCtrlSwap hk (if_pos hswap), Chip.get_put_fits _ _ _ rfl, OnlyRegs.set c (Reg.NI_MAP_STAT_SWAP_REJ kk) _ rfl⟩
  · have hany : ¬ (List.range c.clusters).any c.swapping = true := by
      rw [List.any_eq_true]
      rintro ⟨j, hj, hswap⟩
      rw [hnone j (List.mem_range.mp hj)] at hswap
      cases hswap
    exact ⟨_, leaves_niMapBcastSwap (if_neg hany),
      fun j hj => swapped_mapSwaps (h64 hj) hepoch _ c hsorted List.nodup_range (List.mem_range.mpr hj), mapSwaps_coresMem epoch.toNat _ c⟩
  · have hany : (List.range c.clusters).any c.swapping = true := List.any_eq_true.mpr ⟨kk, List.mem_range.mpr hk, hswap⟩
    obtain ⟨hset, only⟩ := Chip.foldl_set_spec Reg.NI_MAP_STAT_SWAP_REJ (fun _ => rfl) stat_inj (List.range c.clusters) c
    exact ⟨_, leaves_niMapBcastSwap (if_pos hany), fun j hj => hset j (List.mem_range.mpr hj), only.mono fun a ⟨j, hj, ha⟩ => ⟨j, List.mem_range.mp hj, ha⟩⟩
  · obtain ⟨d, hregs, hcores, hmem, hdone⟩ := Chip.drainDone_eq (k := kk) hrot hreloads
    have hrd : ∀ a, a ≠ Reg.NI_MAP_STAT kk → (c.drainDone kk).rd a = (c.shadowMade kk).rd a := fun a ha => by
      rw [hdone, Chip.rd_put_other _ _ _ _ ha, Chip.rd_congr _ _ hregs]
    refine ⟨_, leaves_mapDrainDone hk hswap hold rfl, fun i hi => ?_, fun i hi => ?_, ?_, ?_, ?_⟩
    · refine congrArg (wbits · 4 0) ((hrd _ ?_).trans (c.shadowMade_shadow kk hsorted (h64 hk) hi))
      simp only [Reg.NI_MAP_SHADOW_SLOT, Reg.NI_MAP_SHADOW, Reg.NI_MAP_STAT]; omega
    · refine Chip.get_of_rd (Reg.NI_MAP_ACTIVE_SLOT kk i) ((hrd _ ?_).trans ((OnlyRegs.shadowMade c kk).2 _ fun h => ?_))
      · simp only [Reg.NI_MAP_ACTIVE_SLOT, Reg.NI_MAP_ACTIVE, Reg.NI_MAP_STAT]; omega
      · have := inShadow_iff.mp h
        simp only [Reg.NI_MAP_ACTIVE_SLOT, Reg.NI_MAP_ACTIVE] at this
        omega
    · rw [hdone]; exact Chip.get_put_fits _ _ _ rfl
    · rw [hdone]; exact hcores
    · rw [hdone]; exact hmem

end Sys2Proof.Machine
end

section
/-! SUPPORT. RLD and RST: the request that is sent, and where none is (O9). -/

namespace Sys2Proof.Machine

/-! ## The fields of a packet that a core injects -/

theorem mkFlit1_src (src dst tag op : Nat) (data : Word) : dbits (mkFlit1 src dst tag op data) 9 0 = src % 1024 := by
  have hdata := data.isLt
  rw [dbits, mkFlit1, BitVec.toNat_ofNat]
  omega

theorem mkFlit1_tag (src dst tag op : Nat) (data : Word) : dbits (mkFlit1 src dst tag op data) 23 20 = tag % 16 := by
  have hdata := data.isLt
  rw [dbits, mkFlit1, BitVec.toNat_ofNat]
  omega

/-- The packet that `Chip.inject` makes (R98). -/
def Chip.injected (c : Chip) (i cls : Nat) (route : BitVec 48) (dst tag op : Nat) (data : Word) (more : List DWord) : Packet :=
  let exits := pathExits (cy (i / 16)) ((List.range 16).map (hop route))
  let dst := if exits then 0x3FF else dst
  { hdr := mkHdr route cls false exits (if exits then 0 else c.activeSlot (i / 16) dst) (c.get (Reg.NI_MAP_STAT_EPOCH (i / 16))) more.length,
    body := mkFlit1 i dst tag op data :: more }

theorem Chip.inject_eq (c : Chip) (s i cls : Nat) (route : BitVec 48) (dst tag op : Nat) (data : Word) (more : List DWord) :
    c.inject s i cls route dst tag op data more = (c.put (Reg.NI_STAT_EPOCH s) (c.get (Reg.NI_MAP_STAT_EPOCH (i / 16)))).enter (i / 16) (i % 16) cls
      (.packet (c.injected i cls route dst tag op data more)) := rfl

section
variable (c : Chip) (i cls : Nat) (route : BitVec 48) (dst tag op : Nat) (data : Word) (more : List DWord)

theorem Chip.injected_cls (h : cls < 8) : (c.injected i cls route dst tag op data more).cls = cls := by
  rw [Packet.cls, Chip.injected, dbits_mkHdr_cls _ _ _ _ _ _ _ h]

theorem Chip.injected_flit1 :
    (c.injected i cls route dst tag op data more).flit 1 = mkFlit1 i (if pathExits (cy (i / 16)) ((List.range 16).map (hop route)) then 0x3FF else dst) tag op data := rfl

theorem Chip.injected_tag (h : tag < 16) : (c.injected i cls route dst tag op data more).tag = tag := by
  rw [Packet.tag, Chip.injected_flit1, mkFlit1_tag, Nat.mod_eq_of_lt h]

theorem Chip.injected_src (h : i < 1024) : (c.injected i cls route dst tag op data more).src = i := by
  rw [Packet.src, Chip.injected_flit1, mkFlit1_src, Nat.mod_eq_of_lt h]

theorem Chip.injected_op (h : op < 256) : (c.injected i cls route dst tag op data more).op = op := by
  rw [Packet.op, Chip.injected_flit1, mkFlit1_op, Nat.mod_eq_of_lt h]

theorem Chip.injected_data : (c.injected i cls route dst tag op data more).data = data := by
  rw [Packet.data, Chip.injected_flit1, mkFlit1_data]

end

/-- The tags are the numbers below 16 (R115). -/
theorem Core.freeTag_lt {k : Core} {tag : Nat} (h : k.freeTag = some tag) : tag < 16 :=
  List.mem_range.mp (List.mem_of_find?_eq_some h)

/-! ## The access (R167, R168) -/

/-- The request that RLD and RST leave in the core's list. -/
def remoteRequest (load : Bool) (c : Chip) (p : Nat) (d a b : BitVec 5) (f : BitVec 11) (tag : Nat) : Request :=
  ⟨tag, load, d.toNat, 2 ^ (f.toNat % 4), f.toNat / 4 == 1, remoteAddr c p a b, c.get (Reg.NI_CFG_REQ_TO p), false⟩

/-- The packet of a request of core `i`. -/
def RemotePacket (load : Bool) (c : Chip) (p i : Nat) (a b : BitVec 5) (f : BitVec 11) (tag : Nat) (pk : Packet) : Prop :=
  pk.cls = 3 ∧ pk.tag = tag ∧ pk.src = i ∧ pk.op = (if load then 0 else 1) + f.toNat % 4 * 2 ∧ pk.data = c.greg p a.toNat ∧
    pk.flit 2 = BitVec.ofNat 64 ((remoteAddr c p a b).toNat / 2 ^ 32)

/-- The block with the packet in the router and the request in the core's list. -/
def Chip.requestMade (c : Chip) (p i : Nat) (q : Request) (pk : Packet) : Chip :=
  ((c.put (Reg.NI_STAT_EPOCH p) (c.get (Reg.NI_MAP_STAT_EPOCH (i / 16)))).enter (i / 16) (i % 16) 3 (.packet pk)).modCore p
    (fun k => { k with reqs := k.reqs ++ [q] })

/-- The block after the request has been sent, and counted (R425). -/
def Chip.requestSent (c : Chip) (p i : Nat) (q : Request) (pk : Packet) : Chip := (c.requestMade p i q pk).tallyCore p 0x25

section
variable {load : Bool} {c : Chip} {p i op tag : Nat} {d a b : BitVec 5} {f : BitVec 11}

theorem semRemote_sends (hi : i < 1024) (hf : f.toNat < 8) (hsel : f.toNat % 4 ≠ 3) (hb : (c.greg p b.toNat).toNat < 2 ^ 16)
    (halign : (remoteAddr c p a b).toNat % 2 ^ (f.toNat % 4) = 0) (htag : (c.core p).freeTag = some tag)
    (hpath : pathCheck c (i / 16) (routeTo i (winCore (remoteAddr c p a b).toNat)) = OK) (hroom : c.room (i / 16) (i % 16) 3 = true) :
    ∃ pk, RemotePacket load c p i a b f tag pk ∧
      semRemote load c p i (rWord op d a b f) = .done (c.requestSent p i (remoteRequest load c p d a b f tag) pk) := by
  obtain ⟨hD, hA, hB, hF⟩ := rWord_fields op d a b f
  have hlegal : ¬ (f.toNat % 4 = 3 ∨ f.toNat / 8 ≠ 0) := by omega
  have htop : ¬ wbits (c.greg p b.toNat) 31 16 ≠ 0 := not_not.mpr ((wbits_top_eq_zero_iff _ 16 (by decide)).mpr hb)
  have hsigned : bit f.toNat 2 = (f.toNat / 4 == 1) := by
    rw [bit, Nat.mod_eq_of_lt (by omega : f.toNat / 2 ^ 2 < 2)]; rfl
  have hop : (if load then 0 else 1) + f.toNat % 4 * 2 < 256 := by split <;> omega
  refine ⟨c.injected i 3 (routeTo i (winCore (remoteAddr c p a b).toNat)) ((winCore (remoteAddr c p a b).toNat).getD 0x3FF) tag
    ((if load then 0 else 1) + f.toNat % 4 * 2) (c.greg p a.toNat) (BitVec.ofNat 64 ((remoteAddr c p a b).toNat / 2 ^ 32) ::
      (if load then [] else dataFlits (remoteAddr c p a b).toNat (2 ^ (f.toNat % 4)) (c.greg p d.toNat))), ⟨Chip.injected_cls _ _ _ _ _ _ _ _ _ (by decide),
    Chip.injected_tag _ _ _ _ _ _ _ _ _ (Core.freeTag_lt htag), Chip.injected_src _ _ _ _ _ _ _ _ _ hi, Chip.injected_op _ _ _ _ _ _ _ _ _ hop,
    Chip.injected_data .., rfl⟩, ?_⟩
  have haddr : (c.greg p b.toNat).extractLsb' 0 16 ++ c.greg p a.toNat = remoteAddr c p a b := rfl
  simp only [semRemote, hD, hA, hB, hF, if_neg hlegal, htag, if_neg htop, haddr, halign, ne_eq, not_true_eq_false, if_false, hpath, hroom,
    Bool.not_true, Bool.false_eq_true, hsigned, Chip.inject_eq]
  rfl

theorem semRemote_illegal (h : f.toNat % 4 = 3 ∨ 8 ≤ f.toNat) :
    semRemote load c p i (rWord op d a b f) = illegal c (rWord op d a b f) := by
  obtain ⟨-, -, -, hF⟩ := rWord_fields op d a b f
  rw [semRemote, hF, if_pos (by omega)]

theorem semRemote_noTag (hf : f.toNat < 8) (hsel : f.toNat % 4 ≠ 3) (htag : (c.core p).freeTag = none) :
    semRemote load c p i (rWord op d a b f) = .stall c := by
  obtain ⟨-, -, -, hF⟩ := rWord_fields op d a b f
  rw [semRemote, hF, if_neg (by omega), htag]

theorem semRemote_beyond (hf : f.toNat < 8) (hsel : f.toNat % 4 ≠ 3) (htag : (c.core p).freeTag = some tag)
    (hb : 2 ^ 16 ≤ (c.greg p b.toNat).toNat) : semRemote load c p i (rWord op d a b f) = illegal c (rWord op d a b f) := by
  obtain ⟨-, -, hB, hF⟩ := rWord_fields op d a b f
  have htop : wbits (c.greg p b.toNat) 31 16 ≠ 0 := mt (wbits_top_eq_zero_iff _ 16 (by decide)).mp (Nat.not_lt.mpr hb)
  simp only [semRemote, hF, hB, if_neg (show ¬ (f.toNat % 4 = 3 ∨ f.toNat / 8 ≠ 0) by omega), htag, if_pos htop]

theorem semRemote_unaligned (hf : f.toNat < 8) (hsel : f.toNat % 4 ≠ 3) (htag : (c.core p).freeTag = some tag)
    (hb : (c.greg p b.toNat).toNat < 2 ^ 16) (halign : (remoteAddr c p a b).toNat % 2 ^ (f.toNat % 4) ≠ 0) :
    semRemote load c p i (rWord op d a b f) = .trap c MISALIGN (c.greg p a.toNat).toNat 0 := by
  obtain ⟨-, hA, hB, hF⟩ := rWord_fields op d a b f
  have htop : ¬ wbits (c.greg p b.toNat) 31 16 ≠ 0 := not_not.mpr ((wbits_top_eq_zero_iff _ 16 (by decide)).mpr hb)
  rw [remoteAddr] at halign
  simp only [semRemote, hF, hA, hB, if_neg (show ¬ (f.toNat % 4 = 3 ∨ f.toNat / 8 ≠ 0) by omega), htag, if_neg htop, if_pos halign]

end

/-! ## The block after the request -/

section
variable (c : Chip) (p i : Nat) (q : Request) (pk : Packet)

theorem OnlyRegs.requestSent : OnlyRegs (c.requestMade p i q pk) (c.requestSent p i q pk) (PmonOf p) :=
  OnlyRegs.tallyCore _ p 0x25 1 _ fun _ h => h

theorem Chip.rd_requestMade (y : Nat) :
    (c.requestMade p i q pk).rd y = (c.put (Reg.NI_STAT_EPOCH p) (c.get (Reg.NI_MAP_STAT_EPOCH (i / 16)))).rd y := rfl

theorem Chip.requestSent_regs : RegsKept c (c.requestSent p i q pk) (fun y => y = Reg.NI_STAT p ∨ PmonOf p y) := fun y hy => by
  rw [(OnlyRegs.requestSent c p i q pk).2 y fun h => hy (.inr h), Chip.rd_requestMade, Chip.rd_put_other _ _ _ _ fun h => hy (.inl h)]

theorem Chip.requestSent_core : (c.requestSent p i q pk).core p = { c.core p with reqs := (c.core p).reqs ++ [q] } := by
  rw [(OnlyRegs.requestSent c p i q pk).core, Chip.requestMade, Chip.core_modCore_same]
  rfl

theorem Chip.requestSent_core_other {r : Nat} (hr : r ≠ p) : (c.requestSent p i q pk).core r = c.core r := by
  rw [(OnlyRegs.requestSent c p i q pk).core, Chip.requestMade, Chip.modCore, Chip.core_setCore_other _ _ _ _ hr]
  rfl

theorem Chip.requestSent_rest :
    { c.requestSent p i q pk with regs := c.regs, cores := c.cores, routers := c.routers } = c :=
  congrArg (fun x : Chip => { x with regs := c.regs, cores := c.cores, routers := c.routers }) (OnlyRegs.requestSent c p i q pk).1

theorem packetEnters_requestSent {P : Packet → Prop} (h : P pk) : PacketEnters c (c.requestSent p i q pk) (i / 16) (i % 16) 3 P := by
  have hbuf := (FabricKept.of_onlyRegs (OnlyRegs.requestSent c p i q pk)).buf
  refine ⟨⟨pk, h, (hbuf _ _ _).trans (Chip.buf_setBuf_same ..)⟩, fun k' input' cls' _ hcls' _ hne => (hbuf _ _ _).trans ?_⟩
  exact Chip.buf_setBuf_other (c.put (Reg.NI_STAT_EPOCH p) (c.get (Reg.NI_MAP_STAT_EPOCH (i / 16)))) _ (by omega)

end

/-! ## The instructions -/

/-- RLD or RST. -/
def remoteInstr (load : Bool) (i : CoreId) (d a b : BitVec 5) (f : BitVec 11) : Instr := if load then .rld i d a b f else .rst i d a b f

theorem exec_remoteInstr (load : Bool) (i : CoreId) (d a b : BitVec 5) (f : BitVec 11) (s : State) :
    exec (remoteInstr load i d a b f) s = act (·.runInstr i.toNat (rWord (if load then 0x18 else 0x19) d a b f) (semRemote load)) s := by
  cases load <;> rfl

theorem remoteRequestsHold : RemoteRequestsHold := by
  intro load s i d a b f tag p ins x sel free hf hsel hb halign htag hpath hroom
  obtain ⟨pk, hpk, hsem⟩ := semRemote_sends (load := load) (op := if load then 0x18 else 0x19) (d := d) i.isLt hf hsel hb halign htag hpath hroom
  have hregs := s.chip.requestSent_regs p i.toNat (remoteRequest load s.chip p d a b f tag) pk
  have hcore := s.chip.requestSent_core p i.toNat (remoteRequest load s.chip p d a b f tag) pk
  refine ⟨_, inSequence_of_kept (exec_remoteInstr load i d a b f s) free hsem hregs ?_ ?_ (by rw [hcore]), hcore,
    fun r hr => Chip.requestSent_core_other _ _ _ _ _ hr, hregs, packetEnters_requestSent _ _ _ _ _ hpk, Chip.requestSent_rest ..⟩
  · exact not_or.mpr ⟨by simp only [p, Reg.CORE_PC, Reg.NI_STAT]; omega, not_pmonOf_pc p⟩
  · exact not_or.mpr ⟨by simp only [p, Reg.CORE_STAT, Reg.NI_STAT]; omega, not_pmonOf_stat p⟩

theorem remoteRequestsRefusedHold : RemoteRequestsRefusedHold := by
  intro load s i d a b f p ins w free
  have hex := exec_remoteInstr load i d a b f s
  refine ⟨fun h takes => traps_of_illegal hex free (semRemote_illegal h) takes, fun hsel hf =>
    ⟨fun hnone => waits_of_stall hex free (semRemote_noTag hf hsel hnone), fun hsome takes => ?_⟩⟩
  obtain ⟨tag, htag⟩ := Option.ne_none_iff_exists'.mp hsome
  refine ⟨fun hb => traps_of_illegal hex free (semRemote_beyond hf hsel htag hb) takes, fun hb halign => ?_⟩
  have h := traps_of_trap hex free (semRemote_unaligned hf hsel htag hb halign) (by decide) (by decide) takes
  rwa [BitVec.ofNat_toNat, BitVec.setWidth_eq] at h

/-- Settles O9: requests to remote memory, sent or refused. -/
theorem remoteAccesses : Obligations.RemoteAccesses := ⟨remoteRequestsHold, remoteRequestsRefusedHold⟩

end Sys2Proof.Machine
end

section
/-! SUPPORT. How requests end; fences, WARM and NEHOLD (O10). -/

namespace Sys2Proof.Machine

/-- The one element of a list that meets a test is the one found. -/
theorem find?_eq_of_unique {α : Type} {l : List α} {f : α → Bool} {x : α} (hx : x ∈ l) (hfx : f x = true) (huniq : ∀ y ∈ l, f y = true → y = x) :
    l.find? f = some x := by
  cases h : l.find? f with
  | none => exact absurd hfx (List.find?_eq_none.mp h x hx)
  | some y => rw [huniq y (List.mem_of_find?_eq_some h) (List.find?_some h)]

/-! ## Accesses that fail (R168) -/

/-- The block with a failed access in CORE_MEMERR and CORE_EINFO. -/
def Chip.memerr (c : Chip) (p st : Nat) (a : BitVec 48) : Chip :=
  (((c.put (Reg.CORE_MEMERR_STATUS p) st).put (Reg.CORE_MEMERR_ADDR_HI p) (a.toNat / 2 ^ 32)).bump (Reg.CORE_MEMERR_COUNT p)).wr (Reg.CORE_EINFO p)
    (BitVec.ofNat 32 a.toNat)

section
variable {c : Chip} {p st : Nat} {a : BitVec 48}

theorem Chip.get_memerr {f : Reg.Fld} (hf : f.addr ≠ Reg.CORE_EINFO p) : (c.memerr p st a).get f =
    (((c.put (Reg.CORE_MEMERR_STATUS p) st).put (Reg.CORE_MEMERR_ADDR_HI p) (a.toNat / 2 ^ 32)).bump (Reg.CORE_MEMERR_COUNT p)).get f :=
  Chip.get_of_rd f (Chip.rd_wr_other _ _ _ _ hf)

theorem memerr_ne_einfo (p : Nat) : Reg.CORE_MEMERR p ≠ Reg.CORE_EINFO p := by simp only [Reg.CORE_MEMERR, Reg.CORE_EINFO]; omega

theorem Chip.memerr_status (h : st < 256) : (c.memerr p st a).get (Reg.CORE_MEMERR_STATUS p) = st := by
  rw [Chip.get_memerr (memerr_ne_einfo p), Chip.bump, Chip.get_put_apart _ _ _ _ (by simp [Reg.Fld.apart, Reg.CORE_MEMERR_COUNT, Reg.CORE_MEMERR_STATUS]),
    Chip.get_put_apart _ _ _ _ (by simp [Reg.Fld.apart, Reg.CORE_MEMERR_ADDR_HI, Reg.CORE_MEMERR_STATUS]),
    Chip.get_put_fits _ _ _ (by simpa [Reg.CORE_MEMERR_STATUS] using h)]

theorem Chip.memerr_addrHi : (c.memerr p st a).get (Reg.CORE_MEMERR_ADDR_HI p) = a.toNat / 2 ^ 32 := by
  have ha : a.toNat / 2 ^ 32 < 65536 := by have := a.isLt; omega
  rw [Chip.get_memerr (memerr_ne_einfo p), Chip.bump, Chip.get_put_apart _ _ _ _ (by simp [Reg.Fld.apart, Reg.CORE_MEMERR_COUNT, Reg.CORE_MEMERR_ADDR_HI]),
    Chip.get_put_fits _ (Reg.CORE_MEMERR_ADDR_HI p) _ (decide_eq_true ha)]

theorem Chip.memerr_count : (c.memerr p st a).get (Reg.CORE_MEMERR_COUNT p) = counted c (Reg.CORE_MEMERR_COUNT p) 1 := by
  rw [Chip.get_memerr (memerr_ne_einfo p), Chip.get_bump _ _ _ rfl, counted, counted,
    Chip.get_put_apart _ _ _ _ (by simp [Reg.Fld.apart, Reg.CORE_MEMERR_COUNT, Reg.CORE_MEMERR_ADDR_HI]),
    Chip.get_put_apart _ _ _ _ (by simp [Reg.Fld.apart, Reg.CORE_MEMERR_COUNT, Reg.CORE_MEMERR_STATUS])]

theorem Chip.memerr_einfo : (c.memerr p st a).rd (Reg.CORE_EINFO p) = a.extractLsb' 0 32 := by
  rw [Chip.memerr, Chip.rd_wr_same]
  exact BitVec.eq_of_toNat_eq (by rw [BitVec.toNat_ofNat, BitVec.extractLsb'_toNat, Nat.shiftRight_zero])

theorem Chip.memerr_excEnabled : (c.memerr p st a).on (Reg.CORE_CFG_MEMERR_EXC p) = c.on (Reg.CORE_CFG_MEMERR_EXC p) := by
  have hcfg : Reg.CORE_CFG p ≠ Reg.CORE_MEMERR p := by simp only [Reg.CORE_CFG, Reg.CORE_MEMERR]; omega
  rw [Chip.on, Chip.on, Chip.get_memerr (by simp only [Reg.CORE_CFG_MEMERR_EXC, Reg.CORE_CFG, Reg.CORE_EINFO]; omega), Chip.bump,
    Chip.get_put_addr _ _ _ _ hcfg, Chip.get_put_addr _ _ _ _ hcfg, Chip.get_put_addr _ _ _ _ hcfg]

/-- The core's record after an access has failed: gD, the MEMERR that is due. -/
def Core.failed (k : Core) (load : Bool) (reg : Nat) (due : List (Nat × BitVec 48)) : Core :=
  { (if load then k.setReg reg 0 else k) with due := k.due ++ due }

theorem Core.failed_due (k : Core) (load : Bool) (reg : Nat) (due : List (Nat × BitVec 48)) : (k.failed load reg due).due = k.due ++ due := rfl

@[simp] theorem Core.setReg_reqs (k : Core) (r : Nat) (v : Word) : (k.setReg r v).reqs = k.reqs := by unfold Core.setReg; split <;> rfl
@[simp] theorem Core.setReg_due (k : Core) (r : Nat) (v : Word) : (k.setReg r v).due = k.due := by unfold Core.setReg; split <;> rfl
@[simp] theorem Core.setReg_arrived (k : Core) (r : Nat) (v : Word) : (k.setReg r v).arrived = k.arrived := by unfold Core.setReg; split <;> rfl

theorem Core.failed_reqs (k : Core) (load : Bool) (reg : Nat) (due : List (Nat × BitVec 48)) : (k.failed load reg due).reqs = k.reqs := by
  cases load
  · rfl
  · exact Core.setReg_reqs k reg 0

theorem Core.failed_arrived (k : Core) (load : Bool) (reg : Nat) (due : List (Nat × BitVec 48)) : (k.failed load reg due).arrived = k.arrived := by
  cases load
  · rfl
  · exact Core.setReg_arrived k reg 0

theorem Core.failed_greg_same (k : Core) {reg : Nat} (due : List (Nat × BitVec 48)) (h : reg < 32) : (k.failed true reg due).greg reg = 0 := by
  refine (Core.greg_setReg_same k reg 0 h).trans ?_
  split <;> rfl

theorem Core.failed_greg_other (k : Core) {load : Bool} {reg r : Nat} (due : List (Nat × BitVec 48)) (h : r ≠ reg ∨ load = false) :
    (k.failed load reg due).greg r = k.greg r := by
  cases load with
  | false => rfl
  | true => exact Core.greg_setReg_other k reg r 0 (h.resolve_right (by decide))

theorem Chip.remoteFail_eq (load : Bool) (reg : Nat) :
    c.remoteFail p load reg st a = (let d := (if load then c.setReg p reg 0 else c).memerr p st a
      if d.on (Reg.CORE_CFG_MEMERR_EXC p) then d.modCore p (fun k => { k with due := k.due ++ [(st, a)] }) else d) := rfl

theorem Chip.remoteFail_regs (load : Bool) (reg : Nat) : (c.remoteFail p load reg st a).regs = (c.memerr p st a).regs := by
  have hd : ((if load then c.setReg p reg 0 else c).memerr p st a).regs = (c.memerr p st a).regs := by cases load <;> rfl
  rw [Chip.remoteFail_eq, ← hd]
  generalize (if load then c.setReg p reg 0 else c).memerr p st a = d
  dsimp only
  split <;> rfl

theorem Chip.remoteFail_core (load : Bool) (reg : Nat) : (c.remoteFail p load reg st a).core p =
    (c.core p).failed load reg (if c.on (Reg.CORE_CFG_MEMERR_EXC p) then [(st, a)] else []) := by
  have hfirst : (if load then c.setReg p reg 0 else c).core p = if load then (c.core p).setReg reg 0 else c.core p := by
    cases load
    · rfl
    · exact Chip.core_modCore_same _ _ _
  have hexc : (if load then c.setReg p reg 0 else c).on (Reg.CORE_CFG_MEMERR_EXC p) = c.on (Reg.CORE_CFG_MEMERR_EXC p) := by cases load <;> rfl
  have hdue : (if load then (c.core p).setReg reg 0 else c.core p).due = (c.core p).due := by
    cases load
    · rfl
    · exact Core.setReg_due (c.core p) reg 0
  have hcore : ∀ d : Chip, (d.memerr p st a).core p = d.core p := fun _ => rfl
  rw [Chip.remoteFail_eq]
  dsimp only
  rw [Chip.memerr_excEnabled, hexc]
  split
  · rw [Chip.core_modCore_same, hcore, hfirst, hdue, Core.failed]
  · rw [hcore, hfirst, Core.failed, List.append_nil, ← hdue]

end

/-- A failed access leaves what R168 says, seen from a block with the same registers of the program and the same fields that matter. -/
theorem remoteFailed_remoteFail {c d : Chip} {p st : Nat} {q : Request} (hst : st < 256) (hreg : q.reg < 32) (hgreg : d.greg p = c.greg p)
    (hdue : (d.core p).due = (c.core p).due) (hcount : d.get (Reg.CORE_MEMERR_COUNT p) = c.get (Reg.CORE_MEMERR_COUNT p))
    (hexc : d.on (Reg.CORE_CFG_MEMERR_EXC p) = c.on (Reg.CORE_CFG_MEMERR_EXC p)) :
    RemoteFailed c (d.remoteFail p q.load q.reg st q.addr) p q st := by
  have hregs : ∀ f, (d.remoteFail p q.load q.reg st q.addr).get f = (d.memerr p st q.addr).get f :=
    fun f => Chip.get_congr _ _ (Chip.remoteFail_regs q.load q.reg) f
  have hcore := Chip.remoteFail_core (c := d) (p := p) (st := st) (a := q.addr) q.load q.reg
  refine ⟨fun hload => ?_, fun r hr => ?_, (hregs _).trans (Chip.memerr_status hst), (hregs _).trans Chip.memerr_addrHi,
    (hregs _).trans (Chip.memerr_count.trans ?_), (Chip.rd_congr _ _ (Chip.remoteFail_regs q.load q.reg) _).trans Chip.memerr_einfo, ?_⟩
  · rw [Chip.greg, hcore, hload, Core.failed_greg_same _ _ hreg]
  · rw [Chip.greg, hcore, Core.failed_greg_other _ _ hr]
    exact congrFun hgreg r
  · rw [counted, counted, hcount]
  · rw [hcore, Core.failed_due, hdue, hexc]

/-! ## Responses and timeouts (R116, R168) -/

section
variable {s : State} {slot : PCore} {q : Request} {pk : Packet} {rest : List Packet}

/-- The block with the response taken and its request gone. -/
def Chip.answered (c : Chip) (p : Nat) (rest : List Packet) (tag : Nat) : Chip :=
  (c.setCore p { c.core p with arrived := rest }).modCore p (fun k => { k with reqs := k.reqs.filter (fun x => x.tag != tag) })

theorem Chip.answered_core (c : Chip) (p : Nat) (rest : List Packet) (tag : Nat) :
    (c.answered p rest tag).core p = { c.core p with arrived := rest, reqs := (c.core p).reqs.filter (fun x => x.tag != tag) } := by
  rw [Chip.answered, Chip.core_modCore_same, Chip.core_setCore_same]

theorem leaves_memrspArrive {t : Chip} (hq : q ∈ (s.chip.core slot.toNat).reqs) (huniq : ∀ x ∈ (s.chip.core slot.toNat).reqs, x.tag = q.tag → x = q)
    (hfirst : FirstArrived s.chip slot.toNat 4 pk rest) (htag : pk.tag = q.tag)
    (ht : (if q.late then (s.chip.answered slot.toNat rest q.tag).bump (Reg.NI_TIMEOUT_CNT_NI_LATE_RSP slot.toNat)
      else (s.chip.answered slot.toNat rest q.tag).requestEnd slot.toNat q pk.op ((pk.flit 2).toNat + (pk.flit 3).toNat * 2 ^ 64)) = t) :
    Leaves (.memrspArrive slot) s t := by
  have hfind : ((s.chip.setCore slot.toNat { s.chip.core slot.toNat with arrived := rest }).core slot.toNat).reqs.find? (fun x => x.tag == q.tag) = some q := by
    rw [Chip.core_setCore_same]
    exact find?_eq_of_unique hq (beq_self_eq_true _) fun x hx hxtag => huniq x hx (beq_iff_eq.mp hxtag)
  have hrun : exec (.memrspArrive slot) s = execMemrspArrive slot s := rfl
  rw [Leaves, ← ht, hrun, execMemrspArrive, act, Chip.takeArrived_some hfirst]
  simp only [htag, hfind]
  rfl

/-- The block with the request of a tag marked as ended by timeout, and counted. -/
def Chip.timedOut (c : Chip) (p tag : Nat) : Chip :=
  (c.modCore p (fun k => { k with reqs := k.reqs.map (fun x => if x.tag = tag then { x with late := true } else x) })).bump (Reg.NI_TIMEOUT_CNT_COUNT p)

theorem Chip.timedOut_core (c : Chip) (p tag : Nat) : (c.timedOut p tag).core p =
    { c.core p with reqs := (c.core p).reqs.map (fun x => if x.tag = tag then { x with late := true } else x) } :=
  Chip.core_modCore_same c p (fun k => { k with reqs := k.reqs.map (fun x => if x.tag = tag then { x with late := true } else x) })

theorem leaves_requestTimeout {tag : BitVec 4} (hq : q ∈ (s.chip.core slot.toNat).reqs)
    (huniq : ∀ x ∈ (s.chip.core slot.toNat).reqs, x.tag = q.tag → x = q) (htag : tag.toNat = q.tag) (hlate : q.late = false) (hlimit : q.limit ≠ 0) :
    Leaves (.requestTimeout slot tag) s ((s.chip.timedOut slot.toNat q.tag).remoteFail slot.toNat q.load q.reg ERR_TIMEOUT q.addr) := by
  have hfind : (s.chip.core slot.toNat).reqs.find? (fun x => x.tag == tag.toNat && !x.late && x.limit != 0) = some q := by
    refine find?_eq_of_unique hq (by simp [htag, hlate, hlimit]) fun x hx hxf => huniq x hx ?_
    simp only [Bool.and_eq_true, beq_iff_eq] at hxf
    obtain ⟨⟨hxtag, -⟩, -⟩ := hxf
    exact hxtag.trans htag
  have hrun : exec (.requestTimeout slot tag) s = execRequestTimeout slot tag s := rfl
  rw [Leaves, hrun, execRequestTimeout, act]
  simp only [hfind]
  rfl

end

/-- The word that a good response to a load brings (R168). -/
def Request.loaded (q : Request) (data : Nat) : Word :=
  let v := data / 2 ^ (8 * (q.addr.toNat % 16)) % 2 ^ (8 * q.size)
  if q.signed then sextN (8 * q.size) v else zextN v

theorem Chip.requestEnd_good (c : Chip) (p : Nat) (q : Request) (data : Nat) :
    c.requestEnd p q OK data = if q.load then c.setReg p q.reg (q.loaded data) else c := rfl

theorem Chip.requestEnd_bad (c : Chip) (p : Nat) (q : Request) {st : Nat} (data : Nat) (h : st ≠ OK) :
    c.requestEnd p q st data = c.remoteFail p q.load q.reg st q.addr := if_neg h

/-- A good response writes gD of a load and changes nothing else. -/
theorem Chip.requestEnd_good_core (c : Chip) (p : Nat) (q : Request) (data : Nat) :
    (c.requestEnd p q OK data).core p = if q.load then (c.core p).setReg q.reg (q.loaded data) else c.core p := by
  rw [Chip.requestEnd_good]
  split
  · exact Chip.core_modCore_same _ _ _
  · rfl

theorem Packet.op_lt (pk : Packet) : pk.op < 256 := Nat.mod_lt _ (by decide)

theorem requestsEndHold : RequestsEndHold := by
  intro s slot q p k hq huniq hreg
  refine ⟨fun pk rest hfirst htag => ?_, fun tag htag hlate hlimit => ?_⟩
  · have hcore := s.chip.answered_core p rest q.tag
    have hgreg : (s.chip.answered p rest q.tag).greg p = s.chip.greg p := funext fun r => by rw [Chip.greg, hcore]; rfl
    by_cases hlate : q.late = true
    · refine ⟨_, leaves_memrspArrive hq huniq hfirst htag (if_pos hlate), congrArg Core.reqs hcore, congrArg Core.arrived hcore,
        fun _ => ⟨hgreg, ?_, Chip.get_bump _ _ _ rfl⟩, fun h => absurd (h.symm.trans hlate) (by decide), fun h => absurd (h.symm.trans hlate) (by decide)⟩
      exact OnlyRegs.bump s.chip (Reg.NI_TIMEOUT_CNT_NI_LATE_RSP p) 1 _ rfl
    · by_cases hop : pk.op = OK
      · have hend := Chip.requestEnd_good_core (s.chip.answered p rest q.tag) p q ((pk.flit 2).toNat + (pk.flit 3).toNat * 2 ^ 64)
        rw [hcore] at hend
        refine ⟨_, leaves_memrspArrive hq huniq hfirst htag ((if_neg hlate).trans (by rw [hop])), ?_, ?_, fun h => absurd h hlate,
          fun _ _ => ⟨fun a => ?_, ?_, fun hload hreg0 => ?_, fun r hr => ?_⟩, fun _ h => absurd hop h⟩
        · rw [hend]; split <;> simp only [Core.setReg_reqs, k]
        · rw [hend]; split <;> simp only [Core.setReg_arrived]
        · rw [Chip.requestEnd_good]; split <;> rfl
        · rw [hend]; split <;> simp only [Core.setReg_due, k]
        · rw [Chip.greg, hend, if_pos hload, Core.greg_setReg_same _ _ _ hreg, if_neg hreg0]
          rfl
        · rw [Chip.greg, hend]
          rcases hr with hr | hr
          · split
            · exact Core.greg_setReg_other _ _ _ _ hr
            · rfl
          · rw [hr]; rfl
      · have hfail := Chip.remoteFail_core (c := s.chip.answered p rest q.tag) (p := p) (st := pk.op) (a := q.addr) q.load q.reg
        refine ⟨_, leaves_memrspArrive hq huniq hfirst htag ((if_neg hlate).trans (Chip.requestEnd_bad _ _ _ _ hop)), ?_, ?_, fun h => absurd h hlate,
          fun _ h => absurd h hop, fun _ _ => remoteFailed_remoteFail pk.op_lt hreg hgreg (by rw [hcore]) rfl rfl⟩
        · rw [hfail, Core.failed_reqs, hcore]
        · rw [hfail, Core.failed_arrived, hcore]
  · have hcore := s.chip.timedOut_core p q.tag
    have hfld : ∀ f : Reg.Fld, f.addr ≠ Reg.NI_TIMEOUT_CNT p → (s.chip.timedOut p q.tag).get f = s.chip.get f := fun f hf =>
      Chip.get_put_addr _ _ _ _ hf
    refine ⟨_, leaves_requestTimeout hq huniq htag hlate hlimit, remoteFailed_remoteFail (by decide) hreg ?_ (by rw [hcore])
      (hfld _ ?_) ?_, ?_, ?_⟩
    · exact funext fun r => by rw [Chip.greg, hcore]; rfl
    · simp only [p, Reg.CORE_MEMERR_COUNT, Reg.CORE_MEMERR, Reg.NI_TIMEOUT_CNT]; omega
    · rw [Chip.on, Chip.on, hfld _ (by simp only [p, Reg.CORE_CFG_MEMERR_EXC, Reg.CORE_CFG, Reg.NI_TIMEOUT_CNT]; omega)]
    · rw [Chip.remoteFail_core, Core.failed_reqs, hcore]
    · rw [Chip.get_congr _ _ (Chip.remoteFail_regs q.load q.reg), Chip.get_memerr, Chip.bump, Chip.get_put_addr, Chip.get_put_addr, Chip.get_put_addr,
        Chip.timedOut, Chip.get_bump _ _ _ rfl]
      · rfl
      all_goals simp only [p, Reg.NI_TIMEOUT_CNT_COUNT, Reg.NI_TIMEOUT_CNT, Reg.CORE_EINFO, Reg.CORE_MEMERR_STATUS, Reg.CORE_MEMERR_ADDR_HI,
        Reg.CORE_MEMERR_COUNT, Reg.CORE_MEMERR]; omega

/-! ## Fences (R169, R178) -/

section
variable {ins : Instr} {s : State} {i : Nat} {w : Word} {sem : Sem}

/-- An issued instruction whose meaning completes, leaves CORE_PC and the STATE of its sequencer, completes in sequence. -/
theorem inSequence_of_live {c1 : Chip} (hex : exec ins s = act (·.runInstr i w sem) s) (free : Free s.chip i w)
    (hsem : sem s.chip (s.chip.pcore i) i w = .done c1) (hpc : c1.pc (s.chip.pcore i) = s.chip.pc (s.chip.pcore i))
    (hstate : c1.seqState (s.chip.pcore i) = s.chip.seqState (s.chip.pcore i))
    (hstep : (c1.core (s.chip.pcore i)).stepping = (s.chip.core (s.chip.pcore i)).stepping) : InSequence ins s (s.chip.pcore i) c1 := by
  obtain ⟨hdone, hregs, hothers, hcore, hrest⟩ := Chip.settle_done c1 (s.chip.pcore i) (s.chip.pc (s.chip.pcore i))
    (by rw [← free.1.live, Chip.seqLive, Chip.seqLive, hstate]) (hstep.trans free.2)
  refine ⟨_, ?_, ?_, hregs, hothers, ?_, hrest⟩
  · rw [Leaves, hex, act, Chip.runInstr_issues _ _ _ _ free.1, hsem]
  · simpa only [seqPc, pcPlus4, hpc] using hdone
  · rw [hcore, hpc]

end

section
variable {c : Chip} {p i : Nat}

theorem semMfence_word : semMfence c p i ((0x1A#6) ++ (0#26)) = if (c.core p).outstanding then .stall c else .done c := rfl
theorem semMxwait_word : semMxwait c p i ((0x29#6) ++ (0#26)) = if c.mxBusy p i then .stall c else .done c := rfl

/-- WARM sets STATE of each queue that the mask names. -/
theorem semWarm_word {f : BitVec 11} (hf : f.toNat < 16) : semWarm c p i (rWord 0x22 0 0 0 f) =
    .done (((List.range 4).filter (bit f.toNat)).foldl (fun c q => c.set (Reg.WADI_Q_STAT_STATE p q)) c) := by
  obtain ⟨-, -, -, hF⟩ := rWord_fields 0x22 0 0 0 f
  have hzero : ¬ (rWord 0x22 0 0 0 f).toNat % 2 ^ 26 / 16 ≠ 0 := by
    have := toNat_rWord 0x22 0 0 0 f
    have hz : (0 : BitVec 5).toNat = 0 := rfl
    rw [hz] at this
    omega
  rw [semWarm, if_neg hzero, hF, List.foldl_filter]

theorem semNehold_hold (h : (c.core p).pass = none) : semNehold c p i (rWord 0x2B 0 0 0 1) =
    .done ((c.modCore p (fun k => { k with holdReq := false })).set (Reg.CORE_STAT_HOLD p)) := by
  have hrun : semNehold c p i (rWord 0x2B 0 0 0 1) = if (c.core p).pass.isSome then .stall (c.modCore p (fun k => { k with holdReq := true }))
      else .done ((c.modCore p (fun k => { k with holdReq := false })).set (Reg.CORE_STAT_HOLD p)) := rfl
  rw [hrun, h]
  rfl

theorem semNehold_wait (h : (c.core p).pass ≠ none) : semNehold c p i (rWord 0x2B 0 0 0 1) = .stall (c.modCore p (fun k => { k with holdReq := true })) := by
  have hrun : semNehold c p i (rWord 0x2B 0 0 0 1) = if (c.core p).pass.isSome then .stall (c.modCore p (fun k => { k with holdReq := true }))
      else .done ((c.modCore p (fun k => { k with holdReq := false })).set (Reg.CORE_STAT_HOLD p)) := rfl
  rw [hrun, if_pos (Option.isSome_iff_ne_none.mpr h)]

theorem semNehold_release : semNehold c p i (rWord 0x2B 0 0 0 0) =
    .done ((c.modCore p (fun k => { k with holdReq := false })).clr (Reg.CORE_STAT_HOLD p)) := rfl

end

section
variable {s : State} {i : CoreId} {f : BitVec 11}

/-- FUNCT[0] tells the hold from its release. -/
theorem exec_nehold (hf : f.toNat ≤ 1) : exec (.nehold i 0 0 0 f) s = act (·.runInstr i.toNat (rWord 0x2B 0 0 0 1) semNehold) s := by
  have hone : f ||| 1#11 = 1#11 := BitVec.eq_of_toNat_eq (by rw [BitVec.toNat_or]; interval_cases f.toNat <;> rfl)
  show act (·.runInstr i.toNat (rWord 0x2B 0 0 0 (f ||| 1#11)) semNehold) s = _
  rw [hone]
  rfl

theorem exec_neholdRelease (hf : f.toNat ≤ 1) :
    exec (.neholdRelease i 0 0 0 f) s = act (·.runInstr i.toNat (rWord 0x2B 0 0 0 0) semNehold) s := by
  have hzero : f &&& ~~~ 1#11 = 0#11 := BitVec.eq_of_toNat_eq (by rw [BitVec.toNat_and]; interval_cases f.toNat <;> rfl)
  show act (·.runInstr i.toNat (rWord 0x2B 0 0 0 (f &&& ~~~ 1#11)) semNehold) s = _
  rw [hzero]
  rfl

end

/-- NEHOLD and its release write HOLD of CORE_STAT and complete in sequence: the sequencer's STATE stands in other bits. -/
theorem inSequence_of_hold {ins : Instr} {s : State} {i : Nat} {w : Word} {sem : Sem} {v : Nat} (hv : v < 2) (hex : exec ins s = act (·.runInstr i w sem) s)
    (free : Free s.chip i w) (hsem : sem s.chip (s.chip.pcore i) i w =
      .done ((s.chip.modCore (s.chip.pcore i) (fun k => { k with holdReq := false })).put (Reg.CORE_STAT_HOLD (s.chip.pcore i)) v)) :
    let p := s.chip.pcore i
    ∃ c1, InSequence ins s p c1 ∧ c1.get (Reg.CORE_STAT_HOLD p) = v ∧
      OnlyRegs (s.chip.setCore p { s.chip.core p with holdReq := false }) c1 (· = Reg.CORE_STAT p) := by
  intro p
  refine ⟨_, inSequence_of_live hex free hsem ?_ ?_ ?_, Chip.get_put_fits _ (Reg.CORE_STAT_HOLD p) _ (decide_eq_true hv), OnlyRegs.put _ _ _ _ rfl⟩
  · exact Chip.get_put_addr _ _ _ _ (by simp only [Reg.CORE_PC_PC, Reg.CORE_PC, Reg.CORE_STAT_HOLD, Reg.CORE_STAT]; omega)
  · exact Chip.get_put_disjoint _ _ _ _ (Nat.le_refl 3) (.inl (by decide : 1 < 3))
  · have hcore := Chip.core_modCore_same s.chip p (fun k => { k with holdReq := false })
    rw [Chip.core_put, hcore]

theorem wadiStat_inj (p j k : Nat) (h : Reg.WADI_Q_STAT p j = Reg.WADI_Q_STAT p k) : j = k := by
  simp only [Reg.WADI_Q_STAT] at h
  omega

theorem fencesAndHoldsHold : FencesAndHoldsHold := by
  intro s i f p k
  refine ⟨fun free => ⟨fun h => ?_, fun h => ?_⟩, fun free => ⟨fun h => ?_, fun h => ?_⟩, fun hf free => ?_, fun hf free => ⟨fun h => ?_, fun h => ?_⟩,
    fun hf free => ?_⟩
  · exact inSequence_of_done rfl free (semMfence_word.trans (if_neg (by rw [h]; decide))) rfl rfl
  · exact waits_of_stall rfl free (semMfence_word.trans (if_pos h))
  · exact inSequence_of_done rfl free (semMxwait_word.trans (if_neg (by rw [h]; decide))) rfl rfl
  · exact waits_of_stall rfl free (semMxwait_word.trans (if_pos h))
  · obtain ⟨hset, only⟩ := Chip.foldl_set_spec (Reg.WADI_Q_STAT_STATE p) (fun _ => rfl) (wadiStat_inj p) ((List.range 4).filter (bit f.toNat)) s.chip
    refine ⟨_, inSequence_of_kept rfl free (semWarm_word hf) only.2 ?_ ?_ (congrArg Core.stepping (only.core p)),
      only.mono fun a ⟨q, hq, ha⟩ => ⟨q, List.mem_range.mp (List.mem_filter.mp hq).1, ha⟩, fun q hq => ?_⟩
    · rintro ⟨q, -, h⟩
      simp only [p, Reg.WADI_Q_STAT_STATE, Reg.WADI_Q_STAT, Reg.CORE_PC] at h
      omega
    · rintro ⟨q, -, h⟩
      simp only [p, Reg.WADI_Q_STAT_STATE, Reg.WADI_Q_STAT, Reg.CORE_STAT] at h
      omega
    · split
      · next hbit => exact hset q (List.mem_filter.mpr ⟨List.mem_range.mpr hq, hbit⟩)
      · next hbit =>
        refine only.get _ fun ⟨j, hj, he⟩ => hbit ?_
        rw [wadiStat_inj p q j he]
        exact (List.mem_filter.mp hj).2
  · exact inSequence_of_hold (by decide) (exec_nehold hf) free (semNehold_hold h)
  · refine ⟨_, leaves_of_stall (exec_nehold hf) free (semNehold_wait h), Chip.seqState_setSeqState _ _ _ (by decide), ?_, ?_⟩
    · exact congrArg Core.holdReq (Chip.core_modCore_same s.chip p (fun k => { k with holdReq := true }))
    · exact Chip.get_put_disjoint _ _ _ _ (by decide : 0 ≤ 1) (.inr (by decide : 1 < 3))
  · exact inSequence_of_hold (by decide) (exec_neholdRelease hf) free semNehold_release

/-- Settles O10: how requests end; MFENCE, MXWAIT, WARM and NEHOLD. -/
theorem requestsAndFences : Obligations.RequestsAndFences := ⟨requestsEndHold, fencesAndHoldsHold⟩

end Sys2Proof.Machine
end

section
/-! SUPPORT. The event engine: the next update of a group, the touch of a neuron-lane, what a pass holds (O20). -/

namespace Sys2Proof.Machine

/-! ## What the event counters of a core leave -/

section
variable (c : Chip) (p src : Nat)

theorem OnlyRegs.tally : OnlyRegs c (c.tallyCore p src) (PmonOf p) := OnlyRegs.tallyCore c p src 1 _ fun _ h => h

@[simp] theorem Chip.mem_tallyCore : (c.tallyCore p src).mem = c.mem := (OnlyRegs.tally c p src).mem

theorem Chip.readLane_congr {c d : Chip} (h : d.mem = c.mem) (p i : Nat) : d.readLane p i = c.readLane p i := by
  simp only [Chip.readLane, Chip.rdMem, h]

theorem Chip.writeLane_mem {c d : Chip} (h : d.mem = c.mem) (p i : Nat) (x : Lane) : (d.writeLane p i x).mem = (c.writeLane p i x).mem := by
  simp only [Chip.writeLane, Chip.wrMem, h]

/-- The active maps stand below the event counters of every core. -/
theorem Chip.logicalOf_tallyCore : (c.tallyCore p src).logicalOf p = c.logicalOf p := by
  rw [Chip.logicalOf, Chip.logicalOf, Chip.logical?_congr fun j hj => (OnlyRegs.tally c p src).get _ ?_]
  simp only [PmonOf, Reg.NI_MAP_ACTIVE_SLOT, Reg.NI_MAP_ACTIVE, Reg.coreBase]
  omega

theorem Chip.synSize_tallyCore : (c.tallyCore p src).synSize = c.synSize := by
  have hcode : (c.tallyCore p src).variant = c.variant :=
    (OnlyRegs.tally c p src).get _ (by simp only [PmonOf, Reg.FUSE_VARIANT_CODE, Reg.FUSE_VARIANT, Reg.coreBase]; omega)
  rw [Chip.synSize, Chip.synSize, hcode]

end

/-! ## Reading a slice (R130, R145) -/

/-- The slice at an address: it lies in synapse memory and has the range's format. -/
def GoodSlice (c : Chip) (p addr : Nat) (w8 : Bool) : Prop :=
  addr + sliceSize w8 ≤ c.synSize ∧ bit (bytesToNat ((c.mem.readBytes (slotMem p addr) (sliceSize w8)).take 2)) 15 = w8

/-- The block after the reading of a slice has been counted (R425). -/
def Chip.sliceCounted (c : Chip) (p addr : Nat) (w8 : Bool) : Chip :=
  if addr / 64 = (addr + sliceSize w8 - 1) / 64 then c.tallyCore p 0x14 else (c.tallyCore p 0x14).tallyCore p 0x15

section
variable {c : Chip} {p addr : Nat} {w8 : Bool}

theorem OnlyRegs.sliceCounted : OnlyRegs c (c.sliceCounted p addr w8) (PmonOf p) :=
  OnlyRegs.ite (OnlyRegs.tally c p 0x14) ((OnlyRegs.tally c p 0x14).trans (OnlyRegs.tally _ p 0x15))

theorem Chip.synSize_sliceCounted : (c.sliceCounted p addr w8).synSize = c.synSize := by
  unfold Chip.sliceCounted
  split
  · exact Chip.synSize_tallyCore c p 0x14
  · exact (Chip.synSize_tallyCore _ p 0x15).trans (Chip.synSize_tallyCore c p 0x14)

theorem Chip.readSlice_eq : c.readSlice p addr w8 =
    (let d := c.sliceCounted p addr w8
     let bs := d.mem.readBytes (slotMem p addr) (sliceSize w8)
     if d.synSize < addr + sliceSize w8 ∨ bit (bytesToNat (bs.take 2)) 15 ≠ w8 then
       ((d.bump (Reg.MX_FMT_ERR_COUNT p)).set (Reg.MX_STAT_FMT_ERR p), List.replicate 32 0)
     else (d, sliceWeights bs w8)) := rfl

theorem Chip.readSlice_good (h : GoodSlice c p addr w8) :
    (c.readSlice p addr w8).2 = sliceWeights (c.mem.readBytes (slotMem p addr) (sliceSize w8)) w8 := by
  obtain ⟨hsize, hformat⟩ := h
  rw [Chip.readSlice_eq]
  dsimp only
  rw [Chip.synSize_sliceCounted, OnlyRegs.sliceCounted.mem, if_neg (not_or.mpr ⟨Nat.not_lt.mpr hsize, not_not.mpr hformat⟩)]

theorem Chip.readSlice_bad (h : ¬ GoodSlice c p addr w8) :
    (c.readSlice p addr w8).2 = List.replicate 32 0 ∧
    (c.readSlice p addr w8).1.get (Reg.MX_FMT_ERR_COUNT p) = counted c (Reg.MX_FMT_ERR_COUNT p) 1 ∧
    (c.readSlice p addr w8).1.get (Reg.MX_STAT_FMT_ERR p) = 1 := by
  have hbad : c.synSize < addr + sliceSize w8 ∨ bit (bytesToNat ((c.mem.readBytes (slotMem p addr) (sliceSize w8)).take 2)) 15 ≠ w8 :=
    (not_and_or.mp h).imp_left Nat.lt_of_not_le
  have hcount : (c.sliceCounted p addr w8).get (Reg.MX_FMT_ERR_COUNT p) = c.get (Reg.MX_FMT_ERR_COUNT p) :=
    OnlyRegs.sliceCounted.get _ (by simp only [PmonOf, Reg.MX_FMT_ERR_COUNT, Reg.MX_FMT_ERR]; omega)
  have hne : Reg.MX_FMT_ERR p ≠ Reg.MX_STAT p := by simp only [Reg.MX_FMT_ERR, Reg.MX_STAT]; omega
  rw [Chip.readSlice_eq]
  dsimp only
  rw [Chip.synSize_sliceCounted, OnlyRegs.sliceCounted.mem, if_pos hbad]
  refine ⟨rfl, ?_, Chip.get_put_fits _ _ _ rfl⟩
  rw [Chip.set, Chip.get_put_addr _ _ _ _ hne, Chip.get_bump _ _ _ rfl, counted, counted, hcount]

end

/-! ## The next update of a group (R130, R131) -/

/-- The group after an update: its next block, or none. -/
def Group.next? (g : Group) : Option Group := if g.block + 1 < g.blocks then some { g with block := g.block + 1 } else none

section
variable (c : Chip) (p : Nat) (g : Group)

theorem Chip.sweepServed_core (ages : List Nat) : ((c.sweepServed p ages).core p).banks = (c.core p).banks ∧
    ((c.sweepServed p ages).core p).group = (c.core p).group := by
  rw [Chip.sweepServed, Chip.core_setCore_same]
  exact ⟨rfl, rfl⟩

/-- The bank that an update fills. -/
def Group.bank (g : Group) (weights : List Int) : Bank := ⟨g.pop, g.range, g.row, g.block, weights, g.items⟩

/-- An update adds a bank to the core and moves the group on; besides, reading the slice alone changes registers. -/
theorem Chip.issueUpdate_spec :
    let r := c.readSlice p (sliceAddr g.base g.row g.blocks g.block g.w8) g.w8
    let t := c.issueUpdate p g
    t.regs = r.1.regs ∧ t.mem = c.mem ∧ (t.core p).banks = (c.core p).banks ++ [g.bank r.2] ∧ (t.core p).group = g.next? ∧
      ∀ x, x ≠ p → t.core x = c.core x := by
  intro r t
  have read := OnlyRegs.readSlice c p (sliceAddr g.base g.row g.blocks g.block g.w8) g.w8
  let d := r.1.modCore p (fun k => { k with banks := k.banks ++ [g.bank r.2] })
  have hd : (d.core p).banks = (c.core p).banks ++ [g.bank r.2] := by rw [Chip.core_modCore_same, read.core]
  have ht : t = if g.block + 1 < g.blocks then d.modCore p (fun k => { k with group := some { g with block := g.block + 1 } })
      else (d.modCore p (·.leaveGroup g)).sweepServed p g.ages := rfl
  have hother : ∀ x, x ≠ p → d.core x = c.core x := fun x hx => (Chip.core_setCore_other _ _ _ _ hx).trans (read.core x)
  by_cases hblock : g.block + 1 < g.blocks
  · rw [if_pos hblock] at ht
    rw [ht, Group.next?, if_pos hblock]
    exact ⟨rfl, read.mem, by rw [Chip.core_modCore_same]; exact hd, by rw [Chip.core_modCore_same],
      fun x hx => (Chip.core_setCore_other _ _ _ _ hx).trans (hother x hx)⟩
  · obtain ⟨hbanks, hgroup⟩ := (d.modCore p (·.leaveGroup g)).sweepServed_core p g.ages
    rw [if_neg hblock] at ht
    rw [ht, Group.next?, if_neg hblock, hbanks, hgroup, Chip.core_modCore_same]
    exact ⟨rfl, read.mem, hd, rfl,
      fun x hx => (Chip.core_setCore_other _ _ _ _ hx).trans ((Chip.core_setCore_other _ _ _ _ hx).trans (hother x hx))⟩

end

theorem leaves_groupForm {s : State} {slot : PCore} {g : Group} (hon : s.chip.engineOn slot.toNat = true) (hg : (s.chip.core slot.toNat).group = some g)
    (hbanks : (s.chip.core slot.toNat).usedBanks < 2) (hslice : (s.chip.core slot.toNat).slice = false) (hfrozen : s.chip.frozenSlot slot.toNat = false)
    (hhold : s.chip.get (Reg.CORE_STAT_HOLD slot.toNat) = 0) : Leaves (.groupForm slot) s (s.chip.issueUpdate slot.toNat g) := by
  have hholding : s.chip.holding slot.toNat = false := by rw [Chip.holding, Chip.on, hhold]; rfl
  have hgo : ¬ (2 ≤ (s.chip.core slot.toNat).usedBanks ∨ (s.chip.core slot.toNat).slice = true ∨ s.chip.frozenSlot slot.toNat = true) := by
    rw [hslice, hfrozen]
    simpa using hbanks
  refine leaves_of_act (f := fun c => if c.engineOn slot.toNat then c.groupForm slot.toNat else c) rfl ((if_pos hon).trans ?_)
  rw [Chip.groupForm]
  simp only [if_neg hgo, hg, hholding, Bool.false_eq_true, if_false]

theorem rankOneUpdatesHold : RankOneUpdatesHold := by
  intro s slot g c p k hon hg hbanks hslice hfrozen hhold at_ bs good
  obtain ⟨hregs, hmem, hbank, hgroup, hothers⟩ := c.issueUpdate_spec p g
  refine ⟨_, _, leaves_groupForm hon hg hbanks hslice hfrozen hhold, hbank, rfl, rfl, rfl, rfl, rfl, Chip.readSlice_good, fun hbad => ?_, hgroup, hmem, hothers⟩
  obtain ⟨hzero, hcount, herr⟩ := Chip.readSlice_bad hbad
  exact ⟨hzero, (Chip.get_congr _ _ hregs _).trans hcount, (Chip.get_congr _ _ hregs _).trans herr⟩

/-! ## The touch of one neuron-lane (R133, R135) -/

theorem Chip.countLate_mem (c : Chip) (p : Nat) : (c.countLate p).mem = c.mem := Chip.mem_tallyCore _ _ _

theorem Chip.runUop_mem (c : Chip) (p : Nat) (d : List Word) (x : Lane) (inp pay : Int) : (c.runUop p d x inp pay).1.mem = c.mem := by
  unfold Chip.runUop
  dsimp only
  split <;> split <;> rfl

theorem Chip.mem_ite_set (c : Chip) (f : Reg.Fld) (q : Prop) [Decidable q] : (if q then c.set f else c).mem = c.mem := by split <;> rfl

/-- Steps 1 to 6 of a touch write no memory (R161). -/
theorem Chip.touch_mem (c : Chip) (p : Nat) (ps : Pass) (j : Nat) : (c.touch p ps j).chip.mem = c.mem := by
  have hlate : ∀ (d : Chip) (late : Bool), (if late then d.countLate p else d).mem = d.mem := fun d late => by
    cases late
    · rfl
    · exact d.countLate_mem p
  cases hr : refractory ps.desc ps.item.tag.toNat ((c.tallyCore p 0x16).readLane p (neuronOf ps.desc ps.block j * c.lanes p + ps.item.lane)) with
  | none =>
    rw [Chip.touch]
    simp only [hr, Chip.mem_tallyCore]
  | some x =>
    rw [Chip.touch]
    simp only [hr, apply_ite Touched.chip, ite_self, Chip.mem_ite_set, Chip.runUop_mem, hlate, Chip.mem_tallyCore]

section
variable {c : Chip} {p : Nat} {d : List Word} {x : Lane} {t : Nat}

theorem refractory_of_clear (h : x.refr = false) : refractory d t x = some x := by rw [refractory, h]; rfl

theorem Chip.decayLane_current (pop : Nat) (h : x.tag = t) : c.decayLane p pop t x = (x, false) := by
  have hzero : (t + 65536 - x.tag) % 65536 = 0 := by omega
  rw [Chip.decayLane]
  simp only [hzero]
  rfl

/-- A population without a microprogram leaves the lane and the block (R190). -/
theorem Chip.runUop_none (h : descCfg d 13 7 = 0) (inp pay : Int) : c.runUop p d x inp pay = (c, ⟨x, 0, 0, inp, pay, false, false⟩) := by
  have huops : c.uops p d = [] := by rw [Chip.uops, h]; rfl
  rw [Chip.runUop, huops, h]
  rfl

end

/-- A touched lane whose tag is the event's, with the contribution `q` added. -/
def Lane.added (x : Lane) (q : Int × Bool) : Lane := { x with pot := (sat32 (x.pot + q.1)).1, sat := q.2 || (sat32 (x.pot + q.1)).2 }

theorem Chip.touch_current {c : Chip} {p i j : Nat} {ps : Pass} {x : Lane} (hi : neuronOf ps.desc ps.block j * c.lanes p + ps.item.lane = i)
    (hx : c.readLane p i = x) (hrefr : x.refr = false) (htag : x.tag = ps.item.tag.toNat) (hprog : descCfg ps.desc 13 7 = 0)
    (htheta : 0 < (descTheta ps.desc).toInt) :
    let y := x.added (toQ16 (ps.weights.getD j 0 * ps.item.pay.toInt))
    let e := y.pot - (descTheta ps.desc).toInt
    let pay := rescale e (descM ps.desc) (descS ps.desc)
    let y1 := min 255 (x.y1 + wbits (ps.desc.getD 5 0) 7 0)
    let y2 := min 255 (x.y2 + wbits (ps.desc.getD 5 0) 15 8)
    c.touch p ps j = if y.pot < (descTheta ps.desc).toInt then ⟨c.tallyCore p 0x16, none, some (i, y), some (x.y1, x.y2), none⟩
      else ⟨c.tallyCore p 0x16, some (mkEvent (emitKey (c.logicalOf p) (neuronOf ps.desc ps.block j) (descUser ps.desc)) pay ps.item.lane ps.item.tag),
        some (i, ⟨if descCfg ps.desc 1 1 = 1 then 0 else e, x.tag, y1, y2, descRefrEn ps.desc, y.sat, x.user⟩), some (x.y1, x.y2),
        some (.post ps.pop ps.block j ps.item.lane ps.item.tag (BitVec.ofNat 8 y1) (BitVec.ofNat 8 y2) pay)⟩ := by
  intro y e pay y1 y2
  have hread : (c.tallyCore p 0x16).readLane p i = x := (Chip.readLane_congr (Chip.mem_tallyCore c p 0x16) p i).trans hx
  have hmsb : (descTheta ps.desc).msb = false := by
    rw [← Bool.not_eq_true]
    intro hneg
    have := BitVec.toInt_neg_of_msb_true hneg
    omega
  have hnat : ((descTheta ps.desc).toNat : Int) = (descTheta ps.desc).toInt := (BitVec.toInt_eq_toNat_of_msb hmsb).symm
  have hzero : descTheta ps.desc ≠ 0 := fun h => absurd (h ▸ htheta) (by decide)
  have hevent : BitVec.ofNat 16 x.tag = ps.item.tag := by rw [htag, BitVec.ofNat_toNat, BitVec.setWidth_eq]
  have hlane : (x.refr || descRefrEn ps.desc) = descRefrEn ps.desc := by rw [hrefr, Bool.false_or]
  rw [Chip.touch]
  simp only [hi, hread, refractory_of_clear hrefr, Chip.decayLane_current ps.pop htag, Chip.runUop_none hprog, hzero, hmsb, hnat, hevent, or_self, false_and,
    if_false, Bool.false_eq_true, false_or, Chip.logicalOf_tallyCore, hlane]
  rfl

/-! ## What a pass holds (R137, R161, R202, R207) -/

section
variable (c : Chip) (p : Nat) (ps : Pass)

theorem Chip.emitTo_kept (e : DWord) {dest : Nat} (h : dest < 4) :
    (c.emitTo p dest e).mem = c.mem ∧ ((c.emitTo p dest e).core p).drift = (c.core p).drift ∧ RegsKept c (c.emitTo p dest e) (PmonOf p) := by
  by_cases h0 : dest = 0
  · subst h0
    exact ⟨rfl, rfl, fun _ _ => rfl⟩
  · obtain ⟨-, -, hcore, hregs⟩ := c.emitTo_spec p dest e (by omega) (by omega)
    have hdrift := congrArg Core.drift hcore
    refine ⟨?_, hdrift, hregs⟩
    have hmem : ∀ d : Chip, (if dest % 2 = 1 then d.routed p e else d).mem = d.mem := fun d => by split <;> rfl
    rw [Chip.emitTo_eq c p dest e h0]
    dsimp only
    split <;> simp only [Chip.mem_tallyCore, Chip.looped, Chip.modCore, Chip.setCore, hmem]

theorem Chip.driftOpen_congr {c d : Chip} {p : Nat} (h : RegsKept c d (PmonOf p)) : d.driftOpen p = c.driftOpen p := by
  have hget : ∀ f : Reg.Fld, ¬ PmonOf p f.addr → d.get f = c.get f := fun f hf => Chip.get_of_rd f (h _ hf)
  have hlow : ∀ f : Reg.Fld, f.addr = Reg.DMAP_ROT_STAT → d.get f = c.get f := fun f hf =>
    hget f (by rw [hf]; simp only [PmonOf, Reg.DMAP_ROT_STAT, Reg.coreBase]; omega)
  have hfreeze : d.on (Reg.LRN_CFG_FREEZE p) = c.on (Reg.LRN_CFG_FREEZE p) := by
    rw [Chip.on, Chip.on, hget _ (by simp only [PmonOf, Reg.LRN_CFG_FREEZE, Reg.LRN_CFG]; omega)]
  rw [Chip.driftOpen, Chip.driftOpen, hfreeze, Chip.rotStops, Chip.rotStops, hlow _ rfl, hlow _ rfl, hlow _ rfl]

/-- Placing the event leaves memory, the Drift queue and what stops it. -/
theorem Chip.placeEvent_kept :
    ((c.placeEvent p ps).1.core p).drift = (c.core p).drift ∧ (c.placeEvent p ps).1.driftOpen p = c.driftOpen p := by
  unfold Chip.placeEvent
  split
  · split
    · obtain ⟨-, hdrift, hregs⟩ := c.emitTo_kept p _ (dest := descCfg ps.desc 5 4) (Nat.mod_lt _ (by decide))
      exact ⟨hdrift, Chip.driftOpen_congr hregs⟩
    · exact ⟨rfl, rfl⟩
  · exact ⟨rfl, rfl⟩

/-- While Drift enqueues are stopped none enters the queue (R207). -/
theorem Chip.placeDrift_stopped (h : c.driftOpen p = false) : c.placeDrift p ps = (c, { ps with heldDrift := [] }) := by
  rw [Chip.placeDrift, h]
  rfl

theorem Chip.placeHeld_drift (h : c.driftOpen p = false) : ((c.placeHeld p ps).1.core p).drift = (c.core p).drift := by
  obtain ⟨hdrift, hopen⟩ := c.placeEvent_kept p ps
  rw [h] at hopen
  rw [← hdrift, Chip.placeHeld]
  generalize c.placeEvent p ps = r at hopen ⊢
  dsimp only
  split
  · rfl
  · rw [Chip.placeDrift_stopped _ _ _ hopen]
    dsimp only
    split
    · rfl
    · split <;> rfl

/-- The event finds no room: nothing is placed (R137). -/
theorem Chip.placeHeld_stalled {e : DWord} (he : ps.heldEv = some e) (hroom : (c.core p).emitRoom (descCfg ps.desc 5 4) = false) :
    c.placeHeld p ps = (c, ps) := by
  have hevent : c.placeEvent p ps = (c, ps) := by
    rw [Chip.placeEvent, he]
    simp only [hroom, Bool.false_eq_true, if_false]
  rw [Chip.placeHeld, hevent]
  simp only [he, Option.isSome_some, if_true]

/-- With nothing else held, the lane is written back and the pass holds nothing (R161). -/
theorem Chip.placeHeld_lane {b : Nat × Lane} (he : ps.heldEv = none) (hd : ps.heldDrift = []) (hb : ps.heldLane = some b) :
    (c.placeHeld p ps).1.mem = (c.writeLane p b.1 b.2).mem ∧ (c.placeHeld p ps).2.free = true := by
  obtain ⟨d, hdrift, hmem⟩ : ∃ d, c.placeDrift p ps = (d, ps) ∧ d.mem = c.mem := by
    unfold Chip.placeDrift
    have hps : { ps with heldDrift := [] } = ps := by rw [← hd]
    split
    · refine ⟨c.setCore p { c.core p with drift := (c.core p).drift ++ [].take (16 - (c.core p).drift.length) }, ?_, rfl⟩
      dsimp only
      rw [hd, List.drop_nil, hps]
    · exact ⟨c, by rw [hps], rfl⟩
  have hevent : c.placeEvent p ps = (c, ps) := by rw [Chip.placeEvent, he]
  rw [Chip.placeHeld, hevent]
  simp only [he, hdrift, hd, hb, Option.isSome_none, Bool.false_eq_true, if_false, List.isEmpty_nil, Bool.not_true]
  exact ⟨Chip.writeLane_mem hmem p b.1 b.2, rfl⟩

end

theorem neuronTouchesHold : NeuronTouchesHold := by
  intro c p j ps i x q pot theta r h
  refine ⟨c.touch_mem p ps j, fun b => c.placeHeld_lane p ps, fun e => c.placeHeld_stalled p ps, c.placeHeld_drift p ps, fun hrefr htag hprog htheta => ?_⟩
  have htouch := Chip.touch_current rfl rfl hrefr htag hprog htheta
  dsimp only at htouch
  refine ⟨fun hbelow => ?_, fun habove => ?_⟩
  · have hr : r = _ := htouch.trans (if_pos hbelow)
    rw [hr]
    exact ⟨rfl, rfl, rfl, rfl⟩
  · have hr : r = _ := htouch.trans (if_neg (Int.not_lt.mpr habove))
    rw [hr]
    exact ⟨rfl, rfl⟩

/-- Settles O20: the updates of a group, the touch of a neuron-lane and what a pass holds. -/
theorem eventEngine : Obligations.EventEngine := ⟨rankOneUpdatesHold, neuronTouchesHold⟩

end Sys2Proof.Machine
end

section
/-! SUPPORT. The commands of the neuron engine and of the output queue, and the write-back of a dense lane (O21). -/

namespace Sys2Proof.Machine

/-! ## What a pass leaves of its core while it goes on (R133, R137, R202) -/

/-- Of slot `p`'s core the queues that a pass fills are all that differs. -/
def PassKeeps (p : Nat) (c d : Chip) : Prop :=
  { d.core p with outq := (c.core p).outq, loopq := (c.core p).loopq, age := (c.core p).age, drift := (c.core p).drift } = c.core p

section
variable {p : Nat} {c d e : Chip}

theorem PassKeeps.refl (p : Nat) (c : Chip) : PassKeeps p c c := rfl

theorem PassKeeps.trans (h : PassKeeps p c d) (h' : PassKeeps p d e) : PassKeeps p c e := by
  have hcopied := congrArg (fun k : Core =>
    { k with outq := (c.core p).outq, loopq := (c.core p).loopq, age := (c.core p).age, drift := (c.core p).drift }) h'
  exact hcopied.trans h

theorem PassKeeps.of_core (h : d.core p = c.core p) : PassKeeps p c d := by rw [PassKeeps, h]

theorem PassKeeps.banks (h : PassKeeps p c d) : (d.core p).banks = (c.core p).banks := (congrArg Core.banks h :)

theorem PassKeeps.greg (h : PassKeeps p c d) : d.greg p = c.greg p := funext fun r => (congrArg (Core.greg · r) h :)

end

/-- Writing a neuron-lane back leaves the cores. -/
theorem Chip.core_writeLane (c : Chip) (p i q : Nat) (x : Lane) : (c.writeLane p i x).core q = c.core q := rfl

/-- The registers that a touch can change: the status and the counters of the engine. -/
def TouchRegs (p a : Nat) : Prop := a = Reg.NE_STAT p ∨ a = Reg.NE_LATE_CNT p ∨ PmonOf p a

section
variable (c : Chip) (p : Nat)

theorem OnlyRegs.touchTally (src : Nat) : OnlyRegs c (c.tallyCore p src) (TouchRegs p) := (OnlyRegs.tally c p src).mono fun _ h => .inr (.inr h)

theorem OnlyRegs.countLate : OnlyRegs c (c.countLate p) (TouchRegs p) :=
  (OnlyRegs.bump c (Reg.NE_LATE_CNT_COUNT p) 1 _ (.inr (.inl rfl))).trans (OnlyRegs.touchTally _ p 0x19)

theorem OnlyRegs.runUop (d : List Word) (x : Lane) (inp pay : Int) : OnlyRegs c (c.runUop p d x inp pay).1 (TouchRegs p) :=
  have noted : ∀ (e : Chip) (f : Reg.Fld) (q : Prop) [Decidable q], f.addr = Reg.NE_STAT p → OnlyRegs e (if q then e.set f else e) (TouchRegs p) :=
    fun e f _ _ h => OnlyRegs.ite (OnlyRegs.set e f _ (.inl h)) (OnlyRegs.refl e _)
  (noted c (Reg.NE_STAT_UOP_ERR p) _ rfl).trans (noted _ (Reg.NE_STAT_CFG_ERR p) _ rfl)

/-- Steps 1 to 6 of a touch change the engine's status and counters only. -/
theorem OnlyRegs.touch (ps : Pass) (j : Nat) : OnlyRegs c (c.touch p ps j).chip (TouchRegs p) := by
  have hlate : ∀ (d : Chip) (late : Bool), OnlyRegs d (if late then d.countLate p else d) (TouchRegs p) := fun d late =>
    OnlyRegs.ite (OnlyRegs.countLate d p) (OnlyRegs.refl d _)
  have htheta : ∀ (d : Chip) (q : Prop) [Decidable q], OnlyRegs d (if q then d.set (Reg.NE_STAT_CFG_ERR p) else d) (TouchRegs p) := fun d q _ =>
    OnlyRegs.ite (OnlyRegs.set d _ _ (.inl rfl)) (OnlyRegs.refl d _)
  have htally := OnlyRegs.touchTally c p 0x16
  rw [Chip.touch]
  generalize c.tallyCore p 0x16 = d at htally ⊢
  dsimp only
  split
  · exact htally
  · rw [apply_ite Touched.chip, ite_self]
    exact htally.trans ((hlate _ _).trans ((OnlyRegs.runUop _ p _ _ _ _).trans (htheta _ _)))

end

section
variable (c : Chip) (p : Nat) (ps : Pass)

theorem PassKeeps.emitTo (e : DWord) {dest : Nat} (h : dest < 4) : PassKeeps p c (c.emitTo p dest e) := by
  rcases Nat.eq_zero_or_pos dest with rfl | hpos
  · exact PassKeeps.refl p c
  · obtain ⟨-, -, hcore, -⟩ := c.emitTo_spec p dest e hpos (by omega)
    exact congrArg (fun k : Core => { k with drift := (c.core p).drift }) hcore

theorem PassKeeps.placeEvent : PassKeeps p c (c.placeEvent p ps).1 := by
  unfold Chip.placeEvent
  split
  · split
    · exact PassKeeps.emitTo c p _ (Nat.mod_lt _ (by decide))
    · exact PassKeeps.refl p c
  · exact PassKeeps.refl p c

theorem PassKeeps.placeDrift : PassKeeps p c (c.placeDrift p ps).1 := by
  unfold Chip.placeDrift
  split
  · rw [PassKeeps, Chip.core_setCore_same]
  · exact PassKeeps.refl p c

theorem PassKeeps.placeHeld : PassKeeps p c (c.placeHeld p ps).1 := by
  have hevent := PassKeeps.placeEvent c p ps
  rw [Chip.placeHeld]
  generalize c.placeEvent p ps = r at hevent ⊢
  have hdrift := hevent.trans (PassKeeps.placeDrift r.1 p r.2)
  dsimp only
  split
  · exact hevent
  · generalize r.1.placeDrift p r.2 = r' at hdrift ⊢
    split
    · exact hdrift
    · split
      · exact hdrift.trans (PassKeeps.of_core (Chip.core_writeLane _ _ _ _ _))
      · exact hdrift

theorem PassKeeps.passStep : PassKeeps p c (c.passStep p ps).1 := by
  unfold Chip.passStep
  dsimp only
  split
  · exact PassKeeps.refl p c
  · split
    · exact PassKeeps.refl p c
    · exact (PassKeeps.of_core ((OnlyRegs.touch c p _ ps.next).core p)).trans (PassKeeps.placeHeld _ p _)

theorem PassKeeps.runPass (n : Nat) : PassKeeps p c (c.runPass p ps n).1 := by
  induction n generalizing c ps with
  | zero => exact PassKeeps.refl p c
  | succ n ih =>
    have hplaced := PassKeeps.placeHeld c p ps
    rw [Chip.runPass]
    generalize c.placeHeld p ps = r at hplaced ⊢
    dsimp only
    split
    · exact hplaced
    · exact hplaced.trans ((PassKeeps.passStep _ p _).trans (ih _ _))

/-- A pass over its last output takes up its PRE entry (R202). -/
def Chip.withPre (c : Chip) (p : Nat) (ps : Pass) : Pass := if ps.next = 32 then { ps with next := 33, heldDrift := c.preEntry p ps } else ps

theorem Chip.advancePass_eq : c.advancePass p ps =
    (let r := c.runPass p ps 33
     let q := r.1.placeHeld p (r.1.withPre p r.2)
     if (!r.2.free) = true ∨ r.2.next < 32 then r.1.modCore p (fun k => { k with pass := some r.2 })
     else if q.2.free then q.1.modCore p (·.endPass) else q.1.modCore p (fun k => { k with pass := some q.2 })) := by
  rw [Chip.advancePass]
  generalize c.runPass p ps 33 = r
  rfl

/-- Going on with a pass ends it, or leaves one in progress. -/
theorem Chip.advancePass_cases : ∃ d, PassKeeps p c d ∧
    (c.advancePass p ps = d.modCore p (·.endPass) ∨ ∃ ps', c.advancePass p ps = d.modCore p (fun k => { k with pass := some ps' })) := by
  have hrun := PassKeeps.runPass c p ps 33
  have hplaced := hrun.trans (PassKeeps.placeHeld _ p ((c.runPass p ps 33).1.withPre p (c.runPass p ps 33).2))
  rw [Chip.advancePass_eq]
  dsimp only
  split
  · exact ⟨_, hrun, .inr ⟨_, rfl⟩⟩
  · split
    · exact ⟨_, hplaced, .inl rfl⟩
    · exact ⟨_, hplaced, .inr ⟨_, rfl⟩⟩

/-- A bank stays in use until the last pass over it ends (R131). -/
theorem Chip.advancePass_spec {b : Bank} {bs : List Bank} (h : (c.core p).banks = b :: bs) :
    ((c.advancePass p ps).core p).banks = (if ((c.advancePass p ps).core p).pass = none ∧ b.items.isEmpty then bs else b :: bs) ∧
    (c.advancePass p ps).greg p = c.greg p := by
  obtain ⟨d, hkeeps, hend | ⟨ps', hgo⟩⟩ := c.advancePass_cases p ps
  · have hcore : (c.advancePass p ps).core p = (d.core p).endPass := by rw [hend, Chip.core_modCore_same]
    refine ⟨?_, ?_⟩
    · rw [hcore, Core.endPass, hkeeps.banks, h]
      simp only [true_and]
    · rw [← hkeeps.greg]
      exact funext fun r => (congrArg (Core.greg · r) hcore :)
  · have hcore : (c.advancePass p ps).core p = { d.core p with pass := some ps' } := by rw [hgo, Chip.core_modCore_same]
    refine ⟨?_, ?_⟩
    · rw [hcore, if_neg (by simp)]
      exact hkeeps.banks.trans h
    · rw [← hkeeps.greg]
      exact funext fun r => (congrArg (Core.greg · r) hcore :)

/-! ## A pass with no output below COUNT (R133) -/

theorem Chip.placeDrift_nothing (h : ps.heldDrift = []) : (c.placeDrift p ps).2 = ps ∧ (c.placeDrift p ps).1.mem = c.mem := by
  have hps : { ps with heldDrift := [] } = ps := by rw [← h]
  unfold Chip.placeDrift
  split
  · refine ⟨?_, rfl⟩
    dsimp only
    rw [h, List.drop_nil, hps]
  · exact ⟨hps, rfl⟩

/-- A pass that holds nothing places nothing. -/
theorem Chip.placeHeld_free (h : ps.free = true) : (c.placeHeld p ps).2 = ps ∧ (c.placeHeld p ps).1.mem = c.mem := by
  obtain ⟨⟨hev, hdrift⟩, hlane⟩ : (ps.heldEv = none ∧ ps.heldDrift = []) ∧ ps.heldLane = none := by simpa [Pass.free] using h
  have hevent : c.placeEvent p ps = (c, ps) := by rw [Chip.placeEvent, hev]
  obtain ⟨hplaced, hmem⟩ := c.placeDrift_nothing p ps hdrift
  rw [Chip.placeHeld, hevent]
  simp only [hplaced, hev, hdrift, hlane, Option.isSome_none, Bool.false_eq_true, if_false, List.isEmpty_nil, Bool.not_true, true_and]
  exact hmem

theorem Chip.passStep_empty (h : descCount ps.desc = 0) : c.passStep p ps = (c, { ps with next := ps.next + 1 }) := by
  have hbeyond : belowCount ps.desc ps.block ps.next = false := by simp [belowCount, h]
  rw [Chip.passStep]
  simp only [hbeyond, Bool.not_false, if_true]

/-- Such a pass goes over the outputs that are left and touches none. -/
theorem Chip.runPass_empty {n : Nat} (h : descCount ps.desc = 0) (hfree : ps.free = true) (hnext : ps.next ≤ 32) (hn : 32 < ps.next + n) :
    (c.runPass p ps n).2 = { ps with next := 32 } ∧ (c.runPass p ps n).1.mem = c.mem := by
  induction n generalizing c ps with
  | zero => omega
  | succ n ih =>
    obtain ⟨hps, hmem⟩ := c.placeHeld_free p ps hfree
    rw [Chip.runPass]
    dsimp only
    rw [hps]
    by_cases hlast : ps.next = 32
    · rw [if_pos (.inr (by omega)), ← hlast]
      exact ⟨rfl, hmem⟩
    · rw [if_neg (by simp only [hfree, Bool.not_true, Bool.false_eq_true, false_or]; omega), Chip.passStep_empty _ p ps h]
      obtain ⟨hpass, hrest⟩ := ih (c.placeHeld p ps).1 { ps with next := ps.next + 1 } h hfree (Nat.succ_le_of_lt (by omega)) (by dsimp only; omega)
      exact ⟨hpass, hrest.trans hmem⟩

/-- A pass of a population that does not learn has no PRE entry (R202). -/
theorem Chip.withPre_off (hlearn : descCfg ps.desc 6 6 = 0) (hnext : ps.next = 32) : c.withPre p ps = { ps with next := 33, heldDrift := [] } := by
  have hnone : c.preEntry p ps = [] := by
    rw [Chip.preEntry, hlearn]
    exact if_neg fun h => absurd h.1 (by decide)
  rw [Chip.withPre, if_pos hnext, hnone]

theorem Chip.advancePass_empty (h : descCount ps.desc = 0) (hlearn : descCfg ps.desc 6 6 = 0) (hfree : ps.free = true) (hnext : ps.next ≤ 32) :
    ((c.advancePass p ps).core p).pass = none ∧ (c.advancePass p ps).mem = c.mem := by
  obtain ⟨hrun, hmem⟩ := c.runPass_empty p ps h hfree hnext (n := 33) (by omega)
  rw [Chip.advancePass_eq]
  generalize c.runPass p ps 33 = r at hrun hmem ⊢
  obtain ⟨d, ps'⟩ := r
  obtain rfl : ps' = { ps with next := 32 } := hrun
  have hdone : Pass.free { ps with next := 33, heldDrift := [] } = true := by
    obtain ⟨⟨hev, -⟩, hlane⟩ : (ps.heldEv = none ∧ ps.heldDrift = []) ∧ ps.heldLane = none := by simpa [Pass.free] using hfree
    rw [Pass.free, hev, hlane]
    rfl
  obtain ⟨hplaced, hplacedMem⟩ := d.placeHeld_free p _ hdone
  have hover : ¬ ((!Pass.free { ps with next := 32 }) = true ∨ 32 < 32) := by
    rw [show Pass.free { ps with next := 32 } = ps.free from rfl, hfree]
    decide
  dsimp only
  rw [if_neg hover, Chip.withPre_off d p { ps with next := 32 } hlearn rfl, hplaced, if_pos hdone, Chip.core_modCore_same]
  exact ⟨rfl, hplacedMem.trans hmem⟩

end

/-! ## NEURON_PASS (R131, R133) -/

/-- The pass over the next lane of a bank. -/
def Chip.firstPass (c : Chip) (p : Nat) (b : Bank) (it : GItem) : Pass :=
  ⟨b.pop, b.range, b.row, b.block, it, b.weights, c.popDesc p b.pop, 0, [], none, [], none⟩

/-- The block after the next lane of the oldest bank has been taken. -/
def Chip.laneTaken (c : Chip) (p : Nat) (b : Bank) (its : List GItem) (bs : List Bank) : Chip :=
  c.setCore p { c.core p with banks := { b with items := its } :: bs }

theorem Chip.neuronPass_starts {c : Chip} {p : Nat} {b : Bank} {bs : List Bank} {it : GItem} {its : List GItem} (hpass : (c.core p).pass = none)
    (hbanks : (c.core p).banks = b :: bs) (hitems : b.items = it :: its) (hheld : c.held p = false) (hdense : (c.core p).denseNext = false)
    (hfrozen : c.frozenSlot p = false) : c.neuronPass p = (c.laneTaken p b its bs).advancePass p (c.firstPass p b it) := by
  have hstart : c.startPass p = some (c.laneTaken p b its bs, c.firstPass p b it) := by
    rw [Chip.startPass]
    simp only [hbanks, hitems]
    rfl
  rw [Chip.neuronPass]
  simp only [hpass, hheld, hdense, hfrozen, hstart, Bool.false_eq_true, or_self, if_false]

/-! ## The place of the scrubber (R138) -/

theorem Chip.placeTrace_ne_slot (c : Chip) (p pop i : Nat) (l : List Nat) (n : Nat) : c.placeTrace p n l ≠ some (.slot pop i) := by
  induction l generalizing n with
  | nil => exact nofun
  | cons r rs ih =>
    rw [Chip.placeTrace]
    split
    · exact nofun
    · exact ih _

/-- A slot that the scrubber visits belongs to one of the populations it walks over. -/
theorem Chip.pop_mem_of_placeAt {c : Chip} {p pop i n : Nat} {l : List Nat} (h : c.placeAt p n l = some (.slot pop i)) : pop ∈ l := by
  induction l generalizing n with
  | nil => exact absurd h (c.placeTrace_ne_slot p pop i _ n)
  | cons q qs ih =>
    rw [Chip.placeAt] at h
    split at h
    · obtain ⟨rfl, -⟩ := Place.slot.inj (Option.some.inj h)
      exact List.mem_cons_self
    · exact List.mem_cons_of_mem _ (ih h)

theorem decayIdx_le {d : Nat} (h : d < 65536) : decayIdx d ≤ 67 := by
  have hlog : d ≠ 0 → Nat.log2 d < 16 := fun h0 => (Nat.log2_lt h0).mpr h
  unfold decayIdx
  split
  · omega
  · have := hlog (by omega)
    dsimp only
    omega

/-- The decay tables stand below the event counters of their core. -/
theorem Chip.decayLane_congr {c d : Chip} {p pop : Nat} (h : RegsKept c d (PmonOf p)) (hpop : pop < 16) (t : Nat) (x : Lane) :
    d.decayLane p pop t x = c.decayLane p pop t x := by
  have hidx : decayIdx ((t + 65536 - x.tag) % 65536) ≤ 67 := decayIdx_le (Nat.mod_lt _ (by decide))
  have hentry : d.decayEntry p pop ((t + 65536 - x.tag) % 65536) = c.decayEntry p pop ((t + 65536 - x.tag) % 65536) :=
    h _ (by simp only [PmonOf, Reg.NE_DECAY]; omega)
  simp only [Chip.decayLane, hentry]

theorem Chip.decayLane_not_late {c : Chip} {p pop t : Nat} {x : Lane} (h : (t + 65536 - x.tag) % 65536 < 32768) : (c.decayLane p pop t x).2 = false := by
  rw [Chip.decayLane]
  dsimp only
  rw [if_neg (Nat.not_le.mpr h)]
  split <;> rfl

section
variable (c : Chip) (p pop i : Nat)

theorem Chip.visit_core : (c.visit p (.slot pop i)).core p = c.core p := by
  have htally := (OnlyRegs.tally c p 0x17).core p
  unfold Chip.visit
  dsimp only
  split
  · exact htally
  · split
    · exact htally
    · rw [Chip.core_writeLane, (OnlyRegs.ite (OnlyRegs.countLate _ p) (OnlyRegs.refl _ _)).core p, htally]

variable {x : Lane} {d : Nat} (hx : c.readLane p i = x) (hd : ((tagOf c.time).toNat + 65536 - x.tag) % 65536 = d)
include hx hd

theorem Chip.visit_young (h : d < 8192) : (c.visit p (.slot pop i)).mem = c.mem := by
  have hread := (Chip.readLane_congr (Chip.mem_tallyCore c p 0x17) p i).trans hx
  rw [Chip.visit]
  dsimp only
  rw [hread, hd, if_pos h, Chip.mem_tallyCore]

theorem Chip.visit_old (hpop : pop < 16) (hold : 8192 ≤ d) (hlate : d < 32768) (hrefr : x.refr = false) :
    (c.visit p (.slot pop i)).mem = (c.writeLane p i (c.decayLane p pop (tagOf c.time).toNat x).1).mem := by
  have hread := (Chip.readLane_congr (Chip.mem_tallyCore c p 0x17) p i).trans hx
  have hdecay := Chip.decayLane_congr (OnlyRegs.tally c p 0x17).2 hpop (tagOf c.time).toNat x
  rw [Chip.visit]
  dsimp only
  rw [hread, hd, if_neg (Nat.not_lt.mpr hold), refractory_of_clear hrefr]
  dsimp only
  rw [hdecay, Chip.decayLane_not_late (hd.trans_lt hlate), if_neg Bool.false_ne_true]
  exact Chip.writeLane_mem (Chip.mem_tallyCore c p 0x17) p i _

end

/-! ## The end of a dense pass (R139) -/

/-- From the last output of the last lane on, where that output lies beyond COUNT, nothing is left to write back. -/
theorem Chip.denseRun_last {c : Chip} {p : Nat} {m : MxPass} {d : List Word} (n : Nat) (hev : m.heldEv = none) (hlane : m.lane + 1 = c.lanes p)
    (hnext : m.next = 31) (hcount : descCount d ≤ 32 * m.block + 31) :
    c.denseRun p m d (n + 2) = (c, { m with next := 0, lane := m.lane + 1 }) := by
  have hbeyond : belowCount d m.block 31 = false := by simpa [belowCount] using hcount
  have hplace : c.placeDense p (descCfg d 5 4) m = (c, m) := by rw [Chip.placeDense, hev]
  have hplace' : c.placeDense p (descCfg d 5 4) { m with next := 0, lane := m.lane + 1 } = (c, { m with next := 0, lane := m.lane + 1 }) := by
    rw [Chip.placeDense, hev]
  have hmore : ¬ (m.heldEv.isSome = true ∨ c.lanes p ≤ m.lane) := by
    rw [hev, Option.isSome_none]
    simp only [Bool.false_eq_true, false_or]
    omega
  rw [Chip.denseRun, hplace]
  dsimp only
  rw [if_neg hmore, if_pos hnext, hnext, hbeyond]
  show c.denseRun p { m with next := 0, lane := m.lane + 1 } d (n + 1) = _
  rw [Chip.denseRun, hplace']
  exact if_pos (.inr (by dsimp only; omega))

theorem Chip.denseWriteback_ends {c : Chip} {p : Nat} {m : MxPass} (hpass : (c.core p).pass = none) (hmx : (c.core p).mx = some m)
    (hev : m.heldEv = none) (hahead : m.ahead = false) (hlane : m.lane + 1 = c.lanes p) (hnext : m.next = 31)
    (hcount : descCount m.desc ≤ 32 * m.block + 31) : c.denseWriteback p = c.modCore p (fun k => { k with mx := none }) := by
  have hover : c.lanes p ≤ m.lane + 1 := by omega
  rw [Chip.denseWriteback]
  simp only [hmx, hpass, hahead, Option.isSome_none, Bool.false_eq_true, or_self, if_false, Chip.denseRun_last (n := 32 * 32 - 1) hev hlane hnext hcount,
    Chip.placeDense, hev, Option.isNone_none, hover, and_self, if_true]

/-! ## The commands -/

/-- EMIT_TIMEOUT: the event that a stalled pass holds is discarded and counted (R137). -/
theorem Chip.emitTimeout_drops {c : Chip} {p : Nat} {ps : Pass} {e : DWord} (hpass : (c.core p).pass = some ps) (hev : ps.heldEv = some e)
    (hto : c.get (Reg.NE_CFG_EMIT_TO p) ≠ 0) : c.emitTimeout p =
      ((c.bump (Reg.NE_EMIT_DROP_COUNT p)).tallyCore p 0x1A).modCore p (fun k => { k with pass := some { ps with heldEv := none } }) := by
  rw [Chip.emitTimeout, if_neg hto]
  simp only [hpass, hev, Option.isSome_some, if_true]

/-- OUTPUT_QUEUE_INJECT: the oldest event enters the router at the port of the slot's logical core (R137). -/
theorem Chip.outInject_enters {c : Chip} {p i : Nat} {e : DWord} {es : List DWord} (hlog : c.logical? p = some i) (hout : (c.core p).outq = e :: es)
    (hroom : c.room (i / 16) (i % 16) 0 = true) :
    c.outInject p = (c.modCore p (fun k => { k with outq := es })).enter (i / 16) (i % 16) 0 (.event e none) := by
  rw [Chip.outInject]
  simp only [hlog, hout, hroom, if_true]

/-- SCRUB_TOUCH: the scrubber visits its place and goes on to the next one (R138). -/
theorem Chip.scrubTouch_visits {c : Chip} {p : Nat} {x : Place} (hscrub : c.get (Reg.NE_CFG_SCRUB_EN p) = 1) (hheld : c.held p = false)
    (hpass : (c.core p).pass = none) (hmx : (c.core p).mx = none) (hfrozen : c.frozenSlot p = false)
    (hplace : c.placeAt p (c.core p).scrub (List.range 16) = some x) :
    c.scrubTouch p = (c.visit p x).modCore p (fun k => { k with scrub := k.scrub + 1 }) := by
  have hon : c.on (Reg.NE_CFG_SCRUB_EN p) = true := by rw [Chip.on, hscrub]; rfl
  rw [Chip.scrubTouch]
  simp only [hon, hheld, hpass, hmx, hfrozen, hplace, Bool.not_true, Option.isSome_none, Bool.false_eq_true, or_self, if_false]

theorem leaves_whereOn {ins : Instr} {s : State} {slot : PCore} {f : Chip → Chip} {t : Chip} (hon : s.chip.engineOn slot.toNat = true)
    (hex : exec ins s = act (fun c => if c.engineOn slot.toNat then f c else c) s) (hf : f s.chip = t) : Leaves ins s t :=
  leaves_of_act hex ((if_pos hon).trans hf)

theorem engineCommandsHold : EngineCommandsHold := by
  intro s slot c p k
  refine ⟨fun b bs it its hon hpass hbanks hitems hheld hdense hfrozen => ?_, fun ps e hpass hev hto => ?_, fun i e es hon hlog hout hroom => ?_,
    fun pop i hon hscrub hheld hpass hmx hfrozen hplace => ?_, fun m hon hpass hmx hev hahead hlane hnext hcount => ?_⟩
  · have hstart := Chip.neuronPass_starts hpass hbanks hitems hheld hdense hfrozen
    have htaken : (c.laneTaken p b its bs).core p = { k with banks := { b with items := its } :: bs } := Chip.core_setCore_same c p _
    obtain ⟨hin, hgreg⟩ := (c.laneTaken p b its bs).advancePass_spec p (c.firstPass p b it) (congrArg Core.banks htaken)
    refine ⟨_, leaves_whereOn (f := (·.neuronPass p)) hon rfl hstart, hin, hgreg.trans ?_, fun hempty hlearn => ?_⟩
    · exact funext fun r => (congrArg (Core.greg · r) htaken :)
    · exact Chip.advancePass_empty _ p (c.firstPass p b it) hempty hlearn rfl (Nat.zero_le _)
  · let d := (c.bump (Reg.NE_EMIT_DROP_COUNT p)).tallyCore p 0x1A
    have htally := OnlyRegs.tally (c.bump (Reg.NE_EMIT_DROP_COUNT p)) p 0x1A
    have hdrop : OnlyRegs c d (fun a => a = Reg.NE_EMIT_DROP p ∨ PmonOf p a) :=
      (OnlyRegs.bump c (Reg.NE_EMIT_DROP_COUNT p) 1 _ (.inl rfl)).trans (htally.mono fun _ h => .inr h)
    refine ⟨_, leaves_of_act (f := (·.emitTimeout p)) rfl (Chip.emitTimeout_drops hpass hev hto), ?_, ?_, hdrop.2, hdrop.mem⟩
    · rw [Chip.core_modCore_same]
    · have hapart : ¬ PmonOf p (Reg.NE_EMIT_DROP_COUNT p).addr := by simp only [PmonOf, Reg.NE_EMIT_DROP_COUNT, Reg.NE_EMIT_DROP]; omega
      exact (htally.get _ hapart).trans (Chip.get_bump _ _ _ rfl)
  · refine ⟨_, leaves_whereOn (f := (·.outInject p)) hon rfl (Chip.outInject_enters hlog hout hroom), Chip.core_modCore_same c p (fun k => { k with outq := es }), ?_, fun _ => rfl, rfl⟩
    exact Chip.buf_setBuf_same _ _ _ _ _
  · have hpop : pop < 16 := List.mem_range.mp (Chip.pop_mem_of_placeAt hplace)
    refine ⟨_, leaves_whereOn (f := (·.scrubTouch p)) hon rfl (Chip.scrubTouch_visits hscrub hheld hpass hmx hfrozen hplace), ?_, ?_⟩
    · rw [Chip.core_modCore_same, Chip.visit_core]
    · intro x d
      have hx : c.readLane p i = x := rfl
      have hd : ((tagOf c.time).toNat + 65536 - x.tag) % 65536 = d := rfl
      clear_value d x
      rw [Chip.modCore_set, Chip.setCore_mem]
      exact ⟨c.visit_young p pop i hx hd, c.visit_old p pop i hx hd hpop⟩
  · refine ⟨_, leaves_whereOn (f := (·.denseWriteback p)) hon rfl (Chip.denseWriteback_ends hpass hmx hev hahead hlane hnext hcount), Chip.core_modCore_same c p (fun k => { k with mx := none }), rfl, fun _ => rfl⟩

/-! ## The write-back of a dense lane (R139, R151) -/

/-- The neuron-lane of output `j` as a dense pass leaves it. -/
def Chip.denseWritten (c : Chip) (p : Nat) (m : MxPass) (d : List Word) (lane j : Nat) : Chip :=
  let i := neuronOf d m.block j * c.lanes p + lane
  let v := toQ16 ((m.acc.getD lane []).getD j 0)
  c.writeLane p i { c.readLane p i with pot := v.1, sat := v.2, tag := (tagOf c.time).toNat }

theorem denseLanesHold : DenseLanesHold := by
  intro c p lane j m d n i v pay hprog r
  let w := (c.denseWritten p m d lane j).tallyCore p 0x16
  have hlogical : w.logicalOf p = c.logicalOf p := Chip.logicalOf_tallyCore _ p 0x16
  have htag : BitVec.ofNat 16 (tagOf c.time).toNat = tagOf c.time := by rw [BitVec.ofNat_toNat, BitVec.setWidth_eq]
  have hr : r = if (descCfg d 3 3 = 1 ∧ pay = 0) ∨ descCfg d 5 4 = 0 then (w, none)
      else (w, some (mkEvent (emitKey (c.logicalOf p) n (descUser d)) pay lane (tagOf c.time))) := by
    rw [← hlogical, ← htag]
    show c.denseLane p m d lane j = _
    rw [Chip.denseLane]
    simp only [Chip.runUop_none hprog, Bool.false_eq_true, false_or]
    rfl
  refine ⟨?_, ?_⟩
  · rw [hr, apply_ite Prod.fst, ite_self]
    exact Chip.mem_tallyCore _ p 0x16
  · rw [hr, apply_ite Prod.snd]

/-- Settles O21: the commands of the neuron engine and of the output queue, and the write-back of a dense lane. -/
theorem engineAndDense : Obligations.EngineAndDense := ⟨engineCommandsHold, denseLanesHold⟩

end Sys2Proof.Machine
end

section
/-! SUPPORT. Register-register and immediate instructions, branches and jumps (O6, O8). -/

namespace Sys2Proof.Machine

/-! ## Instructions that fill gD -/

section
variable {ins : Instr} {s : State} {i : Nat} {w : Word} {sem : Sem}

/-- An issued instruction whose meaning fills gD completes in sequence. -/
theorem inSequence_of_setReg {r : Nat} {v : Word} (hex : exec ins s = act (·.runInstr i w sem) s) (free : Free s.chip i w)
    (hsem : sem s.chip (s.chip.pcore i) i w = .done (s.chip.setReg (s.chip.pcore i) r v)) :
    InSequence ins s (s.chip.pcore i) (s.chip.setReg (s.chip.pcore i) r v) :=
  inSequence_of_done hex free hsem rfl (Chip.setReg_stepping ..)

end

/-- What filling a register in sequence leaves: that register, those of every completed instruction, the marks of the slot. -/
theorem InSequence.setReg_spec {ins : Instr} {s : State} {p r : Nat} {v : Word} (h : InSequence ins s p (s.chip.setReg p r v)) (hr : r < 32) :
    ∃ t, Leaves ins s t ∧ t.greg p r = (if r = 0 then 0 else v) ∧ (∀ r', r' ≠ r → t.greg p r' = s.chip.greg p r') ∧
      OnlyGregs s.chip t p (s.chip.pc p == 0xFFFC) ∧ Completed s.chip t p (seqPc s.chip p) ∧ RegsKept s.chip t (RunRegs p) ∧
      { t with regs := s.chip.regs, cores := s.chip.cores } = s.chip := by
  obtain ⟨t, hleaves, hdone, hregs, hothers, hcore, hrest⟩ := h
  have hset : (s.chip.setReg p r v).core p = (s.chip.core p).setReg r v := Chip.core_modCore_same _ _ _
  rw [hset, Core.setReg_overrun] at hcore
  have hgreg : ∀ r', t.greg p r' = ((s.chip.core p).setReg r v).greg r' := fun r' => by rw [Chip.greg, hcore]; rfl
  refine ⟨t, hleaves, ?_, fun r' hr' => ?_, ⟨fun q hq => ?_, ?_, ?_⟩, hdone, hregs, regsCores_trans (d := s.chip.setReg p r v) rfl hrest⟩
  · rw [hgreg, Core.greg_setReg_same _ _ _ hr]
  · rw [hgreg, Core.greg_setReg_other _ _ _ _ hr']
    rfl
  · rw [hothers q hq]
    exact Chip.core_setCore_other _ _ _ _ hq
  · rw [hcore]
  · rw [hcore]
    have hfile := Core.setReg_rest (s.chip.core p) r v
    exact congrArg (fun k : Core => { k with overrun := (s.chip.core p).overrun, dbgSkip := (s.chip.core p).dbgSkip }) hfile

/-! ## Register-register instructions (R163) -/

theorem aluSlt_eq : aluSlt = fun x y => if x.toInt < y.toInt then 1 else 0 := by
  funext x y; simp only [aluSlt, BitVec.slt, decide_eq_true_eq]
theorem aluSltu_eq : aluSltu = fun x y => if x.toNat < y.toNat then 1 else 0 := by
  funext x y; simp only [aluSltu, BitVec.ult, decide_eq_true_eq]
theorem aluMin_eq : aluMin = fun x y => if x.toInt < y.toInt then x else y := by
  funext x y; simp only [aluMin, BitVec.slt, decide_eq_true_eq]
theorem aluMax_eq : aluMax = fun x y => if x.toInt < y.toInt then y else x := by
  funext x y; simp only [aluMax, BitVec.slt, decide_eq_true_eq]

/-- What every register-register instruction of the table runs. -/
theorem exec_aluRows {row} (hrow : row ∈ aluRows) (s : State) (i : CoreId) (d a b : BitVec 5) :
    exec (row.1 i d a b) s = act (·.runInstr i.toNat (rWord 0x00 d a b row.2.1) (semR row.2.2)) s := by
  simp only [aluRows, ← aluSlt_eq, ← aluSltu_eq, ← aluMin_eq, ← aluMax_eq, List.mem_cons, List.not_mem_nil, or_false] at hrow
  rcases hrow with rfl | rfl | rfl | rfl | rfl | rfl | rfl | rfl | rfl | rfl | rfl | rfl | rfl | rfl | rfl <;> rfl

theorem semR_word (f : Word → Word → Word) (c : Chip) (p i op : Nat) (d a b : BitVec 5) (g : BitVec 11) :
    semR f c p i (rWord op d a b g) = .done (c.setReg p d.toNat (f (c.greg p a.toNat) (c.greg p b.toNat))) := by
  obtain ⟨hd, ha, hb, -⟩ := rWord_fields op d a b g
  rw [semR, hd, ha, hb]

/-- Settles O6: the result of the table's row goes to gD, in sequence. -/
theorem registerInstructions : Obligations.RegisterInstructions := by
  intro row hrow s i d a b p free
  exact (inSequence_of_setReg (exec_aluRows hrow s i d a b) free (semR_word _ _ _ _ _ _ _ _ _)).setReg_spec d.isLt

/-! ## Immediate instructions (R164) -/

theorem iWord_imm (op : Nat) (d a : BitVec 5) (m : BitVec 16) :
    fI (iWord op d a m) = m.toNat ∧ zextI (iWord op d a m) = m.setWidth 32 := by
  have hm := m.isLt
  have hlow : (iWord op d a m).toNat % 2 ^ 16 = m.toNat := by rw [toNat_iWord]; omega
  refine ⟨?_, congrArg (BitVec.setWidth 32) (BitVec.eq_of_toNat_eq ?_)⟩
  · rw [fI, wbits, BitVec.ushiftRight_zero]; exact hlow
  · rw [BitVec.extractLsb'_toNat, Nat.shiftRight_zero]; exact hlow

/-- The selectors of SHIFTI and their shifts. -/
def shiftRows : List (Nat × (Word → Word → Word)) := [(0, aluSll), (1, aluSrl), (2, aluSra)]

theorem aluSlt_signExtend (x : Word) (m : BitVec 16) : aluSlt x (m.signExtend 32) = if x.toInt < m.toInt then 1 else 0 := by
  simp only [aluSlt_eq, BitVec.toInt_signExtend_of_le (by decide : 16 ≤ 32)]

section
variable {c : Chip} {p i op : Nat} {d a : BitVec 5} {m : BitVec 16}

theorem semI_word (f : Word → Word → Word) (imm : Word → Word) :
    semI f imm c p i (iWord op d a m) = .done (c.setReg p d.toNat (f (c.greg p a.toNat) (imm (iWord op d a m)))) := by
  obtain ⟨hd, ha, -⟩ := iWord_fields op d a m
  rw [semI, hd, ha]

/-- SHIFTI by a selector of the table. -/
theorem semShifti_word {sel : Nat} {f : Word → Word → Word} (hf : (sel, f) ∈ shiftRows) (hsel : m.toNat / 32 = sel) :
    semShifti c p i (iWord op d a m) = .done (c.setReg p d.toNat (f (c.greg p a.toNat) (m.setWidth 32))) := by
  obtain ⟨himm, hzext⟩ := iWord_imm op d a m
  have hrun : ∀ f, semI f zextI c p i (iWord op d a m) = .done (c.setReg p d.toNat (f (c.greg p a.toNat) (m.setWidth 32))) := fun f => by
    rw [semI_word, hzext]
  simp only [shiftRows, List.mem_cons, Prod.mk.injEq, List.not_mem_nil, or_false] at hf
  rw [semShifti, himm, if_neg (by omega), ← hrun f, hsel]
  rcases hf with ⟨rfl, rfl⟩ | ⟨rfl, rfl⟩ | ⟨rfl, rfl⟩ <;> rfl

theorem semShifti_illegal (h : 3 ≤ m.toNat / 32) : semShifti c p i (iWord op d a m) = illegal c (iWord op d a m) := by
  obtain ⟨himm, -⟩ := iWord_imm op d a m
  rw [semShifti, himm, if_pos (by omega)]

theorem semLui_word : semLui c p i (iWord op d 0 m) = .done (c.setReg p d.toNat (m ++ 0#16)) := by
  obtain ⟨hd, ha, -⟩ := iWord_fields op d 0 m
  obtain ⟨himm, -⟩ := iWord_imm op d 0 m
  have hhigh : BitVec.ofNat 32 (m.toNat * 65536) = m ++ 0#16 := BitVec.eq_of_toNat_eq (by
    have hm := m.isLt
    rw [BitVec.toNat_append, BitVec.toNat_ofNat, BitVec.toNat_ofNat, Nat.shiftLeft_eq, Nat.zero_mod, Nat.or_zero]
    omega)
  rw [semLui, hd, ha, himm, hhigh]
  rfl

theorem toNat_ne_zero {n : Nat} {x : BitVec n} (h : x ≠ 0) : x.toNat ≠ 0 := fun hx => h (BitVec.eq_of_toNat_eq hx)

theorem semLui_illegal (h : a ≠ 0) : semLui c p i (iWord op d a m) = illegal c (iWord op d a m) := by
  obtain ⟨-, ha, -⟩ := iWord_fields op d a m
  rw [semLui, ha, if_pos (toNat_ne_zero h)]

theorem semTime_low : semTime c p i (iWord op d 0 0) =
    .done ((c.modCore p (fun k => { k with timeHi := c.time.extractLsb' 32 16 })).setReg p d.toNat (c.time.extractLsb' 0 32)) := by
  obtain ⟨hd, ha, -⟩ := iWord_fields op d 0 0
  obtain ⟨himm, -⟩ := iWord_imm op d 0 0
  rw [semTime, hd, ha, himm]
  rfl

theorem semTime_high : semTime c p i (iWord op d 0 1) = .done (c.setReg p d.toNat ((c.core p).timeHi.setWidth 32)) := by
  obtain ⟨hd, ha, -⟩ := iWord_fields op d 0 1
  obtain ⟨himm, -⟩ := iWord_imm op d 0 1
  rw [semTime, hd, ha, himm]
  rfl

theorem semTime_illegal (h : a ≠ 0 ∨ 2 ≤ m.toNat) : semTime c p i (iWord op d a m) = illegal c (iWord op d a m) := by
  obtain ⟨-, ha, -⟩ := iWord_fields op d a m
  obtain ⟨himm, -⟩ := iWord_imm op d a m
  rw [semTime, ha, himm, if_pos (h.imp_left toNat_ne_zero)]

end

/-- What every immediate instruction of the table runs. -/
theorem exec_immRows {row} (hrow : row ∈ immRows) (s : State) (i : CoreId) (d a : BitVec 5) (m : BitVec 16) :
    ∃ f imm, exec (row.1 i d a m) s = act (·.runInstr i.toNat (iWord row.2.1 d a m) (semI f imm)) s ∧
      ∀ x, f x (imm (iWord row.2.1 d a m)) = row.2.2 x m := by
  have hsext : ∀ op, sextI (iWord op d a m) = m.signExtend 32 := fun op => (iWord_fields op d a m).2.2
  have hzext : ∀ op, zextI (iWord op d a m) = m.setWidth 32 := fun op => (iWord_imm op d a m).2
  simp only [immRows, List.mem_cons, List.not_mem_nil, or_false] at hrow
  rcases hrow with rfl | rfl | rfl | rfl | rfl
  · exact ⟨aluAdd, sextI, rfl, fun x => congrArg (x + ·) (hsext _)⟩
  · exact ⟨aluAnd, zextI, rfl, fun x => congrArg (x &&& ·) (hzext _)⟩
  · exact ⟨aluOr, zextI, rfl, fun x => congrArg (x ||| ·) (hzext _)⟩
  · exact ⟨aluXor, zextI, rfl, fun x => congrArg (x ^^^ ·) (hzext _)⟩
  · exact ⟨aluSlt, sextI, rfl, fun x => (congrArg (aluSlt x) (hsext _)).trans (aluSlt_signExtend x m)⟩

theorem immediateInstructionsHold : ImmediateInstructionsHold := by
  intro s i d a m p x bad
  refine ⟨fun row hrow free => ?_, fun free => ?_, fun free => ⟨?_, fun ha takes => ?_⟩, fun free => ⟨?_, ?_, fun hbad takes => ?_⟩⟩
  · obtain ⟨f, imm, hex, hf⟩ := exec_immRows hrow s i d a m
    exact inSequence_of_setReg hex free ((semI_word f imm).trans (by rw [hf]))
  · intro n ok
    have hcount : (m.setWidth 32 : Word).toNat % 32 = n := by rw [BitVec.toNat_setWidth]; omega
    have shifts : ∀ sel f v, (sel, f) ∈ shiftRows → f x (m.setWidth 32) = v → ok sel v := fun sel f v hf hv hsel =>
      inSequence_of_setReg rfl free ((semShifti_word hf hsel).trans (by rw [← hv]))
    refine ⟨shifts 0 aluSll _ ?_ (congrArg (x <<< ·) hcount), shifts 1 aluSrl _ ?_ (congrArg (x >>> ·) hcount),
      shifts 2 aluSra _ ?_ (congrArg x.sshiftRight hcount), fun hsel takes => ?_⟩
    · exact .head _
    · exact .tail _ (.head _)
    · exact .tail _ (.tail _ (.head _))
    · exact traps_of_illegal rfl free (semShifti_illegal hsel) takes
  · rintro rfl
    exact inSequence_of_setReg rfl free semLui_word
  · exact traps_of_illegal rfl free (semLui_illegal ha) takes
  · rintro rfl rfl
    refine inSequence_of_done rfl free semTime_low rfl ?_
    rw [Chip.setReg_stepping, Chip.core_modCore_same]
  · rintro rfl rfl
    exact inSequence_of_setReg rfl free semTime_high
  · exact traps_of_illegal rfl free (semTime_illegal hbad) takes

/-! ## Branches and jumps (R166) -/

section
variable {ins : Instr} {s : State} {i : Nat} {w : Word} {sem : Sem}

/-- An issued instruction whose meaning passes control to `v`, and leaves the STATE of its sequencer, completes there. -/
theorem completesAs_of_jump {c1 : Chip} {v : Nat} (hex : exec ins s = act (·.runInstr i w sem) s) (free : Free s.chip i w)
    (hsem : sem s.chip (s.chip.pcore i) i w = .jump c1 v) (hv : v < 2 ^ 16)
    (hstate : c1.seqState (s.chip.pcore i) = s.chip.seqState (s.chip.pcore i))
    (hstep : (c1.core (s.chip.pcore i)).stepping = (s.chip.core (s.chip.pcore i)).stepping) :
    CompletesAs ins s (s.chip.pcore i) c1 v false := by
  obtain ⟨hdone, hregs, hothers, hcore, hrest⟩ := Chip.settle_jump c1 (s.chip.pcore i) (s.chip.pc (s.chip.pcore i)) v hv
    (by rw [← free.1.live, Chip.seqLive, Chip.seqLive, hstate]) (hstep.trans free.2)
  refine ⟨_, ?_, hdone, hregs, hothers, ?_, hrest⟩
  · rw [Leaves, hex, act, Chip.runInstr_issues _ _ _ _ free.1, hsem]
  · rw [hcore, Bool.or_false]

/-- An issued instruction that passes control to `t` goes there, or raises ACCESS at itself. -/
theorem goesTo_of_goTo {c1 : Chip} {t : Word} (hex : exec ins s = act (·.runInstr i w sem) s) (free : Free s.chip i w)
    (hsem : sem s.chip (s.chip.pcore i) i w = goTo s.chip c1 t) (hregs : c1.regs = s.chip.regs)
    (hstep : (c1.core (s.chip.pcore i)).stepping = (s.chip.core (s.chip.pcore i)).stepping) : GoesTo ins s (s.chip.pcore i) c1 t := by
  refine ⟨fun ht => ?_, fun ht takes => ?_⟩
  · exact completesAs_of_jump hex free (hsem.trans (if_neg (Nat.not_le.mpr ht))) ht (Chip.get_congr _ _ hregs _) hstep
  · have h := traps_of_trap hex free (hsem.trans (if_pos ht)) (by decide) (by decide) takes
    rwa [BitVec.ofNat_toNat, BitVec.setWidth_eq] at h

end

/-- The target of a branch or JAL: PC + 4 + sext(IMM) × 4. -/
theorem target_iWord (pc op : Nat) (d a : BitVec 5) (m : BitVec 16) :
    target pc (iWord op d a m) = BitVec.ofInt 32 ((pc : Int) + 4 + m.toInt * 4) := by
  obtain ⟨-, -, hs⟩ := iWord_fields op d a m
  rw [target, hs, BitVec.shiftLeft_eq_mul_twoPow, BitVec.ofInt_add, BitVec.ofInt_mul]
  rfl

/-- The target of JALR: the sum with its low two bits cleared. -/
theorem clearLowTwo (x : Word) : x &&& ~~~ 3#32 = BitVec.ofNat 32 (x.toNat / 4 * 4) := by
  have h : x &&& ~~~ 3#32 = x >>> 2 <<< 2 := by
    refine BitVec.eq_of_getLsbD_eq fun j hj => ?_
    interval_cases j <;> simp
  rw [h]
  refine BitVec.eq_of_toNat_eq ?_
  rw [BitVec.toNat_shiftLeft, BitVec.toNat_ushiftRight, Nat.shiftRight_eq_div_pow, Nat.shiftLeft_eq, BitVec.toNat_ofNat]

/-- What every branch of the table runs. -/
theorem exec_branchRows {row} (hrow : row ∈ branchRows) (s : State) (i : CoreId) (d a : BitVec 5) (m : BitVec 16) :
    ∃ cond, exec (row.1 i d a m) s = act (·.runInstr i.toNat (iWord row.2.1 d a m) (semBranch cond)) s ∧ ∀ x y, cond x y = row.2.2 x y := by
  simp only [branchRows, List.mem_cons, List.not_mem_nil, or_false] at hrow
  rcases hrow with rfl | rfl | rfl | rfl | rfl | rfl
  · exact ⟨brEq, rfl, fun x y => rfl⟩
  · exact ⟨brNe, rfl, fun x y => by simp only [brNe, bne, beq_eq_decide, ← decide_not]⟩
  · exact ⟨brLt, rfl, fun x y => rfl⟩
  · exact ⟨brGe, rfl, fun x y => by simp only [brGe, BitVec.slt, ← decide_not, Int.not_lt]⟩
  · exact ⟨brLtu, rfl, fun x y => rfl⟩
  · exact ⟨brGeu, rfl, fun x y => by simp only [brGeu, BitVec.ult, ← decide_not, Nat.not_lt]⟩

section
variable {c : Chip} {p i op : Nat} {d a : BitVec 5} {m : BitVec 16}

theorem semBranch_word (cond : Word → Word → Bool) : semBranch cond c p i (iWord op d a m) =
    if cond (c.greg p d.toNat) (c.greg p a.toNat) then goTo c c (BitVec.ofInt 32 ((c.pc p : Int) + 4 + m.toInt * 4)) else .done c := by
  obtain ⟨hd, ha, -⟩ := iWord_fields op d a m
  rw [semBranch, hd, ha, target_iWord]

theorem semJal_word : semJal c p i (iWord op d 0 m) =
    goTo c (c.setReg p d.toNat (BitVec.ofNat 32 (c.pc p + 4))) (BitVec.ofInt 32 ((c.pc p : Int) + 4 + m.toInt * 4)) := by
  obtain ⟨hd, ha, -⟩ := iWord_fields op d 0 m
  rw [semJal, hd, ha, target_iWord]
  rfl

theorem semJal_illegal (h : a ≠ 0) : semJal c p i (iWord op d a m) = illegal c (iWord op d a m) := by
  obtain ⟨-, ha, -⟩ := iWord_fields op d a m
  rw [semJal, ha, if_pos (toNat_ne_zero h)]

theorem semJalr_word : semJalr c p i (iWord op d a m) =
    goTo c (c.setReg p d.toNat (BitVec.ofNat 32 (c.pc p + 4))) (BitVec.ofNat 32 (localAddr c p a m / 4 * 4)) := by
  obtain ⟨hd, ha, hs⟩ := iWord_fields op d a m
  rw [semJalr, hd, ha, hs, clearLowTwo]
  rfl

end

theorem controlFlowHold : ControlFlowHold := by
  intro s i d a m p rel linked
  have hstep : (linked.core p).stepping = (s.chip.core p).stepping := Chip.setReg_stepping ..
  refine ⟨fun row hrow free => ?_, fun free => ⟨?_, fun ha takes => ?_⟩, fun free => ?_⟩
  · obtain ⟨cond, hex, hcond⟩ := exec_branchRows hrow s i d a m
    refine ⟨fun h => ?_, fun h => ?_⟩ <;> rw [← hcond] at h
    · exact goesTo_of_goTo hex free ((semBranch_word cond).trans (if_pos h)) rfl rfl
    · exact inSequence_of_done hex free ((semBranch_word cond).trans (if_neg (ne_true_of_eq_false h))) rfl rfl
  · rintro rfl
    exact goesTo_of_goTo rfl free semJal_word rfl hstep
  · exact traps_of_illegal rfl free (semJal_illegal ha) takes
  · exact goesTo_of_goTo rfl free semJalr_word rfl hstep

/-- Settles O8: immediates fill gD or are ILLEGAL; branches and jumps go to their targets or raise ACCESS. -/
theorem immediatesAndControlFlow : Obligations.ImmediatesAndControlFlow := ⟨immediateInstructionsHold, controlFlowHold⟩

end Sys2Proof.Machine
end

section
/-! SUPPORT. What a core that halts leaves (O11, O12). -/

namespace Sys2Proof.Machine

/-- What one step of a run establishes and every step keeps holds after the run. -/
theorem foldl_establishes {α β : Type} {f : β → α → β} {P : β → Prop} {x : α} {l : List α} (hx : x ∈ l) (sets : ∀ d, P (f d x))
    (keeps : ∀ d y, P d → P (f d y)) (c : β) : P (l.foldl f c) := by
  obtain ⟨before, after, rfl⟩ := List.append_of_mem hx
  rw [List.foldl_append, List.foldl_cons]
  exact List.foldlRecOn after f (sets _) fun d hd y _ => keeps d y hd

/-! ## Queues that drain (R216) -/

theorem Core.queue_setQueue_same (k : Core) {q : Nat} (l : List Tuple) (hq : q < 4) : (k.setQueue q l).queue q = l := by
  simp [Core.queue, Core.setQueue, hq]

theorem Core.queue_setQueue_other (k : Core) {q q' : Nat} (l : List Tuple) (h : q' ≠ q) : (k.setQueue q l).queue q' = k.queue q' := by
  simp only [Core.queue, Core.setQueue]
  split
  · exact Vector.getElem_setIfInBounds_ne _ h.symm
  · rfl

/-- A slot's record but for its queues. -/
def Core.withoutQueues (k : Core) : Core := { k with queues := Core.init.queues }

theorem Core.greg_withoutQueues (k : Core) : k.withoutQueues.greg = k.greg := rfl
theorem Core.stepping_withoutQueues (k : Core) : k.withoutQueues.stepping = k.stepping := rfl

/-- The queue closed and emptied, its words counted, before its credits return. -/
def Chip.queueEmptied (c : Chip) (p q : Nat) : Chip :=
  ((c.clr (Reg.WADI_Q_STAT_STATE p q)).modCore p (·.setQueue q [])).bump (Reg.WADI_Q_DISCARD_DRAINED p q) (wordsOf ((c.core p).queue q))

/-- A run of steps that change routers only changes routers only. -/
theorem foldl_rest {α : Type} {f : Chip → α → Chip} (h : ∀ d x, { f d x with routers := d.routers } = d) (l : List α) (c : Chip) :
    { l.foldl f c with routers := c.routers } = c := by
  have step : ∀ d x, ({ f d x with routers := c.routers } : Chip) = { d with routers := c.routers } := fun d x =>
    (congrArg (fun e : Chip => ({ e with routers := c.routers } : Chip)) (h d x) :)
  exact foldl_kept (fun d : Chip => ({ d with routers := c.routers } : Chip)) step l c

theorem Chip.creditTuple_rest (c : Chip) (p q : Nat) (t : Tuple) (orphan : Bool) : { c.creditTuple p q t orphan with routers := c.routers } = c := by
  unfold Chip.creditTuple
  exact Chip.creditBack_rest ..

theorem Chip.drainQueue_eq (c : Chip) (p q : Nat) :
    c.drainQueue p q = ((c.core p).queue q).foldl (fun d t => d.creditTuple p q t true) (c.queueEmptied p q) := rfl

/-- The credits that return change routers only. -/
theorem Chip.drainQueue_rest (c : Chip) (p q : Nat) :
    { c.drainQueue p q with routers := (c.queueEmptied p q).routers } = c.queueEmptied p q := by
  rw [Chip.drainQueue_eq]
  exact foldl_rest (fun d t => Chip.creditTuple_rest d p q t true) _ _

theorem Chip.core_queueEmptied (c : Chip) (p q : Nat) : (c.queueEmptied p q).core p = (c.core p).setQueue q [] := by
  rw [Chip.queueEmptied, Chip.bump_put, Chip.core_put, Chip.core_modCore_same, Chip.clr_put, Chip.core_put]

theorem Chip.core_drainQueue (c : Chip) (p q : Nat) : (c.drainQueue p q).core p = (c.core p).setQueue q [] :=
  (core_of_routers (c.drainQueue_rest p q) p).trans (c.core_queueEmptied p q)

/-- The registers of slot `p`'s queues that a drain writes. -/
def DrainRegs (p a : Nat) : Prop := ∃ q, q < 4 ∧ (a = Reg.WADI_Q_STAT p q ∨ a = Reg.WADI_Q_DISCARD p q)

theorem Chip.drainQueue_regs (c : Chip) (p : Nat) {q : Nat} (hq : q < 4) : RegsKept c (c.drainQueue p q) (DrainRegs p) := by
  intro a ha
  have hregs : (c.drainQueue p q).regs = (c.queueEmptied p q).regs := (congrArg Chip.regs (c.drainQueue_rest p q) :)
  rw [Chip.rd_congr _ _ hregs]
  exact (Chip.rd_put_other _ _ _ _ fun e => ha ⟨q, hq, .inr e⟩).trans (Chip.rd_put_other c _ _ _ fun e => ha ⟨q, hq, .inl e⟩)

theorem Chip.drainQueue_fw (c : Chip) (p q : Nat) : (c.drainQueue p q).fw = c.fw := by
  have hfw : (c.drainQueue p q).fw = (c.queueEmptied p q).fw := (congrArg Chip.fw (c.drainQueue_rest p q) :)
  rw [hfw, Chip.queueEmptied, Chip.bump_put, Chip.put_fw, Chip.modCore_set, Chip.setCore_fw, Chip.clr_put, Chip.put_fw]

/-- Queue `q` of slot `p` is DRAINED: closed and empty. -/
def Drained (p q : Nat) (c : Chip) : Prop := (c.core p).queue q = [] ∧ c.get (Reg.WADI_Q_STAT_STATE p q) = 0

theorem drained_drainQueue (c : Chip) (p : Nat) {q : Nat} (hq : q < 4) : Drained p q (c.drainQueue p q) := by
  refine ⟨?_, (get_of_routers (c.drainQueue_rest p q) _).trans ?_⟩
  · rw [Chip.core_drainQueue, Core.queue_setQueue_same _ _ hq]
  · have hne : Reg.WADI_Q_STAT p q ≠ Reg.WADI_Q_DISCARD p q := by simp only [Reg.WADI_Q_STAT, Reg.WADI_Q_DISCARD]; omega
    exact (Chip.get_put_addr _ _ _ _ hne).trans (Chip.get_put_fits c (Reg.WADI_Q_STAT_STATE p q) 0 rfl)

theorem Drained.drainQueue {c : Chip} {p q : Nat} (h : Drained p q c) (hq : q < 4) (q' : Nat) : Drained p q (c.drainQueue p q') := by
  by_cases he : q = q'
  · exact he ▸ drained_drainQueue c p hq
  · obtain ⟨hempty, hclosed⟩ := h
    refine ⟨?_, (get_of_routers (c.drainQueue_rest p q') _).trans ?_⟩
    · rw [Chip.core_drainQueue, Core.queue_setQueue_other _ _ he, hempty]
    · have hstat : Reg.WADI_Q_STAT p q ≠ Reg.WADI_Q_STAT p q' := by simp only [Reg.WADI_Q_STAT]; omega
      have hdiscard : Reg.WADI_Q_STAT p q ≠ Reg.WADI_Q_DISCARD p q' := by simp only [Reg.WADI_Q_STAT, Reg.WADI_Q_DISCARD]; omega
      exact (Chip.get_put_addr _ _ _ _ hdiscard).trans ((Chip.get_put_addr c _ _ _ hstat).trans hclosed)

section
variable (c : Chip) (p : Nat)

theorem Chip.drainQueues_eq : c.drainQueues p = (List.range 4).foldl (fun d q => d.drainQueue p q) c := rfl

theorem drained_drainQueues {q : Nat} (hq : q < 4) : Drained p q (c.drainQueues p) := by
  rw [Chip.drainQueues_eq]
  exact foldl_establishes (List.mem_range.mpr hq) (fun d => drained_drainQueue d p hq) (fun _ q' hd => hd.drainQueue hq q') c

theorem Chip.drainQueues_regs : RegsKept c (c.drainQueues p) (DrainRegs p) := by
  rw [Chip.drainQueues_eq]
  exact List.foldlRecOn (List.range 4) _ (motive := fun d => RegsKept c d (DrainRegs p)) (RegsKept.refl _ _)
    fun d hd _ hq => hd.trans (d.drainQueue_regs p (List.mem_range.mp hq))

theorem Chip.drainQueues_fw : (c.drainQueues p).fw = c.fw := by
  rw [Chip.drainQueues_eq]
  exact foldl_kept Chip.fw (fun d q => d.drainQueue_fw p q) _ c

/-- A drain changes nothing of the slot's record but its queues. -/
theorem Chip.drainQueues_core : ((c.drainQueues p).core p).withoutQueues = (c.core p).withoutQueues := by
  have step : ∀ (d : Chip) q, ((d.drainQueue p q).core p).withoutQueues = (d.core p).withoutQueues := fun d q => by
    rw [Chip.core_drainQueue]; rfl
  rw [Chip.drainQueues_eq]
  exact foldl_kept (fun d : Chip => (d.core p).withoutQueues) step _ c

end

/-! ## Halts (R181, R186, R189) -/

/-- The block with the registers of a core that enters HALTED. -/
def Chip.haltMarked (c : Chip) (p hcause : Nat) : Chip :=
  ((((c.put (Reg.CORE_STAT_STATE p) 0).put (Reg.CORE_STAT_HCAUSE p) hcause).put (Reg.CORE_STAT_HOLD p) 0).put (Reg.BDP_CORE_STAT_DHALT p) 0).put
    (Reg.BDP_CORE_STAT_BPHIT p) 0

/-- The record of a core that enters HALTED, before its queues drain. -/
def Core.haltMarked (k : Core) : Core := { k with holdReq := false, haltDue := none, dbgSkip := false }

theorem Core.greg_haltMarked (k : Core) : k.haltMarked.greg = k.greg := rfl
theorem Core.stepping_haltMarked (k : Core) : k.haltMarked.stepping = k.stepping := rfl

/-- The block with the core halted, and the halt reported. -/
def Chip.halted (c : Chip) (p hcause : Nat) : Chip := (c.enterHalt p hcause).reportHalt p

/-- The registers of slot `p` that a halt writes. -/
def HaltRegs (p a : Nat) : Prop := a = Reg.CORE_STAT p ∨ a = Reg.BDP_CORE_STAT p ∨ DrainRegs p a

/-- The active maps stand below the registers of the slots they seat cores in. -/
theorem Chip.logicalOf_of_below {c d : Chip} {p : Nat} (h : ∀ a, a < Reg.coreBase p → d.rd a = c.rd a) : d.logicalOf p = c.logicalOf p := by
  rw [Chip.logicalOf, Chip.logicalOf, Chip.logical?_congr fun j hj => Chip.get_of_rd _ (h _ ?_)]
  simp only [Reg.NI_MAP_ACTIVE_SLOT, Reg.NI_MAP_ACTIVE, Reg.coreBase]
  omega

theorem Chip.greg_of_core {c d : Chip} {p : Nat} (h : (d.core p).greg = (c.core p).greg) : d.greg p = c.greg p := funext fun r => congrFun h r

/-- A halt reads the same of a block that differs elsewhere. -/
theorem Halted.of_before {c d t : Chip} {p hcause : Nat} (h : Halted d t p hcause) (hgreg : d.greg p = c.greg p) (hlog : d.fw.log = c.fw.log)
    (hseat : d.logicalOf p = c.logicalOf p) : Halted c t p hcause := by
  obtain ⟨hstate, hhcause, hhold, hdhalt, hqueues, hregs, e, he, hcode, hsubject⟩ := h
  exact ⟨hstate, hhcause, hhold, hdhalt, hqueues, hregs.trans hgreg, e, hlog ▸ he, hcode, hsubject.trans hseat⟩

section
variable (c : Chip) (p : Nat) {hcause : Nat}

theorem Chip.enterHalt_eq : c.enterHalt p hcause = ((c.haltMarked p hcause).modCore p Core.haltMarked).drainQueues p := rfl

theorem Chip.haltMarked_fields (h : hcause < 8) :
    (c.haltMarked p hcause).get (Reg.CORE_STAT_STATE p) = 0 ∧ (c.haltMarked p hcause).get (Reg.CORE_STAT_HCAUSE p) = hcause ∧
    (c.haltMarked p hcause).get (Reg.CORE_STAT_HOLD p) = 0 ∧ (c.haltMarked p hcause).get (Reg.BDP_CORE_STAT_DHALT p) = 0 ∧
    (c.haltMarked p hcause).get (Reg.CORE_STAT_HALT_CODE p) = c.get (Reg.CORE_STAT_HALT_CODE p) := by
  have hne := Reg.coreStat_ne_bdp p
  unfold Chip.haltMarked
  refine ⟨?_, ?_, ?_, ?_, ?_⟩ <;>
    simp (disch := (refine id ?_; simp [h, hne, hne.symm, Reg.Fld.apart, Reg.CORE_STAT_STATE, Reg.CORE_STAT_HCAUSE, Reg.CORE_STAT_HOLD,
      Reg.CORE_STAT_HALT_CODE, Reg.BDP_CORE_STAT_DHALT, Reg.BDP_CORE_STAT_BPHIT])) only [Chip.get_put_apart, Chip.get_put_fits]

theorem OnlyRegs.haltMarked : OnlyRegs c (c.haltMarked p hcause) (fun a => a = Reg.CORE_STAT p ∨ a = Reg.BDP_CORE_STAT p) := by
  have stat := fun d f v (hf : Reg.Fld.addr f = Reg.CORE_STAT p) => OnlyRegs.put d f v (fun a => a = Reg.CORE_STAT p ∨ a = Reg.BDP_CORE_STAT p) (.inl hf)
  have bdp := fun d f v (hf : Reg.Fld.addr f = Reg.BDP_CORE_STAT p) => OnlyRegs.put d f v (fun a => a = Reg.CORE_STAT p ∨ a = Reg.BDP_CORE_STAT p) (.inr hf)
  exact ((((stat _ _ _ rfl).trans (stat _ _ _ rfl)).trans (stat _ _ _ rfl)).trans (bdp _ _ _ rfl)).trans (bdp _ _ _ rfl)

/-- What a core that enters HALTED leaves of the other registers: what marks it halted leaves, and its queues' drain. -/
theorem Chip.enterHalt_kept : RegsKept (c.haltMarked p hcause) (c.enterHalt p hcause) (DrainRegs p) := by
  rw [Chip.enterHalt_eq]
  exact fun a ha => (Chip.drainQueues_regs _ p a ha).trans (Chip.rd_setCore ..)

theorem Chip.enterHalt_regs : RegsKept c (c.enterHalt p hcause) (HaltRegs p) :=
  ((OnlyRegs.haltMarked c p).2.mono fun _ h => h.imp_right .inl).trans ((c.enterHalt_kept p).mono fun _ h => .inr (.inr h))

/-- The record of a core that enters HALTED. -/
theorem Chip.enterHalt_core : ((c.enterHalt p hcause).core p).withoutQueues = (c.core p).haltMarked.withoutQueues := by
  rw [Chip.enterHalt_eq, Chip.drainQueues_core, Chip.core_modCore_same, (OnlyRegs.haltMarked c p).core]

theorem Chip.enterHalt_fw : (c.enterHalt p hcause).fw = c.fw := by
  rw [Chip.enterHalt_eq, Chip.drainQueues_fw, Chip.modCore_set, Chip.setCore_fw]
  exact (OnlyRegs.haltMarked c p).fw

theorem Chip.enterHalt_drained {q : Nat} (hq : q < 4) : Drained p q (c.enterHalt p hcause) := by
  rw [Chip.enterHalt_eq]
  exact drained_drainQueues _ p hq

theorem Chip.reportHalt_cores (d : Chip) : (d.reportHalt p).cores = d.cores := ((OnlyReports.refl d).notify _ _ _ _ _).cores

theorem Chip.reportHalt_regs (d : Chip) : RegsKept d (d.reportHalt p) (· = Reg.HIF_NQ_TAIL) := (d.notify_kept _ _ _ _ _).1

/-- Firmware logs a halt once. -/
theorem Chip.reportHalt_log (d : Chip) : ∃ e, (d.reportHalt p).fw.log = d.fw.log ++ [e] ∧ e.code = 0x0001 ∧ e.subject = d.logicalOf p := by
  rw [Chip.reportHalt]
  exact ⟨_, (d.notify_kept 0x0001 OK (d.logicalOf p) (d.get (Reg.CORE_STAT_HCAUSE p)) (d.get (Reg.CORE_STAT_HALT_CODE p))).2, rfl, rfl⟩

theorem Chip.core_reportHalt (d : Chip) : (d.reportHalt p).core p = d.core p := by
  rw [Chip.core, Chip.core, Chip.reportHalt_cores]

/-- Firmware's report leaves the core's registers. -/
theorem Chip.get_reportHalt {d : Chip} {f : Reg.Fld} (hf : Reg.coreBase p ≤ f.addr) : (d.reportHalt p).get f = d.get f :=
  Chip.get_of_rd f (Chip.reportHalt_regs p d _ (by simp only [Reg.coreBase, Reg.HIF_NQ_TAIL] at hf ⊢; omega))

theorem Chip.halted_regs : RegsKept c (c.halted p hcause) (fun a => HaltRegs p a ∨ a = Reg.HIF_NQ_TAIL) :=
  ((c.enterHalt_regs p).mono fun _ h => .inl h).trans ((Chip.reportHalt_regs p _).mono fun _ h => .inr h)

/-- Outside its queues a halted core's registers read as what marks it halted leaves them. -/
theorem Chip.get_halted {f : Reg.Fld} (hf : Reg.coreBase p ≤ f.addr) (hd : ¬ DrainRegs p f.addr) :
    (c.halted p hcause).get f = (c.haltMarked p hcause).get f :=
  (Chip.get_reportHalt p hf).trans (Chip.get_of_rd f (c.enterHalt_kept p _ hd))

theorem not_drainRegs_stat : ¬ DrainRegs p (Reg.CORE_STAT p) := by
  simp only [DrainRegs, Reg.CORE_STAT, Reg.WADI_Q_STAT, Reg.WADI_Q_DISCARD]; omega

/-- A halt leaves HALT_CODE. -/
theorem Chip.halted_haltCode (h : hcause < 8) : (c.halted p hcause).get (Reg.CORE_STAT_HALT_CODE p) = c.get (Reg.CORE_STAT_HALT_CODE p) := by
  obtain ⟨-, -, -, -, hcode⟩ := c.haltMarked_fields p h
  exact (c.get_halted p (Nat.le_add_right ..) (not_drainRegs_stat p)).trans hcode

theorem Chip.halted_stepping : ((c.halted p hcause).core p).stepping = (c.core p).stepping := by
  have hcore := congrArg Core.stepping (c.enterHalt_core p (hcause := hcause))
  rw [Core.stepping_withoutQueues, Core.stepping_withoutQueues, Core.stepping_haltMarked] at hcore
  rw [Chip.halted, Chip.core_reportHalt, hcore]

/-- What a core that halts leaves. -/
theorem halted_halted (h : hcause < 8) : Halted c (c.halted p hcause) p hcause := by
  have hstat := not_drainRegs_stat p
  have hbdp : ¬ DrainRegs p (Reg.BDP_CORE_STAT p) := by simp only [DrainRegs, Reg.BDP_CORE_STAT, Reg.WADI_Q_STAT, Reg.WADI_Q_DISCARD]; omega
  obtain ⟨mstate, mcause, mhold, mdhalt, -⟩ := c.haltMarked_fields p h
  refine ⟨(c.get_halted p (Nat.le_add_right ..) hstat).trans mstate, (c.get_halted p (Nat.le_add_right ..) hstat).trans mcause,
    (c.get_halted p (Nat.le_add_right ..) hstat).trans mhold, (c.get_halted p (Nat.le_add_right ..) hbdp).trans mdhalt, fun q hq => ?_, ?_, ?_⟩
  · obtain ⟨hempty, hclosed⟩ := c.enterHalt_drained p hq (hcause := hcause)
    refine ⟨(congrArg (Core.queue · q) (Chip.core_reportHalt p _)).trans hempty, (Chip.get_reportHalt p ?_).trans hclosed⟩
    simp only [Reg.WADI_Q_STAT_STATE, Reg.WADI_Q_STAT]; omega
  · have hcore := congrArg Core.greg (c.enterHalt_core p (hcause := hcause))
    rw [Core.greg_withoutQueues, Core.greg_withoutQueues, Core.greg_haltMarked] at hcore
    exact (congrArg Core.greg (Chip.core_reportHalt p _)).trans hcore
  · obtain ⟨e, hlog, hcode, hsubject⟩ := Chip.reportHalt_log p (c.enterHalt p hcause)
    rw [Chip.enterHalt_fw] at hlog
    have hseat : (c.enterHalt p hcause).logicalOf p = c.logicalOf p := Chip.logicalOf_of_below fun a ha => c.enterHalt_regs p a (by
      simp only [HaltRegs, DrainRegs, Reg.CORE_STAT, Reg.BDP_CORE_STAT, Reg.WADI_Q_STAT, Reg.WADI_Q_DISCARD]
      omega)
    rw [Chip.halted]
    exact ⟨e, hlog, hcode, hsubject.trans hseat⟩

end

end Sys2Proof.Machine
end

section
/-! SUPPORT. Exceptions that halt the core, those due at a boundary, undefined words (O11). -/

namespace Sys2Proof.Machine

theorem smSet_smSet_same {α : Type} (m : SMap α) (k : Nat) (v w : α) : smSet (smSet m k v) k w = smSet m k w := by
  induction m with
  | nil => simp [smSet]
  | cons x t ih =>
    by_cases hlt : k < x.1
    · simp [smSet, hlt]
    · by_cases he : x.1 = k
      · simp [smSet, he]
      · simp [smSet, hlt, he, ih]

theorem Chip.setCore_setCore_same (c : Chip) (p : Nat) (k k' : Core) : (c.setCore p k).setCore p k' = c.setCore p k' :=
  congrArg (fun m => { c with cores := m }) (smSet_smSet_same c.cores p k k')

theorem Chip.endStep_free {c : Chip} {p : Nat} (h : (c.core p).stepping = false) : c.endStep p = c := by
  rw [Chip.endStep, if_neg (ne_true_of_eq_false h)]

/-! ## Exceptions that the core does not take (R189) -/

/-- The block with an exception recorded, before the core takes it or halts (R188). -/
def Chip.causeNoted (c : Chip) (p pc cause info st : Nat) : Chip :=
  (((c.put (Reg.CORE_EPC_EPC p) (pc / 4 * 4)).put (Reg.CORE_CAUSE_CAUSE p) cause).put (Reg.CORE_CAUSE_STATUS p) st).wr (Reg.CORE_EINFO p)
    (BitVec.ofNat 32 info)

/-- The registers that record an exception. -/
def CauseRegs (p a : Nat) : Prop := a = Reg.CORE_EPC p ∨ a = Reg.CORE_CAUSE p ∨ a = Reg.CORE_EINFO p

section
variable (c : Chip) (p : Nat) {pc cause info st : Nat}

theorem Chip.raise_eq : c.raise p pc cause info st =
    if !(c.causeNoted p pc cause info st).on (Reg.CORE_CFG_EXC_EN p) then ((c.causeNoted p pc cause info st).setPc p pc).haltWhenIdle p 1
    else if (c.causeNoted p pc cause info st).on (Reg.CORE_STAT_INEXC p) then ((c.causeNoted p pc cause info st).setPc p pc).haltWhenIdle p 2
    else (((c.causeNoted p pc cause info st).set (Reg.CORE_STAT_INEXC p)).setPc p
      ((c.causeNoted p pc cause info st).get (Reg.CORE_EVEC_VEC p))).setSeqState p 1 := rfl

theorem OnlyRegs.causeNoted : OnlyRegs c (c.causeNoted p pc cause info st) (CauseRegs p) :=
  (((OnlyRegs.put c (Reg.CORE_EPC_EPC p) _ _ (.inl rfl)).trans (OnlyRegs.put _ (Reg.CORE_CAUSE_CAUSE p) _ _ (.inr (.inl rfl)))).trans
    (OnlyRegs.put _ (Reg.CORE_CAUSE_STATUS p) _ _ (.inr (.inl rfl)))).trans (OnlyRegs.wr _ _ _ _ (.inr (.inr rfl)))

theorem Chip.causeNoted_fields (hpc : pc < 2 ^ 16) (hcause : cause < 16) :
    (c.causeNoted p pc cause info st).get (Reg.CORE_EPC_EPC p) = pc / 4 * 4 ∧ (c.causeNoted p pc cause info st).get (Reg.CORE_CAUSE_CAUSE p) = cause ∧
    (c.causeNoted p pc cause info st).rd (Reg.CORE_EINFO p) = BitVec.ofNat 32 info := by
  have hpc' : pc / 4 * 4 < 65536 := by omega
  unfold Chip.causeNoted
  refine ⟨?_, ?_, Chip.rd_wr_same ..⟩ <;>
    simp (disch := (refine id ?_; simp [hpc', hcause, Reg.Fld.apart, Reg.CORE_EPC_EPC, Reg.CORE_CAUSE_CAUSE, Reg.CORE_CAUSE_STATUS, Reg.CORE_EPC,
      Reg.CORE_CAUSE, Reg.CORE_EINFO])) only [Chip.get_put_apart, Chip.get_wr_other, Chip.get_put_fits]

/-- The block with an exception recorded that the core answers by halting. -/
def Chip.untaken (cause info : Nat) : Chip := (c.causeNoted p (c.pc p) cause info 0).setPc p (c.pc p)

/-- HCAUSE of a core that does not take an exception. -/
def Chip.untakenCause : Nat := if c.get (Reg.CORE_CFG_EXC_EN p) = 0 then 1 else 2

/-- An exception that the core does not take, with no request outstanding, halts it. -/
theorem Chip.raise_untaken (hout : (c.core p).outstanding = false)
    (hnot : c.get (Reg.CORE_CFG_EXC_EN p) = 0 ∨ c.get (Reg.CORE_STAT_INEXC p) = 1) :
    c.raise p (c.pc p) cause info 0 = (c.untaken p cause info).halted p (c.untakenCause p) := by
  have noted := OnlyRegs.causeNoted c p (pc := c.pc p) (cause := cause) (info := info) (st := 0)
  have hen : (c.causeNoted p (c.pc p) cause info 0).get (Reg.CORE_CFG_EXC_EN p) = c.get (Reg.CORE_CFG_EXC_EN p) :=
    noted.get _ (by simp only [CauseRegs, Reg.CORE_CFG_EXC_EN, Reg.CORE_CFG, Reg.CORE_EPC, Reg.CORE_CAUSE, Reg.CORE_EINFO]; omega)
  have hin : (c.causeNoted p (c.pc p) cause info 0).get (Reg.CORE_STAT_INEXC p) = c.get (Reg.CORE_STAT_INEXC p) :=
    noted.get _ (by simp only [CauseRegs, Reg.CORE_STAT_INEXC, Reg.CORE_STAT, Reg.CORE_EPC, Reg.CORE_CAUSE, Reg.CORE_EINFO]; omega)
  have hidle : ∀ h, (c.untaken p cause info).haltWhenIdle p h = (c.untaken p cause info).halted p h := fun h => by
    have hcore : (c.untaken p cause info).core p = c.core p := by rw [Chip.untaken, Chip.setPc, Chip.core_put, noted.core]
    rw [Chip.haltWhenIdle, hcore, if_neg (ne_true_of_eq_false hout), Chip.halted]
  rw [Chip.raise_eq, Chip.on, Chip.on, hen, hin, ← Chip.untaken]
  by_cases h0 : c.get (Reg.CORE_CFG_EXC_EN p) = 0
  · rw [h0, Chip.untakenCause, if_pos h0, if_pos (by decide), hidle]
  · have h1 : c.get (Reg.CORE_STAT_INEXC p) = 1 := hnot.resolve_left h0
    have hone : c.get (Reg.CORE_CFG_EXC_EN p) = 1 := by
      by_contra hne
      exact h0 (Chip.get_eq_zero rfl hne)
    rw [h1, hone, Chip.untakenCause, if_neg h0, if_neg (by decide), if_pos (by decide), hidle]

end

/-- What an exception that halts the core leaves. -/
theorem Chip.settle_untaken (c : Chip) (p cause info : Nat) (hcause : cause < 16) (hout : (c.core p).outstanding = false)
    (hstep : (c.core p).stepping = false) (hnot : c.get (Reg.CORE_CFG_EXC_EN p) = 0 ∨ c.get (Reg.CORE_STAT_INEXC p) = 1) :
    let t := Chip.settle p (c.pc p) (.trap c cause info 0)
    Halted c t p (if c.get (Reg.CORE_CFG_EXC_EN p) = 0 then 1 else 2) ∧ t.get (Reg.CORE_EPC_EPC p) = c.pc p / 4 * 4 ∧
      t.get (Reg.CORE_CAUSE_CAUSE p) = cause ∧ t.rd (Reg.CORE_EINFO p) = BitVec.ofNat 32 info ∧ t.pc p = c.pc p := by
  let d := c.modCore p (fun k => { k with dbgSkip := false })
  let e := d.untaken p cause info
  have hd : d.core p = { c.core p with dbgSkip := false } := Chip.core_modCore_same c p (fun k => { k with dbgSkip := false })
  have hpc : c.pc p < 2 ^ 16 := Chip.get_lt c (Reg.CORE_PC_PC p)
  have hget : ∀ f, d.get f = c.get f := fun f => Chip.get_setCore ..
  have hnot' : d.get (Reg.CORE_CFG_EXC_EN p) = 0 ∨ d.get (Reg.CORE_STAT_INEXC p) = 1 := by rwa [hget, hget]
  have noted := OnlyRegs.causeNoted d p (pc := c.pc p) (cause := cause) (info := info) (st := 0)
  have passed : OnlyRegs (d.causeNoted p (c.pc p) cause info 0) e (· = Reg.CORE_PC p) := OnlyRegs.put _ _ _ _ rfl
  have hcore : e.core p = d.core p := (passed.core p).trans (noted.core p)
  have ht : Chip.settle p (c.pc p) (.trap c cause info 0) = e.halted p (d.untakenCause p) := by
    have hraise : d.raise p (d.pc p) cause info 0 = e.halted p (d.untakenCause p) := Chip.raise_untaken d p (by rw [hd]; exact hout) hnot'
    show (d.raise p (d.pc p) cause info 0).endStep p = _
    rw [hraise, Chip.endStep_free]
    rw [Chip.halted_stepping, hcore, hd]
    exact hstep
  have kept : ∀ a, CauseRegs p a ∨ a = Reg.CORE_PC p → (e.halted p (d.untakenCause p)).rd a = e.rd a := fun a ha => by
    refine e.halted_regs p a ?_
    simp only [CauseRegs, HaltRegs, DrainRegs, Reg.CORE_EPC, Reg.CORE_CAUSE, Reg.CORE_EINFO, Reg.CORE_PC, Reg.CORE_STAT, Reg.BDP_CORE_STAT, Reg.coreBase,
      Reg.WADI_Q_STAT, Reg.WADI_Q_DISCARD, Reg.HIF_NQ_TAIL] at ha ⊢
    omega
  have low : ∀ a, CauseRegs p a → e.rd a = (d.causeNoted p (c.pc p) cause info 0).rd a := fun a ha => by
    refine passed.2 a ?_
    simp only [CauseRegs, Reg.CORE_EPC, Reg.CORE_CAUSE, Reg.CORE_EINFO, Reg.CORE_PC] at ha ⊢
    omega
  obtain ⟨hepc, hc, hinfo⟩ := d.causeNoted_fields p (info := info) (st := 0) hpc hcause
  have hbound : d.untakenCause p < 8 := by unfold Chip.untakenCause; split <;> decide
  rw [ht]
  refine ⟨Halted.of_before (halted_halted e p hbound) ?_ ?_ ?_, ?_, ?_, ?_, ?_⟩
  · exact Chip.greg_of_core (by rw [hcore, hd]; rfl)
  · exact congrArg Fw.log (passed.fw.trans noted.fw)
  · refine Chip.logicalOf_of_below fun a ha => (passed.2 a ?_).trans (noted.2 a ?_)
    · simp only [Reg.CORE_PC]; omega
    · simp only [CauseRegs, Reg.CORE_EPC, Reg.CORE_CAUSE, Reg.CORE_EINFO]; omega
  · exact (Chip.get_of_rd (Reg.CORE_EPC_EPC p) ((kept _ (.inl (.inl rfl))).trans (low _ (.inl rfl)))).trans hepc
  · exact (Chip.get_of_rd (Reg.CORE_CAUSE_CAUSE p) ((kept _ (.inl (.inr (.inl rfl)))).trans (low _ (.inr (.inl rfl))))).trans hc
  · exact ((kept _ (.inl (.inr (.inr rfl)))).trans (low _ (.inr (.inr rfl)))).trans hinfo
  · exact (Chip.get_of_rd (Reg.CORE_PC_PC p) (kept _ (.inr rfl))).trans (Chip.setPc_spec _ p _ hpc).1

/-- An issued instruction leaves what its meaning settles to. -/
theorem leaves_of_issue {ins : Instr} {s : State} {i : Nat} {w : Word} {sem : Sem} {r : Res} (hex : exec ins s = act (·.runInstr i w sem) s)
    (free : Free s.chip i w) (hsem : sem s.chip (s.chip.pcore i) i w = r) :
    Leaves ins s (Chip.settle (s.chip.pcore i) (s.chip.pc (s.chip.pcore i)) r) := by
  rw [Leaves, hex, act, Chip.runInstr_issues _ _ _ _ free.1, hsem]

/-- BRK without the debugger raises BREAK (R183). -/
theorem semBrk_word {c : Chip} {p i : Nat} {d a : BitVec 5} {m : BitVec 16} (h : c.get (Reg.BDP_CORE_STAT_DBG_EN p) = 0) :
    semBrk c p i (iWord 0x32 d a m) = .trap c BREAK m.toNat 0 := by
  obtain ⟨himm, -⟩ := iWord_imm 0x32 d a m
  rw [semBrk, himm, if_neg (by rw [Chip.on_iff, h]; decide)]

theorem ofNat_toNat_imm (m : BitVec 16) : BitVec.ofNat 32 m.toNat = m.setWidth 32 := BitVec.ofNat_toNat ..

theorem exceptionNotTakenHold : ExceptionNotTakenHold := by
  intro s i d a m p free hdbg hout hnot
  refine ⟨_, leaves_of_issue rfl free (semBrk_word hdbg), ?_⟩
  rw [← ofNat_toNat_imm]
  exact Chip.settle_untaken s.chip p BREAK m.toNat (by decide) hout free.2 hnot

/-! ## What is due at a boundary (R166, R168) -/

section
variable {c : Chip} {p i : Nat}

/-- The exception of what is due is raised as one of the block with the due taken. -/
theorem Chip.settle_setCore (k : Core) (pc cause info st : Nat) : Chip.settle p pc (.trap (c.setCore p k) cause info st) =
    ((c.setCore p { k with dbgSkip := false }).raise p pc cause info st).endStep p := by
  have h : (c.setCore p k).modCore p (fun k => { k with dbgSkip := false }) = c.setCore p { k with dbgSkip := false } := by
    rw [Chip.modCore_set, Chip.core_setCore_same, Chip.setCore_setCore_same]
  rw [← h]
  rfl

theorem Chip.takeDue_memerr {st : Nat} {x : BitVec 48} {rest : List (Nat × BitVec 48)} (hhalt : (c.core p).haltDue = none)
    (hdue : (c.core p).due = (st, x) :: rest) :
    c.takeDue p = Chip.settle p (c.pc p) (.trap (c.setCore p { c.core p with due := rest }) MEMERR (x.toNat % 2 ^ 32) st) := by
  rw [Chip.settle_setCore, Chip.takeDue]
  simp only [hhalt, hdue]

theorem Chip.takeDue_overrun (hhalt : (c.core p).haltDue = none) (hdue : (c.core p).due = []) (hover : (c.core p).overrun = true) :
    c.takeDue p = Chip.settle p 0xFFFC (.trap (c.setCore p { c.core p with overrun := false }) ACCESS 0x10000 0) := by
  rw [Chip.settle_setCore, Chip.takeDue]
  simp only [hhalt, hdue, hover, if_true]

theorem Chip.boundaryDue_running (hstate : c.seqState p = 1) (h : (c.core p).due ≠ [] ∨ (c.core p).overrun = true) : c.boundaryDue p = true := by
  have hdue : (!(c.core p).due.isEmpty || (c.core p).overrun) = true := by
    simpa only [Bool.or_eq_true, Bool.not_eq_true', List.isEmpty_eq_false_iff] using h
  rw [Chip.boundaryDue, hstate, hdue]
  exact Bool.or_true _

theorem Chip.runInstr_due (w : Word) (sem : Sem) (hseat : c.seated i = true) (hruns : c.seqRuns (c.pcore i) = true)
    (hdue : c.boundaryDue (c.pcore i) = true) : c.runInstr i w sem = c.takeDue (c.pcore i) := by
  simp only [Chip.runInstr, hseat, hruns, hdue, Bool.and_self, if_true]

end

section
variable {s : State} {i : CoreId}

/-- EXCEPTION_ENTRY takes what is due. -/
theorem leaves_exceptionEntry_due (hseat : s.chip.seated i.toNat = true) (hruns : s.chip.seqRuns (s.chip.pcore i.toNat) = true)
    (hdue : s.chip.boundaryDue (s.chip.pcore i.toNat) = true) : Leaves (.exceptionEntry i) s (s.chip.takeDue (s.chip.pcore i.toNat)) := by
  have hrun : exec (.exceptionEntry i) s = execExceptionEntry i s := rfl
  rw [Leaves, hrun]
  simp only [execExceptionEntry, act, hseat, hruns, hdue, Bool.and_self, Bool.true_or, if_true, Chip.runInstr_due _ _ hseat hruns hdue]

/-- EXCEPTION_ENTRY runs the word at the PC where that raises an exception. -/
theorem exec_exceptionEntry_trap (h : (semOf (s.chip.fetched (s.chip.pcore i.toNat)) s.chip (s.chip.pcore i.toNat) i.toNat
      (s.chip.fetched (s.chip.pcore i.toNat))).isTrap = true) :
    exec (.exceptionEntry i) s =
      act (·.runInstr i.toNat (s.chip.fetched (s.chip.pcore i.toNat)) (semOf (s.chip.fetched (s.chip.pcore i.toNat)))) s := by
  have hrun : exec (.exceptionEntry i) s = execExceptionEntry i s := rfl
  rw [hrun]
  simp only [execExceptionEntry, act, h, Bool.or_true, if_true]

end

theorem dueBeforeTheNextHold : DueBeforeTheNextHold := by
  intro s i ins d a b p k hins hseat hruns hstate hhalt takes
  have leaves : s.chip.boundaryDue p = true → Leaves ins s (s.chip.takeDue p) := fun hdue => by
    rcases hins with rfl | rfl
    · exact leaves_exceptionEntry_due hseat hruns hdue
    · exact leaves_of_act (f := (·.runInstr i.toNat (rWord 0x00 d a b 0) (semR aluAdd))) rfl (Chip.runInstr_due _ _ hseat hruns hdue)
  have takes' : ∀ k' : Core, k'.stepping = k.stepping → TakesExceptions (s.chip.setCore p k') p := fun k' hk' => by
    obtain ⟨hen, hin, hstep⟩ := takes
    exact ⟨hen, hin, by rw [Chip.core_setCore_same, hk']; exact hstep⟩
  refine ⟨fun hdue hover hpc => ⟨_, leaves (Chip.boundaryDue_running hstate (.inr hover)), ?_⟩,
    fun st x rest hdue hst => ⟨_, leaves (Chip.boundaryDue_running hstate (.inl (by rw [hdue]; exact List.cons_ne_nil _ _))), ?_⟩⟩
  · rw [Chip.takeDue_overrun hhalt hdue hover, ← hpc]
    exact Chip.settle_trap _ p ACCESS 0x10000 0 (by decide) (by decide) (takes' _ rfl)
  · have hlow : BitVec.ofNat 32 (x.toNat % 2 ^ 32) = x.extractLsb' 0 32 := BitVec.eq_of_toNat_eq (by
      rw [BitVec.toNat_ofNat, BitVec.extractLsb'_toNat, Nat.shiftRight_zero, Nat.mod_mod])
    rw [Chip.takeDue_memerr hhalt hdue, ← hlow]
    exact Chip.settle_trap _ p MEMERR _ st (by decide) hst (takes' _ rfl)

/-! ## Words that the tables do not define (R162) -/

/-- The words whose OP, or whose FUNCT of OP 0, the tables do not define. -/
def Undefined (w : Word) : Prop :=
  (0x1C ≤ fOp w ∧ fOp w < 0x20) ∨ (0x26 ≤ fOp w ∧ fOp w < 0x28) ∨ (0x2C ≤ fOp w ∧ fOp w < 0x30) ∨ 0x33 ≤ fOp w ∨ (fOp w = 0 ∧ 15 ≤ fF w)

theorem aluOf_undefined {f : Nat} (h : 15 ≤ f) : aluOf f = none := List.getElem?_eq_none h

theorem semOf_undefined {w : Word} (h : Undefined w) : semOf w = fun c _ _ w => illegal c w := by
  unfold Undefined at h
  unfold semOf
  split
  case h_1 hop => rw [aluOf_undefined (by omega)]; rfl
  case h_42 => rfl
  all_goals omega

theorem undefinedWordsHold : UndefinedWordsHold := by
  intro s i p w free takes h
  have hsem : semOf w s.chip p i.toNat w = illegal s.chip w := by rw [semOf_undefined h]
  exact traps_of_illegal (exec_exceptionEntry_trap (by rw [hsem]; rfl)) free hsem takes

/-- Settles O11: exceptions that halt the core, those due before the next instruction, undefined words. -/
theorem exceptionsAtBoundaries : Obligations.ExceptionsAtBoundaries := ⟨exceptionNotTakenHold, dueBeforeTheNextHold, undefinedWordsHold⟩

end Sys2Proof.Machine
end

section
/-! SUPPORT. HALT, ERET, BRK; requests to run and to halt (O12). -/

namespace Sys2Proof.Machine

/-! ## HALT (R181) -/

/-- The marks of a slot whose program halts: no STEP goes on, no breakpoint is passed over. -/
def Core.stopped (k : Core) : Core := { k with dbgSkip := false, stepping := false }

/-- The block with HALT completed, before the core enters HALTED. -/
def Chip.haltRetired (c : Chip) (p : Nat) : Chip := ((c.nextPc p).modCore p Core.stopped).tallyCore p 0x20

section
variable (c : Chip) (p : Nat)

theorem Chip.settle_halt (pc : Nat) : Chip.settle p pc (.halt c) = (c.haltRetired p).halted p 0 := rfl

theorem Chip.haltRetired_regs : RegsKept c (c.haltRetired p) (fun a => a = Reg.CORE_PC p ∨ PmonOf p a) := by
  obtain ⟨-, hregs, -⟩ := c.nextPc_spec p
  refine (hregs.mono fun _ h => .inl h).trans fun a ha => ?_
  have tally := OnlyRegs.tally ((c.nextPc p).modCore p Core.stopped) p 0x20
  rw [Chip.haltRetired, tally.2 a fun h => ha (.inr h), Chip.modCore_set, Chip.rd_setCore]

theorem Chip.haltRetired_greg : (c.haltRetired p).greg p = c.greg p := by
  obtain ⟨-, -, -, hcore, -⟩ := c.nextPc_spec p
  refine Chip.greg_of_core ?_
  rw [Chip.haltRetired, (OnlyRegs.tally _ p 0x20).core, Chip.core_modCore_same, hcore]
  rfl

theorem Chip.haltRetired_fw : (c.haltRetired p).fw = c.fw := by
  obtain ⟨-, -, -, -, hrest⟩ := c.nextPc_spec p
  have hfw : (c.nextPc p).fw = c.fw := (congrArg Chip.fw hrest :)
  rw [Chip.haltRetired, (OnlyRegs.tally _ p 0x20).fw, Chip.modCore_set, Chip.setCore_fw, hfw]

end

/-- What HALT leaves once no request is outstanding. -/
theorem Chip.settle_halt_spec (c : Chip) (p pc code : Nat) (hcode : code < 2 ^ 16) :
    let t := Chip.settle p pc (.halt (c.put (Reg.CORE_STAT_HALT_CODE p) code))
    Halted c t p 0 ∧ t.get (Reg.CORE_STAT_HALT_CODE p) = code := by
  let d := c.put (Reg.CORE_STAT_HALT_CODE p) code
  have hregs := d.haltRetired_regs p
  have hput : OnlyRegs c d (· = Reg.CORE_STAT p) := OnlyRegs.put _ _ _ _ rfl
  rw [Chip.settle_halt]
  refine ⟨Halted.of_before (halted_halted (d.haltRetired p) p (by decide)) ?_ ?_ ?_, ?_⟩
  · rw [Chip.haltRetired_greg]
    exact Chip.greg_of_core (congrArg Core.greg (hput.core p))
  · rw [Chip.haltRetired_fw, hput.fw]
  · refine Chip.logicalOf_of_below fun a ha => (hregs a ?_).trans (hput.2 a ?_)
    · simp only [PmonOf, Reg.CORE_PC]; omega
    · simp only [Reg.CORE_STAT]; omega
  · have hkept : (d.haltRetired p).get (Reg.CORE_STAT_HALT_CODE p) = d.get (Reg.CORE_STAT_HALT_CODE p) :=
      Chip.get_of_rd _ (hregs _ (not_or.mpr ⟨Chip.stat_pc_ne p, not_pmonOf_stat p⟩))
    rw [Chip.halted_haltCode _ _ (by decide), hkept]
    exact Chip.get_put_fits c _ _ (decide_eq_true hcode)

/-! ## BRK under the debugger (R183, R438) -/

theorem OnlyRegs.debugHalt (c : Chip) (p : Nat) : OnlyRegs c (c.debugHalt p) (fun a => a = Reg.CORE_STAT p ∨ a = Reg.BDP_CORE_STAT p) :=
  ((OnlyRegs.put c (Reg.CORE_STAT_STATE p) _ _ (.inl rfl)).trans (OnlyRegs.put _ (Reg.CORE_STAT_HCAUSE p) _ _ (.inl rfl))).trans
    (OnlyRegs.put _ (Reg.BDP_CORE_STAT_DHALT p) _ _ (.inr rfl))

theorem Chip.debugHalt_fields (c : Chip) (p : Nat) : (c.debugHalt p).get (Reg.CORE_STAT_STATE p) = 0 ∧
    (c.debugHalt p).get (Reg.CORE_STAT_HCAUSE p) = 4 ∧ (c.debugHalt p).get (Reg.BDP_CORE_STAT_DHALT p) = 1 := by
  have hne := Reg.coreStat_ne_bdp p
  simp only [Chip.debugHalt, Chip.setSeqState, Chip.set_put]
  refine ⟨?_, ?_, ?_⟩ <;>
    simp (disch := (refine id ?_; simp [hne.symm, Reg.Fld.apart, Reg.CORE_STAT_STATE, Reg.CORE_STAT_HCAUSE, Reg.BDP_CORE_STAT_DHALT])) only
      [Chip.get_put_apart, Chip.get_put_fits]

/-- What an instruction that halts for debug leaves. -/
theorem Chip.settle_debug_spec (c : Chip) (p pc : Nat) :
    let t := Chip.settle p pc (.debug c)
    t.seqState p = 0 ∧ t.get (Reg.CORE_STAT_HCAUSE p) = 4 ∧ t.get (Reg.BDP_CORE_STAT_DHALT p) = 1 ∧ t.pc p = c.pc p ∧
      { t with regs := c.regs } = c.setCore p { c.core p with stepping := false } ∧
      RegsKept c t (fun x => x = Reg.CORE_STAT p ∨ x = Reg.BDP_CORE_STAT p) := by
  let d := c.setCore p { c.core p with stepping := false }
  have halts : Chip.settle p pc (.debug c) = d.debugHalt p := rfl
  have only := OnlyRegs.debugHalt d p
  obtain ⟨hstate, hcause, hdhalt⟩ := d.debugHalt_fields p
  rw [halts]
  refine ⟨hstate, hcause, hdhalt, ?_, only.1, only.2⟩
  have hpc : (d.debugHalt p).get (Reg.CORE_PC_PC p) = d.get (Reg.CORE_PC_PC p) :=
    only.get _ (by simp only [Reg.CORE_PC_PC, Reg.CORE_PC, Reg.CORE_STAT, Reg.BDP_CORE_STAT]; omega)
  rw [Chip.pc, Chip.pc, hpc, Chip.get_setCore]

/-! ## HALT, ERET and BRK -/

section
variable {c : Chip} {p i : Nat} {d a : BitVec 5} {m : BitVec 16}

theorem semHalt_word (h : (c.core p).outstanding = false) :
    semHalt c p i (iWord 0x30 d a m) = .halt (c.put (Reg.CORE_STAT_HALT_CODE p) m.toNat) := by
  obtain ⟨himm, -⟩ := iWord_imm 0x30 d a m
  rw [semHalt, himm, if_neg (ne_true_of_eq_false h)]

theorem semEret_word : semEret c p i ((0x31#6) ++ (0#26)) =
    if c.get (Reg.CORE_STAT_INEXC p) = 1 then .jump (c.put (Reg.CORE_STAT_INEXC p) 0) (c.get (Reg.CORE_EPC_EPC p) / 4 * 4)
    else illegal c ((0x31#6) ++ (0#26)) := by
  have hzero : ((0x31#6) ++ (0#26)).toNat % 2 ^ 26 = 0 := by decide
  rw [semEret, Chip.clr_put]
  by_cases h : c.get (Reg.CORE_STAT_INEXC p) = 1
  · rw [if_pos h, if_neg (by rw [hzero, Chip.on_iff.mpr h]; decide)]
  · rw [if_neg h, if_pos (.inr (by rw [Bool.not_eq_true', ← Bool.not_eq_true, Chip.on_iff]; exact h))]

end

theorem haltReturnBreakHold : HaltReturnBreakHold := by
  intro s i d a m p k
  refine ⟨fun free => ⟨fun h => ?_, fun h => waits_of_stall rfl free (if_pos h)⟩, fun free => ⟨fun h => ?_, fun takes => ?_⟩,
    fun free => ⟨fun h takes => ?_, fun h => ?_⟩⟩
  · exact ⟨_, leaves_of_issue rfl free (semHalt_word h), Chip.settle_halt_spec _ _ _ _ m.isLt⟩
  · have hepc : s.chip.get (Reg.CORE_EPC_EPC p) < 2 ^ 16 := Chip.get_lt _ _
    exact completesAs_of_jump rfl free (semEret_word.trans (if_pos h)) (by omega)
      (Chip.get_put_disjoint _ _ _ _ (Nat.le_refl 2) (.inl (by decide : 1 < 2))) rfl
  · have ⟨_, hin, _⟩ := takes
    exact traps_of_illegal rfl free (semEret_word.trans (if_neg (by rw [hin]; decide))) takes
  · rw [← ofNat_toNat_imm]
    exact traps_of_trap rfl free (semBrk_word h) (by decide) (by decide) takes
  · exact ⟨_, leaves_of_issue rfl free (if_pos (Chip.on_iff.mpr h)), Chip.settle_debug_spec _ _ _⟩

/-! ## Requests to run and to halt (R186, R192) -/

theorem Chip.not_fenced_of_windowOpen {c : Chip} {p : Nat} (h : c.windowOpen p = true) : c.fenced p = false := by
  simp only [Chip.windowOpen, Bool.and_eq_true, Bool.not_eq_true'] at h
  obtain ⟨⟨⟨-, hfenced⟩, -⟩, -⟩ := h
  exact hfenced

theorem runAndHaltRequestsHold : RunAndHaltRequestsHold := by
  intro s slot p
  refine ⟨fun hclosed => ⟨slotRefused_of_closed hclosed rfl, slotRefused_of_closed hclosed rfl⟩, fun hopen => ⟨fun hstate hdhalt => ?_,
    fun h => ?_, fun h => ?_, fun hlive hdhalt => ?_⟩⟩
  · have hrun : s.chip.runRequest p = s.chip.setSeqState p 1 := if_pos ⟨hstate, hdhalt, Chip.not_fenced_of_windowOpen hopen⟩
    have hpc : (s.chip.setSeqState p 1).pc p = s.chip.pc p := Chip.get_put_addr _ _ _ _ (Chip.stat_pc_ne p).symm
    exact ⟨_, leaves_slotWrite hopen rfl hrun, Chip.seqState_setSeqState _ _ _ (by decide), hpc, OnlyRegs.put _ _ _ _ rfl⟩
  · refine leaves_slotWrite (f := (·.runRequest p)) hopen rfl (if_neg fun ⟨hstate, hdhalt, _⟩ => ?_)
    rcases h with h | h
    · exact h hstate
    · exact ne_true_of_eq_false hdhalt h
  · have hhalt : s.chip.haltRequest p true = s.chip.halted p 3 := by
      rw [Chip.haltRequest, if_pos h, if_pos rfl, Chip.halted]
    exact ⟨_, leaves_slotWrite (f := (·.haltRequest p true)) hopen rfl hhalt, halted_halted _ _ (by decide)⟩
  · refine leaves_slotWrite (f := (·.haltRequest p true)) hopen rfl (if_neg ?_)
    rw [hlive, hdhalt]
    decide

/-- Settles O12: HALT, ERET and BRK; requests to run and to halt. -/
theorem haltAndRun : Obligations.HaltAndRun := ⟨haltReturnBreakHold, runAndHaltRequestsHold⟩

end Sys2Proof.Machine
end

section
/-! SUPPORT. SEND, TRYSEND and RECV (O13). -/

namespace Sys2Proof.Machine

theorem Chip.buf_of_routers {c d : Chip} (h : d.routers = c.routers) (k input cls : Nat) : d.buf k input cls = c.buf k input cls := by
  rw [Chip.buf, Chip.buf, Chip.router, Chip.router, h]

/-- What enters a router is said of its buffers alone. -/
theorem PacketEnters.of_routers {c d t u : Chip} {k input cls : Nat} {P : Packet → Prop} (h : PacketEnters d u k input cls P)
    (hbefore : d.routers = c.routers) (hafter : t.routers = u.routers) : PacketEnters c t k input cls P := by
  obtain ⟨⟨pk, hpk, hbuf⟩, hother⟩ := h
  refine ⟨⟨pk, hpk, ?_⟩, fun k' input' cls' hin hcls' hcls hne => ?_⟩
  · rw [Chip.buf_of_routers hafter, hbuf, Chip.buf_of_routers hbefore]
  · rw [Chip.buf_of_routers hafter, hother k' input' cls' hin hcls' hcls hne, Chip.buf_of_routers hbefore]

/-! ## The packet of a tuple (R99) -/

/-- The body flits of a tuple's packet after the first. -/
def tupleFlits (ws : List Word) : List DWord :=
  if ws.length = 1 then [] else if ws.length ≤ 3 then [ws.getD 2 0 ++ ws.getD 1 0] else [ws.getD 2 0 ++ ws.getD 1 0, (0#32) ++ ws.getD 3 0]

theorem extractLsb'_low (high low : Word) : (high ++ low : DWord).extractLsb' 0 32 = low := BitVec.extractLsb'_append_eq_right

theorem extractLsb'_high (high low : Word) : (high ++ low : DWord).extractLsb' 32 32 = high := BitVec.extractLsb'_append_eq_left

/-- A packet built of one to four words holds these words. -/
theorem wadiData_of_words {pk : Packet} {x : DWord} {ws : List Word} (hlow : 1 ≤ ws.length) (hhigh : ws.length ≤ 4)
    (hwords : pk.wadiWords = ws.length) (hdata : pk.data = ws.getD 0 0) (hbody : pk.body = x :: tupleFlits ws) : pk.wadiData = ws := by
  rw [Packet.wadiData, hwords, hdata, Packet.flit, Packet.flit, hbody]
  match ws with
  | [_] | [_, _] | [_, _, _] | [_, _, _, _] => simp [tupleFlits, extractLsb'_low, extractLsb'_high]

/-- The packet of a tuple of core `i`. -/
def TuplePacket (i : Nat) (ws : List Word) (pk : Packet) : Prop := pk.cls = 1 ∧ pk.src = i ∧ pk.wadiData = ws

/-- The block with a tuple's packet in the router and its credits spent. -/
def Chip.tupleQueued (c : Chip) (p i port n : Nat) (pk : Packet) : Chip :=
  ((c.put (Reg.WADI_SPORT_STAT_CRED p port) (c.get (Reg.WADI_SPORT_STAT_CRED p port) - n)).put (Reg.NI_STAT_EPOCH p)
    ((c.put (Reg.WADI_SPORT_STAT_CRED p port) (c.get (Reg.WADI_SPORT_STAT_CRED p port) - n)).get (Reg.NI_MAP_STAT_EPOCH (i / 16)))).enter
      (i / 16) (i % 16) 1 (.packet pk)

theorem Chip.sendTuple_spec {c : Chip} {p i port : Nat} {route : BitVec 48} {ws : List Word} (hi : i < 1024) (hport : port < 16)
    (hlow : 1 ≤ ws.length) (hhigh : ws.length ≤ 4) :
    ∃ pk, TuplePacket i ws pk ∧ c.sendTuple p i port route ws = (c.tupleQueued p i port ws.length pk).tallyCore p 0x22 := by
  let wadi := c.get (Reg.WADI_SPORT_CFG_WADI p port)
  let d := c.put (Reg.WADI_SPORT_STAT_CRED p port) (c.get (Reg.WADI_SPORT_STAT_CRED p port) - ws.length)
  let op := wadi % 4 + (ws.length - 1) * 4 + port * 16
  let pk := d.injected i 1 route (wadi / 4) 0 op (ws.getD 0 0) (tupleFlits ws)
  have hop : pk.op = op := Chip.injected_op _ _ _ _ _ _ _ _ _ (by omega)
  have hwords : pk.wadiWords = ws.length := by rw [Packet.wadiWords, hop]; omega
  exact ⟨pk, ⟨Chip.injected_cls _ _ _ _ _ _ _ _ _ (by decide), Chip.injected_src _ _ _ _ _ _ _ _ _ hi,
    wadiData_of_words hlow hhigh hwords (Chip.injected_data ..) rfl⟩, rfl⟩

/-- The block after SEND: the packet in the router, the instruction counted (R425), the status in gD. -/
def Chip.tupleSent (c : Chip) (p i port n d : Nat) (pk : Packet) : Chip :=
  ((c.tupleQueued p i port n pk).tallyCore p 0x22).setReg p d (BitVec.ofNat 32 OK)

/-- The registers that SEND writes beside those of every completed instruction. -/
def SendRegs (p port y : Nat) : Prop := y = Reg.WADI_SPORT_STAT p port ∨ y = Reg.NI_STAT p ∨ PmonOf p y

section
variable (c : Chip) (p i port n d : Nat) (pk : Packet)

theorem Chip.rd_tupleSent (y : Nat) : (c.tupleSent p i port n d pk).rd y = ((c.tupleQueued p i port n pk).tallyCore p 0x22).rd y := by
  rw [Chip.tupleSent, Chip.setReg, Chip.modCore_set, Chip.rd_setCore]

theorem Chip.rd_enter (k input cls : Nat) (f : Flit) (y : Nat) : (c.enter k input cls f).rd y = c.rd y := rfl

theorem Chip.rd_tupleQueued {y : Nat} (h : y ≠ Reg.NI_STAT p) : (c.tupleQueued p i port n pk).rd y =
    (c.put (Reg.WADI_SPORT_STAT_CRED p port) (c.get (Reg.WADI_SPORT_STAT_CRED p port) - n)).rd y := by
  rw [Chip.tupleQueued, Chip.rd_enter, Chip.rd_put_other _ _ _ _ h]

theorem Chip.tupleSent_regs : RegsKept c (c.tupleSent p i port n d pk) (SendRegs p port) := fun y hy => by
  obtain ⟨hstat, hni, hpmon⟩ := not_or.mp hy |>.imp_right not_or.mp
  rw [Chip.rd_tupleSent, (OnlyRegs.tally _ p 0x22).2 y hpmon, Chip.rd_tupleQueued _ _ _ _ _ _ hni, Chip.rd_put_other _ _ _ _ hstat]

theorem Chip.tupleSent_cred (hport : port < 16) :
    (c.tupleSent p i port n d pk).get (Reg.WADI_SPORT_STAT_CRED p port) = c.get (Reg.WADI_SPORT_STAT_CRED p port) - n := by
  have hni : Reg.WADI_SPORT_STAT p port ≠ Reg.NI_STAT p := by simp only [Reg.WADI_SPORT_STAT, Reg.NI_STAT]; omega
  have hpmon : ¬ PmonOf p (Reg.WADI_SPORT_STAT p port) := by simp only [PmonOf, Reg.WADI_SPORT_STAT]; omega
  have hcred : c.get (Reg.WADI_SPORT_STAT_CRED p port) < 2 ^ 6 := Chip.get_lt _ _
  rw [Chip.get_of_rd _ (Chip.rd_tupleSent c p i port n d pk _), (OnlyRegs.tally _ p 0x22).get _ hpmon,
    Chip.get_of_rd _ (Chip.rd_tupleQueued c p i port n pk hni)]
  exact Chip.get_put_fits _ _ _ (decide_eq_true (by omega : c.get (Reg.WADI_SPORT_STAT_CRED p port) - n < 2 ^ 6))

theorem Chip.core_tupleQueued (r : Nat) : (c.tupleQueued p i port n pk).core r = c.core r := rfl

theorem Chip.tupleSent_core : (c.tupleSent p i port n d pk).core p = (c.core p).setReg d 0 := by
  rw [Chip.tupleSent, Chip.setReg, Chip.core_modCore_same, (OnlyRegs.tally _ p 0x22).core, Chip.core_tupleQueued]
  rfl

theorem Chip.tupleSent_core_other {r : Nat} (hr : r ≠ p) : (c.tupleSent p i port n d pk).core r = c.core r := by
  rw [Chip.tupleSent, Chip.setReg, Chip.modCore, Chip.core_setCore_other _ _ _ _ hr, (OnlyRegs.tally _ p 0x22).core, Chip.core_tupleQueued]

theorem packetEnters_tupleSent {P : Packet → Prop} (h : P pk) : PacketEnters c (c.tupleSent p i port n d pk) (i / 16) (i % 16) 1 P := by
  have hqueued : PacketEnters c (c.tupleQueued p i port n pk) (i / 16) (i % 16) 1 P :=
    ⟨⟨pk, h, Chip.buf_setBuf_same ..⟩, fun k' input' cls' _ hcls' _ hne => Chip.buf_setBuf_other _ _ (by omega)⟩
  obtain ⟨hrouters, -⟩ := FabricKept.of_onlyRegs (OnlyRegs.tally (c.tupleQueued p i port n pk) p 0x22)
  exact hqueued.of_routers rfl hrouters

end

/-! ## SEND and TRYSEND (R170, R212) -/

/-- A word that names send port `port`, `n` words from register `a` on and register `d`, as SEND reads them. -/
def SendWord (w : Word) (d a port n : Nat) : Prop :=
  fD w = d ∧ fA w = a ∧ fF w % 16 = port ∧ fF w / 16 % 4 + 1 = n ∧ ¬ (fF w / 128 ≠ 0 ∨ 32 < a + n)

section
variable {try_ : Bool} {c : Chip} {p i : Nat} {w : Word} {d a port n : Nat}

theorem Chip.not_on_of_get {f : Reg.Fld} (h : c.get f = 0) : ¬ c.on f = true := fun hon => by
  rw [Chip.on_iff, h] at hon
  exact absurd hon (by decide)

theorem semSend_unbound (hw : SendWord w d a port n) (hbound : c.get (Reg.WADI_SPORT_CFG_BOUND p port) = 0) :
    semSend try_ c p i w = .done (c.setReg p d (BitVec.ofNat 32 ERR_PARAM)) := by
  obtain ⟨rfl, rfl, rfl, rfl, hlegal⟩ := hw
  rw [semSend, if_neg hlegal, if_pos (by simpa using Chip.not_on_of_get hbound), withStatus]

theorem semSend_orphan (hw : SendWord w d a port n) (hbound : c.get (Reg.WADI_SPORT_CFG_BOUND p port) = 1)
    (horphan : c.get (Reg.WADI_SPORT_STAT_ORPHAN p port) = 1) (hexc : c.get (Reg.CORE_CFG_ORPHAN_EXC p) = 0) :
    semSend try_ c p i w = .done (c.setReg p d (BitVec.ofNat 32 ERR_FENCED)) := by
  obtain ⟨rfl, rfl, rfl, rfl, hlegal⟩ := hw
  have hoff : ¬ (withStatus c p w ERR_FENCED).on (Reg.CORE_CFG_ORPHAN_EXC p) = true := Chip.not_on_of_get hexc
  rw [semSend, if_neg hlegal, if_neg (by simp [Chip.on_iff.mpr hbound]), if_pos (Chip.on_iff.mpr horphan), if_neg hoff, withStatus]

/-- What is left of SEND on a bound port that is no orphan. -/
theorem semSend_bound (hw : SendWord w d a port n) (hbound : c.get (Reg.WADI_SPORT_CFG_BOUND p port) = 1)
    (horphan : c.get (Reg.WADI_SPORT_STAT_ORPHAN p port) = 0) :
    (c.get (Reg.WADI_SPORT_CFG_CREDITS p port) < n → semSend try_ c p i w = .done (c.setReg p d (BitVec.ofNat 32 ERR_PARAM))) ∧
    (n ≤ c.get (Reg.WADI_SPORT_CFG_CREDITS p port) → c.get (Reg.WADI_SPORT_STAT_CRED p port) < n →
      semSend try_ c p i w = if try_ then .done (c.setReg p d (BitVec.ofNat 32 ERR_BUSY)) else .stall c) ∧
    (n ≤ c.get (Reg.WADI_SPORT_CFG_CREDITS p port) → n ≤ c.get (Reg.WADI_SPORT_STAT_CRED p port) →
      pathCheck c (i / 16) (c.sportRoute p port) = OK → c.room (i / 16) (i % 16) 1 = true →
      semSend try_ c p i w = .done ((c.sendTuple p i port (c.sportRoute p port) (c.gregs p a n)).setReg p d (BitVec.ofNat 32 OK))) := by
  obtain ⟨rfl, rfl, rfl, rfl, hlegal⟩ := hw
  rw [semSend, if_neg hlegal, if_neg (by simp [Chip.on_iff.mpr hbound]), if_neg (Chip.not_on_of_get horphan)]
  refine ⟨fun hcap => ?_, fun hcap hcred => ?_, fun hcap hcred hpath hroom => ?_⟩
  · rw [if_pos hcap, withStatus]
  · rw [if_neg (Nat.not_lt.mpr hcap), if_pos hcred, withStatus]
  · rw [if_neg (Nat.not_lt.mpr hcap), if_neg (Nat.not_lt.mpr hcred), if_neg (not_not.mpr hpath), if_neg (by simp [hroom]), withStatus]

end

/-- SEND or TRYSEND. -/
def sendInstr (try_ : Bool) (i : CoreId) (d a : BitVec 5) (f : BitVec 11) : Instr := if try_ then .trysend i d a 0 f else .send i d a 0 f

theorem sendFunct_of_low : ∀ (try_ : Bool) (x : Fin 64),
    sendFunct (BitVec.ofNat 11 (x + if try_ then 64 else 0)) try_ = BitVec.ofNat 11 (x + if try_ then 64 else 0) := by decide

/-- A FUNCT with bit 6 as the mnemonic has it is what the instruction encodes. -/
theorem exec_sendInstr (try_ : Bool) (i : CoreId) (d a : BitVec 5) {f : BitVec 11} (hf : sendFunct f try_ = f) (s : State) :
    exec (sendInstr try_ i d a f) s = act (·.runInstr i.toNat (rWord 0x20 d a 0 f) (semSend try_)) s := by
  have hexec : exec (sendInstr try_ i d a f) s = act (·.runInstr i.toNat (rWord 0x20 d a 0 (sendFunct f try_)) (semSend try_)) s := by
    cases try_ <;> rfl
  rwa [hf] at hexec

theorem sendWord_rWord {try_ : Bool} {d a : BitVec 5} {port n : Nat} (hport : port < 16) (hlow : 1 ≤ n) (hhigh : n ≤ 4) (ha : a.toNat + n ≤ 32) :
    SendWord (rWord 0x20 d a 0 (BitVec.ofNat 11 (port + (n - 1) * 16 + if try_ then 64 else 0))) d.toNat a.toNat port n := by
  obtain ⟨hD, hA, -, hF⟩ := rWord_fields 0x20 d a 0 (BitVec.ofNat 11 (port + (n - 1) * 16 + if try_ then 64 else 0))
  rw [SendWord, hD, hA, hF, BitVec.toNat_ofNat]
  have hbit : (if try_ then 64 else 0) = 0 ∨ (if try_ then 64 else 0) = 64 := (ite_eq_or_eq ..).symm
  exact ⟨rfl, rfl, by omega⟩

theorem sendTuplesHold : SendTuplesHold := by
  intro try_ s i d a port n p f ins cred hport hlow hhigh ha free
  have hex : exec ins s = act (·.runInstr i.toNat (rWord 0x20 d a 0 f) (semSend try_)) s :=
    exec_sendInstr try_ i d a (sendFunct_of_low try_ ⟨port + (n - 1) * 16, by omega⟩) s
  have hw : SendWord (rWord 0x20 d a 0 f) d.toNat a.toNat port n := sendWord_rWord hport hlow hhigh ha
  refine ⟨fun hbound => inSequence_of_setReg hex free (semSend_unbound hw hbound), fun hbound => ⟨fun horphan hexc =>
    inSequence_of_setReg hex free (semSend_orphan hw hbound horphan hexc), fun horphan => ?_⟩⟩
  obtain ⟨tooLong, noCredits, sends⟩ := semSend_bound (try_ := try_) (i := i.toNat) hw hbound horphan
  refine ⟨fun hcap => inSequence_of_setReg hex free (tooLong hcap), fun hcap hcred => ?_, fun hcap hcred hpath hroom => ?_⟩
  · have hsem := noCredits hcap hcred
    cases try_ with
    | true => exact inSequence_of_setReg hex free hsem
    | false => exact waits_of_stall hex free hsem
  · have hlength : (s.chip.gregs p a.toNat n).length = n := by rw [Chip.gregs, List.length_map, List.length_range]
    obtain ⟨pk, hpk, hsent⟩ := Chip.sendTuple_spec (c := s.chip) (p := p) (route := s.chip.sportRoute p port) (ws := s.chip.gregs p a.toNat n)
      i.isLt hport (by rwa [hlength]) (by rwa [hlength])
    rw [hlength] at hsent
    have hsem := sends hcap hcred hpath hroom
    rw [hsent] at hsem
    have hregs := s.chip.tupleSent_regs p i.toNat port n d.toNat pk
    have hcore := s.chip.tupleSent_core p i.toNat port n d.toNat pk
    refine ⟨_, inSequence_of_kept hex free hsem hregs ?_ ?_ ?_, Chip.tupleSent_cred _ _ _ _ _ _ _ hport, hcore,
      fun r hr => Chip.tupleSent_core_other _ _ _ _ _ _ _ hr, hregs, packetEnters_tupleSent _ _ _ _ _ _ _ hpk⟩
    · exact not_or.mpr ⟨by simp only [p, Reg.CORE_PC, Reg.WADI_SPORT_STAT]; omega,
        not_or.mpr ⟨by simp only [p, Reg.CORE_PC, Reg.NI_STAT]; omega, not_pmonOf_pc p⟩⟩
    · exact not_or.mpr ⟨by simp only [p, Reg.CORE_STAT, Reg.WADI_SPORT_STAT]; omega,
        not_or.mpr ⟨by simp only [p, Reg.CORE_STAT, Reg.NI_STAT]; omega, not_pmonOf_stat p⟩⟩
    · exact (congrArg Core.stepping hcore).trans (Core.setReg_stepping ..)

/-! ## Words written to a run of registers (R171) -/

/-- A slot's record with a run of registers filled. -/
def Core.setRegs (k : Core) (r : Nat) : List Word → Core
  | [] => k
  | w :: ws => (k.setReg r w).setRegs (r + 1) ws

theorem Core.setRegs_rest (ws : List Word) : ∀ (k : Core) (r : Nat), { k.setRegs r ws with g := k.g } = k := by
  induction ws with
  | nil => exact fun _ _ => rfl
  | cons w ws ih => exact fun k r =>
      (congrArg (fun k' : Core => ({ k' with g := k.g } : Core)) (ih (k.setReg r w) (r + 1))).trans (k.setReg_rest r w)

theorem Core.queue_setRegs (k : Core) (r : Nat) (ws : List Word) : (k.setRegs r ws).queue = k.queue :=
  (congrArg Core.queue (Core.setRegs_rest ws k r) :)

theorem Core.stepping_setRegs (k : Core) (r : Nat) (ws : List Word) : (k.setRegs r ws).stepping = k.stepping :=
  (congrArg Core.stepping (Core.setRegs_rest ws k r) :)

theorem Core.queue_setReg (k : Core) (r : Nat) (v : Word) : (k.setReg r v).queue = k.queue := (congrArg Core.queue (k.setReg_rest r v) :)

theorem Core.greg_setQueue (k : Core) (q : Nat) (l : List Tuple) : (k.setQueue q l).greg = k.greg := rfl

theorem Core.stepping_setQueue (k : Core) (q : Nat) (l : List Tuple) : (k.setQueue q l).stepping = k.stepping := rfl

theorem Core.greg_setRegs_outside {x : Nat} (ws : List Word) :
    ∀ (k : Core) (r : Nat), x < r ∨ r + ws.length ≤ x → (k.setRegs r ws).greg x = k.greg x := by
  induction ws with
  | nil => exact fun _ _ _ => rfl
  | cons w ws ih =>
    intro k r h
    rw [List.length_cons] at h
    rw [Core.setRegs, ih _ _ (by omega), Core.greg_setReg_other _ _ _ _ (by omega)]

theorem Core.greg_setRegs_inside (ws : List Word) :
    ∀ (k : Core) (r j : Nat) (h : j < ws.length), r + ws.length ≤ 32 → r + j ≠ 0 → (k.setRegs r ws).greg (r + j) = ws[j] := by
  induction ws with
  | nil => exact fun _ _ _ h => absurd h (Nat.not_lt_zero _)
  | cons w ws ih =>
    intro k r j h hfit hne
    rw [List.length_cons] at h hfit
    cases j with
    | zero =>
      rw [Core.setRegs, Core.greg_setRegs_outside _ _ _ (by omega), Nat.add_zero, Core.greg_setReg_same _ _ _ (by omega)]
      exact if_neg hne
    | succ j =>
      have hword := ih (k.setReg r w) (r + 1) j (by omega) (by omega) (by omega)
      rw [Nat.add_assoc, Nat.add_comm 1 j] at hword
      exact hword

theorem Chip.setRegs_spec (p : Nat) (ws : List Word) : ∀ (c : Chip) (r : Nat),
    (c.setRegs p r ws).core p = (c.core p).setRegs r ws ∧ { c.setRegs p r ws with cores := c.cores } = c := by
  induction ws with
  | nil => exact fun _ _ => ⟨rfl, rfl⟩
  | cons w ws ih =>
    intro c r
    obtain ⟨hcore, hrest⟩ := ih (c.setReg p r w) (r + 1)
    refine ⟨?_, (congrArg (fun d : Chip => ({ d with cores := c.cores } : Chip)) hrest :)⟩
    rw [Chip.setRegs, hcore, Chip.setReg, Chip.core_modCore_same, Core.setRegs]

/-! ## A tuple that leaves its queue (R214, R215) -/

/-- The WCREDIT of slot `p` for a tuple read. -/
def CreditPacket (me : Nat) (t : Tuple) (pk : Packet) : Prop :=
  pk.cls = 5 ∧ pk.src = me ∧ pk.op = 0x21 ∧ wbits pk.data 3 0 = t.port % 16 ∧ wbits pk.data 9 4 = t.words.length ∧ wbits pk.data 10 10 = 0

theorem creditTuple_enters {c : Chip} {p : Nat} (q : Nat) {t : Tuple} (hopen : OpenInput c (p / 32) 21 5) (hme : c.logicalOf p < 1024)
    (hlength : t.words.length < 64) : PacketEnters c (c.creditTuple p q t false) (p / 32) 21 5 (CreditPacket (c.logicalOf p) t) := by
  let me := c.logicalOf p
  obtain ⟨⟨x, ⟨hcls, hbody⟩, hbuf⟩, hother⟩ := originate_enters c (dst := t.src.toNat) t.sb
    (wcreditBody me (if t.sb then 0x3FF else t.src.toNat) t.port t.words.length false false (me * 4 + q)) hopen (by decide)
  obtain ⟨hport, hcount, horphan, -⟩ := wcreditData_fields t.port t.words.length false (me * 4 + q)
  rw [wcreditBody] at hbody
  have hflit : x.flit 1 = _ := congrArg (·.getD 0 0) hbody
  refine ⟨⟨x, ⟨hcls, ?_, ?_, ?_⟩, hbuf⟩, hother⟩
  · rw [Packet.src, hflit]
    exact (mkFlit1_src ..).trans (Nat.mod_eq_of_lt hme)
  · rw [Packet.op, hflit]
    exact mkFlit1_op ..
  · rw [Packet.data, hflit]
    exact ⟨(congrArg (wbits · 3 0) (mkFlit1_data ..)).trans hport,
      ((congrArg (wbits · 9 4) (mkFlit1_data ..)).trans hcount).trans (Nat.mod_eq_of_lt hlength),
      (congrArg (wbits · 10 10) (mkFlit1_data ..)).trans horphan⟩

theorem Chip.takeTuple_head {c : Chip} {p q : Nat} {t : Tuple} {rest : List Tuple} (h : (c.core p).queue q = t :: rest) :
    c.takeTuple p q = (c.modCore p (·.setQueue q rest)).creditTuple p q t false := by
  rw [Chip.takeTuple, h]

/-- A slot of a cluster below 64 seats a core whose number is below 1024. -/
theorem Chip.logicalOf_lt {c : Chip} {p : Nat} (h : p / 32 < 64) : c.logicalOf p < 1024 := by
  rw [Chip.logicalOf]
  cases hl : c.logical? p with
  | none => exact (by decide : 0 < 1024)
  | some i =>
    have := Chip.logical?_cluster hl
    rw [Option.getD_some]
    omega

/-- The block with the words of a tuple in registers and the tuple out of its queue, before its credits return. -/
def Chip.tupleRead (c : Chip) (p q r : Nat) (t : Tuple) (rest : List Tuple) : Chip :=
  (c.setRegs p r t.words).modCore p (·.setQueue q rest)

/-- The block after RECV of a tuple: its credits returned, the instruction counted (R425), the status in gA. -/
def Chip.tupleReceived (c : Chip) (p q r a : Nat) (t : Tuple) (rest : List Tuple) : Chip :=
  (((c.tupleRead p q r t rest).creditTuple p q t false).tallyCore p 0x23).setReg p a (recvStatus OK t.words.length t.port)

section
variable (c : Chip) (p q r a : Nat) (t : Tuple) (rest : List Tuple)

theorem Chip.tupleRead_core : (c.tupleRead p q r t rest).core p = ((c.core p).setRegs r t.words).setQueue q rest := by
  obtain ⟨hcore, -⟩ := Chip.setRegs_spec p t.words c r
  rw [Chip.tupleRead, Chip.core_modCore_same, hcore]

theorem Chip.tupleRead_rest : { c.tupleRead p q r t rest with cores := c.cores } = c := by
  obtain ⟨-, hrest⟩ := Chip.setRegs_spec p t.words c r
  rw [Chip.tupleRead, Chip.modCore_set]
  exact hrest

theorem Chip.tupleRead_routers : (c.tupleRead p q r t rest).routers = c.routers := (congrArg Chip.routers (c.tupleRead_rest p q r t rest) :)

theorem Chip.tupleRead_regs : (c.tupleRead p q r t rest).regs = c.regs := (congrArg Chip.regs (c.tupleRead_rest p q r t rest) :)

theorem Chip.tupleRead_logicalOf : (c.tupleRead p q r t rest).logicalOf p = c.logicalOf p :=
  Chip.logicalOf_of_below fun x _ => Chip.rd_congr _ _ (c.tupleRead_regs p q r t rest) x

theorem Chip.tupleReceived_core : (c.tupleReceived p q r a t rest).core p =
    (((c.core p).setRegs r t.words).setQueue q rest).setReg a (recvStatus OK t.words.length t.port) := by
  rw [Chip.tupleReceived, Chip.setReg, Chip.core_modCore_same, (OnlyRegs.tally _ p 0x23).core,
    core_of_routers (Chip.creditTuple_rest (c.tupleRead p q r t rest) p q t false), Chip.tupleRead_core]

theorem Chip.tupleReceived_stepping : ((c.tupleReceived p q r a t rest).core p).stepping = (c.core p).stepping := by
  rw [Chip.tupleReceived_core, Core.setReg_stepping, Core.stepping_setQueue, Core.stepping_setRegs]

theorem Chip.tupleReceived_queue (hq : q < 4) : ((c.tupleReceived p q r a t rest).core p).queue q = rest := by
  rw [Chip.tupleReceived_core, Core.queue_setReg, Core.queue_setQueue_same _ _ hq]

theorem Chip.tupleReceived_queue_other {q' : Nat} (h : q' ≠ q) : ((c.tupleReceived p q r a t rest).core p).queue q' = (c.core p).queue q' := by
  rw [Chip.tupleReceived_core, Core.queue_setReg, Core.queue_setQueue_other _ _ h, Core.queue_setRegs]

theorem Chip.tupleReceived_greg_status (ha : a < 32) (hne : a ≠ 0) :
    (c.tupleReceived p q r a t rest).greg p a = recvStatus OK t.words.length t.port := by
  rw [Chip.greg, Chip.tupleReceived_core, Core.greg_setReg_same _ _ _ ha, if_neg hne]

theorem Chip.tupleReceived_greg {x : Nat} (h : x ≠ a) : (c.tupleReceived p q r a t rest).greg p x = ((c.core p).setRegs r t.words).greg x := by
  rw [Chip.greg, Chip.tupleReceived_core, Core.greg_setReg_other _ _ _ _ h, Core.greg_setQueue]

theorem Chip.tupleReceived_regs : RegsKept c (c.tupleReceived p q r a t rest) (PmonOf p) := fun y hy => by
  have hcredit : ((c.tupleRead p q r t rest).creditTuple p q t false).regs = (c.tupleRead p q r t rest).regs :=
    (congrArg Chip.regs (Chip.creditTuple_rest (c.tupleRead p q r t rest) p q t false) :)
  rw [Chip.tupleReceived, Chip.setReg, Chip.modCore_set, Chip.rd_setCore, (OnlyRegs.tally _ p 0x23).2 y hy, Chip.rd_congr _ _ hcredit,
    Chip.rd_congr _ _ (c.tupleRead_regs p q r t rest)]

theorem packetEnters_tupleReceived (hopen : OpenInput c (p / 32) 21 5) (hp : p / 32 < 64) (hlength : t.words.length < 64) :
    PacketEnters c (c.tupleReceived p q r a t rest) (p / 32) 21 5 (CreditPacket (c.logicalOf p) t) := by
  let d := c.tupleRead p q r t rest
  have hrouters : d.routers = c.routers := c.tupleRead_routers p q r t rest
  have hopen' : OpenInput d (p / 32) 21 5 := by
    obtain ⟨hwait, hroom⟩ := hopen
    refine ⟨?_, ?_⟩
    · rwa [Chip.waiting, Chip.router, hrouters]
    · rwa [Chip.room, Chip.buf_of_routers hrouters]
  have hcredit := creditTuple_enters q (t := t) hopen' (Chip.logicalOf_lt hp) hlength
  rw [Chip.tupleRead_logicalOf] at hcredit
  obtain ⟨htally, -⟩ := FabricKept.of_onlyRegs (OnlyRegs.tally (d.creditTuple p q t false) p 0x23)
  exact hcredit.of_routers hrouters htally

end

/-! ## RECV (R171, R215) -/

/-- A word that names queue `q`, `n` words to register `d` on and register `a`, with FUNCT[4] as given and FUNCT[5] = 0, as RECV reads them. -/
def RecvWord (w : Word) (d a q n : Nat) (nowait : Bool) : Prop :=
  fD w = d ∧ fA w = a ∧ fF w % 4 = q ∧ fF w / 4 % 4 + 1 = n ∧ bit (fF w) 4 = nowait ∧ bit (fF w) 5 = false ∧
    ¬ (fF w / 512 ≠ 0 ∨ 32 < d + n ∨ (d ≤ a ∧ a < d + n))

section
variable {c : Chip} {p i : Nat} {w : Word} {d a q n : Nat} {nowait : Bool}

theorem semRecv_closed (hw : RecvWord w d a q n nowait) (hrq : c.isRQueue p q = false) (hclosed : c.queueOpen p q = false) :
    semRecv c p i w = .done (c.setReg p a (BitVec.ofNat 32 ERR_NOT_READY)) := by
  obtain ⟨rfl, rfl, rfl, rfl, -, -, hlegal⟩ := hw
  rw [semRecv, if_neg hlegal, if_neg (by simp [hrq]), if_pos (by simp [hclosed])]
  rfl

/-- What is left of RECV on an open queue. -/
theorem semRecv_open (hw : RecvWord w d a q n nowait) (hrq : c.isRQueue p q = false) (hopen : c.queueOpen p q = true) :
    ((c.core p).queue q = [] →
      semRecv c p i w = if nowait then .done (c.setReg p a (BitVec.ofNat 32 ERR_BUSY)) else .stall c) ∧
    (∀ t rest, (c.core p).queue q = t :: rest → n < t.words.length →
      semRecv c p i w = .done (c.setReg p a (recvStatus ERR_PARAM t.words.length t.port))) ∧
    (∀ t rest, (c.core p).queue q = t :: rest → t.words.length ≤ n → semRecv c p i w = .done (c.tupleReceived p q d a t rest)) := by
  obtain ⟨rfl, rfl, rfl, rfl, rfl, htimeout, hlegal⟩ := hw
  rw [semRecv, if_neg hlegal, if_neg (by simp [hrq]), if_neg (by simp [hopen])]
  refine ⟨fun hempty => ?_, fun t rest hhead hlong => ?_, fun t rest hhead hfits => ?_⟩
  · simp only [hempty, htimeout, Bool.false_and, Bool.false_eq_true, if_false]
    rfl
  · simp only [hhead, if_neg (Nat.not_le.mpr hlong)]
  · obtain ⟨hcore, -⟩ := Chip.setRegs_spec p t.words c (fD w)
    have hqueue : ((c.setRegs p (fD w) t.words).core p).queue (fF w % 4) = t :: rest := by rw [hcore, Core.queue_setRegs, hhead]
    simp only [hhead, if_pos hfits, Chip.takeTuple_head hqueue]
    rfl

end

theorem recvWord_rWord {d a : BitVec 5} {q n : Nat} {nowait : Bool} (hq : q < 4) (hlow : 1 ≤ n) (hhigh : n ≤ 4) (hd : d.toNat + n ≤ 32)
    (ha : a.toNat < d.toNat ∨ d.toNat + n ≤ a.toNat) :
    RecvWord (rWord 0x21 d a 0 (BitVec.ofNat 11 (q + (n - 1) * 4 + if nowait then 16 else 0))) d.toNat a.toNat q n nowait := by
  obtain ⟨hD, hA, -, hF⟩ := rWord_fields 0x21 d a 0 (BitVec.ofNat 11 (q + (n - 1) * 4 + if nowait then 16 else 0))
  rw [RecvWord, hD, hA, hF, BitVec.toNat_ofNat, bit, bit]
  cases nowait <;> simp only [if_true, Bool.false_eq_true, if_false, beq_iff_eq, beq_eq_false_iff_ne, true_and] <;> omega

theorem receiveTuplesHold : ReceiveTuplesHold := by
  intro s i d a q n nowait p f hq hlow hhigh hd ha free hrq
  have hw : RecvWord (rWord 0x21 d a 0 f) d.toNat a.toNat q n nowait := recvWord_rWord hq hlow hhigh hd ha
  have hcluster : p / 32 < 64 := by
    have hslot : s.chip.activeSlot (i.toNat / 16) i.toNat < 2 ^ 5 := Chip.get_lt _ _
    have hi := i.isLt
    simp only [p, Chip.pcore]
    omega
  refine ⟨fun hclosed => inSequence_of_setReg rfl free (semRecv_closed hw hrq hclosed), fun hopen => ?_⟩
  obtain ⟨onEmpty, tooLong, receives⟩ := semRecv_open (i := i.toNat) hw hrq hopen
  refine ⟨fun hempty => ?_, fun t rest hhead => ⟨fun hlong => inSequence_of_setReg rfl free (tooLong t rest hhead hlong), fun hfits hinput => ?_⟩⟩
  · have hsem := onEmpty hempty
    cases nowait with
    | true => exact inSequence_of_setReg rfl free hsem
    | false => exact waits_of_stall rfl free hsem
  · have hne : ∀ j, j < t.words.length → d.toNat + j ≠ a.toNat := by omega
    refine ⟨_, inSequence_of_kept rfl free (receives t rest hhead hfits) (s.chip.tupleReceived_regs p q d.toNat a.toNat t rest) (not_pmonOf_pc p)
      (not_pmonOf_stat p) (Chip.tupleReceived_stepping ..), Chip.tupleReceived_queue _ _ _ _ _ _ _ hq, fun j hj hreg => ?_, fun hreg => ?_,
      fun r hr hout => ?_, fun q' _ hq' => Chip.tupleReceived_queue_other _ _ _ _ _ _ _ hq', Chip.tupleReceived_regs _ _ _ _ _ _ _, ?_⟩
    · rw [Chip.tupleReceived_greg _ _ _ _ _ _ _ (hne j hj), Core.greg_setRegs_inside _ _ _ _ hj (by omega) hreg]
    · rw [Chip.tupleReceived_greg_status _ _ _ _ _ _ _ a.isLt hreg, recvStatus, OK, Nat.zero_add]
    · rw [Chip.tupleReceived_greg _ _ _ _ _ _ _ hr, Core.greg_setRegs_outside _ _ _ hout, Chip.greg]
    · exact packetEnters_tupleReceived _ _ _ _ _ _ _ hinput hcluster (by omega)

/-- Settles O13: SEND, TRYSEND and RECV. -/
theorem tupleInstructions : Obligations.TupleInstructions := ⟨sendTuplesHold, receiveTuplesHold⟩

end Sys2Proof.Machine
end
